-- ==== Sys2Proof/Word.lean ====
section
/-!
DEFINITION. Bytes, little-endian fields (R15) and the bit-field notation of the spec: the plainest arithmetic of the model.
-/

namespace Sys2Proof

/-- One byte. -/
abbrev Byte := BitVec 8

/-- A byte string, first byte first. -/
abbrev Bytes := List Byte

/-- The low byte of a number. -/
def b8 (n : Nat) : Byte := BitVec.ofNat 8 n

/-- `k` bytes of `n`, least significant first (R15). -/
def le : Nat → Nat → Bytes
  | 0, _ => []
  | k + 1, n => b8 n :: le k (n / 256)

/-- `k` bytes of a signed number in two's complement, least significant first (R15). -/
def leI (k : Nat) (z : Int) : Bytes := le k (z % (2 ^ (8 * k) : Nat)).toNat

/-- The number a little-endian byte string holds. -/
def ofLe : Bytes → Nat
  | [] => 0
  | x :: xs => x.toNat + 256 * ofLe xs

/-- `k` bytes of `n`, most significant first (the order inside the KDF, R484). -/
def be (k n : Nat) : Bytes := (le k n).reverse

/-- The number a big-endian byte string holds. -/
def ofBe (x : Bytes) : Nat := ofLe x.reverse

/-- Two's complement reading of the low `bits` bits of `n`. -/
def signed (bits n : Nat) : Int :=
  let m := n % 2 ^ bits
  if m < 2 ^ (bits - 1) then (m : Int) else (m : Int) - (2 ^ bits : Nat)

/-- Field `[hi:lo]` of a number (the bit-field form of the spec's conventions). -/
def field (n hi lo : Nat) : Nat := n / 2 ^ lo % 2 ^ (hi + 1 - lo)

/-- Bit `i` of a number. -/
def bit (n i : Nat) : Bool := n.testBit i

/-- 1 for true, 0 for false. -/
def bnat (c : Bool) : Nat := if c then 1 else 0

/-- `n` zero bytes. -/
def zeros (n : Nat) : Bytes := List.replicate n 0

/-- `x` followed by zero bytes up to length `n`, cut at `n`. -/
def fit (n : Nat) (x : Bytes) : Bytes := (x ++ zeros (n - x.length)).take n

/-- `x` padded with zero bytes to a multiple of 4 (Table 7-9). -/
def pad4 (x : Bytes) : Bytes := x ++ zeros ((4 - x.length % 4) % 4)

/-- `n` bytes of `x` from offset `off`. -/
def slice (x : Bytes) (off n : Nat) : Bytes := (x.drop off).take n

/-- The `n`-byte little-endian number at offset `off`. -/
def num (x : Bytes) (off n : Nat) : Nat := ofLe (slice x off n)

/-- The bits of a byte string, least significant bit of the first byte first (R16). -/
def bitsOf (x : Bytes) : List Bool := x.flatMap fun y => (List.range 8).map y.getLsbD

/-- The number whose bits, least significant first, are given. -/
def natOfBits : List Bool → Nat
  | [] => 0
  | c :: cs => bnat c + 2 * natOfBits cs

/-- The bytes of a bit list, eight bits a byte, the last byte filled with 0 bits. -/
def bytesOfBits : Nat → List Bool → Bytes
  | 0, _ => []
  | k + 1, cs => b8 (natOfBits (cs.take 8)) :: bytesOfBits k (cs.drop 8)

/-- Quotient rounded up. -/
def ceilDiv (a n : Nat) : Nat := (a + n - 1) / n

/-- The ports named by a 64-bit mask, in port order. -/
def portsOf (mask : Nat) : List Nat := (List.range 64).filter (bit mask)

/-- The mask naming the given ports. -/
def maskOf (ps : List Nat) : Nat := ps.foldl (fun m p => m ||| 2 ^ p) 0

/-- Absolute value as a natural number. -/
def mag (z : Int) : Nat := z.natAbs

/-- A complex sample, in-phase and quadrature. -/
abbrev Cpx := Int × Int

/-- Element `i` of a list that a machine of fixed size holds, or the given one where there is none. -/
def nth {α : Type} (xs : List α) (i : Nat) (d : α) : α := (xs[i]?).getD d

/-- The list with element `i` changed by `f`; unchanged where there is no such element. -/
def upd {α : Type} (xs : List α) (i : Nat) (f : α → α) : List α := xs.modify i f

end Sys2Proof
end

