-- ==== Sys2Proof/Syntax.lean ====
section
/-!
DEFINITION. The commands of the block: one constructor of Instr for each row of spec/opcode_table.json, and the types of their operands.
Every command carries first the crystal tick `t` at which it happens, counted from release from reset (R34).
A host command carries the header of its item (Table 7-9) and the fields of its body (Tables 8-4, 8-5, 8-10 to 8-16).
An event of the environment carries what the environment gives: a measurement, a frame, a pin level.
The clock moves with these ticks only: DESIGN CHOICE, safe: log entries 1 and 4; what no row shows is left out: log entry 58.
-/

namespace Sys2Proof

/-- A port number, P00 to P63. -/
abbrev PortNo := Fin 64

/-- The header of a host command's item that the command keeps (Table 7-9): the queue byte that carries it, its TAG and its QUIET flag. -/
structure Hdr where
  q : Nat
  tag : Nat
  quiet : Bool
  deriving DecidableEq, Repr

/-- One value record of ATTR_SET (Table 8-5): ID, INDEX, TYPE and the values. -/
structure AttrRec where
  id : Nat
  index : Nat
  type : Nat
  vals : List Int
  deriving DecidableEq, Repr

/-- The prefix of the Hymond commands: HANDLE, DL_MODE, UL_MODE (Table 8-12). -/
structure HyPre where
  handle : Nat
  dl : Nat
  ul : Nat
  deriving DecidableEq, Repr

/-- A deduplication record (Table 9-6). -/
structure DedupRec where
  ident : Bytes
  proto : Nat
  modul : Nat
  port : Nat
  strength : Int
  ts : Nat
  deriving DecidableEq, Repr

/-- The address and port a datagram comes from (R357). -/
structure Src where
  addr : Nat
  port : Nat
  deriving DecidableEq, Repr

/-- A UDP datagram on the cable: the address and port it goes to, and its payload (R355, R357). -/
structure Datagram where
  dst : Src
  bytes : Bytes
  deriving DecidableEq, Repr

/-- What the receiver measures over one tag frame (R133, R169, R175, R176): the signal-to-noise ratio in 0.01 dB units,
EVM in 0.1 %, band level in 0.01 dBFS, whether the ADC clipped at all and on more than 1 % of the samples,
the per-subcarrier powers of an H4 frame, and the tick of the last symbol's end (t0 of R172). -/
structure RxMeas where
  snr : Int
  evm : Nat
  band : Int
  clipAny : Bool
  clipMany : Bool
  subPow : List Int
  endTick : Nat
  deriving DecidableEq, Repr

/-- The part of a tag frame that its end delivers: the payload and payload check of a Hymond frame (R241),
the energies of the two halves of each bit pair of a TREE frame in 0.01 dB (R268, R269; none is a silent half),
or the bits of an ISO frame with the collision and coding-error positions the detector gives (R160). -/
inductive RxFrame where
  | hymond (payload : Bytes) (check : Nat)
  | tree (pairs : List (Option Int × Option Int))
  | iso (bits : List Bool) (collision : Option Nat) (coding : Option Nat)
  deriving DecidableEq, Repr

/-- What CAL measures (Table 12-8, R574 to R576): the ID resistance of each port in ohm,
the trained couplings (aggressor, victim, 0.01 dB), the field-off noise floor of each port, the H4 profile of each port,
the envelope EVM of each pre-distortion learning in 0.1 %, and the first Lens measurement of each port. -/
structure CalInput where
  idOhm : List Nat
  coupling : List (Nat × Nat × Int)
  noise : List Int
  profile : List (List Int)
  evm : List Nat
  lens : List Cpx
  deriving DecidableEq, Repr

/-- An IEEE 1588 message as the time unit sees it (R448, R449): its kind, the sender's identity and, for an Announce,
the data set the best master clock algorithm compares, with the timestamps in ns the message carries. -/
inductive PtpMsg where
  | sync (domain : Nat) (src : Nat) (seq : Nat) (twoStep : Bool) (origin : Int)
  | followUp (domain : Nat) (src : Nat) (seq : Nat) (origin : Int)
  | delayReq (domain : Nat) (src : Nat) (seq : Nat)
  | delayResp (domain : Nat) (src : Nat) (seq : Nat) (received : Int)
  | announce (domain : Nat) (src : Nat) (prio1 clockClass prio2 : Nat)
  deriving DecidableEq, Repr

/-- The commands of the block, one for each row of the opcode table. -/
inductive Instr where
  -- system and firmware (Table 8-4)
  | nop (t : Nat) (h : Hdr) (body : Bytes)
  | moduleInfo (t : Nat) (h : Hdr)
  | moduleState (t : Nat) (h : Hdr)
  | attrGet (t : Nat) (h : Hdr) (staged : Bool) (reqs : List (Nat × Nat))
  | attrSet (t : Nat) (h : Hdr) (recs : List AttrRec)
  | configCommit (t : Nat) (h : Hdr)
  | configDiscard (t : Nat) (h : Hdr)
  | configSave (t : Nat) (h : Hdr)
  | dozeEnter (t : Nat) (h : Hdr)
  | dozeEntered (t : Nat)
  | queueStatus (t : Nat) (h : Hdr) (mask : Nat) (clear : Bool)
  | moduleReset (t : Nat) (h : Hdr) (confirm : Nat)
  | moduleResetExecute (t : Nat)
  | timeRead (t : Nat) (h : Hdr)
  | schedule (t : Nat) (h : Hdr) (action port : Nat) (due : Nat) (item : Bytes)
  | scheduledActionDue (t : Nat) (action : Nat)
  | portFlush (t : Nat) (h : Hdr) (mask : Nat)
  | fwBegin (t : Nat) (h : Hdr) (size : Nat)
  | fwData (t : Nat) (h : Hdr) (off : Nat) (data : Bytes)
  | fwVerify (t : Nat) (h : Hdr)
  | fwActivate (t : Nat) (h : Hdr) (atStart : Nat)
  | fwStatus (t : Nat) (h : Hdr)
  | fwRollback (t : Nat) (h : Hdr)
  | fwPortsHeld (t : Nat)
  | fwHoldTimeout (t : Nat)
  -- port radio (Table 8-10)
  | fieldOn (t : Nat) (h : Hdr)
  | fieldOff (t : Nat) (h : Hdr)
  | autotune (t : Nat) (h : Hdr)
  | calibrateRadio (t : Nat) (h : Hdr) (mask : Nat)
  | measureNoise (t : Nat) (h : Hdr) (ports : Nat)
  | mirrorTrain (t : Nat) (h : Hdr) (ports timeoutUs : Nat)
  | mirrorTrainingStart (t : Nat) (coupling : List (Nat × Nat × Int))
  -- ISO (Table 8-11)
  | isoRawFrame (t : Nat) (h : Hdr) (bits rate : Nat) (parity check keep : Bool) (kind windowUs : Nat) (frame : Bytes)
  | isoAAnticoll (t : Nat) (h : Hdr) (maxTags : Nat) (wakeAll : Bool)
  | isoAActivate (t : Nat) (h : Hdr) (handle : Nat)
  | isoAHalt (t : Nat) (h : Hdr) (handle : Nat)
  | isoARats (t : Nat) (h : Hdr) (handle cid : Nat)
  | isoPps (t : Nat) (h : Hdr) (handle dsMax drMax : Nat)
  | isoBRequest (t : Nat) (h : Hdr) (afi : Nat) (wake : Bool)
  | isoBAnticoll (t : Nat) (h : Hdr) (afi nStart maxTags : Nat) (wakeAll attrib : Bool)
  | isoBAttrib (t : Nat) (h : Hdr) (handle cid dsMax drMax : Nat)
  | isoBHalt (t : Nat) (h : Hdr) (handle : Nat)
  | isoApdu (t : Nat) (h : Hdr) (handle : Nat) (apdu : Bytes)
  | isoDeselect (t : Nat) (h : Hdr) (handle : Nat)
  | isoForget (t : Nat) (h : Hdr) (handle : Nat)
  | isoVInventory (t : Nat) (h : Hdr) (afi : Nat) (useAfi slots16 quiet : Bool) (maskLen maxTags mask : Nat)
  | isoVCommand (t : Nat) (h : Hdr) (handle code : Nat) (option writeClass repeatable : Bool) (mfg : Nat) (params : Bytes)
  | isoVSelect (t : Nat) (h : Hdr) (handle : Nat)
  | isoVQuiet (t : Nat) (h : Hdr) (handle : Nat)
  | isoVResetReady (t : Nat) (h : Hdr) (handle : Nat)
  -- Hymond (Table 8-12)
  | hyRawFrame (t : Nat) (h : Hdr) (pre : HyPre) (type alive reply : Nat) (payload : Bytes)
  | hyActivate (t : Nat) (h : Hdr) (ident : Bytes) (wake : Bool) (dl ul : Nat)
  | hyRead (t : Nat) (h : Hdr) (pre : HyPre) (addr count : Nat)
  | hyWrite (t : Nat) (h : Hdr) (pre : HyPre) (addr : Nat) (data : Bytes)
  | hySealedWrite (t : Nat) (h : Hdr) (pre : HyPre) (page genBase : Nat) (data : Bytes)
  | hyPageStatus (t : Nat) (h : Hdr) (pre : HyPre) (page : Nat)
  | hyChallenge (t : Nat) (h : Hdr) (pre : HyPre) (slot : Nat) (nonce : Bytes)
  | hyHalt (t : Nat) (h : Hdr) (pre : HyPre)
  | hyRelease (t : Nat) (h : Hdr) (pre : HyPre)
  | hyResync (t : Nat) (h : Hdr) (pre : HyPre)
  | hyForget (t : Nat) (h : Hdr) (handle : Nat)
  | hyTreeSearch (t : Nat) (h : Hdr) (mlen maxTags : Nat) (wake : Bool) (mask : Bytes)
  | hySetMap (t : Nat) (h : Hdr) (handle : Nat) (map : List Nat)
  -- Harvest, Prism and Lens (Table 8-13)
  | harvestStart (t : Nat) (h : Hdr)
  | harvestStop (t : Nat) (h : Hdr)
  | harvestClear (t : Nat) (h : Hdr) (ports : Nat)
  | harvestReadTable (t : Nat) (h : Hdr) (start count : Nat)
  | prismCalibrate (t : Nat) (h : Hdr)
  | prismVector (t : Nat) (h : Hdr) (vector : Nat)
  | lensBaseline (t : Nat) (h : Hdr)
  | lensMeasure (t : Nat) (h : Hdr)
  -- cluster (Table 8-14)
  | planLoad (t : Nat) (h : Hdr) (planId total off : Nat) (data : Bytes)
  | planActivate (t : Nat) (h : Hdr) (planId due : Nat)
  | planTakesForce (t : Nat)
  | clusterStatus (t : Nat) (h : Hdr)
  | calTone (t : Nat) (h : Hdr) (port channel : Nat) (power : Int) (due durUs : Nat)
  | calToneEnd (t : Nat) (p : PortNo)
  | calListen (t : Nat) (h : Hdr) (ports due durUs srcModule srcPort : Nat)
  | calListenEnd (t : Nat) (couplings : List Int)
  | dedupImport (t : Nat) (h : Hdr) (recs : List DedupRec)
  -- security (Table 8-15)
  | caskInfo (t : Nat) (h : Hdr) (cask : Nat)
  | caskImport (t : Nat) (h : Hdr) (cask kek attr : Nat) (wrapped : Bytes)
  | caskGenerate (t : Nat) (h : Hdr) (cask bits attr : Nat)
  | caskDerive (t : Nat) (h : Hdr) (cask parent attr : Nat) (label context : Bytes)
  | caskDestroy (t : Nat) (h : Hdr) (cask : Nat)
  | caskEncrypt (t : Nat) (h : Hdr) (cask mode : Nat) (iv data : Bytes)
  | caskDecrypt (t : Nat) (h : Hdr) (cask mode : Nat) (iv data : Bytes)
  | caskWrap (t : Nat) (h : Hdr) (cask target : Nat)
  | attest (t : Nat) (h : Hdr) (cask : Nat) (nonce : Bytes)
  | lifecycleSet (t : Nat) (h : Hdr) (target confirm : Nat)
  | debugOpenSet (t : Nat) (h : Hdr) (confirm : Nat)
  | lifeCycleChangeComplete (t : Nat)
  | credWrite (t : Nat) (h : Hdr) (handle cask slot format : Nat)
  | credVerify (t : Nat) (h : Hdr) (handle cask slot : Nat)
  | caskList (t : Nat) (h : Hdr)
  | cellarResultPlaced (t : Nat) (p : PortNo)
  -- diagnostics and sparing (Table 8-16)
  | selfTest (t : Nat) (h : Hdr) (groups : Nat)
  | captureArm (t : Nat) (h : Hdr) (buffer port point trigger samples before : Nat)
  | captureBufferFull (t : Nat) (buffer : Fin 8) (trigTick : Nat) (samples : List Cpx)
  | captureRead (t : Nat) (h : Hdr) (buffer off len : Nat)
  | triggerArm (t : Nat) (h : Hdr) (trigger due periodNs : Nat)
  | swapRequest (t : Nat) (h : Hdr) (kind inst : Nat)
  | spareStatus (t : Nat) (h : Hdr)
  | wearRead (t : Nat) (h : Hdr) (monitor start count : Nat)
  | eventLogRead (t : Nat) (h : Hdr) (start count : Nat)
  | countersClear (t : Nat) (h : Hdr) (ports : Nat) (links : Bool)
  -- host link (07)
  | hostDataFrame (t : Nat) (src : Src) (vid : Nat) (datagram : Datagram)
  | hello (t : Nat) (src : Src) (nonce grant : Nat)
  | ack (t : Nat) (src : Src) (seq : Nat)
  | nak (t : Nat) (src : Src) (first count : Nat)
  | credit (t : Nat) (src : Src) (queue limit : Nat)
  | announceReceived (t : Nat) (id : Nat) (mac : Nat)
  | announceTimer (t : Nat)
  | ackDelayExpiry (t : Nat)
  | nakRepeatExpiry (t : Nat)
  | retxTimeout (t : Nat)
  | staleTimer (t : Nat) (q : Fin 72)
  | linkTransmit (t : Nat)
  | itemPop (t : Nat) (q : Fin 72)
  | resultPush (t : Nat) (p : PortNo)
  | hostTimeout (t : Nat)
  | linkUp (t : Nat) (speed : Nat)
  | linkTrainingFail (t : Nat)
  -- power, reset and start-up (07, 12)
  | powerAllocLower (t : Nat) (mw : Nat)
  | powerAllocAck (t : Nat) (inputMw : Nat)
  | powerAllocHigher (t : Nat) (mw : Nat)
  | piVoltageFail (t : Nat) (mv : Nat)
  | piVoltageReturn (t : Nat) (mv : Nat) (powerClass : Nat)
  | railInRegulation (t : Nat) (rail : Fin 12)
  | railViolation (t : Nat) (rail : Fin 12) (kind : Nat)
  | railRetryTimer (t : Nat)
  | strapRead (t : Nat) (mvA mvB : Nat)
  | resetNAsserted (t : Nat)
  | resetNReleased (t : Nat)
  | bootImageVerified (t : Nat) (okA okB : Bool)
  | rootReconstructed (t : Nat) (reading : Bytes) (margin : Nat)
  | caskStoreRecovery (t : Nat) (torn : Option Nat)
  | calComplete (t : Nat) (cal : CalInput)
  | intlkNAsserted (t : Nat) (widthNs : Option Nat)
  | intlkNReleased (t : Nat)
  | vauxLow (t : Nat) (mv : Nat)
  | wakeNAsserted (t : Nat)
  | pathMonitorMeasurement (t : Nat) (readings : List Nat)
  -- timing bank and radio (01, 02)
  | timerFire (t : Nat) (n : Fin 256)
  | txUnderrun (t : Nat) (p : PortNo)
  | rxOverrun (t : Nat) (p : PortNo)
  | sliceTransitionComplete (t : Nat) (p : PortNo)
  | synthLocked (t : Nat) (p : PortNo) (margin : Int)
  | synthLockTimeout (t : Nat) (p : PortNo)
  | synthLockLost (t : Nat) (p : PortNo) (phaseErr : Int)
  | rampUpComplete (t : Nat) (p : PortNo)
  | guardTimeExpiry (t : Nat) (p : PortNo)
  | rampDownComplete (t : Nat) (p : PortNo)
  | fieldOffMinExpiry (t : Nat) (p : PortNo)
  | pressGrant (t : Nat)
  | pressTimeout (t : Nat) (p : PortNo)
  | dutyLimitReached (t : Nat) (p : PortNo)
  | portMismatch (t : Nat) (p : PortNo) (vswr : Nat)
  | paLoopFailure (t : Nat) (p : PortNo)
  | powerLoopMeasurement (t : Nat) (p : PortNo) (err : Int)
  | aerialIdSense (t : Nat) (ohms : List Nat)
  | transactionBoundary (t : Nat) (p : PortNo) (phase : Int)
  | dpdLearning (t : Nat) (p : PortNo) (amp phase taps : List Int) (evm : Nat)
  -- receive chain (03)
  | syncDetected (t : Nat) (p : PortNo) (h4 : Bool) (errs corr : Nat) (strength : Int)
  | headerVerdict (t : Nat) (p : PortNo) (header : BitVec 48) (check : BitVec 16)
  | isoSofDetected (t : Nat) (p : PortNo) (energy : Int) (strength : Int)
  | fastAgcBlock (t : Nat) (p : PortNo) (level : Int) (clipped : Bool)
  | frameVerdict (t : Nat) (p : PortNo) (frame : RxFrame) (m : RxMeas) (envEvm : Nat)
  | receiveWindowClose (t : Nat) (p : PortNo)
  | busyWaitExpiry (t : Nat) (p : PortNo)
  | noiseMeasurement (t : Nat) (p : PortNo) (fieldOn : Bool) (level : Int) (profile : Option (List Int))
  -- inventory and detection (06)
  | harvestGridTick (t : Nat) (p : PortNo)
  | tableAgeExpiry (t : Nat) (idx : Fin 4096)
  | lensPulse (t : Nat) (p : PortNo) (m : Cpx)
  | lensConfirm (t : Nat) (p : PortNo) (m : Cpx)
  | z8FieldDetected (t : Nat) (p : PortNo) (levelMv onset : Nat)
  | z8FieldGone (t : Nat) (p : PortNo)
  -- cluster time (09)
  | trellisFrameStart (t : Nat)
  | timeLockChange (t : Nat) (lock : Fin 3) (offsetNs stepNs : Int)
  | syncInEdge (t : Nat) (offsetPs : Int)
  | syncInLoss (t : Nat)
  | holdoverExpiry (t : Nat)
  -- sparing (11)
  | wearMonitorTrip (t : Nat) (monitor inst : Nat) (value : Int)
  | swapPrepared (t : Nat) (kind inst : Nat)
  | plannedSwap (t : Nat) (kind inst : Nat) (calOk : Bool)
  | swapDeferExpiry (t : Nat) (kind inst : Nat)
  | emergencySwap (t : Nat) (kind inst : Nat) (calOk : Bool)
  | dailySelfTest (t : Nat) (failed : List (Nat × Nat))
  | evLost (t : Nat)
  | linkDown (t : Nat)
  | vauxReturn (t : Nat) (mv : Nat)
  | crystalStable (t : Nat)
  | fwActivationRetry (t : Nat)
  | echoRequest (t : Nat) (v6 : Bool) (addr : Nat) (data : Bytes)
  | neighborDiscovery (t : Nat) (v6 : Bool) (addr target : Nat)
  | ieee1588Message (t : Nat) (msg : PtpMsg)
  | syncInterval (t : Nat)
  deriving DecidableEq, Repr

end Sys2Proof
end

