-- ==== Sys2Proof/Decode.lean ====
section
/-!
DEFINITION. The command that a word spells by the bits of the opcode table. The table of this block gives no row any bits:
a command reaches the block as itself, so no word spells one.
-/

namespace Sys2Proof

/-- The command that the bits of a word spell: none, since no row of the table has bits. -/
def decodeTableWord (_nbits _w : Nat) : Option Instr := none

end Sys2Proof
end

