-- ==== Sys2Proof/Config.lean ====
section
/-!
DEFINITION. The free values: constants without a body, so that nothing in Lean can evaluate them or prove a value of them.
A fresh value is one of them applied to the counter `State.free`; log entry 3 lists them with the rule that leaves each open.
DESIGN CHOICE, safe: log entry 3.
-/

namespace Sys2Proof

/-- A byte of the entropy source that seeds the random generator, by draw and place (R486). -/
opaque Config.entropyByte : Nat → Nat → Byte

/-- A byte of the helper data that enrolment wrote for a security core, by core and place (R480, R481). -/
opaque Config.helperByte : Nat → Nat → Byte

/-- The value that the code of R480 corrects a PUF reading XOR the helper data to. R480 gives its capacity and not its words. -/
opaque Config.corrected : Bytes → Bytes

/-- Whether the arm port's synchroniser takes 3 ticks and not 2 (R42, Table 1-9). -/
opaque Config.armSlow : Nat → Bool

/-- Whether a pulse on INTLK_N from 200 ns to 1 µs acts (R83, R592). -/
opaque Config.pulseActs : Nat → Bool

/-- The coil phase in 0.01 degree that an auto-tune probe measures, by draw, port and TN voltage in mV (R106). -/
opaque Config.coilPhase : Nat → Nat → Nat → Int

/-- The noise a commanded measurement finds, by draw, port and index: 0 field off, 1 field on, 2 to 17 the subcarriers (R140). -/
opaque Config.noise : Nat → Nat → Nat → Int

/-- One I or Q value of a commanded Lens measurement, by draw, port and axis (R346). -/
opaque Config.lensSample : Nat → Nat → Nat → Int

/-- Twice the detuning of a Lens measurement in 0.01 % where the rules give it no value: against a reference of zero, or beyond its
16-bit field (R334), by draw. -/
opaque Config.lensRatio : Nat → Nat

/-- The residual phase in 0.01 degree of a Prism member after a commanded calibration, by draw, lead and member (R327). -/
opaque Config.prismResidual : Nat → Nat → Nat → Int

/-- An entry of a pre-distortion table that CAL learns (R96), and the error by which a frame moves one (R97), by draw and place. -/
opaque Config.dpdEntry : Nat → Nat → Int
opaque Config.dpdError : Nat → Nat → Int

/-- The VPA level in mV that the highest set power of a group requires (R92 gives no formula). -/
opaque Config.vpaLevel : Int → Nat

/-- The PA segments the power loop uses at a set power: one more than this modulo 8 (R88 gives no rule). -/
opaque Config.paSegments : Int → Nat

/-- The move of TN in mV that tracking makes by the slope it measures, by draw and port; limited to 100 mV (R107). -/
opaque Config.tuneMove : Nat → Nat → Int

/-- The maximum duration in µs of a port's command (R467 gives no formula), by the committed values of the port's attributes, opcode and counted
length. -/
opaque Config.maxDuration : List Int → Nat → Nat → Nat

/-- Whether a self-test group finds its spares good when the host commands it (R539), by draw and group; and whether the spare that takes over
where a lock has failed again, or a monitor is at its fault, passes its calibration (R74, R528, R538), by draw and instance. -/
opaque Config.testPasses : Nat → Nat → Bool

/-- The coarse band margin that a synthesiser calibration finds where no SYNTH_LOCKED reports it: the wake of a slice for a Lens pulse (R69, R334),
by draw and port. -/
opaque Config.bandMargin : Nat → Nat → Int

/-- Whether the PA gain probes of CALIBRATE_RADIO find the power loop within its band (R91, R120), by draw and port. -/
opaque Config.paProbeOk : Nat → Nat → Bool

/-- The envelope EVM in 0.1 % of a D3 or D4 frame that no frame of a tag followed (R97), by draw. -/
opaque Config.frameEvm : Nat → Nat

/-- One axis of a weight that the carrier canceller adapts to, by draw, port and axis (R125, R126). -/
opaque Config.weight : Nat → Nat → Nat → Int

/-- An estimate of the offset canceller, by draw, port and place (R127). -/
opaque Config.offsetEst : Nat → Nat → Nat → Int

/-- The error of the module's crystal in parts per billion (R127). -/
opaque Config.crystalPpb : Int

/-- One axis of an aggressor's complex envelope when a victim's cancellers freeze, by draw, victim and twice the aggressor plus the axis (R141). -/
opaque Config.envelope : Nat → Nat → Nat → Int

/-- One axis of a tap that a Mirror training finds, and its move when the filter is tracked, by draw, aggressor, victim and twice the tap
plus the axis (R141, R145, R147). -/
opaque Config.tap : Nat → Nat → Nat → Nat → Int
opaque Config.tapMove : Nat → Nat → Nat → Nat → Int

/-- The move in 0.01 dB of a tracked coupling, by draw, aggressor and victim (R147). -/
opaque Config.couplingMove : Nat → Nat → Nat → Int

/-- A value that an equaliser adapts to, by draw and place (R162 to R165, R329). -/
opaque Config.eqValue : Nat → Nat → Int

/-- What the receive chain measures of a frame that ends without a verdict event, by draw: the signal-to-noise ratio, the EVM, whether more than
1 % of the samples clip, the power of a subcarrier by its place (R169, R175). -/
opaque Config.frameSnr : Nat → Int
opaque Config.frameError : Nat → Nat
opaque Config.frameClips : Nat → Bool
opaque Config.framePower : Nat → Nat → Int

/-- A byte of the production root and of the test root (R480, R483), and of the delivery key (R509). -/
opaque Config.rootByte : Nat → Byte
opaque Config.testRootByte : Nat → Byte
opaque Config.deliveryByte : Nat → Byte

/-- A byte of Shebor's three P-256 public keys for firmware images (R521): 64 bytes each, X then Y. -/
opaque Config.fwKeyByte : Nat → Byte

/-- The ATQA of a tag whose ATQA did not come through whole: two tags' answers overlapped (R160, R203). -/
opaque Config.atqa : Nat → Nat

/-- The lease a DHCP server gives in an exchange, if one does: the address, the length of its network part, and the ticks the exchange takes (R356),
by the tick at which it began. -/
opaque Config.dhcpLease : Nat → Option (Nat × Nat × Nat)

/-- The slot code with which a Harvest run of ISO_B_ANTICOLL starts, taken modulo 5 (R313 gives no n_start), by draw. -/
opaque Config.harvestSlots : Nat → Nat

/-- The level in mV that a Z8 detector reads (R339), by draw. -/
opaque Config.z8Level : Nat → Nat → Nat

/-- What an attribute reads that the module measures and no command of the model brings: the rails' voltages and the baseplate's temperature, and the
unavailability of a module that has not yet been powered for a tick (R549, R599, Table 12-10), and the descriptors of the pool timers (Table 1-11), by
draw, ID and element. -/
opaque Config.reading : Nat → Nat → Nat → Int

/-- The correction in ns that the clock servo makes, reduced to the bound of R451, by draw. -/
opaque Config.slewNs : Nat → Nat

/-- The interruption in µs of a swap, reduced to the bound of Table 11-1 (R532 gives a measurement), by draw. -/
opaque Config.swapUs : Nat → Nat

/-- The present value of a wear monitor that the module measures and no command of the model brings (Table 11-2), by draw, monitor and
instance number. -/
opaque Config.wearValue : Nat → Nat → Nat → Int

/-- Whether CRED_VERIFY, which carries no format, derives a credential of 256 bits (R499, R502), by draw. -/
opaque Config.credLong : Nat → Bool

end Sys2Proof
end

