-- ==== Sys2Proof/Machine/Crypto.lean ====
section
/-!
DEFINITION. The cryptographic functions Cellar runs: AES with CBC, CTR and CMAC (R497, R264, R502), SHA-256 and HMAC (R482, R504),
the counter-mode KDF (R484), RFC 3394 key wrap (R492, R495), the CTR_DRBG (R486) and ECDSA P-256 verification (R521).
The spec names these functions; their definitions are those of the standards it cites (PRESUMED, log entry 30).
PRESUMED, unsafe: log entry 30.
-/

namespace Sys2Proof.Machine

/-- Multiplication by x in the field of AES. -/
def xtime (a : Nat) : Nat := if a < 128 then 2 * a else (2 * a) ^^^ 0x11B

/-- Multiplication in the field of AES, over the `n` low bits of `c`. -/
def gmul : Nat → Nat → Nat → Nat
  | 0, _, _ => 0
  | n + 1, a, c => (if c % 2 = 1 then a else 0) ^^^ gmul n (xtime a) (c / 2)

/-- `a` squared in the field of AES. -/
def gsq (a : Nat) : Nat := gmul 8 a a

/-- The inverse of `a` in the field of AES, a to the power 254; 0 for 0. -/
def ginv (a : Nat) : Nat :=
  let a2 := gsq a
  let a3 := gmul 8 a2 a
  let a12 := gsq (gsq a3)
  let a15 := gmul 8 a12 a3
  let a240 := gsq (gsq (gsq (gsq a15)))
  gmul 8 (gmul 8 a240 a12) a2

/-- Rotation of a byte to the left. -/
def rotl8 (a n : Nat) : Nat := (a * 2 ^ n) % 256 ||| a / 2 ^ (8 - n)

/-- The S-box of AES. -/
def sbox (a : Nat) : Nat :=
  let i := ginv a
  i ^^^ rotl8 i 1 ^^^ rotl8 i 2 ^^^ rotl8 i 3 ^^^ rotl8 i 4 ^^^ 0x63

/-- The inverse S-box of AES. -/
def invSbox (a : Nat) : Nat := ginv (rotl8 a 1 ^^^ rotl8 a 3 ^^^ rotl8 a 6 ^^^ 0x05)

/-- Byte-wise sum of two byte lists. -/
def xorL (x y : List Nat) : List Nat := List.zipWith (· ^^^ ·) x y

/-- Groups of four. -/
def words4 : Nat → List Nat → List (List Nat)
  | 0, _ => []
  | k + 1, x => x.take 4 :: words4 k (x.drop 4)

/-- The key schedule: the words so far, newest first, extended `n` times; `nk` words in the key, `i` the index of the next word, `rc` the round
constant. -/
def expand (nk : Nat) : Nat → Nat → Nat → List (List Nat) → List (List Nat)
  | 0, _, _, ws => ws
  | n + 1, i, rc, ws =>
    let t := ws.headD []
    let back := (ws[nk - 1]?).getD []
    if i % nk = 0 then
      let r := (t.drop 1 ++ t.take 1).map sbox
      expand nk n (i + 1) (xtime rc) (xorL back (xorL r [rc, 0, 0, 0]) :: ws)
    else if nk > 6 ∧ i % nk = 4 then expand nk n (i + 1) rc (xorL back (t.map sbox) :: ws)
    else expand nk n (i + 1) rc (xorL back t :: ws)

/-- The round keys of a 16- or 32-byte key, as 16-byte lists. -/
def roundKeys (key : Bytes) : List (List Nat) :=
  let k := key.map BitVec.toNat
  let nk := k.length / 4
  let rounds := nk + 6
  let ws := (expand nk (4 * (rounds + 1) - nk) nk 1 (words4 nk k).reverse).reverse
  (List.range (rounds + 1)).map fun r => ((ws.drop (4 * r)).take 4).flatten

/-- ShiftRows as the source index of each of the 16 bytes. -/
def shiftIdx : List Nat := [0, 5, 10, 15, 4, 9, 14, 3, 8, 13, 2, 7, 12, 1, 6, 11]

/-- The inverse of ShiftRows. -/
def unshiftIdx : List Nat := [0, 13, 10, 7, 4, 1, 14, 11, 8, 5, 2, 15, 12, 9, 6, 3]

/-- A permutation of bytes by source indices. -/
def pick (idx x : List Nat) : List Nat := idx.map fun i => nth x i 0

/-- One column multiplied by the circulant matrix with first row `c`. -/
def mixCol (c x : List Nat) : List Nat :=
  (List.range 4).map fun r =>
    (List.range 4).foldl (fun a j => a ^^^ gmul 8 (nth x j 0) (nth c ((j + 4 - r) % 4) 0)) 0

/-- MixColumns, or its inverse, by the first row of the matrix. -/
def mixCols (c x : List Nat) : List Nat := (words4 4 x).flatMap (mixCol c)

/-- The middle and last rounds of encryption. -/
def encRounds : List (List Nat) → List Nat → List Nat
  | [], s => s
  | [k], s => xorL (pick shiftIdx (s.map sbox)) k
  | k :: ks, s => encRounds ks (xorL (mixCols [2, 3, 1, 1] (pick shiftIdx (s.map sbox))) k)

/-- AES encryption of one 16-byte block. PRESUMED, unsafe: log entry 30. -/
def aesEnc (key : Bytes) (blk : Bytes) : Bytes :=
  match roundKeys key with
  | [] => blk
  | k :: ks => (encRounds ks (xorL (blk.map BitVec.toNat) k)).map b8

/-- The rounds of decryption, round keys last first. -/
def decRounds : List (List Nat) → List Nat → List Nat
  | [], s => s
  | [k], s => xorL ((pick unshiftIdx s).map invSbox) k
  | k :: ks, s => decRounds ks (mixCols [14, 11, 13, 9] (xorL ((pick unshiftIdx s).map invSbox) k))

/-- AES decryption of one 16-byte block. PRESUMED, unsafe: log entry 30. -/
def aesDec (key : Bytes) (blk : Bytes) : Bytes :=
  match (roundKeys key).reverse with
  | [] => blk
  | k :: ks => (decRounds ks (xorL (blk.map BitVec.toNat) k)).map b8

/-- Byte-wise sum of two byte strings, as long as the shorter. -/
def xorB (x y : Bytes) : Bytes := List.zipWith (· ^^^ ·) x y

/-- Blocks of 16 bytes. -/
def blocks16 : Nat → Bytes → List Bytes
  | 0, _ => []
  | n + 1, x => if x.isEmpty then [] else x.take 16 :: blocks16 n (x.drop 16)

/-- CBC encryption without padding (R497). -/
def cbcEnc (key : Bytes) : Bytes → List Bytes → Bytes
  | _, [] => []
  | iv, x :: xs => let c := aesEnc key (xorB x iv); c ++ cbcEnc key c xs

/-- CBC decryption without padding (R497). -/
def cbcDec (key : Bytes) : Bytes → List Bytes → Bytes
  | _, [] => []
  | iv, x :: xs => xorB (aesDec key x) iv ++ cbcDec key x xs

/-- CTR: the counter block is a 128-bit big-endian integer (R497). -/
def ctr (key : Bytes) : Nat → List Bytes → Bytes
  | _, [] => []
  | c, x :: xs => xorB x (aesEnc key (be 16 c)) ++ ctr key ((c + 1) % 2 ^ 128) xs

/-- Doubling in the field of CMAC. -/
def cmacDbl (x : Bytes) : Bytes :=
  let n := ofBe x
  be 16 (if n < 2 ^ 127 then 2 * n else (2 * n) % 2 ^ 128 ^^^ 0x87)

/-- The chain of CMAC over whole blocks. -/
def cmacChain (key : Bytes) : Bytes → List Bytes → Bytes
  | c, [] => c
  | c, x :: xs => cmacChain key (aesEnc key (xorB x c)) xs

/-- AES-CMAC (R264, R497, R502). PRESUMED, unsafe: log entry 30. -/
def cmac (key msg : Bytes) : Bytes :=
  let k1 := cmacDbl (aesEnc key (zeros 16))
  let k2 := cmacDbl k1
  let n := (msg.length - 1) / 16
  let body := blocks16 n (msg.take (16 * n))
  let last := msg.drop (16 * n)
  let fin := if last.length = 16 then xorB last k1 else xorB (fit 16 (last ++ [0x80])) k2
  aesEnc key (xorB fin (cmacChain key (zeros 16) body))

/-- Rotation right of a 32-bit word. -/
def rotr32 (x n : Nat) : Nat := x / 2 ^ n ||| (x * 2 ^ (32 - n)) % 2 ^ 32

/-- The round constants of SHA-256. -/
def shaK : List Nat :=
  [0x428a2f98, 0x71374491, 0xb5c0fbcf, 0xe9b5dba5, 0x3956c25b, 0x59f111f1, 0x923f82a4, 0xab1c5ed5]
  ++ [0xd807aa98, 0x12835b01, 0x243185be, 0x550c7dc3, 0x72be5d74, 0x80deb1fe, 0x9bdc06a7, 0xc19bf174]
  ++ [0xe49b69c1, 0xefbe4786, 0x0fc19dc6, 0x240ca1cc, 0x2de92c6f, 0x4a7484aa, 0x5cb0a9dc, 0x76f988da]
  ++ [0x983e5152, 0xa831c66d, 0xb00327c8, 0xbf597fc7, 0xc6e00bf3, 0xd5a79147, 0x06ca6351, 0x14292967]
  ++ [0x27b70a85, 0x2e1b2138, 0x4d2c6dfc, 0x53380d13, 0x650a7354, 0x766a0abb, 0x81c2c92e, 0x92722c85]
  ++ [0xa2bfe8a1, 0xa81a664b, 0xc24b8b70, 0xc76c51a3, 0xd192e819, 0xd6990624, 0xf40e3585, 0x106aa070]
  ++ [0x19a4c116, 0x1e376c08, 0x2748774c, 0x34b0bcb5, 0x391c0cb3, 0x4ed8aa4a, 0x5b9cca4f, 0x682e6ff3]
  ++ [0x748f82ee, 0x78a5636f, 0x84c87814, 0x8cc70208, 0x90befffa, 0xa4506ceb, 0xbef9a3f7, 0xc67178f2]

/-- The initial hash of SHA-256. -/
def shaH0 : List Nat :=
  [0x6a09e667, 0xbb67ae85, 0x3c6ef372, 0xa54ff53a, 0x510e527f, 0x9b05688c, 0x1f83d9ab, 0x5be0cd19]

/-- The message schedule, newest word first, extended `n` times. -/
def shaSched : Nat → List Nat → List Nat
  | 0, w => w
  | n + 1, w =>
    let w15 := nth w 14 0
    let w2 := nth w 1 0
    let s0 := rotr32 w15 7 ^^^ rotr32 w15 18 ^^^ w15 / 8
    let s1 := rotr32 w2 17 ^^^ rotr32 w2 19 ^^^ w2 / 1024
    shaSched n ((nth w 15 0 + s0 + nth w 6 0 + s1) % 2 ^ 32 :: w)

/-- One round of SHA-256 on the eight working words. -/
def shaRound (v : List Nat) (kw : Nat) : List Nat :=
  match v with
  | [a, c2, c3, c4, e, f, g, h] =>
    let s1 := rotr32 e 6 ^^^ rotr32 e 11 ^^^ rotr32 e 25
    let ch := (e &&& f) ^^^ ((2 ^ 32 - 1 - e) &&& g)
    let t1 := h + s1 + ch + kw
    let s0 := rotr32 a 2 ^^^ rotr32 a 13 ^^^ rotr32 a 22
    let maj := (a &&& c2) ^^^ (a &&& c3) ^^^ (c2 &&& c3)
    [(t1 + s0 + maj) % 2 ^ 32, a, c2, c3, (c4 + t1) % 2 ^ 32, e, f, g]
  | _ => v

/-- The 32-bit big-endian words of a block. -/
def beWords : Nat → Bytes → List Nat
  | 0, _ => []
  | n + 1, x => ofBe (x.take 4) :: beWords n (x.drop 4)

/-- Blocks of 64 bytes. -/
def blocks64 : Nat → Bytes → List Bytes
  | 0, _ => []
  | n + 1, x => if x.isEmpty then [] else x.take 64 :: blocks64 n (x.drop 64)

/-- One block of SHA-256. -/
def shaBlock (h : List Nat) (blk : Bytes) : List Nat :=
  let w := (shaSched 48 (beWords 16 blk).reverse).reverse
  let v := (List.zipWith (· + ·) shaK w).foldl shaRound h
  List.zipWith (fun x y => (x + y) % 2 ^ 32) h v

/-- SHA-256. PRESUMED, unsafe: log entry 30. -/
def sha256 (msg : Bytes) : Bytes :=
  let n := msg.length
  let padded := msg ++ [0x80] ++ zeros ((119 - n % 64) % 64) ++ be 8 (8 * n)
  ((blocks64 (padded.length / 64) padded).foldl shaBlock shaH0).flatMap (be 4)

/-- HMAC-SHA-256. PRESUMED, unsafe: log entry 30. -/
def hmac (key msg : Bytes) : Bytes :=
  let k := fit 64 (if key.length > 64 then sha256 key else key)
  let ipad := k.map (· ^^^ 0x36)
  let opad := k.map (· ^^^ 0x5C)
  sha256 (opad ++ sha256 (ipad ++ msg))

/-- The bytes of an ASCII string. -/
def ascii (s : String) : Bytes := s.toList.map fun c => b8 c.toNat

/-- The KDF of R484: the first `bits` bits of T1 and T2, with the domain byte of the root in force. PRESUMED, unsafe: log entry 30. -/
def kdf (test : Bool) (key label context : Bytes) (bits : Nat) : Bytes :=
  let d : Byte := if test then 0x54 else 0x50
  let ti (i : Nat) := hmac key (be 4 i ++ label ++ [0] ++ [d] ++ context ++ be 4 bits)
  (ti 1 ++ ti 2).take (bits / 8)

/-- The default initial value of RFC 3394. -/
def wrapIv : Bytes := List.replicate 8 0xA6

/-- Semiblocks of 8 bytes. -/
def blocks8 : Nat → Bytes → List Bytes
  | 0, _ => []
  | n + 1, x => x.take 8 :: blocks8 n (x.drop 8)

/-- One pass of RFC 3394 over the semiblocks, `t` the step counter. -/
def wrapPass (kek : Bytes) : Nat → Bytes → List Bytes → Bytes × List Bytes
  | _, a, [] => (a, [])
  | t, a, r :: rs =>
    let c := aesEnc kek (a ++ r)
    let (a', rs') := wrapPass kek (t + 1) (xorB (c.take 8) (be 8 t)) rs
    (a', c.drop 8 :: rs')

/-- `n` passes of RFC 3394, `t` the step counter before the first. -/
def wrapLoop (kek : Bytes) : Nat → Nat → Bytes × List Bytes → Bytes × List Bytes
  | 0, _, st => st
  | n + 1, t, (a, rs) => wrapLoop kek n (t + rs.length) (wrapPass kek t a rs)

/-- RFC 3394 key wrap (R495, R501). PRESUMED, unsafe: log entry 30. -/
def keyWrap (kek key : Bytes) : Bytes :=
  let (a, rs) := wrapLoop kek 6 1 (wrapIv, blocks8 (key.length / 8) key)
  a ++ rs.flatten

/-- One inverse pass of RFC 3394, semiblocks last first, `t` the step counter of the last. -/
def unwrapPass (kek : Bytes) : Nat → Bytes → List Bytes → Bytes × List Bytes
  | _, a, [] => (a, [])
  | t, a, r :: rs =>
    let p := aesDec kek (xorB a (be 8 t) ++ r)
    let (a', rs') := unwrapPass kek (t - 1) (p.take 8) rs
    (a', p.drop 8 :: rs')

/-- `n` inverse passes of RFC 3394. -/
def unwrapLoop (kek : Bytes) : Nat → Nat → Bytes × List Bytes → Bytes × List Bytes
  | 0, _, st => st
  | n + 1, t, (a, rs) => unwrapLoop kek n (t - rs.length) (unwrapPass kek t a rs)

/-- RFC 3394 key unwrap: none when the integrity check fails (R492). PRESUMED, unsafe: log entry 30. -/
def keyUnwrap (kek wrapped : Bytes) : Option Bytes :=
  let n := wrapped.length / 8 - 1
  let (a, rs) := unwrapLoop kek 6 (6 * n) (wrapped.take 8, (blocks8 n (wrapped.drop 8)).reverse)
  if a = wrapIv then some rs.reverse.flatten else none

/-- The root that enrolment gave the module, and the test root (R480, R483). -/
def rootOf (test : Bool) : Bytes := (List.range 32).map (if test then Config.testRootByte else Config.rootByte)

/-- The root check value of a root (R482). -/
def rootCheckOf (root : Bytes) : Bytes := (hmac root (ascii "JZ64-ROOT-CHECK")).take 16

/-- A store key of the cask store under a root (R485). -/
def storeKey (root : Bytes) (test : Bool) (label : String) : Bytes := kdf test root (ascii label) [] 256

/-- The key of a record, wrapped under the store encryption key and zero-filled; zero where the record empties its cask (Table 10-6). -/
def storeWrap (root : Bytes) (test : Bool) (key : Bytes) : Bytes :=
  if key.isEmpty then zeros 40 else fit 40 (keyWrap (storeKey root test "JZ64-STORE-ENC") key)

/-- Bytes 0 to 111 of a record of the cask store (Table 10-6). -/
def storeHead (kind cask seq attr inc : Nat) (wrapped : Bytes) : Bytes :=
  [b8 kind, 0] ++ le 2 cask ++ le 4 seq ++ le 8 attr ++ le 2 inc ++ [0, 0] ++ wrapped ++ zeros 52

/-- The Cork of a record: the CMAC of its first 112 bytes under the store MAC key (Table 10-6). -/
def storeCork (root : Bytes) (test : Bool) (head : Bytes) : Bytes := cmac (storeKey root test "JZ64-STORE-MAC") head

/-! ### The random generator (R486) -/

/-- The state of the CTR_DRBG with AES-256: key, counter block, and the requests since it was seeded (R486). -/
structure Drbg where
  key : Bytes := zeros 32
  v : Bytes := zeros 16
  requests : Nat := 0
  deriving DecidableEq, Repr

/-- The next `n` output blocks, and the counter block they leave. -/
def Drbg.blocks (key : Bytes) : Nat → Bytes → Bytes × Bytes
  | 0, v => ([], v)
  | n + 1, v =>
    let v := be 16 ((ofBe v + 1) % 2 ^ 128)
    let r := Drbg.blocks key n v
    (aesEnc key v ++ r.1, r.2)

/-- CTR_DRBG_Update with 48 bytes of provided data. PRESUMED, unsafe: log entry 30. -/
def Drbg.update (data : Bytes) (d : Drbg) : Drbg :=
  let x := xorB (Drbg.blocks d.key 3 d.v).1 data
  { d with key := x.take 32, v := x.drop 32 }

/-- The generator is seeded, or reseeded, with 48 bytes of entropy, without a derivation function. DESIGN CHOICE, unsafe: log entry 71. -/
def Drbg.seed (entropy : Bytes) (d : Drbg) : Drbg := { d.update entropy with requests := 0 }

/-- `n` random bytes, and the generator after the request. PRESUMED, unsafe: log entry 30. -/
def Drbg.generate (n : Nat) (d : Drbg) : Bytes × Drbg :=
  let r := Drbg.blocks d.key ((n + 15) / 16) d.v
  (r.1.take n, { ({ d with v := r.2 } : Drbg).update (zeros 48) with requests := d.requests + 1 })

/-- Modular power by squaring over the `n` low bits of the exponent. -/
def powMod (m : Nat) : Nat → Nat → Nat → Nat
  | 0, _, _ => 1 % m
  | n + 1, a, e => (if e % 2 = 1 then a else 1) * powMod m n (a * a % m) (e / 2) % m

/-- The field prime of P-256. -/
def p256P : Nat := 2 ^ 256 - 2 ^ 224 + 2 ^ 192 + 2 ^ 96 - 1

/-- The order of the base point of P-256. -/
def p256N : Nat := 0xFFFFFFFF00000000FFFFFFFFFFFFFFFFBCE6FAADA7179E84F3B9CAC2FC632551

/-- The base point of P-256. -/
def p256G : Nat × Nat :=
  (0x6B17D1F2E12C4247F8BCE6E563A440F277037D812DEB33A0F4A13945D898C296,
   0x4FE342E2FE1A7F9B8EE7EB4A7C0F9E162BCE33576B315ECECBB6406837BF51F5)

/-- Inverse modulo a prime. -/
def invMod (m a : Nat) : Nat := powMod m 256 (a % m) (m - 2)

/-- The sum of two points of P-256, none being the point at infinity. -/
def p256Add : Option (Nat × Nat) → Option (Nat × Nat) → Option (Nat × Nat)
  | none, q => q
  | q, none => q
  | some (x1, y1), some (x2, y2) =>
    let p := p256P
    if x1 = x2 ∧ (y1 + y2) % p = 0 then none
    else
      let l :=
        if x1 = x2 then (3 * x1 * x1 + (p - 3)) * invMod p (2 * y1) % p
        else (y2 + (p - y1)) * invMod p (x2 + (p - x1)) % p
      let x3 := (l * l + (p - x1) + (p - x2)) % p
      some (x3, (l * (x1 + (p - x3)) + (p - y1)) % p)

/-- A multiple of a point by the `n` low bits of a number. -/
def p256Mul : Nat → Nat → Option (Nat × Nat) → Option (Nat × Nat)
  | 0, _, _ => none
  | n + 1, k, q => p256Add (if k % 2 = 1 then q else none) (p256Mul n (k / 2) (p256Add q q))

/-- ECDSA P-256 verification of a 64-byte signature, r then s, over a SHA-256 digest (R521). PRESUMED, unsafe: log entry 30. -/
def ecdsaOk (pub : Nat × Nat) (digest sig : Bytes) : Bool :=
  let r := ofBe (sig.take 32)
  let s := ofBe (sig.drop 32)
  if r = 0 ∨ r ≥ p256N ∨ s = 0 ∨ s ≥ p256N then false
  else
    let w := invMod p256N s
    let q := p256Add (p256Mul 256 (ofBe digest * w % p256N) (some p256G)) (p256Mul 256 (r * w % p256N) (some pub))
    match q with
    | none => false
    | some (x, _) => x % p256N == r

end Sys2Proof.Machine
end

