-- ==== Sys2Proof/Machine/Attr.lean ====
section
/-!
DEFINITION. The attributes of the module: their IDs, types, element counts, index spaces, fixed bounds and fixed defaults
(R437 and the attribute tables of every chapter; Table 8-17 gives the ID ranges).
-/

namespace Sys2Proof.Machine

/-- What the INDEX of an attribute's record names (R421). -/
inductive Scope where
  | module | port | queue | timer | trig
  deriving DecidableEq, Repr

/-- One row of an attribute table. `lo`, `hi` and `extra` are the fixed numeric bounds ATTR_SET checks (R422): a value lies
from `lo` to `hi` or is one of `extra`. A bound that names another attribute is checked at the commit only.
`dflt` is the fixed default of an RW attribute; it is empty where the default follows a rule (see `dfltOf`). -/
structure AttrRow where
  id : Nat
  typ : Nat
  n : Nat
  rw : Bool
  scope : Scope
  lo : Int := 0
  hi : Int := 0
  extra : List Int := []
  dflt : List Int := []
  deriving DecidableEq, Repr

namespace A

/-- module.state. -/
abbrev moduleState : Nat := 0x1000
/-- module.id. -/
abbrev moduleId : Nat := 0x1001
/-- module.serial. -/
abbrev moduleSerial : Nat := 0x1002
/-- module.boot_count. -/
abbrev moduleBootCount : Nat := 0x1003
/-- module.fw_version. -/
abbrev moduleFwVersion : Nat := 0x1004
/-- module.life_cycle. -/
abbrev moduleLifeCycle : Nat := 0x1005
/-- module.debug_open. -/
abbrev moduleDebugOpen : Nat := 0x1006
/-- module.sched.count. -/
abbrev moduleSchedCount : Nat := 0x1007
/-- config.commit_id. -/
abbrev configCommitId : Nat := 0x1008
/-- config.saved_id. -/
abbrev configSavedId : Nat := 0x1009
/-- port.radio.channel. -/
abbrev radioChannel : Nat := 0x2001
/-- port.radio.idle_state. -/
abbrev radioIdleState : Nat := 0x2002
/-- port.radio.state. -/
abbrev radioState : Nat := 0x2003
/-- port.tx.power_cdbm. -/
abbrev txPowerCdbm : Nat := 0x2004
/-- port.tx.ceiling_cdbm. -/
abbrev txCeilingCdbm : Nat := 0x2005
/-- port.tx.ask_depth. -/
abbrev txAskDepth : Nat := 0x2006
/-- port.tx.vswr. -/
abbrev txVswr : Nat := 0x2007
/-- port.field.guard_us. -/
abbrev fieldGuardUs : Nat := 0x2008
/-- port.field.off_min_us. -/
abbrev fieldOffMinUs : Nat := 0x2009
/-- port.field.duty_limit. -/
abbrev fieldDutyLimit : Nat := 0x200A
/-- port.qd.mode. -/
abbrev qdMode : Nat := 0x200B
/-- port.qd.hold_us. -/
abbrev qdHoldUs : Nat := 0x200C
/-- port.tn.autotune. -/
abbrev tnAutotune : Nat := 0x200D
/-- port.tn.fixed_mv. -/
abbrev tnFixedMv : Nat := 0x200E
/-- port.tn.mv. -/
abbrev tnMv : Nat := 0x200F
/-- port.tune.phase. -/
abbrev tunePhase : Nat := 0x2010
/-- port.aerial.class. -/
abbrev aerialClass : Nat := 0x2011
/-- port.press.priority. -/
abbrev pressPriority : Nat := 0x2012
/-- port.press.timeout_us. -/
abbrev pressTimeoutUs : Nat := 0x2013
/-- module.reg.profile. -/
abbrev moduleRegProfile : Nat := 0x2100
/-- module.reg.channel_mask. -/
abbrev moduleRegChannelMask : Nat := 0x2101
/-- module.reg.port_ceiling_cdbm. -/
abbrev moduleRegPortCeilingCdbm : Nat := 0x2102
/-- module.reg.total_mw. -/
abbrev moduleRegTotalMw : Nat := 0x2103
/-- module.reg.duty_limit. -/
abbrev moduleRegDutyLimit : Nat := 0x2104
/-- module.tx.channel_mask. -/
abbrev moduleTxChannelMask : Nat := 0x2105
/-- press.budget_mw. -/
abbrev pressBudgetMw : Nat := 0x2110
/-- press.reserve_mw. -/
abbrev pressReserveMw : Nat := 0x2111
/-- press.available_mw. -/
abbrev pressAvailableMw : Nat := 0x2112
/-- press.granted_mw. -/
abbrev pressGrantedMw : Nat := 0x2113
/-- press.class. -/
abbrev pressClass : Nat := 0x2114
/-- port.rx.agc_mode. -/
abbrev rxAgcMode : Nat := 0x2201
/-- port.rx.gain_initial. -/
abbrev rxGainInitial : Nat := 0x2202
/-- port.rx.level_age_ms. -/
abbrev rxLevelAgeMs : Nat := 0x2203
/-- port.rx.noise_cdbm. -/
abbrev rxNoiseCdbm : Nat := 0x2204
/-- port.rx.noise_field_cdbm. -/
abbrev rxNoiseFieldCdbm : Nat := 0x2205
/-- port.rx.noise_alarm_cdbm. -/
abbrev rxNoiseAlarmCdbm : Nat := 0x2206
/-- port.rx.sync_errors. -/
abbrev rxSyncErrors : Nat := 0x2207
/-- port.rx.sync_threshold. -/
abbrev rxSyncThreshold : Nat := 0x2208
/-- port.rx.capture_cdb. -/
abbrev rxCaptureCdb : Nat := 0x2209
/-- port.rx.h4.margin_cdb. -/
abbrev rxH4MarginCdb : Nat := 0x220A
/-- port.rx.h4.max_bits. -/
abbrev rxH4MaxBits : Nat := 0x220B
/-- port.rx.h4.noise_cdbm. -/
abbrev rxH4NoiseCdbm : Nat := 0x220C
/-- port.rx.h4.snr_cdb. -/
abbrev rxH4SnrCdb : Nat := 0x220D
/-- port.rx.h4.loading. -/
abbrev rxH4Loading : Nat := 0x220E
/-- port.rx.mirror.enable. -/
abbrev rxMirrorEnable : Nat := 0x220F
/-- port.rx.mirror.floor_cdb. -/
abbrev rxMirrorFloorCdb : Nat := 0x2210
/-- port.rx.mirror.aggressors. -/
abbrev rxMirrorAggressors : Nat := 0x2211
/-- port.rx.mirror.uncovered. -/
abbrev rxMirrorUncovered : Nat := 0x2212
/-- port.rx.cnt.false_sync. -/
abbrev rxCntFalseSync : Nat := 0x2220
/-- port.rx.cnt.crc_fail. -/
abbrev rxCntCrcFail : Nat := 0x2221
/-- port.rx.cnt.preempted. -/
abbrev rxCntPreempted : Nat := 0x2222
/-- port.rx.cnt.clipped. -/
abbrev rxCntClipped : Nat := 0x2223
/-- diag.mirror.coupling. -/
abbrev diagMirrorCoupling : Nat := 0x2230
/-- port.protocol. -/
abbrev protocol : Nat := 0x2300
/-- port.iso.types. -/
abbrev isoTypes : Nat := 0x2301
/-- port.iso.max_rate. -/
abbrev isoMaxRate : Nat := 0x2302
/-- port.iso.fsdi. -/
abbrev isoFsdi : Nat := 0x2303
/-- port.iso.retries. -/
abbrev isoRetries : Nat := 0x2304
/-- port.iso.wtx_max. -/
abbrev isoWtxMax : Nat := 0x2305
/-- port.iso.wait_max_ms. -/
abbrev isoWaitMaxMs : Nat := 0x2306
/-- port.iso.b.rounds_max. -/
abbrev isoBRoundsMax : Nat := 0x2307
/-- port.iso.v.rate. -/
abbrev isoVRate : Nat := 0x2308
/-- port.iso.v.subcarriers. -/
abbrev isoVSubcarriers : Nat := 0x2309
/-- port.iso.v.coding. -/
abbrev isoVCoding : Nat := 0x230A
/-- port.iso.v.depth. -/
abbrev isoVDepth : Nat := 0x230B
/-- port.iso.v.write_wait_ms. -/
abbrev isoVWriteWaitMs : Nat := 0x230C
/-- port.iso.tags. -/
abbrev isoTags : Nat := 0x230D
/-- port.hy.modes_enabled. -/
abbrev hyModesEnabled : Nat := 0x2400
/-- port.hy.dl_mode. -/
abbrev hyDlMode : Nat := 0x2401
/-- port.hy.ul_mode. -/
abbrev hyUlMode : Nat := 0x2402
/-- port.hy.reply_delay_ticks. -/
abbrev hyReplyDelayTicks : Nat := 0x2403
/-- port.hy.turnaround_ticks. -/
abbrev hyTurnaroundTicks : Nat := 0x2404
/-- port.hy.retries. -/
abbrev hyRetries : Nat := 0x2405
/-- port.hy.busy_retries. -/
abbrev hyBusyRetries : Nat := 0x2406
/-- port.hy.busy_wait_max_us. -/
abbrev hyBusyWaitMaxUs : Nat := 0x2407
/-- port.hy.seal_verify. -/
abbrev hySealVerify : Nat := 0x2408
/-- port.hy.guard_declared_us. -/
abbrev hyGuardDeclaredUs : Nat := 0x2409
/-- port.hy.handles. -/
abbrev hyHandles : Nat := 0x240A
/-- port.hy.cnt.stale. -/
abbrev hyCntStale : Nat := 0x2410
/-- port.hy.cnt.busy_wire. -/
abbrev hyCntBusyWire : Nat := 0x2411
/-- port.hy.cnt.retries. -/
abbrev hyCntRetries : Nat := 0x2412
/-- port.hv.mode. -/
abbrev hvMode : Nat := 0x2500
/-- port.hv.table_entries. -/
abbrev hvTableEntries : Nat := 0x2501
/-- port.hv.period_ms. -/
abbrev hvPeriodMs : Nat := 0x2502
/-- port.hv.q_initial. -/
abbrev hvQInitial : Nat := 0x2503
/-- port.hv.q_min. -/
abbrev hvQMin : Nat := 0x2504
/-- port.hv.q_max. -/
abbrev hvQMax : Nat := 0x2505
/-- port.hv.q_step. -/
abbrev hvQStep : Nat := 0x2506
/-- port.hv.empty_rounds. -/
abbrev hvEmptyRounds : Nat := 0x2507
/-- port.hv.ul_mode. -/
abbrev hvUlMode : Nat := 0x2508
/-- port.hv.announce_bytes. -/
abbrev hvAnnounceBytes : Nat := 0x2509
/-- port.hv.read_addr. -/
abbrev hvReadAddr : Nat := 0x250A
/-- port.hv.read_count. -/
abbrev hvReadCount : Nat := 0x250B
/-- port.hv.disposal. -/
abbrev hvDisposal : Nat := 0x250C
/-- port.hv.wake. -/
abbrev hvWake : Nat := 0x250D
/-- port.hv.report_merges. -/
abbrev hvReportMerges : Nat := 0x250E
/-- port.hv.cnt.inserted. -/
abbrev hvCntInserted : Nat := 0x2510
/-- port.hv.cnt.lost. -/
abbrev hvCntLost : Nat := 0x2511
/-- hv.table.used. -/
abbrev hvTableUsed : Nat := 0x2580
/-- hv.table.age_ms. -/
abbrev hvTableAgeMs : Nat := 0x2581
/-- hv.table.best_margin_cdb. -/
abbrev hvTableBestMarginCdb : Nat := 0x2582
/-- port.prism.members. -/
abbrev prismMembers : Nat := 0x2600
/-- port.prism.vectors. -/
abbrev prismVectors : Nat := 0x2601
/-- port.prism.vector_count. -/
abbrev prismVectorCount : Nat := 0x2602
/-- port.prism.vector. -/
abbrev prismVector : Nat := 0x2603
/-- port.prism.phase_err. -/
abbrev prismPhaseErr : Nat := 0x2604
/-- port.prism.hv_cycle. -/
abbrev prismHvCycle : Nat := 0x2605
/-- port.lens.enable. -/
abbrev lensEnable : Nat := 0x2700
/-- port.lens.period_ms. -/
abbrev lensPeriodMs : Nat := 0x2701
/-- port.lens.threshold. -/
abbrev lensThreshold : Nat := 0x2702
/-- port.lens.confirm_us. -/
abbrev lensConfirmUs : Nat := 0x2703
/-- port.lens.track_div. -/
abbrev lensTrackDiv : Nat := 0x2704
/-- port.lens.wake. -/
abbrev lensWake : Nat := 0x2705
/-- port.lens.baseline. -/
abbrev lensBaseline : Nat := 0x2706
/-- port.lens.last. -/
abbrev lensLast : Nat := 0x2707
/-- port.lens.cnt.unconfirmed. -/
abbrev lensCntUnconfirmed : Nat := 0x2708
/-- port.lens.cnt.skipped. -/
abbrev lensCntSkipped : Nat := 0x2709
/-- port.z8.enable. -/
abbrev z8Enable : Nat := 0x2710
/-- port.z8.threshold_mv. -/
abbrev z8ThresholdMv : Nat := 0x2711
/-- port.z8.min_us. -/
abbrev z8MinUs : Nat := 0x2712
/-- port.z8.blank. -/
abbrev z8Blank : Nat := 0x2713
/-- port.z8.wake. -/
abbrev z8Wake : Nat := 0x2714
/-- port.z8.level_mv. -/
abbrev z8LevelMv : Nat := 0x2715
/-- link.speed. -/
abbrev linkSpeed : Nat := 0x2800
/-- link.speed_max. -/
abbrev linkSpeedMax : Nat := 0x2801
/-- link.doze_speed. -/
abbrev linkDozeSpeed : Nat := 0x2802
/-- link.udp_port. -/
abbrev linkUdpPort : Nat := 0x2803
/-- link.ipv4.mode. -/
abbrev linkIpv4Mode : Nat := 0x2804
/-- link.ipv4.addr. -/
abbrev linkIpv4Addr : Nat := 0x2805
/-- link.ipv4.prefix. -/
abbrev linkIpv4Prefix : Nat := 0x2806
/-- link.ack_delay_us. -/
abbrev linkAckDelayUs : Nat := 0x2807
/-- link.nak_repeat_us. -/
abbrev linkNakRepeatUs : Nat := 0x2808
/-- link.retx_timeout_us. -/
abbrev linkRetxTimeoutUs : Nat := 0x2809
/-- link.host_timeout_ms. -/
abbrev linkHostTimeoutMs : Nat := 0x280A
/-- link.item_check. -/
abbrev linkItemCheck : Nat := 0x280B
/-- link.cnt.rx_foreign. -/
abbrev linkCntRxForeign : Nat := 0x2810
/-- link.cnt.rx_dropped. -/
abbrev linkCntRxDropped : Nat := 0x2811
/-- link.cnt.rx_crc. -/
abbrev linkCntRxCrc : Nat := 0x2812
/-- link.cnt.rx_dup. -/
abbrev linkCntRxDup : Nat := 0x2813
/-- link.cnt.refused. -/
abbrev linkCntRefused : Nat := 0x2814
/-- link.cnt.nak_sent. -/
abbrev linkCntNakSent : Nat := 0x2815
/-- link.cnt.retx. -/
abbrev linkCntRetx : Nat := 0x2816
/-- link.cnt.item_check_fail. -/
abbrev linkCntItemCheckFail : Nat := 0x2817
/-- link.q.stale_us. -/
abbrev linkQStaleUs : Nat := 0x2820
/-- link.q.wm_cells. -/
abbrev linkQWmCells : Nat := 0x2821
/-- link.q.status. -/
abbrev linkQStatus : Nat := 0x2822
/-- module.power.class. -/
abbrev modulePowerClass : Nat := 0x2900
/-- module.power.alloc_mw. -/
abbrev modulePowerAllocMw : Nat := 0x2901
/-- module.power.request_mw. -/
abbrev modulePowerRequestMw : Nat := 0x2902
/-- module.power.input_mv. -/
abbrev modulePowerInputMv : Nat := 0x2903
/-- module.power.input_mw. -/
abbrev modulePowerInputMw : Nat := 0x2904
/-- cluster.ptp.domain. -/
abbrev clusterPtpDomain : Nat := 0x2A00
/-- cluster.ptp.priority1. -/
abbrev clusterPtpPriority1 : Nat := 0x2A01
/-- cluster.ptp.priority2. -/
abbrev clusterPtpPriority2 : Nat := 0x2A02
/-- cluster.ptp.role. -/
abbrev clusterPtpRole : Nat := 0x2A03
/-- cluster.time.lock. -/
abbrev clusterTimeLock : Nat := 0x2A04
/-- cluster.time.offset_ns. -/
abbrev clusterTimeOffsetNs : Nat := 0x2A05
/-- cluster.time.holdover_ms. -/
abbrev clusterTimeHoldoverMs : Nat := 0x2A06
/-- cluster.sync.mode. -/
abbrev clusterSyncMode : Nat := 0x2A07
/-- cluster.sync.in_delay. -/
abbrev clusterSyncInDelay : Nat := 0x2A08
/-- cluster.sync.head. -/
abbrev clusterSyncHead : Nat := 0x2A09
/-- cluster.trellis.enable. -/
abbrev clusterTrellisEnable : Nat := 0x2A0A
/-- cluster.plan.active. -/
abbrev clusterPlanActive : Nat := 0x2A0B
/-- cluster.plan.pending. -/
abbrev clusterPlanPending : Nat := 0x2A0C
/-- cluster.plan.frame. -/
abbrev clusterPlanFrame : Nat := 0x2A0D
/-- cluster.adjacent_cdb. -/
abbrev clusterAdjacentCdb : Nat := 0x2A0E
/-- cluster.dedup.enable. -/
abbrev clusterDedupEnable : Nat := 0x2A0F
/-- port.cl.xcoupling. -/
abbrev clXcoupling : Nat := 0x2A20
/-- sec.root.kind. -/
abbrev secRootKind : Nat := 0x2B00
/-- sec.casks.live. -/
abbrev secCasksLive : Nat := 0x2B01
/-- sec.cred.transport_cask. -/
abbrev secCredTransportCask : Nat := 0x2B02
/-- sec.cred.verify. -/
abbrev secCredVerify : Nat := 0x2B03
/-- sec.store.records_free. -/
abbrev secStoreRecordsFree : Nat := 0x2B04
/-- sec.puf.margin. -/
abbrev secPufMargin : Nat := 0x2B05
/-- fw.svn_floor. -/
abbrev fwSvnFloor : Nat := 0x2B06
/-- sec.cnt.operations. -/
abbrev secCntOperations : Nat := 0x2B10
/-- sec.cnt.refused. -/
abbrev secCntRefused : Nat := 0x2B11
/-- svc.swap.auto. -/
abbrev svcSwapAuto : Nat := 0x2C00
/-- svc.swap.defer_ms. -/
abbrev svcSwapDeferMs : Nat := 0x2C01
/-- svc.spares.free. -/
abbrev svcSparesFree : Nat := 0x2C02
/-- svc.fw.hold_ms. -/
abbrev svcFwHoldMs : Nat := 0x2C03
/-- svc.events.folded. -/
abbrev svcEventsFolded : Nat := 0x2C04
/-- svc.avail.powered_s. -/
abbrev svcAvailPoweredS : Nat := 0x2C10
/-- svc.avail.halted_s. -/
abbrev svcAvailHaltedS : Nat := 0x2C11
/-- svc.avail.port_interrupt_us. -/
abbrev svcAvailPortInterruptUs : Nat := 0x2C12
/-- svc.avail.unavailability. -/
abbrev svcAvailUnavailability : Nat := 0x2C13
/-- pm.vcore_mv. -/
abbrev pmVcoreMv : Nat := 0x2D00
/-- pm.reset.cause. -/
abbrev pmResetCause : Nat := 0x2D01
/-- pm.boot.hold_cause. -/
abbrev pmBootHoldCause : Nat := 0x2D02
/-- pm.boot.time_ms. -/
abbrev pmBootTimeMs : Nat := 0x2D03
/-- pm.boot.config_result. -/
abbrev pmBootConfigResult : Nat := 0x2D04
/-- pm.cal.skipped. -/
abbrev pmCalSkipped : Nat := 0x2D05
/-- pm.rail.vio_mv. -/
abbrev pmRailVioMv : Nat := 0x2D06
/-- pm.rail.vana_mv. -/
abbrev pmRailVanaMv : Nat := 0x2D07
/-- pm.rail.vpa_mv. -/
abbrev pmRailVpaMv : Nat := 0x2D08
/-- pm.vaux_mv. -/
abbrev pmVauxMv : Nat := 0x2D09
/-- pm.rail.log. -/
abbrev pmRailLog : Nat := 0x2D0A
/-- pm.baseplate_mdegc. -/
abbrev pmBaseplateMdegc : Nat := 0x2D0B
/-- diag.map.port_slice. -/
abbrev diagMapPortSlice : Nat := 0x2E00
/-- diag.map.port_engine. -/
abbrev diagMapPortEngine : Nat := 0x2E01
/-- diag.pm.path_ns. -/
abbrev diagPmPathNs : Nat := 0x2E02
/-- diag.tbank.timer. -/
abbrev diagTbankTimer : Nat := 0x2E03
/-- diag.trig.mode. -/
abbrev diagTrigMode : Nat := 0x2E04
/-- diag.cap.enable. -/
abbrev diagCapEnable : Nat := 0x2E05

end A

/-- Module and configuration (Table 8-18). -/
def attrs1 : List AttrRow := [
  { id := A.moduleState, typ := 1, n := 1, rw := false, scope := .module },
  { id := A.moduleId, typ := 1, n := 1, rw := false, scope := .module },
  { id := A.moduleSerial, typ := 7, n := 1, rw := false, scope := .module },
  { id := A.moduleBootCount, typ := 5, n := 1, rw := false, scope := .module },
  { id := A.moduleFwVersion, typ := 3, n := 1, rw := false, scope := .module },
  { id := A.moduleLifeCycle, typ := 1, n := 1, rw := false, scope := .module },
  { id := A.moduleDebugOpen, typ := 1, n := 1, rw := false, scope := .module },
  { id := A.moduleSchedCount, typ := 1, n := 1, rw := true, scope := .module, lo := 0, hi := 45, dflt := [0] },
  { id := A.configCommitId, typ := 5, n := 1, rw := false, scope := .module },
  { id := A.configSavedId, typ := 5, n := 1, rw := false, scope := .module }]

/-- Port radio (Table 2-14). -/
def attrs20 : List AttrRow := [
  { id := A.radioChannel, typ := 1, n := 1, rw := true, scope := .port, lo := 0, hi := 6, dflt := [3] },
  { id := A.radioIdleState, typ := 1, n := 1, rw := true, scope := .port, lo := 0, hi := 3, dflt := [3] },
  { id := A.radioState, typ := 1, n := 1, rw := false, scope := .port },
  { id := A.txPowerCdbm, typ := 4, n := 1, rw := true, scope := .port, lo := 0, hi := 3097, dflt := [2700] },
  { id := A.txCeilingCdbm, typ := 4, n := 1, rw := true, scope := .port, lo := 0, hi := 32767 },
  { id := A.txAskDepth, typ := 3, n := 1, rw := true, scope := .port, lo := 80, hi := 300, dflt := [120] },
  { id := A.txVswr, typ := 3, n := 1, rw := false, scope := .port },
  { id := A.fieldGuardUs, typ := 3, n := 1, rw := true, scope := .port, lo := 0, hi := 65000 },
  { id := A.fieldOffMinUs, typ := 3, n := 1, rw := true, scope := .port, lo := 0, hi := 65000 },
  { id := A.fieldDutyLimit, typ := 3, n := 1, rw := true, scope := .port, lo := 1, hi := 65535 },
  { id := A.qdMode, typ := 1, n := 1, rw := true, scope := .port, lo := 0, hi := 2, dflt := [0] },
  { id := A.qdHoldUs, typ := 3, n := 1, rw := true, scope := .port, lo := 0, hi := 1000, dflt := [20] },
  { id := A.tnAutotune, typ := 1, n := 1, rw := true, scope := .port, lo := 0, hi := 2 },
  { id := A.tnFixedMv, typ := 3, n := 1, rw := true, scope := .port, lo := 0, hi := 12000, extra := [65535], dflt := [65535] },
  { id := A.tnMv, typ := 3, n := 1, rw := false, scope := .port },
  { id := A.tunePhase, typ := 4, n := 1, rw := false, scope := .port },
  { id := A.aerialClass, typ := 1, n := 1, rw := false, scope := .port },
  { id := A.pressPriority, typ := 1, n := 1, rw := true, scope := .port, lo := 0, hi := 7, dflt := [4] },
  { id := A.pressTimeoutUs, typ := 3, n := 1, rw := true, scope := .port, lo := 0, hi := 65000, dflt := [10000] }]

/-- Regulatory profile and Press (Table 2-14). -/
def attrs21 : List AttrRow := [
  { id := A.moduleRegProfile, typ := 1, n := 1, rw := false, scope := .module },
  { id := A.moduleRegChannelMask, typ := 1, n := 1, rw := false, scope := .module },
  { id := A.moduleRegPortCeilingCdbm, typ := 4, n := 1, rw := false, scope := .module },
  { id := A.moduleRegTotalMw, typ := 5, n := 1, rw := false, scope := .module },
  { id := A.moduleRegDutyLimit, typ := 3, n := 1, rw := false, scope := .module },
  { id := A.moduleTxChannelMask, typ := 1, n := 1, rw := true, scope := .module, lo := 0, hi := 127 },
  { id := A.pressBudgetMw, typ := 5, n := 1, rw := true, scope := .module, lo := 1000, hi := 4294967295 },
  { id := A.pressReserveMw, typ := 5, n := 1, rw := false, scope := .module },
  { id := A.pressAvailableMw, typ := 5, n := 1, rw := false, scope := .module },
  { id := A.pressGrantedMw, typ := 5, n := 1, rw := false, scope := .module },
  { id := A.pressClass, typ := 1, n := 1, rw := false, scope := .module }]

/-- Receive chain (Table 3-15). -/
def attrs22 : List AttrRow := [
  { id := A.rxAgcMode, typ := 1, n := 1, rw := true, scope := .port, lo := 0, hi := 2, dflt := [2] },
  { id := A.rxGainInitial, typ := 1, n := 1, rw := true, scope := .port, lo := 0, hi := 7, dflt := [4] },
  { id := A.rxLevelAgeMs, typ := 3, n := 1, rw := true, scope := .port, lo := 1, hi := 10000, dflt := [100] },
  { id := A.rxNoiseCdbm, typ := 4, n := 1, rw := false, scope := .port },
  { id := A.rxNoiseFieldCdbm, typ := 4, n := 1, rw := false, scope := .port },
  { id := A.rxNoiseAlarmCdbm, typ := 4, n := 1, rw := true, scope := .port, lo := -12000, hi := -5000, dflt := [-9000] },
  { id := A.rxSyncErrors, typ := 1, n := 1, rw := true, scope := .port, lo := 0, hi := 4, dflt := [2] },
  { id := A.rxSyncThreshold, typ := 1, n := 1, rw := true, scope := .port, lo := 64, hi := 240, dflt := [160] },
  { id := A.rxCaptureCdb, typ := 3, n := 1, rw := true, scope := .port, lo := 600, hi := 2000, dflt := [800] },
  { id := A.rxH4MarginCdb, typ := 3, n := 1, rw := true, scope := .port, lo := 0, hi := 1000, dflt := [300] },
  { id := A.rxH4MaxBits, typ := 1, n := 1, rw := true, scope := .port, lo := 1, hi := 6, dflt := [6] },
  { id := A.rxH4NoiseCdbm, typ := 4, n := 16, rw := false, scope := .port },
  { id := A.rxH4SnrCdb, typ := 4, n := 16, rw := false, scope := .port },
  { id := A.rxH4Loading, typ := 1, n := 16, rw := false, scope := .port },
  { id := A.rxMirrorEnable, typ := 1, n := 1, rw := true, scope := .port, lo := 0, hi := 1, dflt := [1] },
  { id := A.rxMirrorFloorCdb, typ := 4, n := 1, rw := true, scope := .port, lo := -8000, hi := -2000, dflt := [-6000] },
  { id := A.rxMirrorAggressors, typ := 1, n := 8, rw := false, scope := .port },
  { id := A.rxMirrorUncovered, typ := 1, n := 1, rw := false, scope := .port },
  { id := A.rxCntFalseSync, typ := 5, n := 1, rw := false, scope := .port },
  { id := A.rxCntCrcFail, typ := 5, n := 1, rw := false, scope := .port },
  { id := A.rxCntPreempted, typ := 5, n := 1, rw := false, scope := .port },
  { id := A.rxCntClipped, typ := 5, n := 1, rw := false, scope := .port },
  { id := A.diagMirrorCoupling, typ := 4, n := 64, rw := false, scope := .port }]

/-- ISO protocols (Table 4-10). -/
def attrs23 : List AttrRow := [
  { id := A.protocol, typ := 1, n := 1, rw := true, scope := .port, lo := 0, hi := 3, dflt := [3] },
  { id := A.isoTypes, typ := 1, n := 1, rw := true, scope := .port, lo := 1, hi := 3, dflt := [3] },
  { id := A.isoMaxRate, typ := 1, n := 1, rw := true, scope := .port, lo := 0, hi := 3, dflt := [3] },
  { id := A.isoFsdi, typ := 1, n := 1, rw := true, scope := .port, lo := 0, hi := 8, dflt := [8] },
  { id := A.isoRetries, typ := 1, n := 1, rw := true, scope := .port, lo := 0, hi := 5, dflt := [2] },
  { id := A.isoWtxMax, typ := 1, n := 1, rw := true, scope := .port, lo := 1, hi := 255, dflt := [32] },
  { id := A.isoWaitMaxMs, typ := 3, n := 1, rw := true, scope := .port, lo := 10, hi := 10000, dflt := [5000] },
  { id := A.isoBRoundsMax, typ := 1, n := 1, rw := true, scope := .port, lo := 1, hi := 16, dflt := [8] },
  { id := A.isoVRate, typ := 1, n := 1, rw := true, scope := .port, lo := 0, hi := 1, dflt := [1] },
  { id := A.isoVSubcarriers, typ := 1, n := 1, rw := true, scope := .port, lo := 0, hi := 1, dflt := [0] },
  { id := A.isoVCoding, typ := 1, n := 1, rw := true, scope := .port, lo := 0, hi := 1, dflt := [0] },
  { id := A.isoVDepth, typ := 1, n := 1, rw := true, scope := .port, lo := 0, hi := 1, dflt := [1] },
  { id := A.isoVWriteWaitMs, typ := 3, n := 1, rw := true, scope := .port, lo := 1, hi := 100, dflt := [20] },
  { id := A.isoTags, typ := 1, n := 1, rw := false, scope := .port }]

/-- Hymond (Table 5-17). -/
def attrs24 : List AttrRow := [
  { id := A.hyModesEnabled, typ := 1, n := 1, rw := true, scope := .port, lo := 0, hi := 255, dflt := [51] },
  { id := A.hyDlMode, typ := 1, n := 1, rw := true, scope := .port, lo := 1, hi := 4, dflt := [2] },
  { id := A.hyUlMode, typ := 1, n := 1, rw := true, scope := .port, lo := 1, hi := 4, dflt := [2] },
  { id := A.hyReplyDelayTicks, typ := 3, n := 1, rw := true, scope := .port, lo := 64, hi := 32767, dflt := [108] },
  { id := A.hyTurnaroundTicks, typ := 3, n := 1, rw := true, scope := .port, lo := 54, hi := 32767, dflt := [108] },
  { id := A.hyRetries, typ := 1, n := 1, rw := true, scope := .port, lo := 0, hi := 5, dflt := [2] },
  { id := A.hyBusyRetries, typ := 1, n := 1, rw := true, scope := .port, lo := 0, hi := 32, dflt := [8] },
  { id := A.hyBusyWaitMaxUs, typ := 3, n := 1, rw := true, scope := .port, lo := 100, hi := 65000, dflt := [20000] },
  { id := A.hySealVerify, typ := 1, n := 1, rw := true, scope := .port, lo := 0, hi := 1, dflt := [0] },
  { id := A.hyGuardDeclaredUs, typ := 3, n := 1, rw := false, scope := .port },
  { id := A.hyHandles, typ := 3, n := 1, rw := false, scope := .port },
  { id := A.hyCntStale, typ := 5, n := 1, rw := false, scope := .port },
  { id := A.hyCntBusyWire, typ := 5, n := 1, rw := false, scope := .port },
  { id := A.hyCntRetries, typ := 5, n := 1, rw := false, scope := .port }]

/-- Harvest (Table 6-12). -/
def attrs25 : List AttrRow := [
  { id := A.hvMode, typ := 1, n := 1, rw := true, scope := .port, lo := 0, hi := 2, dflt := [0] },
  { id := A.hvTableEntries, typ := 3, n := 1, rw := true, scope := .port, lo := 0, hi := 4096, dflt := [0] },
  { id := A.hvPeriodMs, typ := 3, n := 1, rw := true, scope := .port, lo := 10, hi := 60000, dflt := [1000] },
  { id := A.hvQInitial, typ := 1, n := 1, rw := true, scope := .port, lo := 0, hi := 12, dflt := [4] },
  { id := A.hvQMin, typ := 1, n := 1, rw := true, scope := .port, lo := 0, hi := 12, dflt := [0] },
  { id := A.hvQMax, typ := 1, n := 1, rw := true, scope := .port, lo := 0, hi := 12, dflt := [10] },
  { id := A.hvQStep, typ := 1, n := 1, rw := true, scope := .port, lo := 1, hi := 16, dflt := [5] },
  { id := A.hvEmptyRounds, typ := 1, n := 1, rw := true, scope := .port, lo := 1, hi := 8, dflt := [2] },
  { id := A.hvUlMode, typ := 1, n := 1, rw := true, scope := .port, lo := 1, hi := 2, dflt := [2] },
  { id := A.hvAnnounceBytes, typ := 1, n := 1, rw := true, scope := .port, lo := 0, hi := 255, dflt := [0] },
  { id := A.hvReadAddr, typ := 3, n := 1, rw := true, scope := .port, lo := 0, hi := 65535, dflt := [256] },
  { id := A.hvReadCount, typ := 3, n := 1, rw := true, scope := .port, lo := 0, hi := 2047, dflt := [0] },
  { id := A.hvDisposal, typ := 1, n := 1, rw := true, scope := .port, lo := 0, hi := 1, dflt := [0] },
  { id := A.hvWake, typ := 1, n := 1, rw := true, scope := .port, lo := 0, hi := 1, dflt := [0] },
  { id := A.hvReportMerges, typ := 1, n := 1, rw := true, scope := .port, lo := 0, hi := 1, dflt := [0] },
  { id := A.hvCntInserted, typ := 5, n := 1, rw := false, scope := .port },
  { id := A.hvCntLost, typ := 5, n := 1, rw := false, scope := .port },
  { id := A.hvTableUsed, typ := 3, n := 1, rw := false, scope := .module },
  { id := A.hvTableAgeMs, typ := 5, n := 1, rw := true, scope := .module, lo := 100, hi := 86400000, extra := [0], dflt := [0] },
  { id := A.hvTableBestMarginCdb, typ := 3, n := 1, rw := true, scope := .module, lo := 0, hi := 2000, dflt := [300] }]

/-- Prism (Table 6-12). -/
def attrs26 : List AttrRow := [
  { id := A.prismMembers, typ := 1, n := 1, rw := true, scope := .port, lo := 0, hi := 255, dflt := [0] },
  { id := A.prismVectors, typ := 1, n := 64, rw := true, scope := .port, lo := 0, hi := 255, dflt := List.replicate 64 0 },
  { id := A.prismVectorCount, typ := 1, n := 1, rw := true, scope := .port, lo := 1, hi := 8, dflt := [1] },
  { id := A.prismVector, typ := 1, n := 1, rw := false, scope := .port },
  { id := A.prismPhaseErr, typ := 4, n := 4, rw := false, scope := .port },
  { id := A.prismHvCycle, typ := 1, n := 1, rw := true, scope := .port, lo := 0, hi := 1, dflt := [0] }]

/-- Lens and Z8 wake (Table 6-12). -/
def attrs27 : List AttrRow := [
  { id := A.lensEnable, typ := 1, n := 1, rw := true, scope := .port, lo := 0, hi := 1, dflt := [0] },
  { id := A.lensPeriodMs, typ := 3, n := 1, rw := true, scope := .port, lo := 50, hi := 1000, dflt := [200] },
  { id := A.lensThreshold, typ := 3, n := 1, rw := true, scope := .port, lo := 10, hi := 2000, dflt := [200] },
  { id := A.lensConfirmUs, typ := 3, n := 1, rw := true, scope := .port, lo := 100, hi := 10000, dflt := [2000] },
  { id := A.lensTrackDiv, typ := 3, n := 1, rw := true, scope := .port, lo := 8, hi := 4096, dflt := [64] },
  { id := A.lensWake, typ := 1, n := 1, rw := true, scope := .port, lo := 0, hi := 1, dflt := [1] },
  { id := A.lensBaseline, typ := 4, n := 2, rw := false, scope := .port },
  { id := A.lensLast, typ := 4, n := 2, rw := false, scope := .port },
  { id := A.lensCntUnconfirmed, typ := 5, n := 1, rw := false, scope := .port },
  { id := A.lensCntSkipped, typ := 5, n := 1, rw := false, scope := .port },
  { id := A.z8Enable, typ := 1, n := 1, rw := true, scope := .port, lo := 0, hi := 1, dflt := [0] },
  { id := A.z8ThresholdMv, typ := 3, n := 1, rw := true, scope := .port, lo := 20, hi := 500, dflt := [100] },
  { id := A.z8MinUs, typ := 3, n := 1, rw := true, scope := .port, lo := 50, hi := 10000, dflt := [200] },
  { id := A.z8Blank, typ := 1, n := 1, rw := true, scope := .port, lo := 0, hi := 1, dflt := [1] },
  { id := A.z8Wake, typ := 1, n := 1, rw := true, scope := .port, lo := 0, hi := 1, dflt := [1] },
  { id := A.z8LevelMv, typ := 3, n := 1, rw := false, scope := .port }]

/-- Host link (Table 7-13). -/
def attrs28 : List AttrRow := [
  { id := A.linkSpeed, typ := 1, n := 1, rw := false, scope := .module },
  { id := A.linkSpeedMax, typ := 1, n := 1, rw := true, scope := .module, lo := 2, hi := 3, dflt := [3] },
  { id := A.linkDozeSpeed, typ := 1, n := 1, rw := true, scope := .module, lo := 0, hi := 1, dflt := [0] },
  { id := A.linkUdpPort, typ := 3, n := 1, rw := true, scope := .module, lo := 1024, hi := 65535, dflt := [50640] },
  { id := A.linkIpv4Mode, typ := 1, n := 1, rw := true, scope := .module, lo := 0, hi := 3, dflt := [0] },
  { id := A.linkIpv4Addr, typ := 5, n := 1, rw := true, scope := .module, lo := 0, hi := 3758096383, dflt := [0] },
  { id := A.linkIpv4Prefix, typ := 1, n := 1, rw := true, scope := .module, lo := 8, hi := 30, dflt := [24] },
  { id := A.linkAckDelayUs, typ := 3, n := 1, rw := true, scope := .module, lo := 10, hi := 1000, dflt := [50] },
  { id := A.linkNakRepeatUs, typ := 3, n := 1, rw := true, scope := .module, lo := 50, hi := 5000, dflt := [200] },
  { id := A.linkRetxTimeoutUs, typ := 3, n := 1, rw := true, scope := .module, lo := 200, hi := 65000, dflt := [2000] },
  { id := A.linkHostTimeoutMs, typ := 3, n := 1, rw := true, scope := .module, lo := 10, hi := 60000, extra := [0], dflt := [0] },
  { id := A.linkItemCheck, typ := 1, n := 1, rw := true, scope := .module, lo := 0, hi := 3, dflt := [0] },
  { id := A.linkCntRxForeign, typ := 5, n := 1, rw := false, scope := .module },
  { id := A.linkCntRxDropped, typ := 5, n := 1, rw := false, scope := .module },
  { id := A.linkCntRxCrc, typ := 5, n := 1, rw := false, scope := .module },
  { id := A.linkCntRxDup, typ := 5, n := 1, rw := false, scope := .module },
  { id := A.linkCntRefused, typ := 5, n := 1, rw := false, scope := .module },
  { id := A.linkCntNakSent, typ := 5, n := 1, rw := false, scope := .module },
  { id := A.linkCntRetx, typ := 5, n := 1, rw := false, scope := .module },
  { id := A.linkCntItemCheckFail, typ := 5, n := 1, rw := false, scope := .module },
  { id := A.linkQStaleUs, typ := 3, n := 1, rw := true, scope := .queue, lo := 0, hi := 65535, dflt := [200] },
  { id := A.linkQWmCells, typ := 3, n := 2, rw := true, scope := .queue, lo := 0, hi := 65535 },
  { id := A.linkQStatus, typ := 5, n := 2, rw := false, scope := .queue }]

/-- Power over the cable (Table 7-13). -/
def attrs29 : List AttrRow := [
  { id := A.modulePowerClass, typ := 1, n := 1, rw := false, scope := .module },
  { id := A.modulePowerAllocMw, typ := 5, n := 1, rw := false, scope := .module },
  { id := A.modulePowerRequestMw, typ := 5, n := 1, rw := true, scope := .module, lo := 51000, hi := 71300, dflt := [71300] },
  { id := A.modulePowerInputMv, typ := 3, n := 1, rw := false, scope := .module },
  { id := A.modulePowerInputMw, typ := 5, n := 1, rw := false, scope := .module }]

/-- Cluster (09). -/
def attrs2A : List AttrRow := [
  { id := A.clusterPtpDomain, typ := 1, n := 1, rw := true, scope := .module, lo := 0, hi := 127, dflt := [0] },
  { id := A.clusterPtpPriority1, typ := 1, n := 1, rw := true, scope := .module, lo := 0, hi := 255, dflt := [250] },
  { id := A.clusterPtpPriority2, typ := 1, n := 1, rw := false, scope := .module },
  { id := A.clusterPtpRole, typ := 1, n := 1, rw := false, scope := .module },
  { id := A.clusterTimeLock, typ := 1, n := 1, rw := false, scope := .module },
  { id := A.clusterTimeOffsetNs, typ := 6, n := 1, rw := false, scope := .module },
  { id := A.clusterTimeHoldoverMs, typ := 3, n := 1, rw := true, scope := .module, lo := 0, hi := 10000, dflt := [1000] },
  { id := A.clusterSyncMode, typ := 1, n := 1, rw := true, scope := .module, lo := 0, hi := 1, dflt := [0] },
  { id := A.clusterSyncInDelay, typ := 5, n := 1, rw := true, scope := .module, lo := 0, hi := 1000000, dflt := [0] },
  { id := A.clusterSyncHead, typ := 1, n := 1, rw := false, scope := .module },
  { id := A.clusterTrellisEnable, typ := 1, n := 1, rw := true, scope := .module, lo := 0, hi := 1, dflt := [0] },
  { id := A.clusterPlanActive, typ := 5, n := 1, rw := false, scope := .module },
  { id := A.clusterPlanPending, typ := 5, n := 1, rw := false, scope := .module },
  { id := A.clusterPlanFrame, typ := 7, n := 1, rw := false, scope := .module },
  { id := A.clusterAdjacentCdb, typ := 4, n := 1, rw := true, scope := .module, lo := -8000, hi := -3000, dflt := [-6000] },
  { id := A.clusterDedupEnable, typ := 1, n := 1, rw := true, scope := .module, lo := 0, hi := 1, dflt := [1] },
  { id := A.clXcoupling, typ := 5, n := 16, rw := false, scope := .port }]

/-- Keys and life cycle (10). -/
def attrs2B : List AttrRow := [
  { id := A.secRootKind, typ := 1, n := 1, rw := false, scope := .module },
  { id := A.secCasksLive, typ := 3, n := 1, rw := false, scope := .module },
  { id := A.secCredTransportCask, typ := 3, n := 1, rw := true, scope := .module, lo := 0, hi := 1023, extra := [65535], dflt := [65535] },
  { id := A.secCredVerify, typ := 1, n := 1, rw := true, scope := .module, lo := 0, hi := 1, dflt := [1] },
  { id := A.secStoreRecordsFree, typ := 3, n := 1, rw := false, scope := .module },
  { id := A.secPufMargin, typ := 1, n := 1, rw := false, scope := .module },
  { id := A.fwSvnFloor, typ := 3, n := 1, rw := false, scope := .module },
  { id := A.secCntOperations, typ := 5, n := 1, rw := false, scope := .module },
  { id := A.secCntRefused, typ := 5, n := 1, rw := false, scope := .module }]

/-- Sparing and wear (11). -/
def attrs2C : List AttrRow := [
  { id := A.svcSwapAuto, typ := 1, n := 1, rw := true, scope := .module, lo := 0, hi := 1, dflt := [1] },
  { id := A.svcSwapDeferMs, typ := 3, n := 1, rw := true, scope := .module, lo := 0, hi := 60000, dflt := [10000] },
  { id := A.svcSparesFree, typ := 3, n := 7, rw := false, scope := .module },
  { id := A.svcFwHoldMs, typ := 3, n := 1, rw := true, scope := .module, lo := 1, hi := 100, dflt := [10] },
  { id := A.svcEventsFolded, typ := 5, n := 7, rw := false, scope := .module },
  { id := A.svcAvailPoweredS, typ := 7, n := 1, rw := false, scope := .module },
  { id := A.svcAvailHaltedS, typ := 7, n := 1, rw := false, scope := .module },
  { id := A.svcAvailPortInterruptUs, typ := 7, n := 1, rw := false, scope := .module },
  { id := A.svcAvailUnavailability, typ := 5, n := 1, rw := false, scope := .module }]

/-- Power domains and reset (12; pm.vcore_mv of Table 8-18). -/
def attrs2D : List AttrRow := [
  { id := A.pmVcoreMv, typ := 3, n := 1, rw := false, scope := .module },
  { id := A.pmResetCause, typ := 1, n := 1, rw := false, scope := .module },
  { id := A.pmBootHoldCause, typ := 3, n := 1, rw := false, scope := .module },
  { id := A.pmBootTimeMs, typ := 3, n := 1, rw := false, scope := .module },
  { id := A.pmBootConfigResult, typ := 3, n := 1, rw := false, scope := .module },
  { id := A.pmCalSkipped, typ := 3, n := 1, rw := false, scope := .module },
  { id := A.pmRailVioMv, typ := 3, n := 1, rw := false, scope := .module },
  { id := A.pmRailVanaMv, typ := 3, n := 1, rw := false, scope := .module },
  { id := A.pmRailVpaMv, typ := 3, n := 8, rw := false, scope := .module },
  { id := A.pmVauxMv, typ := 3, n := 1, rw := false, scope := .module },
  { id := A.pmRailLog, typ := 5, n := 16, rw := false, scope := .module },
  { id := A.pmBaseplateMdegc, typ := 6, n := 1, rw := false, scope := .module }]

/-- Diagnostics (Table 8-18). -/
def attrs2E : List AttrRow := [
  { id := A.diagMapPortSlice, typ := 1, n := 64, rw := false, scope := .module },
  { id := A.diagMapPortEngine, typ := 1, n := 64, rw := false, scope := .module },
  { id := A.diagPmPathNs, typ := 3, n := 1, rw := false, scope := .module },
  { id := A.diagTbankTimer, typ := 7, n := 2, rw := false, scope := .timer },
  { id := A.diagTrigMode, typ := 1, n := 1, rw := true, scope := .trig, lo := 0, hi := 2, dflt := [0] },
  { id := A.diagCapEnable, typ := 1, n := 1, rw := true, scope := .trig, lo := 0, hi := 1, dflt := [0] }]

/-- Every attribute of the module, in ID order (Table 8-17). -/
def attrTable : List AttrRow :=
  attrs1 ++ attrs20 ++ attrs21 ++ attrs22 ++ attrs23 ++ attrs24 ++ attrs25 ++ attrs26 ++ attrs27 ++ attrs28 ++ attrs29 ++ attrs2A ++ attrs2B ++ attrs2C ++ attrs2D ++ attrs2E

/-- The row of an attribute ID; none for an unknown ID (R422, R437). -/
def attrRow (id : Nat) : Option AttrRow := attrTable.find? (·.id == id)

/-- The size in bytes of one element of a type code (Table 8-6); none where the code is not of the table. -/
def typeSize (t : Nat) : Option Nat :=
  match t with
  | 1 | 2 => some 1
  | 3 | 4 => some 2
  | 5 | 6 => some 4
  | 7 => some 8
  | _ => none

/-- Whether a type code is signed (Table 8-6). -/
def typeSigned (t : Nat) : Bool := t == 2 || t == 4 || t == 6

/-- The indices of an attribute, in index order; a module-wide attribute has the one index 0xFFFF (R421). -/
def indicesOf : Scope → List Nat
  | .module => [0xFFFF]
  | .port => List.range 64
  | .queue => List.range 72
  | .timer => List.range 256
  | .trig => List.range 8

/-- The indices a record's INDEX names on an attribute: the one index, every index for 0xFFFE on an indexed attribute,
and none for an index outside these (R421; the queue bytes of Table 7-3 run from 0x00 to 0x47). -/
def expandIndex (sc : Scope) (index : Nat) : List Nat :=
  if sc != .module && index == 0xFFFE then indicesOf sc
  else if (indicesOf sc).contains index then [index] else []

/-- Whether a value lies within the fixed bounds of an attribute's Range column (R422). -/
def AttrRow.inBounds (r : AttrRow) (v : Int) : Bool := (r.lo ≤ v && v ≤ r.hi) || r.extra.contains v

end Sys2Proof.Machine
end

