-- ==== Sys2Proof/Machine/Crc.lean ====
section
/-!
DEFINITION. The check values of the spec: CRC_A, CRC_B and the ISO/IEC 15693 CRC (Table 4-3), CRC-16 and CRC-32C of Hymond (R244, R245),
and the frame and item checks of the mailbox (R368, Table 7-6).
PRESUMED, unsafe: log entry 30.
-/

namespace Sys2Proof.Machine

/-- One bit of a reflected CRC register: shift right, and add the reflected polynomial when a 1 leaves. -/
def crcBit (poly r : Nat) : Nat := if r % 2 = 1 then (r / 2) ^^^ poly else r / 2

/-- One byte of a reflected CRC. -/
def crcByte (poly r : Nat) (x : Byte) : Nat :=
  let c := crcBit poly
  c (c (c (c (c (c (c (c (r ^^^ x.toNat))))))))

/-- A reflected CRC register after a byte string. PRESUMED, unsafe: log entry 30. -/
def crcRun (poly preset : Nat) (x : Bytes) : Nat := x.foldl (crcByte poly) preset

/-- Polynomial 0x1021, reflected. -/
def poly1021 : Nat := 0x8408

/-- CRC_A: preset 0x6363, no complement (Table 4-3). -/
def crcA (x : Bytes) : Nat := crcRun poly1021 0x6363 x

/-- CRC-16: polynomial 0x1021, preset 0xFFFF, reflected, final complement: CRC_B, the ISO/IEC 15693 CRC, the Hymond header check
(R244) and item check selector 0x01. -/
def crc16 (x : Bytes) : Nat := crcRun poly1021 0xFFFF x ^^^ 0xFFFF

/-- CRC-32C: polynomial 0x1EDC_6F41, preset all ones, reflected, final complement (R245, R368). -/
def crc32c (x : Bytes) : Nat := crcRun 0x82F63B78 0xFFFFFFFF x ^^^ 0xFFFFFFFF

/-- CRC-32 with polynomial 0x04C1_1DB7 (item check selector 0x02, Table 7-6). -/
def crc32 (x : Bytes) : Nat := crcRun 0xEDB88320 0xFFFFFFFF x ^^^ 0xFFFFFFFF

/-- The size `c` of the item check a selector names (Table 7-6). -/
def checkSize : Nat → Nat
  | 1 => 2
  | 2 => 4
  | 3 => 4
  | _ => 0

/-- The item check of selector `sel` over a byte string (Table 7-6). -/
def checkOf (sel : Nat) (x : Bytes) : Bytes :=
  match sel with
  | 1 => le 2 (crc16 x)
  | 2 => le 4 (crc32 x)
  | 3 => le 4 (crc32c x)
  | _ => []

end Sys2Proof.Machine
end

