-- ==== Sys2Proof/Machine/Codes.lean ====
section
/-!
DEFINITION. The error codes (Tables 8-22, 7-15, 3-12, 4-11 and 5-18) and the event codes (Table 8-20).
-/

namespace Sys2Proof.Machine

namespace E

/-- Success. -/
abbrev ok : Nat := 0x0000
/-- E_LINK_VERSION. -/
abbrev linkVersion : Nat := 0x0101
/-- E_NO_CREDIT. -/
abbrev noCredit : Nat := 0x0102
/-- E_LINK_FORMAT. -/
abbrev linkFormat : Nat := 0x0103
/-- E_QUEUE. -/
abbrev queue : Nat := 0x0104
/-- E_MODULE_ID. -/
abbrev moduleId : Nat := 0x0105
/-- E_ITEM_FORMAT. -/
abbrev itemFormat : Nat := 0x0106
/-- E_ITEM_CHECK. -/
abbrev itemCheck : Nat := 0x0107
/-- E_LINK_ALIVE. -/
abbrev linkAlive : Nat := 0x0108
/-- E_SESSION_BUSY. -/
abbrev sessionBusy : Nat := 0x0109
/-- E_NO_SESSION. -/
abbrev noSession : Nat := 0x010A
/-- E_HOST_LOST. -/
abbrev hostLost : Nat := 0x010B
/-- E_QUEUE_CLOSED. -/
abbrev queueClosed : Nat := 0x010C
/-- E_RESERVED_FIELD. -/
abbrev reservedField : Nat := 0x0201
/-- E_RANGE. -/
abbrev range : Nat := 0x0202
/-- E_OPCODE. -/
abbrev opcode : Nat := 0x0203
/-- E_WRONG_QUEUE. -/
abbrev wrongQueue : Nat := 0x0204
/-- E_BODY_LENGTH. -/
abbrev bodyLength : Nat := 0x0205
/-- E_ATTR_UNKNOWN. -/
abbrev attrUnknown : Nat := 0x0206
/-- E_ATTR_READ_ONLY. -/
abbrev attrReadOnly : Nat := 0x0207
/-- E_ATTR_TYPE. -/
abbrev attrType : Nat := 0x0208
/-- E_CONFIRM. -/
abbrev confirm : Nat := 0x0209
/-- E_MODULE_STATE. -/
abbrev moduleState : Nat := 0x020A
/-- E_RESOURCE_CONFLICT. -/
abbrev resourceConflict : Nat := 0x0210
/-- E_RESOURCE_EXHAUSTED. -/
abbrev resourceExhausted : Nat := 0x0211
/-- E_RESOURCE_NOT_OWNED. -/
abbrev resourceNotOwned : Nat := 0x0212
/-- E_ABOVE_REG_LIMIT. -/
abbrev aboveRegLimit : Nat := 0x0220
/-- E_AERIAL_MISMATCH. -/
abbrev aerialMismatch : Nat := 0x0222
/-- E_COUPLING_LIMIT. -/
abbrev couplingLimit : Nat := 0x0223
/-- E_PRISM_RULE. -/
abbrev prismRule : Nat := 0x0224
/-- E_SYNTH_UNLOCKED. -/
abbrev synthUnlocked : Nat := 0x0301
/-- E_PRESS_TIMEOUT. -/
abbrev pressTimeout : Nat := 0x0302
/-- E_CANCELLED. -/
abbrev cancelled : Nat := 0x0303
/-- E_INTERLOCK. -/
abbrev interlock : Nat := 0x0304
/-- E_DUTY_LIMIT. -/
abbrev dutyLimit : Nat := 0x0305
/-- E_TUNE_RANGE. -/
abbrev tuneRange : Nat := 0x0306
/-- E_PORT_MISMATCH. -/
abbrev portMismatch : Nat := 0x0307
/-- E_NO_AERIAL. -/
abbrev noAerial : Nat := 0x0308
/-- E_PRESS_SHED. -/
abbrev pressShed : Nat := 0x0309
/-- E_PA_LOOP. -/
abbrev paLoop : Nat := 0x030A
/-- E_PRISM_PHASE. -/
abbrev prismPhase : Nat := 0x030B
/-- E_PORT_SWAP. -/
abbrev portSwap : Nat := 0x030C
/-- E_TIMING_LATE. -/
abbrev timingLate : Nat := 0x0320
/-- E_TX_UNDERRUN. -/
abbrev txUnderrun : Nat := 0x0321
/-- E_RX_OVERRUN. -/
abbrev rxOverrun : Nat := 0x0322
/-- E_RX_NO_RESPONSE. -/
abbrev rxNoResponse : Nat := 0x0330
/-- E_RX_CRC. -/
abbrev rxCrc : Nat := 0x0331
/-- E_RX_PREEMPTED. -/
abbrev rxPreempted : Nat := 0x0333
/-- E_RX_COLLISION. -/
abbrev rxCollision : Nat := 0x0334
/-- E_RX_CODING. -/
abbrev rxCoding : Nat := 0x0335
/-- E_RX_LENGTH. -/
abbrev rxLength : Nat := 0x0336
/-- E_PORT_BUSY. -/
abbrev portBusy : Nat := 0x0337
/-- E_H4_LOADING. -/
abbrev h4Loading : Nat := 0x0338
/-- E_RX_MODE. -/
abbrev rxMode : Nat := 0x0339
/-- E_ISO_PARITY. -/
abbrev isoParity : Nat := 0x0401
/-- E_ISO_BCC. -/
abbrev isoBcc : Nat := 0x0402
/-- E_ISO_NO_TAG. -/
abbrev isoNoTag : Nat := 0x0403
/-- E_ISO_UNRESOLVED. -/
abbrev isoUnresolved : Nat := 0x0404
/-- E_ISO_STATE. -/
abbrev isoState : Nat := 0x0405
/-- E_ISO_HANDLE. -/
abbrev isoHandle : Nat := 0x0406
/-- E_ISO_RETRIES. -/
abbrev isoRetries : Nat := 0x0408
/-- E_ISO_WAIT_LIMIT. -/
abbrev isoWaitLimit : Nat := 0x0409
/-- E_ISO_OVERSIZE. -/
abbrev isoOversize : Nat := 0x040A
/-- E_ISO_ACTIVATION. -/
abbrev isoActivation : Nat := 0x040B
/-- E_ISO_CID_FULL. -/
abbrev isoCidFull : Nat := 0x040C
/-- E_ISO_TAG_ERROR. -/
abbrev isoTagError : Nat := 0x040D
/-- E_ISO_LIST_FULL. -/
abbrev isoListFull : Nat := 0x040E
/-- E_ISO_TYPE. -/
abbrev isoType : Nat := 0x040F
/-- E_HY_HANDLE. -/
abbrev hyHandle : Nat := 0x0420
/-- E_HY_STATE. -/
abbrev hyState : Nat := 0x0421
/-- E_HY_ALIVE. -/
abbrev hyAlive : Nat := 0x0422
/-- E_HY_RETRIES. -/
abbrev hyRetries : Nat := 0x0423
/-- E_TAG_WIRE_BUSY. -/
abbrev tagWireBusy : Nat := 0x0424
/-- E_HY_TAG_STATUS. -/
abbrev hyTagStatus : Nat := 0x0425
/-- E_HY_SEAL_CHECK. -/
abbrev hySealCheck : Nat := 0x0426
/-- E_HY_SEAL_UNKNOWN. -/
abbrev hySealUnknown : Nat := 0x0427
/-- E_HY_VERIFY. -/
abbrev hyVerify : Nat := 0x0428
/-- E_HY_MODE. -/
abbrev hyMode : Nat := 0x0429
/-- E_HY_NO_TAG. -/
abbrev hyNoTag : Nat := 0x042A
/-- E_HY_UNRESOLVED. -/
abbrev hyUnresolved : Nat := 0x042B
/-- E_HY_LIST_FULL. -/
abbrev hyListFull : Nat := 0x042C
/-- E_HY_FRAME. -/
abbrev hyFrame : Nat := 0x042D
/-- E_HV_TABLE_FULL. -/
abbrev hvTableFull : Nat := 0x0440
/-- E_HV_STOPPED. -/
abbrev hvStopped : Nat := 0x0441
/-- E_KEY_REVOKED. -/
abbrev keyRevoked : Nat := 0x0501
/-- E_CASK_EMPTY. -/
abbrev caskEmpty : Nat := 0x0502
/-- E_CASK_USAGE. -/
abbrev caskUsage : Nat := 0x0503
/-- E_CASK_INVOKER. -/
abbrev caskInvoker : Nat := 0x0504
/-- E_CASK_LIFE_CYCLE. -/
abbrev caskLifeCycle : Nat := 0x0505
/-- E_CASK_OCCUPIED. -/
abbrev caskOccupied : Nat := 0x0506
/-- E_UNWRAP. -/
abbrev unwrap : Nat := 0x0507
/-- E_LIFE_CYCLE_ORDER. -/
abbrev lifeCycleOrder : Nat := 0x0508
/-- E_CRED_VERIFY. -/
abbrev credVerify : Nat := 0x050A
/-- E_FW_SIGNATURE. -/
abbrev fwSignature : Nat := 0x050B
/-- E_DEBUG_LOCKED. -/
abbrev debugLocked : Nat := 0x050C
/-- E_PLAN_INVALID. -/
abbrev planInvalid : Nat := 0x0601
/-- E_PLAN_LATE. -/
abbrev planLate : Nat := 0x0602
/-- E_TIME_UNLOCKED. -/
abbrev timeUnlocked : Nat := 0x0603
/-- E_PLAN_UNKNOWN. -/
abbrev planUnknown : Nat := 0x0604
/-- E_FW_SEQUENCE. -/
abbrev fwSequence : Nat := 0x0701
/-- E_MODULE_HALTED. -/
abbrev moduleHalted : Nat := 0x0702
/-- E_NO_SPARE. -/
abbrev noSpare : Nat := 0x0703
/-- E_FW_IMAGE. -/
abbrev fwImage : Nat := 0x0704
/-- E_SELF_TEST. -/
abbrev selfTest : Nat := 0x0705
/-- E_CAPTURE_BUSY. -/
abbrev captureBusy : Nat := 0x0706
/-- E_RAIL_FAULT. -/
abbrev railFault : Nat := 0x0711
/-- E_RAIL_ORDER. -/
abbrev railOrder : Nat := 0x0710
/-- E_STRAP. -/
abbrev strap : Nat := 0x0712

end E

namespace Ev

/-- EV_LINK_SPEED. -/
abbrev linkSpeed : Nat := 0x8101
/-- EV_POWER_ALLOC. -/
abbrev powerAlloc : Nat := 0x8102
/-- EV_QUEUE_WATERMARK. -/
abbrev queueWatermark : Nat := 0x8103
/-- EV_HOST_LOST. -/
abbrev hostLost : Nat := 0x8104
/-- EV_SYNTH_LOCK_LOST. -/
abbrev synthLockLost : Nat := 0x8301
/-- EV_AERIAL_CHANGED. -/
abbrev aerialChanged : Nat := 0x8302
/-- EV_INTERLOCK. -/
abbrev interlock : Nat := 0x8303
/-- EV_DUTY_LIMIT. -/
abbrev dutyLimit : Nat := 0x8304
/-- EV_PORT_MISMATCH. -/
abbrev portMismatch : Nat := 0x8305
/-- EV_DPD_RELEARN. -/
abbrev dpdRelearn : Nat := 0x8306
/-- EV_TUNE_DRIFT. -/
abbrev tuneDrift : Nat := 0x8307
/-- EV_PRESS_SHED. -/
abbrev pressShed : Nat := 0x8308
/-- EV_NOISE_HIGH. -/
abbrev noiseHigh : Nat := 0x8310
/-- EV_MIRROR_UNCOVERED. -/
abbrev mirrorUncovered : Nat := 0x8311
/-- EV_PRISM_RECAL. -/
abbrev prismRecal : Nat := 0x8320
/-- EV_LENS_DETECT. -/
abbrev lensDetect : Nat := 0x8321
/-- EV_LENS_CLEAR. -/
abbrev lensClear : Nat := 0x8322
/-- EV_Z8_FIELD. -/
abbrev z8Field : Nat := 0x8323
/-- EV_Z8_FIELD_GONE. -/
abbrev z8FieldGone : Nat := 0x8324
/-- EV_HY_GUARD_RAISED. -/
abbrev hyGuardRaised : Nat := 0x8401
/-- EV_LIFE_CYCLE. -/
abbrev lifeCycle : Nat := 0x8501
/-- EV_CASK_RECOVERED. -/
abbrev caskRecovered : Nat := 0x8502
/-- EV_TIME_LOCK. -/
abbrev timeLock : Nat := 0x8601
/-- EV_PLAN_ACTIVE. -/
abbrev planActive : Nat := 0x8602
/-- EV_ID_CLASH. -/
abbrev idClash : Nat := 0x8603
/-- EV_STATE. -/
abbrev state : Nat := 0x8701
/-- EV_LOST. -/
abbrev lost : Nat := 0x8702
/-- EV_SWAP. -/
abbrev swap : Nat := 0x8703
/-- EV_WEAR. -/
abbrev wear : Nat := 0x8704
/-- EV_FIRMWARE. -/
abbrev firmware : Nat := 0x8705
/-- EV_VCORE_CEILING. -/
abbrev vcoreCeiling : Nat := 0x8706

end Ev

end Sys2Proof.Machine
end

