-- ==== Sys2Proof/Machine/State.lean ====
section
/-!
DEFINITION. The state of the block: every register, ring, buffer, counter, mode and pin the spec gives the Z64, as plain data,
with the queue of the commands that wait (`pending`). The defaults of the structures are the values at reset (`State.reset`):
the module just released from reset into BOOT after power-on (R34, R564, Table 12-9).
INVENTORY.md lists each piece with its rule and its reset value.
-/

namespace Sys2Proof.Machine

/-- The faults. -/
inductive Fault where
  /-- Raised by PI_VOLTAGE_FAIL when the PI voltage lies beyond the absolute maximum of R587: the spec says that beyond it the
  behaviour is not defined. Safe: the model stops. DEDUCED, safe: log entry 9. -/
  | beyondAbsoluteMaximum
  deriving DecidableEq, Repr

/-- The refusals. -/
inductive Refusal where
  /-- A command that has no meaning yet, by its mnemonic. Safe: the model stops. -/
  | notModelled (mnemonic : String)
  deriving DecidableEq, Repr

/-! ### The module, its pins, its rails -/

/-- The module states (Table 7-7). POWER_UP stands for the time in reset as well (Table 12-6). -/
inductive ModState where
  | powerUp | boot | cal | service | doze | halted
  deriving DecidableEq, Repr

/-- The code of a module state (Table 7-7, record HELLO_ACK). -/
def ModState.code : ModState → Nat
  | .powerUp => 0 | .boot => 1 | .cal => 2 | .service => 3 | .doze => 4 | .halted => 5

/-- The module state machine and its start-up (R539 to R542, R563 to R578). DESIGN CHOICE, unsafe: log entry 7. -/
structure Mod where
  /-- The module state. At release from reset: BOOT (R564). -/
  st : ModState := .boot
  /-- Timestamp of entry to the present state (Table 8-4, MODULE_STATE). -/
  entered : Int := 0
  /-- pm.reset.cause (Table 12-4). -/
  resetCause : Nat := 1
  /-- RESET_N holds the module in reset (R564). -/
  inReset : Bool := false
  /-- The cause code of a reset that has been answered and not yet taken: no further command is taken (R416, R541); 0 for none. -/
  resetDue : Nat := 0
  /-- The queue whose ring carries that answer (R416). -/
  resetQ : Nat := 0
  /-- pm.boot.hold_cause (R557, R569). -/
  holdCause : Nat := 0
  /-- Neither firmware image runs: BOOT serves SQ5 only (R548). -/
  noImage : Bool := false
  /-- The active image has been verified at this start (R523). -/
  imageOk : Bool := false
  /-- The root has been reconstructed and checked (R482). -/
  rootOk : Bool := false
  /-- The cask store has been scanned and recovered, so Cellar answers (R518). -/
  storeOk : Bool := false
  /-- The steps of Table 12-8 have ended (R575). -/
  calDone : Bool := false
  /-- A DOZE_ENTER that waits for the ports (R342). -/
  dozeHdr : Option Hdr := none
  /-- pm.cal.skipped (R576). -/
  calSkipped : Nat := 0
  /-- pm.boot.config_result (R574). -/
  configResult : Nat := 0xFFFF
  /-- pm.boot.time_ms (R578). -/
  bootTimeMs : Nat := 0
  /-- Ticks from t0 of Table 12-9 to release from reset. -/
  preRelease : Nat := 135600
  /-- The crystal runs and is stable (R577). -/
  crystalOk : Bool := true
  /-- The straps have been read since reset (R568). -/
  strapsOk : Bool := true
  /-- SERVICE has been reached in this start (R548). -/
  served : Bool := false
  /-- The firmware events still to raise once the image is in service: ACTION and IMAGE (R548). -/
  fwNews : List (Nat × Nat) := []
  /-- The ports that Mirror has trained since CAL skipped the training (R576). -/
  trained : Nat := 0
  /-- Ticks since the last reset already charged to the availability ledger (R549). -/
  ledgerAt : Nat := 0
  deriving DecidableEq, Repr

/-- The input pins of the auxiliary connector and the supply of that connector (R83, R344, R564, R572). DESIGN CHOICE, unsafe: log entry 7. -/
structure Pins where
  /-- INTLK_N is asserted. -/
  intlk : Bool := false
  /-- The cut of R83 acts: INTLK_N asserted for long enough, or VAUX below 1.5 V. -/
  intlkActs : Bool := false
  /-- RESET_N is asserted. -/
  resetN : Bool := false
  /-- WAKE_N is asserted. -/
  wakeN : Bool := false
  /-- pm.vaux_mv. -/
  vauxMv : Nat := 3300
  deriving DecidableEq, Repr

/-- One rail of Table 12-1: whether it is enabled, whether it is in regulation, and the tick of its enable. -/
structure Rail where
  en : Bool := false
  reg : Bool := false
  enAt : Nat := 0
  deriving DecidableEq, Repr

/-- The power side: the PI, the allocation, the rails and the VCORE loop (R31 to R33, R362 to R366, R552 to R560). DESIGN CHOICE, unsafe: log entry 7.
DESIGN CHOICE, unsafe: log entry 8. -/
structure Power where
  /-- Voltage at the PI in mV (module.power.input_mv). -/
  piMv : Nat := 48000
  /-- The path of R559 acts: the input has failed. -/
  failed : Bool := false
  /-- Class of physical classification (module.power.class, R362). -/
  physClass : Nat := 8
  /-- module.power.alloc_mw (R363). -/
  allocMw : Nat := 71300
  /-- A lower allocation that has arrived and is not yet acknowledged (R364). -/
  allocPending : Option Nat := none
  /-- module.power.input_mw. -/
  inputMw : Nat := 0
  /-- Rails 0 VSTBY, 1 VIO, 2 VCORE, 3 VANA, 4 to 11 VPA0 to VPA7 (the codes of pm.rail.log). -/
  rails : List Rail := [⟨true, true, 0⟩, ⟨true, true, 0⟩, ⟨true, true, 0⟩, ⟨true, false, 0⟩] ++ List.replicate 8 ⟨false, false, 0⟩
  /-- The set levels of VPA0 to VPA7 in mV (R92). -/
  vpaSet : List Nat := List.replicate 8 6000
  /-- Sequences of R556 that have failed in a row. -/
  failedSeqs : Nat := 0
  /-- The tick at which the rails are tried again (R556, R557). -/
  retryAt : Option Nat := none
  /-- VANA and the VPA rails have been tried a second time in BOOT (R557). -/
  bootRetried : Bool := false
  /-- pm.vcore_mv (R31). -/
  vcoreMv : Nat := 850
  /-- The latest readings of the eight path monitors in ns. -/
  paths : List Nat := List.replicate 8 0
  /-- Since when the slowest monitor has read less than 650 ns without a break (R32). -/
  lowSince : Option Nat := none
  /-- The mask of the monitors that stand above 810 ns with VCORE at its ceiling, each of whose crossings has been reported (R33). -/
  above810 : Nat := 0
  deriving DecidableEq, Repr

/-! ### Configuration -/

/-- The values written into one configuration, by (attribute ID, index), in rising order.
A value that has not been written and has not been taken from a saved configuration is not listed:
it is the default of its rule (R82, R105, `dfltOf`). -/
abbrev Cfg := List ((Nat × Nat) × List Int)

/-- A commit that waits for its ports' boundaries (R57, R426, R427). -/
structure Commit where
  cfg : Cfg
  id : Nat
  /-- The command to answer; none once a swap of its supervisor has ended the command (R536). -/
  hdr : Option Hdr
  /-- Mask of the ports that have not yet applied it. -/
  waiting : Nat
  deriving DecidableEq, Repr

/-- The configuration store (R52 to R58, R424 to R428). -/
structure ConfigStore where
  running : Cfg := []
  staged : Cfg := []
  committing : Option Commit := none
  /-- config.commit_id: the last COMMIT_ID answered; 0 before the first commit. -/
  commitId : Nat := 0
  /-- CONFIG_COMMIT, CONFIG_DISCARD and CONFIG_SAVE commands that wait for the first commit (R427). -/
  held : List Instr := []
  deriving DecidableEq, Repr

/-! ### Items, rings and the link -/

/-- An item the module sends, before its check is added (Table 7-9). -/
structure Item where
  op : Nat
  flags : Nat
  tag : Nat
  status : Nat
  body : Bytes
  deriving DecidableEq, Repr

/-- An item in an outbound ring: its check selector and its bytes (R388). -/
structure OutItem where
  sel : Nat
  bytes : Bytes
  deriving DecidableEq, Repr

/-- An item in an inbound ring: the bytes of a frame's item with the selector of its frame (R387),
or a command that was taken from the cable as a typed row and waits (R603).
`done` marks a command that overtook the others and has been answered (R603). -/
inductive RingEntry where
  | bytes (sel : Nat) (b : Bytes) (done : Bool)
  | cmd (i : Instr) (cells : Nat) (done : Bool)
  deriving DecidableEq, Repr

/-- The latched part of a ring status word (Table 7-11). -/
structure RingFlags where
  peak : Nat := 0
  pushWaited : Bool := false
  noCredit : Bool := false
  wmLatched : Bool := false
  deriving DecidableEq, Repr

/-- An inbound ring (R389). -/
structure InRing where
  items : List RingEntry := []
  flags : RingFlags := {}
  deriving DecidableEq, Repr

/-- An outbound ring (R389). `staging` is the port engine's staging buffer and `waiting` holds the results
that do not fit into it (R394); on a system queue `waiting` holds the items whose push waits (R392). -/
structure OutRing where
  items : List OutItem := []
  staging : List Item := []
  waiting : List Item := []
  flags : RingFlags := {}
  /-- The tick at which the stale timer fires (R395). -/
  staleAt : Option Nat := none
  /-- The stale timer has fired for the items in the ring. -/
  staleFired : Bool := false
  deriving DecidableEq, Repr

/-- A data frame kept in the replay store (R379). -/
structure SentFrame where
  seq : Nat
  queue : Nat
  alive : Nat
  sel : Nat
  payload : Bytes
  cells : Nat
  sentAt : Nat
  /-- Its place in the order in which frames were first sent, over all sessions (R361). -/
  birth : Nat := 0
  deriving DecidableEq, Repr

/-- A control record of Table 7-7. -/
inductive CtlRec where
  | ack (seq : Nat)
  | nak (first count : Nat)
  | credit (queue limit : Nat)
  | refuse (seq error : Nat)
  | helloAck (nonce boot id st fw : Nat)
  | announce (id st mac serial fw life : Nat)
  deriving DecidableEq, Repr

/-- A control frame waiting for the cable: its records and where it goes. -/
structure CtlFrame where
  dst : Src
  recs : List CtlRec
  deriving DecidableEq, Repr

/-- The session (R359, R360). -/
structure Session where
  src : Src
  nonce : Nat
  deriving DecidableEq, Repr

/-- The counters link.cnt.* (Table 7-13). -/
structure LinkCnt where
  rxForeign : Nat := 0
  rxDropped : Nat := 0
  rxCrc : Nat := 0
  rxDup : Nat := 0
  refused : Nat := 0
  nakSent : Nat := 0
  retx : Nat := 0
  itemCheckFail : Nat := 0
  deriving DecidableEq, Repr

/-- The host link (07). Lists of 72 run over the queue bytes 0x00 to 0x47. -/
structure Link where
  /-- link.speed: 0 down, 1 100BASE-TX, 2 1000BASE-T, 3 2.5GBASE-T. -/
  speed : Nat := 0
  /-- 2.5GBASE-T trainings failed in a row (R351). -/
  trainFails : Nat := 0
  /-- Only 1000BASE-T is advertised until the next reset or exit from DOZE (R351). -/
  only1000 : Bool := false
  /-- link.udp_port and the link.ipv4 attributes in force: they change at the next session (R401). -/
  udpPort : Nat := 50640
  ipv4Mode : Nat := 0
  ipv4Addr : Nat := 0
  ipv4Len : Nat := 24
  /-- DOZE was entered with link.doze_speed at DROP, which lasts until the next renegotiation (R352, R401). -/
  dropped : Bool := false
  /-- The lease of DHCPv4 that is held: the address, the length of its network part, and the tick from which it counts (R356). -/
  lease : Option (Nat × Nat × Nat) := none
  session : Option Session := none
  /-- The tick of the last valid frame of the session's host (R360, R399). -/
  lastValid : Nat := 0
  /-- Timestamp of the last valid host frame (EV_HOST_LOST, R402). -/
  lastValidTs : Int := 0
  /-- The host is lost (R399). -/
  hostLost : Bool := false
  /-- E of R376, the lowest host sequence not yet accepted. -/
  rxNext : Nat := 0
  /-- The accepted sequences above E, as offsets from E (R376). -/
  rxSeen : List Nat := []
  /-- The expected alive counter of each inbound ring (R376). -/
  rxAlive : List Nat := List.replicate 72 0
  /-- The cells accepted on each inbound ring in the session (R382). -/
  rxCells : List Nat := List.replicate 72 0
  /-- The credit limit advertised for each inbound ring (R383). -/
  rxLimit : List Nat := List.replicate 72 0
  /-- The next link sequence towards the host (R374). -/
  txSeq : Nat := 0
  /-- The next alive counter of each outbound ring (R374). -/
  txAlive : List Nat := List.replicate 72 0
  /-- The cells sent on each outbound ring in the session (R382). -/
  txCells : List Nat := List.replicate 72 0
  /-- The credit limit the host has given for each outbound ring (R384). -/
  txLimit : List Nat := List.replicate 72 0
  /-- The data frames sent for the first time so far (R361). -/
  born : Nat := 0
  /-- The replay store, oldest first (R379). -/
  replay : List SentFrame := []
  /-- The sequences to send again, in order (R379, R601). -/
  resend : List Nat := []
  /-- Unacknowledged frames of an earlier session that go again under new numbers (R361). -/
  old : List SentFrame := []
  /-- Control frames waiting for the cable (R601). -/
  ctl : List CtlFrame := []
  /-- Host frames accepted since the last ACK (R375). -/
  sinceAck : Nat := 0
  /-- When the delayed ACK is due (R375). -/
  ackDue : Option Nat := none
  /-- When the NAK is repeated (R377). -/
  nakDue : Option Nat := none
  /-- Queues whose raised limit has not been advertised, and when it is due (R383). -/
  creditDue : List (Nat × Nat) := []
  /-- When the next ANNOUNCE is due (R358). -/
  announceAt : Nat := 0
  /-- The outbound ring served last by the round robin (R49). -/
  rr : Nat := 71
  cnt : LinkCnt := {}
  deriving DecidableEq, Repr

/-- What the module sends on the cable beside its rings: the model's own record of it, newest first. A mailbox frame leaves from link.udp_port (R357).
-/
inductive Sent where
  | frame (port : Nat) (dst : Src) (bytes : Bytes)
  | lldp (requestMw allocMw : Nat)
  | echoReply (v6 : Bool) (addr : Nat) (data : Bytes)
  | neighbor (v6 : Bool) (addr target mac : Nat)
  /-- DHCPDISCOVER, and DHCPREQUEST for an address offered, from the module's MAC address (R356). -/
  | dhcp (mac : Nat)
  | dhcpRequest (mac addr : Nat)
  /-- An IEEE 1588 message over IPv4 or over IPv6 (R448). -/
  | ptp (v4 : Bool) (msg : PtpMsg)
  deriving DecidableEq, Repr

/-! ### Events -/

/-- A recorded event: its code, its EVSEQ and its body (Table 8-19). -/
structure EvRec where
  code : Nat
  seq : Nat
  body : Bytes
  deriving DecidableEq, Repr

/-- The recorder of SV2 (R543 to R545). -/
structure Events where
  /-- The EVSEQ the next recorded event takes (R439). -/
  next : Nat := 0
  /-- The last 1024 recorded events, newest first (R545). -/
  log : List EvRec := []
  /-- Folding has begun (R544). -/
  folding : Bool := false
  /-- Events folded since the last EV_LOST, by class (R543). -/
  counts : List Nat := List.replicate 7 0
  first : Int := 0
  last : Int := 0
  /-- svc.events.folded: events folded since reset, by class (R545). -/
  total : List Nat := List.replicate 7 0
  deriving DecidableEq, Repr
/-! ### The timing bank (R34 to R42) -/

/-- A timer descriptor (Tables 1-6 and 1-7). `mode` 3 is reserved. Tick counts are held unwrapped. -/
structure Timer where
  armed : Bool := false
  late : Bool := false
  mode : Nat := 0
  action : Nat := 0
  fire : Nat := 0
  gridBase : Nat := 0
  period : Nat := 0
  deriving DecidableEq, Repr

/-! ### Slices, fields and Press -/

/-- The slice states (Table 2-1). -/
inductive SliceSt where
  | sleep | standby | synth | listen | field
  deriving DecidableEq, Repr

/-- The code of a slice state (port.radio.state). -/
def SliceSt.code : SliceSt → Nat
  | .sleep => 0 | .standby => 1 | .synth => 2 | .listen => 3 | .field => 4

/-- The slice state of a code (port.radio.idle_state). -/
def SliceSt.ofCode : Nat → SliceSt
  | 0 => .sleep | 1 => .standby | 2 => .synth | _ => .listen

/-- One transceiver slice (R62 to R74, R95 to R98). DESIGN CHOICE, unsafe: log entry 8. -/
structure Slice where
  st : SliceSt := .sleep
  /-- The state the slice is on its way to (R63). -/
  target : SliceSt := .sleep
  /-- The channel its synthesiser is calibrated to (R69). -/
  channel : Nat := 3
  /-- The synthesiser is locked. -/
  locked : Bool := false
  /-- A synthesiser calibration is running, since when it is wanted, and how often it has been repeated (R69, R72). -/
  calSince : Option Nat := none
  /-- The tick of the last lock loss (R74). -/
  lossAt : Option Nat := none
  /-- The tick of the last lock failure by R72 (Table 11-2, monitor 4). -/
  failAt : Option Nat := none
  /-- Band margin of the last calibration, in codes of the capacitor bank (Table 11-2, monitor 4). -/
  bandMargin : Int := 16
  /-- The PA gain tables have been calibrated (Table 12-8, step 5; CALIBRATE_RADIO bit 1). -/
  paCal : Bool := false
  /-- The pre-distorter: amplitude table, phase table, memory taps (R95). -/
  dpdAmp : List Int := List.replicate 64 0
  dpdPhase : List Int := List.replicate 64 0
  dpdTaps : List Int := List.replicate 3 0
  /-- The set power of the last learning; none before the first (R96). -/
  dpdPower : Option Int := none
  /-- Frames in a row whose envelope EVM exceeded 6 % (R97). -/
  evmRun : Nat := 0
  /-- The envelope EVM of the last D3 or D4 frame, in 0.1 % (R97). -/
  evm : Nat := 0
  /-- The EVM after the last learning, in 0.1 %: the trend of wear monitor 5 (R98, Table 11-2). -/
  learnEvm : Nat := 0
  /-- The drive trim of the power loop, in 0.01 dB (R87). -/
  drive : Int := 0
  /-- Active PA segments, one to eight (R88). -/
  segments : Nat := 1
  deriving DecidableEq, Repr

/-- Where the field of a port stands. `falling` and `gap` say whether the field is restored without a further command (R65). -/
inductive FieldPhase where
  | off
  | rising
  | on
  | falling (restore : Bool)
  | gap
  deriving DecidableEq, Repr

/-- A field that has been asked for and has not yet ramped up (R78). -/
structure Want where
  /-- Press has granted the power. -/
  granted : Bool
  /-- The ramp up has been armed on T_A. -/
  armed : Bool
  /-- Since when the command waits for the synthesiser (R72). -/
  since : Nat
  /-- A field that FIELD_ON or a Harvest pass asked for, not one that comes back after an interruption (R65, R107, R113). -/
  fresh : Bool
  deriving DecidableEq, Repr

/-- The radio side of a port. DESIGN CHOICE, unsafe: log entry 8. -/
structure Radio where
  phase : FieldPhase := .off
  want : Option Want := none
  /-- When the guard time ends; none when it is not running (R80). -/
  guardUntil : Option Nat := none
  /-- When the field-off minimum ends; none when it is not running (R81). -/
  offUntil : Option Nat := none
  /-- The Press grant of the field in mW and its place in the order of all grants (R113, R118). -/
  grantMw : Nat := 0
  grantNo : Nat := 0
  /-- The power in mW that Press has granted to a Mirror training or a calibration tone of the port, and its place in that order (R118, R146, R470).
  -/
  auxMw : Nat := 0
  auxNo : Nat := 0
  /-- A lowered set power whose difference is credited once the loops have settled: the new grant, and the ports whose loop has not (R113). -/
  credit : Option (Nat × List Nat) := none
  /-- The set power on the field, in 0.01 dBm (R113). -/
  power : Int := 2700
  /-- port.tn.mv, port.tune.phase, port.tx.vswr. -/
  tnMv : Nat := 0
  tunePhase : Int := 0
  vswr : Nat := 100
  /-- port.aerial.class (Table 2-6). -/
  aerial : Nat := 7
  /-- QD is driven damped (R100, Table 12-6). -/
  qdDamped : Bool := true
  /-- A full auto-tune runs before the next ramp up: after EV_TUNE_DRIFT, and for the tuning that CAL skipped (R107, R576). -/
  tuneDue : Bool := false
  tuneSkip : Bool := false
  /-- A pre-distortion learning is due at the next boundary with the field on (R96, R120). -/
  dpdDue : Bool := false
  /-- PA gain tables are due at the first field (R576). -/
  paDue : Bool := false
  /-- A change of channel waits for the boundary (R70). -/
  newChannel : Option Nat := none
  /-- Since when the field counts against the duty window, and the finished spans of it (R85). -/
  onSince : Option Nat := none
  spans : List (Nat × Nat) := []
  /-- The host has been lost: the field goes down once nothing runs on the port (R399). -/
  fallDue : Bool := false
  /-- The FIELD_OFFs that are answered once the field is down. -/
  offHdrs : List Hdr := []
  deriving DecidableEq, Repr

/-- What a Press request is for: a field, the difference of a raised set power (R113), a Mirror training (R146), or a calibration tone (R470). -/
inductive ReqKind where
  | field | raise | train | tone
  deriving DecidableEq, Repr

/-- A request waiting in Press (R114, R115). -/
structure PressReq where
  port : Nat
  mw : Nat
  prio : Nat
  tick : Nat
  deadline : Nat
  kind : ReqKind
  deriving DecidableEq, Repr

/-- Press: the waiting requests in their order (R114), and whether granting has stopped for a fall of the allocation (R118). -/
structure Press where
  waiting : List PressReq := []
  stopped : Bool := false
  /-- How many grants have been given. -/
  grants : Nat := 0
  deriving DecidableEq, Repr

/-! ### Sparing (11) -/

/-- A swap being prepared or waiting for its boundary (R531). -/
structure Swap where
  kind : Nat
  inst : Nat
  /-- The spare has been prepared (R531). -/
  prepared : Bool := false
  /-- The tick at which the swap takes the next boundary whatever the field (R531). -/
  deferAt : Nat := 0
  deferred : Bool := false
  /-- The SWAP_REQUEST to answer, if any. -/
  hdr : Option Hdr := none
  /-- Mask of the ports a planned supervisor swap holds (R536). -/
  held : Nat := 0
  deriving DecidableEq, Repr

/-- A swap whose interruption still runs: it is reported once its port, or its set, can start a transaction again (R330, R532). -/
structure SwapTell where
  planned : Bool
  kind : Nat
  inst : Nat
  spare : Nat
  /-- The port that leads, the number of ports interrupted, and the port that EV_SWAP names. -/
  lead : Nat
  ports : Nat
  portNo : Nat
  hdr : Option Hdr
  /-- The boundary or fault at which it started. -/
  since : Nat
  deriving DecidableEq, Repr

/-- Maps and swaps. What survives a reset (the fault map) stands in `Nvm`. -/
structure Spares where
  /-- The slice that serves each port (diag.map.port_slice). -/
  portSlice : List Nat := List.range 64
  /-- The engine that serves each port, that of a Prism member other than the lead sitting idle (R24, diag.map.port_engine). -/
  portEngine : List Nat := List.range 64
  /-- The core that does the work of SV0 to SV3. -/
  supervisor : List Nat := [0, 1, 2, 3]
  /-- The active security core. -/
  secCore : Nat := 0
  swaps : List Swap := []
  telling : List SwapTell := []
  /-- Values of the wear monitors that have been measured: (monitor, instance, value) (R528). -/
  wear : List (Nat × Nat × Int) := []
  /-- Ticks of the counted wear events: (monitor, instance, tick) (monitors 2, 6 and 7). -/
  wearEvents : List (Nat × Nat × Nat) := []
  /-- When the spares are next tested (R539). -/
  testAt : Nat := 0
  deriving DecidableEq, Repr

/-! ### Firmware (R420, R520 to R523, R546 to R548) -/

/-- One image slot: version, state code of FW_STATUS, size, and the bytes received with their coverage. -/
structure Image where
  version : Nat := 0
  state : Nat := 0
  size : Nat := 0
  /-- The chunks written so far, newest first (R420). -/
  chunks : List (Nat × Bytes) := []
  deriving DecidableEq, Repr

/-- An activation in progress (R546). -/
structure Activation where
  hdr : Hdr
  rollback : Bool
  tries : Nat
  /-- The tick of the first hold of this try. -/
  firstHold : Option Nat
  /-- Mask of the ports that hold, and the sum of the ticks at which they began to. -/
  held : Nat
  since : Nat
  /-- The tick of the next try, after a try that failed. -/
  retryAt : Option Nat
  deriving DecidableEq, Repr

/-! ### Diagnostics -/

/-- A capture in progress on a buffer (CAPTURE_ARM). -/
structure CapArm where
  hdr : Hdr
  port : Nat
  point : Nat
  trigger : Nat
  samples : Nat
  before : Nat
  deriving DecidableEq, Repr

/-- A scheduled action (R417, R418). -/
structure Sched where
  action : Nat
  port : Nat
  due : Nat
  item : Bytes
  deriving DecidableEq, Repr

/-- Captures, diagnostic triggers and scheduled actions. -/
structure Diag where
  arms : List (Option CapArm) := List.replicate 8 none
  /-- The captured samples of each buffer (CAPTURE_READ). -/
  samples : List (List Cpx) := List.replicate 8 []
  /-- Period in ns of each armed trigger, and its instant (TRIGGER_ARM). -/
  triggers : List (Option (Nat × Nat)) := List.replicate 8 none
  scheds : List Sched := []
  deriving DecidableEq, Repr
/-! ### The receive chain (03) -/

/-- A level record: a gain step and the tick it was set (R134). -/
structure LevelRec where
  step : Nat
  tick : Nat
  deriving DecidableEq, Repr

/-- One tone of the offset canceller: its frequency in mHz, its amplitude, and its phase in 1/65536 of a turn (R127). -/
structure Beat where
  freq : Int
  amp : Cpx
  phase : Int
  deriving DecidableEq, Repr

/-- The digital offset canceller: the DC estimate, the tone of each other channel in use, up to four further tones, and since when it stands
frozen for a receive window (R127, R128). -/
structure Offset where
  dc : Cpx := (0, 0)
  channels : List Beat := []
  tracked : List Beat := []
  frozenAt : Option Nat := none
  deriving DecidableEq, Repr

/-- The equaliser of one frame: feed-forward and feedback taps, the channel of each H4 subcarrier, the phase tracker and its rate, the mean
squared error over the header in 0.01 dB, the step as a negative power of two, and the first tick of the FFT of the symbol after the sync
(R161 to R165). -/
structure Equaliser where
  ff : List Cpx := []
  fb : List Cpx := []
  chan : List Cpx := []
  phase : Int := 0
  rate : Int := 0
  mse : Option Int := none
  step : Nat := 7
  fftAt : Nat := 0
  deriving DecidableEq, Repr

/-- A frame under reception, from its sync or start of frame on (R152, R153, R159). -/
structure Held where
  tick : Nat
  errs : Nat
  corr : Nat
  strength : Int
  gain : Nat
  /-- Set by the fast AGC, or moved by pre-emption (R134, R158). -/
  fast : Bool
  /-- The header once its check has passed (R154). -/
  header : Option Nat
  /-- The equaliser, which starts untrained with every frame (R163). -/
  eq : Equaliser := {}
  /-- The weights with which the paths of a Prism set are combined (R329). -/
  paths : List Cpx := []
  deriving DecidableEq, Repr

/-- A frame that was pre-empted after its header had passed (R157). -/
structure Lost where
  header : Nat
  rx : Bytes
  deriving DecidableEq, Repr

/-- A receive window (R123, R124, R131). `mode` is the code of Table 3-10. -/
structure Window where
  mode : Nat
  fast : Bool
  gain : Nat
  /-- The handle whose level record the window uses; 0 for none. -/
  handle : Nat
  closeAt : Nat
  /-- The close action has fired: the search has ended (R124). -/
  closed : Bool := false
  held : Option Held := none
  restarted : Bool := false
  /-- False syncs in this window (R154, R177). -/
  dropped : Nat := 0
  lost : List Lost := []
  /-- The last frame rejected in this window after which the search went on (R44, R155). -/
  bad : Option Lost := none
  deriving DecidableEq, Repr

/-- A downlink frame: Hymond (mode, header, payload) or ISO (kind, rate, the bits of the frame with parity where it has it). -/
inductive TxFrame where
  | hymond (dl : Nat) (header : Nat) (payload : Bytes)
  | iso (kind rate : Nat) (bits : List Bool)
  deriving DecidableEq, Repr

/-- The envelope of a downlink (Table 2-9): the bit time and the edge time in ticks, the depth in 0.1 %, and the tables of the pre-distorter it
passes through: 0 none, 1 amplitude and phase, 2 with the memory taps (R93, R95). `pause` is the pause of pulsed modulation in ticks; 0 for none. -/
structure Waveform where
  bit : Nat
  pause : Nat
  edge : Nat
  depth : Nat
  tables : Nat
  deriving DecidableEq, Repr

/-- A downlink frame with its air time in ticks and the window that follows it: when it opens and closes after the end of the
last bit, its mode, and the handle expected. No window where no answer is expected. -/
structure Tx where
  frame : TxFrame
  dur : Nat
  /-- The bits as they go on the air (R248, R249). -/
  bits : List Bool
  window : Option (Nat × Nat × Nat)
  handle : Nat
  deriving DecidableEq, Repr

/-- The air side of a port's engine. -/
structure Air where
  /-- The next downlink, prepared in the transmit elastic buffer. -/
  tx : Option Tx := none
  /-- The earliest tick at which it may start, by the protocol's turnaround or frame delay; none for as soon as possible. -/
  notBefore : Option Nat := none
  /-- It is armed on T_B. -/
  armed : Bool := false
  /-- It is on the air until this tick. -/
  txEnd : Option Nat := none
  /-- The envelope of the downlink on the air (R93). -/
  wave : Option Waveform := none
  /-- The tick at which the last downlink started. -/
  started : Nat := 0
  win : Option Window := none
  /-- The turnaround after the last Hymond answer or window: no downlink starts before it (R285). -/
  clearAt : Nat := 0
  /-- Since when the carrier stands unmodulated outside receive windows: the end of the last ramp, frame or window (R137). -/
  idleSince : Nat := 0
  /-- QD actions still to arm on T_A, in order (R100). -/
  qdPlan : List (Nat × Nat) := []
  /-- The tick at which Table 2-10 would have released QD, while the engine keeps it damped (R101). -/
  qdDue : Option Nat := none
  deriving DecidableEq, Repr

/-- Receive registers and counters of a port. DESIGN CHOICE, unsafe: log entry 8. -/
structure Rx where
  /-- Level record of the port's last accepted frame (R134). -/
  level : Option LevelRec := none
  /-- Level records of the 16 most recently answering handles, newest first (R134). -/
  levels : List (Nat × LevelRec) := []
  /-- Per-subcarrier signal estimates of the 16 most recently answering handles, newest first; true once an H4 frame has refreshed it (R169). -/
  sig : List (Nat × Bool × List Int) := []
  /-- port.rx.noise_cdbm and port.rx.noise_field_cdbm; none before the first measurement (R137, R138). -/
  noise : Option Int := none
  noiseField : Option Int := none
  /-- The H4 noise profile (R168). -/
  profile : Option (List Int) := none
  /-- When the floors were last measured (R137). -/
  noiseAt : Option Nat := none
  noiseFieldAt : Option Nat := none
  /-- Successive field-on measurements above the alarm, and whether EV_NOISE_HIGH has been reported (R139). -/
  noiseRun : Nat := 0
  noiseTold : Bool := false
  /-- port.rx.h4.snr_cdb and port.rx.h4.loading of the last map (R170). -/
  snr : List Int := List.replicate 16 0
  loading : List Nat := List.replicate 16 0
  /-- port.rx.mirror.aggressors and port.rx.mirror.uncovered (R142, R143). -/
  aggressors : List Nat := []
  uncovered : Nat := 0
  /-- The analogue carrier canceller: its released and its damped set of weights, and the ticks of their last adaptation (R125, R126). -/
  released : Cpx := (0, 0)
  damped : Cpx := (0, 0)
  adaptReleased : Nat := 0
  adaptDamped : Nat := 0
  /-- The digital offset canceller (R127, R128). -/
  offset : Offset := {}
  /-- The envelope of each selected aggressor at the instant the cancellers last froze (R141). -/
  env : List (Nat × Cpx) := []
  falseSync : Nat := 0
  crcFail : Nat := 0
  preempted : Nat := 0
  clipped : Nat := 0
  deriving DecidableEq, Repr

/-! ### Hymond (05) -/

/-- The module's view of a Hymond handle (R287). -/
inductive HySt where
  | heard | active | halted | unknown
  deriving DecidableEq, Repr

/-- A Hymond handle held on a port (R287). `alive` is the counter of the last executed command (R273);
`ident` and `desc` are none for a handle known from a header alone (R291); `map` is set by HY_SET_MAP. -/
structure HyHandle where
  h : Nat
  st : HySt
  alive : Nat := 0
  ident : Option Bytes := none
  desc : Option Bytes := none
  map : Option (List Nat) := none
  deriving DecidableEq, Repr

/-- The Hymond registers of a port. -/
structure Hy where
  handles : List HyHandle := []
  /-- The largest GUARD, in µs, and TR_MIN heard since the last commit that took a COMMIT_ID (R286). -/
  guardUs : Nat := 0
  trMin : Nat := 0
  guardTold : Bool := false
  stale : Nat := 0
  busyWire : Nat := 0
  retries : Nat := 0
  deriving DecidableEq, Repr

/-- Where a Hymond command stands. -/
inductive HyStage where
  /-- ACK before a command to a handle known from a header alone (R291). -/
  | preAck
  | raw
  /-- The masked QUERY of HY_ACTIVATE, and the ACK that follows. -/
  | query | queryAck
  /-- The one exchange of HY_READ, HY_WRITE, HY_PAGE_STATUS, HY_CHALLENGE, HY_HALT, HY_RELEASE, HY_RESYNC. -/
  | single
  /-- The sealed write (R279 to R284). -/
  | sealGen | sealShadow | sealCork | sealDiscard | sealVerify
  /-- The tree search (R293). -/
  | treeQuery | treeSlot | treeAck
  /-- CRED_WRITE and CRED_VERIFY: waiting for Cellar, and the CHALLENGE (R501, R502). -/
  | credCellar | credGen | credShadow | credCork | credDiscard | credChallenge
  /-- Harvest's ACK to the handle of a header, or with IDCHK and REHANDLE (Table 6-1, R289): `addr` holds the handle it goes to,
  `data` its arguments. -/
  | hvAck
  deriving DecidableEq, Repr

/-- A Hymond command in progress. -/
structure HyCmd where
  stage : HyStage
  /-- The stage that follows the ACK of R291. -/
  after : HyStage := .single
  handle : Nat
  dl : Nat
  ul : Nat
  /-- The CMD code and arguments of the exchange in progress, its frame type and ALIVE. -/
  cmd : Nat := 0
  args : Bytes := []
  type : Nat := 1
  alive : Nat := 0
  reply : Nat := 0
  /-- Repeats used (R290), busy repeats used and the last hint (R278). -/
  tries : Nat := 0
  busy : Nat := 0
  hint : Nat := 0
  /-- A frame that was no announce has been heard (R294, R295). -/
  sawFrame : Bool := false
  ident : Bytes := []
  wake : Bool := false
  addr : Nat := 0
  count : Nat := 0
  page : Nat := 0
  gen : Nat := 0
  crc : Nat := 0
  data : Bytes := []
  /-- The loading map of the exchange in progress, kept for its busy repeats (R278). -/
  map : Option (List Nat) := none
  /-- The failure that a SHADOW_DISCARD serves (R284, R514). -/
  why : Nat := 0
  /-- Tree search: the prefixes to visit, next first; the tags found, with the strength of their announce; the branches left
  unresolved; the most tags asked for. -/
  stack : List (List Bool) := []
  bits : List Bool := []
  found : List (Nat × Int × Bytes × Bytes) := []
  unresolved : Nat := 0
  maxTags : Nat := 0
  strength : Int := 0
  /-- CRED_WRITE and CRED_VERIFY: the master cask, the transport cask, slot, format, nonce, and the MAC a tag that holds the credential answers
  (R501, R502). -/
  cask : Nat := 0
  transport : Nat := 0xFFFF
  slot : Nat := 0
  format : Nat := 0
  nonce : Bytes := []
  expect : Bytes := []
  deriving DecidableEq, Repr
/-! ### ISO/IEC 14443 and 15693 (04) -/

/-- The tracked states (Table 4-5), in the codes of R429. -/
inductive IsoSt where
  | halt | readyDeclared | active | protocol | ready | selected | quiet | unknown
  deriving DecidableEq, Repr

/-- The STATE code of an ISO tag record (R429). -/
def IsoSt.code : IsoSt → Nat
  | .halt => 1 | .readyDeclared => 2 | .active => 3 | .protocol => 4 | .ready => 5 | .selected => 6 | .quiet => 7 | .unknown => 8

/-- An ISO handle held on a port (R196, R429). `kind` is 0 Type A, 1 Type B, 2 ISO/IEC 15693. -/
structure IsoHandle where
  h : Nat
  kind : Nat
  st : IsoSt
  /-- The identifier in air order: UID of 4, 7 or 10 bytes, PUPI of 4, or UID of 8 bytes. -/
  id : Bytes
  /-- The UID parts of the cascade levels, 5 bytes each with BCC (R208). -/
  parts : List Bytes := []
  /-- ATQA and SAK; application data and protocol info; DSFID. -/
  info : Bytes := []
  strength : Int := 0
  /-- ISO/IEC 14443-4: CID (0xFF for none), whether the tag's blocks carry it, FSC, FWI, SFGI, the divisors the tag supports
  (TA(1), or the ATQB's bit-rate capability), the divisors in force, the next block number, whether a block has been sent. -/
  cid : Nat := 0xFF
  cidOk : Bool := true
  /-- The tag supports NAD (R212), and the CIDs that stay held though the module no longer uses them (R224). -/
  nad : Bool := false
  owed : List Nat := []
  fsc : Nat := 32
  fwi : Nat := 4
  sfgi : Nat := 0
  rates : Nat := 0
  ds : Nat := 0
  dr : Nat := 0
  num : Nat := 0
  used : Bool := false
  /-- The receive status of the frame that identified the tag (R319). -/
  rx : Bytes := []
  deriving DecidableEq, Repr

/-- The ISO registers of a port. -/
structure Iso where
  handles : List IsoHandle := []
  /-- The start of the last REQA or WUPA (Table 4-4). -/
  reqAt : Option Nat := none
  /-- The earliest start of the next reader frame, by the gaps of Table 4-4. -/
  gapUntil : Nat := 0
  deriving DecidableEq, Repr

/-- Where an ISO command stands. -/
inductive IsoStage where
  | raw
  /-- ISO_A_ANTICOLL (R203): request, selection of a known part, anticollision, selection, HLTA. -/
  | aReq | aPart | aAnti | aSel | aHalt
  /-- ISO_A_ACTIVATE (R208): WUPA, then the selections. -/
  | actReq | actSel
  | hltA | rats | pps
  /-- ISO_B_REQUEST; the slots of ISO_B_ANTICOLL with ATTRIB or HLTB to the tag found (R209). -/
  | bReq | bSlot | bFoundAttrib | bFoundHalt
  | attrib | hltB
  /-- A block exchange of ISO_APDU (R220), S(DESELECT) of ISO_DESELECT, or of a command that fails (R224). -/
  | block | deselect | failDeselect
  /-- The slots of ISO_V_INVENTORY and its Stay quiet (R227). -/
  | vSlot | vStayQuiet
  /-- ISO_V_COMMAND: its frame; the EOF of R230. -/
  | vCmd | vEof
  | vSelect | vQuiet | vReset
  deriving DecidableEq, Repr

/-- An ISO command in progress. -/
structure IsoCmd where
  stage : IsoStage
  handle : Nat := 0
  tries : Nat := 0
  wake : Bool := false
  maxTags : Nat := 0
  found : List IsoHandle := []
  unresolved : Nat := 0
  /-- A tag has been found while 16 handles were in use (R198). -/
  full : Bool := false
  /-- The last anticollision failure was a wrong BCC at this level; 0 for none (R206). -/
  bccLevel : Nat := 0
  strength : Int := 0
  /-- Type A: the branches to visit, the parts passed, the bits of the level agreed so far, the part being selected again. -/
  stack : List (List Bytes × List Bool) := []
  done : List Bytes := []
  known : List Bool := []
  part : Nat := 0
  first : Bool := true
  heard : Bool := false
  atqa : Bytes := []
  /-- Type B: AFI, slots, slot, round, collided slots, ATTRIB flag, tags halted for want of a CID. -/
  afi : Nat := 0
  n : Nat := 1
  slot : Nat := 1
  round : Nat := 0
  collided : Nat := 0
  attrib : Bool := false
  noCid : Nat := 0
  cid : Nat := 0
  dsMax : Nat := 3
  drMax : Nat := 3
  /-- ISO/IEC 15693 inventory: the masks to visit (mask, length, 16 slots), the one being visited, its slots. -/
  queue : List (Nat × Nat × Bool) := []
  mask : Nat := 0
  mlen : Nat := 0
  slots : Nat := 1
  useAfi : Bool := false
  quiet : Bool := false
  anyFrame : Bool := false
  /-- ISO_V_COMMAND. -/
  code : Nat := 0
  opt : Bool := false
  write : Bool := false
  rep : Bool := false
  mfg : Nat := 0
  data : Bytes := []
  /-- The block protocol (R220): the block to be answered, its kind (0 I, 1 R, 2 S(DESELECT)), its number and chaining bit,
  the tag is sending a chain, tries, WTX count, WTXM of the wait, ticks waited, and the response APDU so far. -/
  blk : Bytes := []
  kind : Nat := 0
  num : Nat := 0
  chain : Bool := false
  rxChain : Bool := false
  wtxm : Nat := 1
  wtxCount : Nat := 0
  waited : Nat := 0
  resp : Bytes := []
  /-- The code with which the command ends after its deselect (R224). -/
  why : Nat := 0
  /-- ISO_RAW_FRAME: rate, flags, kind, bit count, window. -/
  rate : Nat := 0
  parity : Bool := false
  check : Bool := false
  bits : Nat := 0
  winUs : Nat := 0
  /-- The last receive code and position. -/
  err : Nat := 0
  pos : Nat := 0
  deriving DecidableEq, Repr
/-! ### Harvest, Prism, Lens and Z8 (06) -/

/-- An entry of the inventory table (Tables 6-3 and 6-4), with the tick of its latest hearing (R320) and what R473 and R475 keep:
the strongest local hearing, the modules that have heard the tag, and the strongest pair of strength and module. -/
structure InvEntry where
  ident : Bytes
  proto : Nat
  readOk : Bool := false
  halted : Bool := false
  prism : Bool := false
  remote : Bool := false
  bestMoved : Bool := false
  cls : Bytes
  ports : Nat
  best : Nat
  hearings : Nat
  strength : Int
  first : Int
  latest : Int
  handle : Nat := 0
  read : Nat := 0
  owner : Nat
  modules : List Nat
  crc : Nat := 0
  charged : Nat
  heardAt : Nat
  localMax : Int
  top : Int × Nat
  deriving DecidableEq, Repr

/-- A tag a pass deals with: handle, identifier, descriptor, strength, receive status of its announce. -/
structure HvTag where
  handle : Nat
  ident : Bytes
  desc : Bytes
  strength : Int
  rx : Bytes
  /-- The hearing made a new entry, or is reported for another reason (R319). -/
  report : Bool := false
  deriving DecidableEq, Repr

/-- Work a slot leaves: an ACK to a tag known from its header, or an accepted announce (Table 6-1). -/
inductive HvWork where
  | header (handle : Nat) (rx : Bytes)
  | announce (tag : HvTag)
  deriving DecidableEq, Repr

/-- Where a pass stands: it waits for its field, for the guard time before its first QUERY, for the announce window of a QUERY or
NEXT_SLOT, for one of its own exchanges, or at a round boundary for the port's commands (R303 to R306). -/
inductive HvStage where
  | field | start | window | ack | rehandle | read | halt | iso | yielding
  deriving DecidableEq, Repr

/-- A Harvest pass (R302 to R313). -/
structure HvPass where
  /-- The HARVEST_START that began it; none for a pass of the grid. -/
  hdr : Option Hdr
  since : Nat
  stage : HvStage := .field
  ownField : Bool := false
  /-- Q in units of 1/16, Q of the round, the slot, whether the round heard anything, quiet rounds, rounds. -/
  qf : Nat := 0
  q : Nat := 0
  slot : Nat := 0
  heard : Bool := false
  quiet : Nat := 0
  rounds : Nat := 0
  wake : Bool := false
  confirm : Nat := 0
  inserted : Nat := 0
  merged : Nat := 0
  lost : Nat := 0
  /-- The code with which the pass ends at the next slot boundary (R304), and the HARVEST_STOPs to answer. -/
  stop : Option Nat := none
  stops : List Hdr := []
  /-- The tick before which no downlink may start (R307). -/
  clear : Nat := 0
  work : List HvWork := []
  cur : Option HvTag := none
  /-- Tags whose READ waits by R309. -/
  reads : List HvTag := []
  /-- The sub-pass of R331. -/
  vector : Nat := 0
  /-- The runs still to be made on an ISO port, and whether the present one is the first (R313). -/
  runs : List Nat := []
  first : Bool := true
  /-- The outcome of the pass's own exchange: code, data, tags found. -/
  result : Option (Nat × Bytes × List IsoHandle) := none
  deriving DecidableEq, Repr

/-- A Prism set, on its lead (R322 to R331). -/
structure Prism where
  vector : Nat := 0
  /-- The vector of PRISM_VECTOR that waits for the boundary (R325). -/
  next : Option Nat := none
  /-- port.prism.phase_err. -/
  err : List Int := [0, 0, 0, 0]
  /-- The set has been calibrated since its last lock (R327), and the last calibration failed (R328). -/
  calibrated : Bool := false
  /-- The place of a member whose slice was swapped and whose calibration has yet to be reported (R330). -/
  recal : Option Nat := none
  failed : Bool := false
  /-- The TN voltages of the members at the last calibration (R327). -/
  tn : List Nat := []
  /-- The tick of the last change of vector on a field, whose move takes 256 ticks (R325). -/
  movedAt : Option Nat := none
  deriving DecidableEq, Repr

/-- Lens on a port (R332 to R338). The references are kept in units of 1/65536 of a measurement's unit. -/
structure Lens where
  present : Bool := false
  base : Cpx := (0, 0)
  ref : Cpx := (0, 0)
  stale : Bool := false
  /-- The next pulse takes the baseline (R337). -/
  anew : Bool := true
  /-- The TN voltage when the reference was taken (R336). -/
  tnMv : Nat := 0
  last : Cpx := (0, 0)
  confirming : Bool := false
  unconfirmed : Nat := 0
  skipped : Nat := 0
  deriving DecidableEq, Repr

/-- The Z8 detector of a port (R339, R340). -/
structure Z8 where
  present : Bool := false
  /-- The end of the last blanking by the port's own field or Lens pulse. -/
  blankUntil : Nat := 0
  deriving DecidableEq, Repr

/-! ### The cluster (09) -/

/-- A clock heard by its Announce messages (R449): identity, priority1, clockClass, priority2, the tick of the last one. -/
structure Foreign where
  src : Nat
  prio1 : Nat
  cls : Nat
  prio2 : Nat
  at_ : Nat
  deriving DecidableEq, Repr

/-- The time unit (R448 to R457). DESIGN CHOICE, unsafe: log entry 8. -/
structure Time where
  lock : Nat := 0
  everLocked : Bool := false
  offsetNs : Int := 0
  /-- The ticks of the last measured offsets beyond ±25 ns and within ±100 ns (R450). -/
  outAt : Option Nat := none
  nearAt : Option Nat := none
  /-- The chain offset of the last edge on SYNC_IN, in ns (R454). -/
  chainNs : Int := 0
  /-- Since when the role is LISTENING (R449). -/
  since : Nat := 0
  /-- cluster.ptp.role: 0 LISTENING, 1 MASTER, 2 SLAVE, 3 PASSIVE. -/
  role : Nat := 0
  foreign : List Foreign := []
  /-- The last Sync of the master: source, sequence, local receive time in ns, and origin time once known. -/
  sync : Option (Nat × Nat × Int × Option Int) := none
  /-- The last Delay_Req sent: sequence and local time; the mean path delay in ns. -/
  delayReq : Option (Nat × Int) := none
  delayNs : Int := 0
  syncSeq : Nat := 0
  delaySeq : Nat := 0
  /-- The last Announce sent, as master, and the last Sync or Delay_Req (R448). -/
  annAt : Option Nat := none
  syncAt : Option Nat := none
  /-- Before a lock: the offset by which the time will step, from which ±25 ns are measured (R450, R451). -/
  base : Option Int := none
  /-- Holdover ends at this tick (R457); it has ended without lock (R469). -/
  holdUntil : Option Nat := none
  lostTime : Bool := false
  /-- cluster.sync.head, the tick of the last edge on SYNC_IN, since when every edge has been good for R452,
  since when the chain offset is good for LOCK 2 (R454), and frames in a row in which the offsets disagree (R456). -/
  head : Bool := false
  /-- Since when SYNC_IN has been watched (R452). -/
  chainFrom : Nat := 0
  edgeAt : Option Nat := none
  goodSince : Option Nat := none
  chainSince : Option Nat := none
  apart : Nat := 0
  deriving DecidableEq, Repr

/-- The staged plan (R461): PLAN_ID, TOTAL, and the chunks written, newest first. -/
structure Staged where
  id : Nat
  total : Nat
  chunks : List (Nat × Bytes)
  deriving DecidableEq, Repr

/-- A calibration tone (R470). -/
structure Tone where
  hdr : Hdr
  channel : Nat
  due : Nat
  durUs : Nat
  /-- Press has granted its 10 mW. -/
  granted : Bool := false
  /-- The module ID and the port number that set its sequence. -/
  seq : Nat × Nat := (0, 0)
  deriving DecidableEq, Repr

/-- A CAL_LISTEN in progress (R471). -/
structure Listen where
  hdr : Hdr
  ports : Nat
  due : Nat
  durUs : Nat
  module : Nat
  port : Nat
  deriving DecidableEq, Repr

/-- Cluster functions other than the time unit. -/
structure Cluster where
  /-- The MAC addresses whose clash has been reported (R446). -/
  clashes : List Nat := []
  /-- The active plan: PLAN_ID and its bytes; the staged one; the pending activation (PLAN_ID, AT, the command). -/
  active : Option (Nat × Bytes) := none
  staged : Option Staged := none
  pending : Option (Nat × Nat × Hdr) := none
  listens : List Listen := []
  /-- The channels on which Mirror last selected its aggressors (R142). -/
  chans : List (Option Nat) := []
  deriving DecidableEq, Repr

/-! ### Cellar (10) -/

/-- A cask slot that has been filled at least once (R487, R488). `attr` holds the RW bits of CASK_ATTR. -/
structure Cask where
  live : Bool
  key : Bytes
  attr : Nat
  parent : Nat := 0xFFFF
  gen : Nat := 0
  test : Bool := false
  inc : Nat := 1
  deriving DecidableEq, Repr

/-- CASK_ATTR of a slot's content (Table 10-1). -/
def Cask.word (c : Cask) : Nat := if c.live then c.attr + (if c.test then 2 ^ 28 else 0) + c.gen * 2 ^ 32 + c.parent * 2 ^ 48 else 0xFFFF * 2 ^ 48

/-- A record of the cask store's log (Table 10-6, R516, R517): its cask, its SEQ, the content it gives the slot, the wrapped key and the Cork. -/
structure CaskRec where
  cask : Nat
  seq : Nat
  content : Cask
  wrapped : Bytes
  cork : Bytes
  deriving DecidableEq, Repr

/-- The first 112 bytes of the record that gives a slot its content (Table 10-6). -/
def Cask.head (n seq : Nat) (c : Cask) (wrapped : Bytes) : Bytes := storeHead (if c.live then 1 else 2) n seq c.word c.inc wrapped

/-- The record that gives a slot its content, written under the root in force (R485, R516, R517). -/
def Cask.record (root : Bytes) (test : Bool) (n seq : Nat) (c : Cask) : CaskRec :=
  let wrapped := storeWrap root test c.key
  ⟨n, seq, c, wrapped, storeCork root test (c.head n seq wrapped)⟩

/-- Whether the Cork of a record verifies under the root in force (R517). -/
def CaskRec.corked (root : Bytes) (test : Bool) (r : CaskRec) : Bool := r.cork == storeCork root test (r.content.head r.cask r.seq r.wrapped)

/-- Shebor's delivery KEK: USE_WRAP, INV_HOST_ADMIN, LC_FACTORY, 256 bits (R509). Its value is a free value. -/
def deliveryKek : Cask := { live := true, key := (List.range 32).map Config.deliveryByte, attr := 0x01100402 }

/-- What the security core keeps in NVM and one-time-programmable bits (R506, R516, R522). The module is a JZ64-E0, DEBUG_OPEN clear (R6). DESIGN
CHOICE, unsafe: log entry 7. -/
structure Sec where
  factory : Bool := true
  field : Bool := false
  retired : Bool := false
  debugOpen : Bool := false
  /-- The current content of the slots, by cask number. At delivery cask 0 holds the delivery KEK (R509). -/
  casks : List (Nat × Cask) := [(0, deliveryKek)]
  /-- The pages of the log in use, oldest first (R516, R519). -/
  pages : List (List CaskRec) := [[deliveryKek.record (rootOf false) false 0 0]]
  seq : Nat := 1
  /-- The life-cycle code before the last change, which EV_LIFE_CYCLE reports when its erasure ends (R507, R518). -/
  erasingFrom : Nat := 1
  /-- The helper data of CC0 and CC1, 8 KiB each, and the root check value (R480 to R482). -/
  helper : List Bytes := [(List.range 8192).map (Config.helperByte 0), (List.range 8192).map (Config.helperByte 1)]
  rootCheck : Bytes := rootCheckOf (rootOf false)
  svnFloor : Nat := 0
  deriving DecidableEq, Repr

/-- Cellar's working state. -/
structure Cellar where
  operations : Nat := 0
  refused : Nat := 0
  margin : Nat := 0
  /-- Failed reconstructions of the root in a row on the present core (R482). -/
  tries : Nat := 0
  /-- The root, while the security core holds it (R480). -/
  root : Bytes := []
  /-- The random generator (R486). -/
  drbg : Drbg := {}
  /-- The life-cycle change in progress: the command, none where it has been answered already; its opcode; the casks emptied (R507, R512). -/
  change : Option (Option Hdr × Nat × Nat) := none
  deriving DecidableEq, Repr

/-- What the secure transmit buffer of a port engine holds: the key page of a CRED_WRITE, the casks it came from and the handle it is for (R501,
R503). -/
structure KeyPage where
  cask : Nat
  transport : Option Nat
  handle : Nat
  page : Bytes
  deriving DecidableEq, Repr

/-! ### Work over several ports -/

/-- A MEASURE_NOISE in progress (R140): the ports still to measure and the records made. -/
structure NoiseJob where
  hdr : Hdr
  waiting : Nat
  recs : List (Nat × Bytes)
  deriving DecidableEq, Repr

/-- A MIRROR_TRAIN in progress (R146): its ports and those held. -/
structure MirrorJob where
  hdr : Hdr
  ports : Nat
  held : Nat
  /-- TIMEOUT_US of the command, in ticks (R146). -/
  timeout : Nat
  /-- Press has granted the training. -/
  granted : Bool := false
  deriving DecidableEq, Repr
/-! ### Tasks and ports -/

/-- What the running command of a port is doing. -/
inductive Proc where
  /-- FIELD_ON waits for its field (R78). -/
  | fieldOn
  /-- AUTOTUNE and CALIBRATE_RADIO wait for their boundary, with the mask of the calibrations still to run (R108, R120). -/
  | calibrate (mask : Nat) (evm : Nat)
  /-- AUTOTUNE or PRISM_CALIBRATE stands in the slice's pending slot since a tick, until the synthesiser has locked (R71, R72). -/
  | pending (since : Nat)
  | hy (c : HyCmd)
  | iso (c : IsoCmd)
  deriving DecidableEq, Repr

/-- The running command of a port (R184, R292, R603). -/
structure Task where
  hdr : Hdr
  op : Nat
  /-- The receive status of the last tag frame the command received (R409); none before the first. -/
  rx : Option Bytes := none
  proc : Proc
  /-- The command ends with this code at the end of the frame on the air (R226, R399). -/
  ending : Option Nat := none
  /-- The exchange belongs to the port's Harvest pass and is not answered. -/
  ofPass : Bool := false
  deriving DecidableEq, Repr

/-- A command that waits by R278: the task, the tick at which its wait ends, and whether the wait has ended. -/
structure Parked where
  task : Task
  ready : Nat
  waited : Bool
  deriving DecidableEq, Repr

/-- One port. -/
structure Port where
  radio : Radio := {}
  air : Air := {}
  rx : Rx := {}
  hy : Hy := {}
  iso : Iso := {}
  task : Option Task := none
  parked : List Parked := []
  /-- The port holds for a firmware activation, Mirror training or swap, and takes no command (R146, R536, R546). -/
  held : Bool := false
  pass : Option HvPass := none
  /-- HARVEST_STARTs that wait for the running pass to end (R302). -/
  starts : List Hdr := []
  /-- A tick of the grid has come while a command ran on the port: its pass waits for the boundary (R302). -/
  gridDue : Bool := false
  /-- A commit has been accepted whose effect on what the port has heard comes at its next boundary (R57, R286, R325). -/
  newCommit : Bool := false
  inserted : Nat := 0
  lost : Nat := 0
  prism : Prism := {}
  lens : Lens := {}
  z8 : Z8 := {}
  tone : Option Tone := none
  /-- The secure transmit buffer: the cask its page came from and the page (R503). -/
  secBuf : Option KeyPage := none
  /-- The supervisor's copy of the handle table, taken at each boundary (R535). -/
  copy : List HyHandle × List IsoHandle := ([], [])
  deriving DecidableEq, Repr

/-! ### What NVM keeps (R565, R566) -/

/-- What survives every reset. DESIGN CHOICE, unsafe: log entry 7. -/
structure Nvm where
  /-- module.serial and the MAC address (Factory). -/
  serial : Nat := 1
  mac : Nat := 0x020000000001
  /-- module.reg.profile: 0 ETSI, 1 FCC (R9, R111). -/
  profile : Nat := 0
  /-- HW_REVISION (R602). -/
  hwRevision : Nat := 0x0100
  /-- module.boot_count. -/
  bootCount : Nat := 1
  /-- The saved configuration and config.saved_id (R428). -/
  saved : Cfg := []
  savedId : Nat := 0
  /-- The cause of the last entry to HALTED (R541). -/
  haltCause : Nat := 0
  /-- The KIND of the block that had no spare left, where the cause is E_NO_SPARE (R482, R540). -/
  haltKind : Nat := 0
  /-- The fault map: retired instances (kind, instance, monitor or fault) (R526). -/
  faultMap : List (Nat × Nat × Nat) := []
  /-- pm.rail.log, newest first (R579). -/
  railLog : List Nat := []
  /-- The availability ledger in ticks, ticks and port-µs (R549). -/
  poweredTicks : Nat := 0
  haltedTicks : Nat := 0
  portInterruptUs : Nat := 0
  /-- The cask store and the one-time-programmable bits. -/
  sec : Sec := {}
  /-- port.cl.xcoupling: (coupling, module, port) of each port, strongest first (R472). -/
  xcoupling : List (List (Int × Nat × Nat)) := List.replicate 64 []
  /-- The image slots A and B, the active one, the one marked to start next, and starts of the active image
  that have failed in a row (R546 to R548). -/
  images : List Image := [⟨0x0100, 3, 4, []⟩, {}]
  active : Nat := 0
  markNext : Option Nat := none
  failedStarts : Nat := 0
  deriving DecidableEq, Repr

/-- The state of the block. DESIGN CHOICE, unsafe: log entry 7. -/
structure State where
  /-- The crystal ticks since release from reset (R34), unwrapped; the 48-bit counter is this modulo 2^48. DESIGN CHOICE, safe: log entry 1. -/
  now : Nat := 0
  /-- The commands that wait, first in, first out. -/
  pending : List Instr := []
  /-- How many free values have been drawn. The model's own field. DESIGN CHOICE, safe: log entry 3. -/
  free : Nat := 0
  /-- What is added to the ns count of the ticks to give a timestamp: 0 until the first lock (R14, R451). -/
  timeOff : Int := 0
  mod : Mod := {}
  pins : Pins := {}
  power : Power := {}
  nvm : Nvm := {}
  /-- module.id from the straps; 0xFF on a strap fault (R444, R569). -/
  moduleId : Nat := 0
  cfg : ConfigStore := {}
  link : Link := {}
  inRings : List InRing := List.replicate 72 {}
  outRings : List OutRing := List.replicate 72 {}
  ev : Events := {}
  /-- DESIGN CHOICE, unsafe: log entry 32. -/
  timers : List Timer := List.replicate 256 {}
  slices : List Slice := List.replicate 72 {}
  ports : List Port := List.replicate 64 {}
  press : Press := {}
  /-- The coupling matrix: (aggressor, victim, 0.01 dB), for the pairs trained (R141, R145); other pairs read the least value. -/
  coupling : List (Nat × Nat × Int) := []
  /-- Mirror's filters: (aggressor, victim, the four taps), for the pairs trained (R141). -/
  filters : List (Nat × Nat × List Cpx) := []
  spares : Spares := {}
  /-- Instances that have failed for want of a spare: the fault is still present at a restart (R20, R542). DEDUCED, unsafe: log entry 53. -/
  faults : List (Nat × Nat) := []
  act : Option Activation := none
  /-- FW_BEGIN has opened a load (R420). -/
  fwOpen : Bool := false
  diag : Diag := {}
  /-- The inventory table, by entry number (R314). -/
  inv : List (Nat × InvEntry) := []
  time : Time := {}
  cluster : Cluster := {}
  cellar : Cellar := {}
  noiseJob : Option NoiseJob := none
  mirrorJob : Option MirrorJob := none
  /-- What has gone out on the cable, newest first. The model's own field. DESIGN CHOICE, safe: log entry 57. -/
  sent : List Sent := []
  deriving DecidableEq, Repr

/-- The machine right after reset: released from reset into BOOT at tick 0 after power-on (R34, R564). DEDUCED, safe: log entry 6. -/
def State.reset : State := {}

end Sys2Proof.Machine
end

