-- ==== Sys2Proof/Machine/Ops.lean ====
section
/-!
DEFINITION. The operations every meaning shares: the clock and timestamps, the values of attributes, items and rings,
responses and records, events, and the timing bank.
-/

namespace Sys2Proof.Machine

/-! ### Time (R14, R34) -/

/-- The clock moves to the tick of the command; it never runs backwards. DESIGN CHOICE, safe: log entry 1. -/
def advance (t : Nat) (s : State) : State := { s with now := max s.now t }

/-- Ticks in a count of µs, rounded up: one tick is 1/27.12 µs. -/
def usT (us : Nat) : Nat := (us * 678 + 24) / 25

/-- Ticks in a count of ms. -/
def msT (ms : Nat) : Nat := ms * 27120

/-- Whole ns of a count of ticks. -/
def nsOf (ticks : Nat) : Nat := ticks * 12500 / 339

/-- Whole µs of a count of ticks. -/
def usOf (ticks : Nat) : Nat := ticks * 25 / 678

/-- The timestamp of a tick (R14, R451). -/
def tsAt (s : State) (tick : Nat) : Int := (nsOf tick : Int) + s.timeOff

/-- The present timestamp. -/
def ts (s : State) : Int := tsAt s s.now

/-- The tick at which a timestamp is reached: the first tick whose timestamp is not less. -/
def tickOf (s : State) (stamp : Nat) : Nat :=
  (((stamp : Int) - s.timeOff) * 339 + 12499).toNat / 12500

/-! ### The regulatory profile (Table 2-12) -/

/-- module.reg.channel_mask. -/
def regChannelMask (s : State) : Nat := if s.nvm.profile == 0 then 0x7F else 0x3E

/-- module.reg.port_ceiling_cdbm. -/
def regCeiling : Nat := 3097

/-- module.reg.total_mw. -/
def regTotalMw : Nat := 32000

/-- module.reg.duty_limit. -/
def regDuty : Nat := 1000

/-! ### Values of RW attributes -/

/-- The value written for an attribute and index, if any. -/
def cfgGet (c : Cfg) (id idx : Nat) : Option (List Int) := (c.find? fun e => e.1 == (id, idx)).map (·.2)

/-- Whether a key comes before another in a configuration. -/
def keyLt (a c : Nat × Nat) : Bool := a.1 < c.1 || (a.1 == c.1 && a.2 < c.2)

/-- Write a value, keeping the rising order of the keys. -/
def cfgSet (c : Cfg) (id idx : Nat) (v : List Int) : Cfg :=
  c.filter (fun e => keyLt e.1 (id, idx)) ++ [((id, idx), v)] ++ c.filter (fun e => keyLt (id, idx) e.1)

/-- Capacity in cells of the inbound ring of a queue byte (Table 7-10). -/
def inCap (q : Nat) : Nat :=
  if q < 64 then 128 else nth [64, 128, 32, 256, 128, 768, 128, 128] (q - 64) 0

/-- Capacity in cells of the outbound ring of a queue byte (Table 7-10). -/
def outCap (q : Nat) : Nat :=
  if q < 64 then 256 else nth [192, 128, 256, 256, 384, 256, 128, 128] (q - 64) 0

/-- Guard and field-off defaults and floors of Table 2-7 for a protocol: guard default, guard floor, field-off default, field-off floor. -/
def guardRow (proto : Int) : Int × Int × Int × Int :=
  if proto == 1 then (5100, 5100, 5100, 5100)
  else if proto == 2 then (1000, 1000, 1000, 1000)
  else if proto == 3 then (500, 300, 300, 300)
  else (5100, 300, 5100, 300)

/-- port.protocol of a configuration. -/
def protoOf (c : Cfg) (p : Nat) : Int := ((cfgGet c A.protocol p).bind List.head?).getD 3

/-- The aerial class of a port (Table 2-6). -/
def aerialOf (s : State) (p : Nat) : Nat := (nth s.ports p {}).radio.aerial

/-- The default of an RW attribute in a configuration: the fixed one of its table, or by its rule
(R82 with Table 2-7, R105, Table 2-12, R396). -/
def dfltOf (s : State) (c : Cfg) (id idx : Nat) : List Int :=
  if id == A.fieldGuardUs then [(guardRow (protoOf c idx)).1]
  else if id == A.fieldOffMinUs then [(guardRow (protoOf c idx)).2.2.1]
  else if id == A.tnAutotune then [if aerialOf s idx == 2 || aerialOf s idx == 3 then 2 else 0]
  else if id == A.txCeilingCdbm then [(regCeiling : Int)]
  else if id == A.fieldDutyLimit then [(regDuty : Int)]
  else if id == A.moduleTxChannelMask then [(regChannelMask s : Int)]
  else if id == A.pressBudgetMw then [(regTotalMw : Int)]
  else if id == A.linkQWmCells then [((inCap idx * 3 / 4 : Nat) : Int), ((outCap idx * 3 / 4 : Nat) : Int)]
  else ((attrRow id).map (·.dflt)).getD []

/-- The value of an RW attribute in a configuration. -/
def cfgVal (s : State) (c : Cfg) (id idx : Nat) : List Int := (cfgGet c id idx).getD (dfltOf s c id idx)

/-- The first element of an RW attribute's value in a configuration. -/
def cfg1 (s : State) (c : Cfg) (id idx : Nat) : Int := (cfgVal s c id idx).headD 0

/-- The value in force of a module-wide RW attribute. -/
def mAttr (s : State) (id : Nat) : Int := cfg1 s s.cfg.running id 0xFFFF

/-- The value in force of an indexed RW attribute. -/
def pAttr (s : State) (id p : Nat) : Int := cfg1 s s.cfg.running id p

/-- As `mAttr`, as a natural number. -/
def mAttrN (s : State) (id : Nat) : Nat := (mAttr s id).toNat

/-- As `pAttr`, as a natural number. -/
def pAttrN (s : State) (id p : Nat) : Nat := (pAttr s id p).toNat

/-! ### Ports, slices -/

/-- Change one port. -/
def modPort (p : Nat) (f : Port → Port) (s : State) : State := { s with ports := upd s.ports p f }

/-- A port. -/
def port (s : State) (p : Nat) : Port := nth s.ports p {}

/-- Change the radio of a port. -/
def modRadio (p : Nat) (f : Radio → Radio) (s : State) : State := modPort p (fun x => { x with radio := f x.radio }) s

/-- The slice that serves a port (R21). -/
def sliceOf (s : State) (p : Nat) : Nat := nth s.spares.portSlice p p

/-- The state of the slice that serves a port. -/
def sliceAt (s : State) (p : Nat) : Slice := nth s.slices (sliceOf s p) {}

/-- Change the slice that serves a port. -/
def modSlice (p : Nat) (f : Slice → Slice) (s : State) : State := { s with slices := upd s.slices (sliceOf s p) f }

/-! ### Items (Tables 7-9 and 8-1) -/

/-- IFLAGS bits (Table 8-1). -/
def fEvent : Nat := 2
def fMore : Nat := 4
def fRecord : Nat := 8

/-- The bytes of an item with a check: LEN, OPCODE, IFLAGS, TAG, STATUS, the padded body, the check (Table 7-9). -/
def itemBytes (sel : Nat) (it : Item) : Bytes :=
  let c := checkSize sel
  let len := ceilDiv (8 + it.body.length + c) 4 * 4
  let base := le 2 len ++ [b8 it.op, b8 it.flags] ++ le 2 it.tag ++ le 2 it.status
    ++ it.body ++ zeros (len - 8 - c - it.body.length)
  base ++ checkOf sel base

/-- The cells of an item of `len` bytes (R381). -/
def cellsOf (len : Nat) : Nat := ceilDiv len 64

/-- The cells an inbound entry takes. -/
def RingEntry.cells : RingEntry → Nat
  | .bytes _ b _ => cellsOf b.length
  | .cmd _ c _ => c

/-- Whether an inbound entry has been marked done (R603). -/
def RingEntry.isDone : RingEntry → Bool
  | .bytes _ _ d => d
  | .cmd _ _ d => d

/-- The level of an inbound ring in cells. -/
def InRing.level (r : InRing) : Nat := (r.items.map RingEntry.cells).sum

/-- The level of an outbound ring in cells. -/
def OutRing.level (r : OutRing) : Nat := (r.items.map fun x => cellsOf x.bytes.length).sum

/-- The inbound ring of a queue byte. -/
def inRing (s : State) (q : Nat) : InRing := nth s.inRings q {}

/-- The outbound ring of a queue byte. -/
def outRing (s : State) (q : Nat) : OutRing := nth s.outRings q {}

/-- Change an inbound ring. -/
def modIn (q : Nat) (f : InRing → InRing) (s : State) : State := { s with inRings := upd s.inRings q f }

/-- Change an outbound ring. -/
def modOut (q : Nat) (f : OutRing → OutRing) (s : State) : State := { s with outRings := upd s.outRings q f }

/-- The watermark of the inbound ring of a queue byte (R396). -/
def wmIn (s : State) (q : Nat) : Nat := ((cfgVal s s.cfg.running A.linkQWmCells q)[0]?.getD 0).toNat

/-- The watermark of the outbound ring of a queue byte (R396). -/
def wmOut (s : State) (q : Nat) : Nat := ((cfgVal s s.cfg.running A.linkQWmCells q)[1]?.getD 0).toNat

/-- PEAK and WM_LATCHED after a push that takes the ring from the level `was` to `level`: the mark latches where the level rises above it (R396). -/
def RingFlags.after (f : RingFlags) (was level wm : Nat) : RingFlags :=
  { f with peak := max f.peak level, wmLatched := f.wmLatched || (was ≤ wm && level > wm) }

/-- Whether an item fits into the free cells of an outbound ring. -/
def fitsOut (s : State) (q : Nat) (it : Item) : Bool :=
  (outRing s q).level + cellsOf (itemBytes (mAttrN s A.linkItemCheck) it).length ≤ outCap q

/-- Append an item to an outbound ring, with the check of the selector in force (R388). The stale timer starts when the
ring was empty (R395). -/
def appendOut (q : Nat) (it : Item) (s : State) : State :=
  let sel := mAttrN s A.linkItemCheck
  let stale := pAttrN s A.linkQStaleUs q
  modOut q (fun r =>
    let r' : OutRing := { r with items := r.items ++ [OutItem.mk sel (itemBytes sel it)] }
    let r' : OutRing := { r' with flags := r.flags.after r.level r'.level (wmOut s q) }
    if r.items.isEmpty then { r' with staleAt := some (s.now + usT stale), staleFired := stale == 0 }
    else if stale == 0 then { r' with staleFired := true } else r') s

/-! ### Events (R439, R543, R544) -/

/-- The queue byte of SQ2. -/
def sq2 : Nat := 0x42

/-- The class of an event code, by the second digit of the code: 0 transport to 6 service (Table 8-20). -/
def evClass (code : Nat) : Nat := field code 11 8 - 1

/-- The events that are recorded up to a full ring (R543). -/
def evKept (code : Nat) : Bool := [Ev.lost, Ev.state, Ev.swap, Ev.firmware].contains code

/-- The body of an event (Table 8-19). -/
def evBody (stamp : Int) (seq portNo : Nat) (args : Bytes) : Bytes :=
  leI 8 stamp ++ le 2 seq ++ [b8 portNo, 0] ++ args

/-- The item of an event (R439). -/
def evItem (code : Nat) (body : Bytes) : Item := { op := 0xFE, flags := fEvent, tag := 0, status := code, body := body }

/-- Whether an event is folded instead of recorded (R543, R544). -/
def foldsNow (s : State) (code : Nat) (it : Item) : Bool :=
  !fitsOut s sq2 it || ((s.ev.folding || (outRing s sq2).level ≥ 240) && !evKept code)

/-- Count an event in its class (R543). -/
def foldEv (code : Nat) (stamp : Int) (s : State) : State :=
  let e := s.ev
  let first := if e.counts.sum == 0 then stamp else e.first
  { s with ev := { e with
      folding := true, first := first, last := stamp,
      counts := upd e.counts (evClass code) fun n => min (n + 1) 65535,
      total := upd e.total (evClass code) fun n => (n + 1) % 2 ^ 32 } }

/-- Record one event, or fold it (R439, R543, R545). -/
def recordEv (code : Nat) (stamp : Int) (portNo : Nat) (args : Bytes) (s : State) : State :=
  let body := evBody stamp s.ev.next portNo args
  let it := evItem code body
  if foldsNow s code it then foldEv code stamp s
  else
    let s := appendOut sq2 it s
    { s with ev := { s.ev with
        next := (s.ev.next + 1) % 65536, log := (⟨code, s.ev.next, body⟩ :: s.ev.log).take 1024 } }

/-- The arguments of EV_QUEUE_WATERMARK (Table 8-20). -/
def wmArgs (q dir level : Nat) : Bytes := [b8 q, b8 dir] ++ le 2 level

/-- Raise an event with a given timestamp. A crossing of SQ2's own watermark is reported once per latch (R396). -/
def raiseAt (code : Nat) (stamp : Int) (portNo : Nat) (args : Bytes) (s : State) : State :=
  let s' := recordEv code stamp portNo args s
  if (outRing s' sq2).flags.wmLatched && !(outRing s sq2).flags.wmLatched then
    recordEv Ev.queueWatermark (ts s') 0xFF (wmArgs sq2 1 (outRing s' sq2).level) s'
  else s'

/-- Raise an event now. Port number 0xFF is a module event. -/
def raise (code portNo : Nat) (args : Bytes) (s : State) : State := raiseAt code (ts s) portNo args s

/-- Push an item into an outbound ring that has room, and report a first crossing of its watermark (R396). -/
def pushOut (q : Nat) (it : Item) (s : State) : State :=
  let s' := appendOut q it s
  if (outRing s' q).flags.wmLatched && !(outRing s q).flags.wmLatched then
    raise Ev.queueWatermark 0xFF (wmArgs q 1 (outRing s' q).level) s'
  else s'

/-- Bytes an item takes in the staging buffer. -/
def Item.size (it : Item) : Nat := 8 + it.body.length

/-- Hand an item to its queue. A port's item goes to the engine's staging buffer of 4 KiB, or waits outside it (R389, R394);
an item of a system queue goes into the ring, or its push waits (R392). -/
def send (q : Nat) (it : Item) (s : State) : State :=
  if q < 64 then
    modOut q (fun r =>
      if r.waiting.isEmpty && (r.staging.map Item.size).sum + it.size ≤ 4096
      then { r with staging := r.staging ++ [it] } else { r with waiting := r.waiting ++ [it] }) s
  else if (outRing s q).waiting.isEmpty && fitsOut s q it then pushOut q it s
  else modOut q (fun r => { r with waiting := r.waiting ++ [it], flags := { r.flags with pushWaited := true } }) s

/-! ### Responses (R405 to R410) -/

/-- The failure detail of Table 8-2 but its PORT byte. -/
structure Detail where
  port : Nat := 0xFF
  record : Nat := 0
  handle : Nat := 0
  arg1 : Int := 0
  arg2 : Int := 0
  deriving DecidableEq, Repr

/-- The 12 bytes of a failure detail. For a command from a CQ, PORT is the port of that CQ (Table 8-2). -/
def Detail.bytes (d : Detail) (q : Nat) : Bytes :=
  [b8 (if q < 64 then q else d.port), b8 d.record] ++ le 2 d.handle ++ leI 4 d.arg1 ++ leI 4 d.arg2

/-- The final response of a command: nothing where the command carries QUIET and succeeds with an empty body (R405, R406). -/
def respond (h : Hdr) (op status : Nat) (body : Bytes) (s : State) : State :=
  if h.quiet && status == 0 && body.isEmpty then s
  else send h.q { op := op, flags := 0, tag := h.tag, status := status, body := body } s

/-- An item of a response that is not the last (R407). -/
def respondMore (h : Hdr) (op : Nat) (body : Bytes) (s : State) : State :=
  send h.q { op := op, flags := fMore, tag := h.tag, status := 0, body := body } s

/-- A RECORD item (R408). -/
def sendRecord (q op tag status : Nat) (more : Bool) (body : Bytes) (s : State) : State :=
  send q { op := op, flags := fRecord + (if more then fMore else 0), tag := tag, status := status, body := body } s

/-- The command succeeds with a result body. -/
def ok (h : Hdr) (op : Nat) (body : Bytes) (s : State) : State := respond h op 0 body s

/-- The opcodes whose final response opens with the receive status (R409). -/
def hasRx (op : Nat) : Bool :=
  (0x40 ≤ op && op ≤ 0x6C && op != 0x4C && op != 0x6A && op != 0x6C) || op == 0xCB || op == 0xCC

/-- The receive status of a command that received no tag frame (R409). -/
def noRx : Bytes := le 2 E.rxNoResponse ++ zeros 22

/-- What stands before the failure detail of a command that fails before it has done anything: the empty receive status (R409), and
the empty result of a command whose layout is marked "always" (R410, Tables 8-11 to 8-13). -/
def emptyLead (op : Nat) : Bytes :=
  (if hasRx op then noRx else [])
    ++ (if op == 0x41 || op == 0x47 || op == 0x50 then zeros 4 else if op == 0x6B then zeros 8 else if op == 0x80 then zeros 16 else [])

/-- A command that has done nothing fails with a code and a detail (R410). -/
def fail (h : Hdr) (op code : Nat) (d : Detail) (s : State) : State := respond h op code (emptyLead op ++ d.bytes h.q) s

/-- E_RANGE of a command field: ARG2 gives the field's byte offset in the item (R411, Table 8-23). -/
def failRange (h : Hdr) (op off : Nat) (s : State) : State := fail h op E.range { arg2 := (off : Int) } s

/-- Cut a list into pieces of at most `k` elements; `fuel` bounds the number of pieces. -/
def chunks {α : Type} (k : Nat) : Nat → List α → List (List α)
  | 0, _ => []
  | fuel + 1, xs => if xs.isEmpty then [] else xs.take k :: chunks k fuel (xs.drop k)

/-- The items of a response in several items: all but the last carry MORE (R407). -/
def respondParts (h : Hdr) (op : Nat) : List Bytes → State → State
  | [], s => ok h op [] s
  | [b], s => ok h op b s
  | b :: bs, s => respondParts h op bs (respondMore h op b s)

/-- A list result: each item carries COUNT (1), reserved (3) and whole records of `size` bytes (R407). DEDUCED, unsafe: log entry 62. -/
def respondList (h : Hdr) (op size : Nat) (recs : List Bytes) (s : State) : State :=
  let per := min 255 (1388 / size)
  let parts := chunks per (recs.length + 1) recs
  let parts := if parts.isEmpty then [[]] else parts
  respondParts h op (parts.map fun p => [b8 p.length, 0, 0, 0] ++ p.flatten) s

/-- A list result of records of several sizes, cut so that no item exceeds the longest item (R407). -/
def packRecs : Nat → List Bytes → List Bytes → List (List Bytes)
  | _, acc, [] => [acc]
  | room, acc, r :: rs =>
    if r.length ≤ room && acc.length < 255 then packRecs (room - r.length) (acc ++ [r]) rs
    else acc :: packRecs (1388 - r.length) [r] rs

/-- The final chunk and the earlier ones of a byte result: TOTAL (4), OFFSET (4) and the chunk (R407). -/
def byteParts (data : Bytes) : List Bytes :=
  let cs := chunks 1280 (data.length + 1) data
  let cs := if cs.isEmpty then [[]] else cs
  cs.zipIdx.map fun (c, i) => le 4 data.length ++ le 4 (1280 * i) ++ c

/-- A counter that wraps at 2^32 (R180, R401). -/
def inc32 (n : Nat) : Nat := (n + 1) % 2 ^ 32

/-! ### The timing bank (R34 to R42) -/

/-- The timers of a port (R35). -/
def tA (p : Nat) : Nat := 3 * p
def tB (p : Nat) : Nat := 3 * p + 1
def tC (p : Nat) : Nat := 3 * p + 2

/-- The lead that every arm request surely meets, with the slowest synchroniser (R42): 3 ticks to acceptance and 8 of lead. DEDUCED, unsafe: log entry
31. -/
def sureLead : Nat := 11

/-- Change a timer. -/
def modTimer (n : Nat) (f : Timer → Timer) (s : State) : State := { s with timers := upd s.timers n f }

/-- A timer. -/
def timer (s : State) (n : Nat) : Timer := nth s.timers n {}

/-- Disarm a timer. -/
def disarm (n : Nat) (s : State) : State := modTimer n (fun t => { t with armed := false }) s

/-- Accept an arm: the descriptor is written and ARMED is set (Table 1-6). DEDUCED, unsafe: log entry 31. -/
def setTimer (n action fire : Nat) (s : State) : State :=
  modTimer n (fun t => { t with armed := true, mode := 0, action := action, fire := fire }) s

/-- Accept an arm in grid mode, with its base and its step (Table 1-6). -/
def setGrid (n action fire base period : Nat) (s : State) : State :=
  modTimer n (fun t => { t with armed := true, mode := 2, action := action, fire := fire, gridBase := base, period := period }) s

/-- Arm a timer for a tick, or where that lies too near, for the first tick whose lead the bank surely accepts (R42). DEDUCED, unsafe: log entry 31.
-/
def armSoon (n action tick : Nat) (s : State) : State := setTimer n action (max tick (s.now + sureLead)) s

/-- The first tick at or after `fire` that is a whole number of `period` ticks after the grid base (Table 1-6). -/
def gridTick (fire base period : Nat) : Nat :=
  if fire ≤ base then base else base + ceilDiv (fire - base) period * period

/-! ### Parts of a port -/

/-- Change the air side of a port. -/
def modAir (p : Nat) (f : Air → Air) (s : State) : State := modPort p (fun x => { x with air := f x.air }) s

/-- Change the receive registers of a port. -/
def modRx (p : Nat) (f : Rx → Rx) (s : State) : State := modPort p (fun x => { x with rx := f x.rx }) s

/-- Change the Hymond registers of a port. -/
def modHy (p : Nat) (f : Hy → Hy) (s : State) : State := modPort p (fun x => { x with hy := f x.hy }) s

/-- Draw the next number of the free counter. DESIGN CHOICE, safe: log entry 3. -/
def drawn (s : State) : State := { s with free := s.free + 1 }

/-! ### Prism sets (R322, R323) -/

/-- The members of the set a port leads, in port order; none where it leads no set (R322). -/
def membersIn (s : State) (c : Cfg) (p : Nat) : List Nat :=
  (List.range 8).filterMap fun i => if bit (cfg1 s c A.prismMembers p).toNat i then some (p / 8 * 8 + i) else none

/-- The members of the set a port leads, by the running configuration. -/
def members (s : State) (p : Nat) : List Nat := membersIn s s.cfg.running p

/-- The lead of the set a port belongs to, if it belongs to one. -/
def leadIn (s : State) (c : Cfg) (p : Nat) : Option Nat :=
  ((List.range 8).map fun i => p / 8 * 8 + i).find? fun l => (membersIn s c l).contains p

/-- Whether a port is a member of a set without leading it, so that it carries no feature of its own (R59, R322). -/
def isFollower (s : State) (p : Nat) : Bool :=
  match leadIn s s.cfg.running p with
  | some l => l != p
  | none => false

/-- The ports that act with a port: its set, or itself. -/
def group (s : State) (p : Nat) : List Nat := let m := members s p; if m.isEmpty then [p] else m

/-- The lead of a port, or the port itself, whose engine carries its field (R322). -/
def leadOf (s : State) (p : Nat) : Nat := (leadIn s s.cfg.running p).getD p

end Sys2Proof.Machine
end

