-- ==== Sys2Proof/Machine/Cancel.lean ====
section
/-!
DEFINITION. What the receive chain adapts: the carrier and offset cancellers, Mirror's filters, and the equaliser of a frame (03). The samples
themselves are operands of no command, so what an adaptation finds is a free value. DESIGN CHOICE, safe: log entry 66.
-/

namespace Sys2Proof.Machine

/-! ### The analogue carrier canceller (R125, R126) -/

/-- The set of weights in use on a port: the timing bank switches with QD, on the same tick (R125). -/
def weightsInUse (s : State) (p : Nat) : Cpx :=
  let x := port s p
  if x.radio.qdDamped then x.rx.damped else x.rx.released

/-- A set of a port or of every member of its set adapts, but never during a downlink frame or a receive window (R126, R329). -/
def adaptSet (damped : Bool) (p : Nat) (s : State) : State :=
  if (port s p).air.txEnd.isSome || (port s p).air.win.isSome then s
  else (group s p).foldl (fun s' q =>
    let w : Cpx := (Config.weight s.free q 0, Config.weight s.free q 1)
    modRx q (fun r => if damped then { r with damped := w, adaptDamped := s.now } else { r with released := w, adaptReleased := s.now }) s')
    (drawn s)

/-- QD is driven on every slice of a port or its set, and the canceller's set follows (R100, R125, R323). -/
def setQd (p : Nat) (damped : Bool) (s : State) : State :=
  (group s p).foldl (fun s q => modRadio q (fun r => { r with qdDamped := damped }) s) s

/-! ### The digital offset canceller (R127, R128) -/

/-- The channel offsets at which other carriers of the module stand, seen from a port: those of the fields on other channels (R127). -/
def otherChannels (s : State) (p : Nat) : List Int :=
  (((List.range 64).filterMap fun q =>
    if (sliceAt s q).st == .field then some (((sliceAt s q).channel : Int) - ((sliceAt s p).channel : Int)) else none).filter (· != 0)).eraseDups

/-- The error of the module's crystal in parts per billion, within the ±20 ppm of R67. -/
def crystalError : Int := max (-20000) (min 20000 Config.crystalPpb)

/-- The frequency in mHz of the tone at a channel offset: k × 2000 Hz scaled by the error of the module's crystal (R67, R127). -/
def toneFreq (k : Int) : Int := k * 2000000 * (1000000000 + crystalError) / 1000000000

/-- The estimates a port's offset canceller has adapted to when a receive window opens, frozen there (R127, R128). -/
def offsetAt (s : State) (n p : Nat) : Offset :=
  let est := Config.offsetEst n p
  let tone := fun (freq : Int) (b : Nat) => (⟨freq, (est b, est (b + 1)), est (b + 2) % 65536⟩ : Beat)
  { dc := (est 0, est 1)
    channels := (otherChannels s p).zipIdx.map fun (k, i) => tone (toneFreq k) (10 + 3 * i)
    tracked := (List.range ((est 2 % 5).toNat)).map fun i => tone (max (-13000000) (min 13000000 (est (3 + i)))) (100 + 3 * i)
    frozenAt := some s.now }

/-- A tone after a count of ticks at its tracked frequency (R128). -/
def Beat.after (ticks : Nat) (t : Beat) : Beat := { t with phase := (t.phase + t.freq * (ticks : Int) * 65536 / 27120000000) % 65536 }

/-- After a window the canceller resumes from the estimates it held, whose phases have gone on (R128). -/
def Offset.thaw (now : Nat) (o : Offset) : Offset :=
  match o.frozenAt with
  | none => o
  | some t => { o with
      frozenAt := none, channels := o.channels.map (Beat.after (now - t)), tracked := o.tracked.map (Beat.after (now - t)) }

/-- A receive window opens on a port: the cancellers of every path of its set freeze, and with them what Mirror takes each selected aggressor's
envelope to be (R126, R128, R141, R329). -/
def freezeRx (p : Nat) (s : State) : State :=
  (group s p).foldl (fun s' q => modRx q (fun r => { r with
    offset := offsetAt s s.free q,
    env := r.aggressors.map fun a => (a, (Config.envelope s.free q (2 * a), Config.envelope s.free q (2 * a + 1))) }) s') (drawn s)

/-- The receive window of a port is over: the offset canceller resumes, and after a damped window, which is any
window of a port in DAMPED mode, the damped set adapts (R99, R126, R128). -/
def closeRx (p : Nat) (s : State) : State :=
  match (port s p).air.win with
  | none => s
  | some w =>
    let s := (group s p).foldl (fun s' q => modRx q (fun r => { r with offset := r.offset.thaw s.now }) s') s
    let s := modAir p (fun a => { a with win := none, txEnd := none, idleSince := s.now }) s
    if pAttr s A.qdMode p == 1 || (pAttr s A.qdMode p == 2 && (w.mode == 0x13 || w.mode == 0x14)) then adaptSet true p s else s

/-! ### Mirror's filters (R141, R147) -/

/-- The four taps of an aggressor's filter into a victim; zeros for a pair not trained (R141). -/
def tapsOf (s : State) (a v : Nat) : List Cpx :=
  ((s.filters.find? fun e => e.1 == a && e.2.1 == v).map (·.2.2)).getD (List.replicate 4 (0, 0))

/-- Write the taps of a pair. -/
def putTaps (a v : Nat) (taps : List Cpx) (s : State) : State :=
  { s with filters := s.filters.filter (fun e => !(e.1 == a && e.2.1 == v)) ++ [(a, v, taps)] }

/-- A product of complex numbers. -/
def cMul (a z : Cpx) : Cpx := (a.1 * z.1 - a.2 * z.2, a.1 * z.2 + a.2 * z.1)

/-- What Mirror subtracts from one sample of a victim for one aggressor: its filter over the last four samples of the envelope, newest first,
each less the envelope's value when the victim's cancellers froze (R141). -/
def mirrorSample (taps : List Cpx) (frozen : Cpx) (stream : List Cpx) : Cpx :=
  (taps.zip stream).foldl (fun acc (t, x) => let y := cMul t (x.1 - frozen.1, x.2 - frozen.2); (acc.1 + y.1, acc.2 + y.2)) (0, 0)

/-- A training has measured a pair: its filter is a free value beside the magnitude measured (R145). -/
def trainPair (n a v : Nat) (s : State) : State :=
  putTaps a v ((List.range 4).map fun k => (Config.tap n a v (2 * k), Config.tap n a v (2 * k + 1))) s

/-- A training has measured the pairs of a list. -/
def trainFilters (pairs : List (Nat × Nat × Int)) (s : State) : State := pairs.foldl (fun s' (a, v, _) => trainPair s.free a v s') (drawn s)

/-- One aggressor's filter into a victim follows the residual of a downlink frame, with step 1/1024, and the coupling moves with it (R147). -/
def trackPair (n a v : Nat) (s : State) : State :=
  let taps := (tapsOf s a v).zipIdx.map fun (t, k) => (t.1 + Config.tapMove n a v (2 * k) / 1024, t.2 + Config.tapMove n a v (2 * k + 1) / 1024)
  let moved := fun (x : Int) => max (-9000) (min 0 (x + Config.couplingMove n a v))
  let s := putTaps a v taps s
  { s with coupling := s.coupling.map fun e => if e.1 == a && e.2.1 == v then (a, v, moved e.2.2) else e }

/-- Whether a victim's residual shows an aggressor's downlink: its receiver is on, and it has no receive window open (R122, R147). -/
def hears (s : State) (v : Nat) : Bool := (sliceAt s v).st.code ≥ 3 && (port s (leadOf s v)).air.win.isNone

/-- A downlink of a port or its set has ended: the filters of its carriers move on every victim that selects them (R147). -/
def trackMirror (p : Nat) (s : State) : State :=
  let pairs := (List.range 64).flatMap fun v =>
    if hears s v then ((port s v).rx.aggressors.filter fun a => (group s p).contains a).map fun a => (a, v) else []
  if pairs.isEmpty then s else pairs.foldl (fun s' (a, v) => trackPair s.free a v s') (drawn s)

/-! ### The equaliser (R161 to R165) -/

/-- Feed-forward and feedback taps of a mode (Table 3-5). -/
def eqTaps (mode : Nat) : Nat × Nat := match mode with | 1 => (8, 0) | 2 => (8, 2) | 3 => (12, 4) | _ => (0, 0)

/-- The step of the payload of a mode, as the negative power of two (Table 3-5, R165). -/
def eqStep (mode : Nat) : Nat := match mode with | 3 => 10 | 4 => 8 | _ => 9

/-- Complex free values of an adaptation. -/
def eqValues (n base k : Nat) : List Cpx := (List.range k).map fun i => (Config.eqValue n (2 * (base + i)), Config.eqValue n (2 * (base + i) + 1))

/-- The equaliser of a frame at its sync: the feed-forward taps and the phase, or the channel of each H4 subcarrier, from the known symbols; the
feedback taps are untrained (R162, R163, R165). It adapts through the header with step 2⁻⁷. In H4 the sync tick sets the FFT window. -/
def trainEq (n mode tick : Nat) : Equaliser :=
  { ff := eqValues n 0 (eqTaps mode).1, fb := List.replicate (eqTaps mode).2 (0, 0), chan := if mode == 4 then eqValues n 20 16 else []
    phase := Config.eqValue n 100, rate := 0, step := if mode == 4 then 8 else 7, mse := none, fftAt := if mode == 4 then tick + 33 else 0 }

/-- The equaliser after the header, in the mode it names: decisions have moved it, and it goes on through the payload with that mode's step
(R162, R163, R165). -/
def headerEq (n mode : Nat) (e : Equaliser) : Equaliser :=
  { e with ff := eqValues n 0 (eqTaps mode).1, fb := eqValues n 12 (eqTaps mode).2, chan := if mode == 4 then eqValues n 20 16 else []
           phase := Config.eqValue n 100, rate := Config.eqValue n 101, mse := some (Config.eqValue n 102), step := eqStep mode }

/-- The ticks of the FFT of one H4 symbol after the sync, first and last: 128 ticks of data behind a guard of 32 (R164). -/
def fftWindow (e : Equaliser) (symbol : Nat) : Nat × Nat := (e.fftAt + 160 * symbol, e.fftAt + 160 * symbol + 127)

/-- The FFT bin of an H4 subcarrier: the spacing of the bins is that of the subcarriers (R164). -/
def fftBin (k : Int) : Nat := (k % 128).toNat

/-- The weights with which the paths of a set are combined, from its sync or start of frame; none for a port by itself (R329). -/
def pathWeights (s : State) (n p : Nat) : List Cpx :=
  (members s p).zipIdx.map fun (_, i) => (Config.eqValue n (200 + 2 * i), Config.eqValue n (201 + 2 * i))

end Sys2Proof.Machine
end

