-- ==== Sys2Proof/Machine/TaskOps.lean ====
section
/-!
DEFINITION. The running command of a port: its final response with the receive status of R409, and the end of its exchange.
-/

namespace Sys2Proof.Machine

/-- The receive status a command's final response opens with. -/
def Task.rxBytes (t : Task) : Bytes := if hasRx t.op then t.rx.getD noRx else []

/-- QD that was kept damped for a frame that does not come is released, by action 0x07 on T_A (R101). DEDUCED, unsafe: log entry 61. -/
def freeQd (p : Nat) (s : State) : State :=
  match (port s p).air.qdDue with
  | none => s
  | some t =>
    let s := modAir p (fun a => { a with qdDue := none }) s
    if (port s p).radio.qdDamped then armSoon (tA p) 0x07 t s else s

/-- The port's exchange ends: nothing is armed on T_B, no window is open. -/
def quietAir (p : Nat) (s : State) : State :=
  freeQd p (disarm (tB p) (closeRx p (modAir p (fun a => { a with
    tx := none, notBefore := none, armed := false, wave := none,
    txEnd := none, idleSince := if a.txEnd.isSome then s.now else a.idleSince }) s)))

/-- Change the running command of a port. -/
def modTask (p : Nat) (f : Task → Task) (s : State) : State := modPort p (fun x => { x with task := x.task.map f }) s

/-- A Hymond tag record (R431): handle, strength, identifier, descriptor. -/
def hyRecord (r : Nat × Int × Bytes × Bytes) : Bytes := le 2 r.1 ++ leI 2 r.2.1 ++ fit 16 r.2.2.1 ++ fit 12 r.2.2.2

/-- COUNT (1), reserved (3) and the records (R431). -/
def hyRecords (rs : List (Nat × Int × Bytes × Bytes)) : Bytes := [b8 rs.length, 0, 0, 0] ++ (rs.map hyRecord).flatten

/-- The PROTOCOL code of an ISO kind (Table 6-3). -/
def isoProto (kind : Nat) : Nat := kind + 1

/-- An ISO tag record (R429). -/
def isoRecord (x : IsoHandle) : Bytes :=
  let info := if x.kind == 1 then fit 7 x.info ++ [b8 x.cid] else fit 8 x.info
  le 2 x.h ++ [b8 (isoProto x.kind), b8 x.id.length] ++ fit 10 x.id ++ info ++ leI 2 x.strength ++ [b8 x.st.code] ++ zeros 3

/-- CRED_WRITE and CRED_VERIFY (R500). -/
def isCred (op : Nat) : Bool := op == 0xCB || op == 0xCC

/-- The response a command returns whatever its outcome: the bodies of the items that come first, and the body that the final
item carries after the receive status (the layouts marked "always", R431). -/
def alwaysParts (op : Nat) : Proc → List Bytes × Bytes
  | .hy c =>
    if op == 0x6B then
      let cs := chunks 40 256 c.found
      ((cs.dropLast).map hyRecords, le 2 c.found.length ++ le 2 c.unresolved ++ hyRecords (cs.getLastD []))
    else ([], [])
  | .iso c =>
    if op == 0x41 || op == 0x47 || op == 0x50 then
      ([], [b8 c.found.length, b8 c.unresolved, b8 c.noCid, 0] ++ (c.found.map isoRecord).flatten)
    else ([], [])
  | _ => ([], [])

/-- The running command of a port ends: the early items, then the final response (R405, R407, R409, R410). An exchange of the port's
Harvest pass hands its outcome to the pass instead. At the end of CRED_WRITE and CRED_VERIFY the secure transmit buffer is zeroised (R503). -/
def endTask (p : Nat) (code : Nat) (body : Bytes) (s : State) : State :=
  match (port s p).task with
  | none => s
  | some t =>
    if t.ofPass then
      let found := match t.proc with | .iso c => c.found | _ => []
      quietAir p (modPort p (fun x => { x with
        task := none, pass := x.pass.map fun q => { q with result := some (code, body, found) } }) s)
    else
      let parts := alwaysParts t.op t.proc
      let s := modPort p (fun x => { x with task := none, secBuf := if isCred t.op then none else x.secBuf }) s
      let s := parts.1.foldl (fun s b => respondMore t.hdr t.op b s) s
      quietAir p (respond t.hdr t.op code (t.rxBytes ++ parts.2 ++ body) s)

/-- The running command of a port succeeds with a response body. -/
def taskOk (p : Nat) (body : Bytes) (s : State) : State := endTask p 0 body s

/-- The running command of a port succeeds with a byte result (R407). -/
def taskBytes (p : Nat) (data : Bytes) (s : State) : State :=
  match (port s p).task with
  | none => s
  | some t =>
    if t.ofPass then endTask p 0 data s
    else
      let parts := byteParts data
      let s := (parts.dropLast).foldl (fun s b => respondMore t.hdr t.op b s) s
      endTask p 0 (parts.getLastD []) s

/-- The running command of a port fails (R410). -/
def taskFail (p : Nat) (code : Nat) (d : Detail) (s : State) : State := endTask p code (d.bytes p) s

/-- The running Hymond command of a port, if it is one. -/
def hyCmd (s : State) (p : Nat) : Option HyCmd :=
  match (port s p).task with
  | some { proc := .hy c, .. } => some c
  | _ => none

/-- Put a Hymond command back into the running task. -/
def setHy (p : Nat) (c : HyCmd) (s : State) : State := modTask p (fun t => { t with proc := .hy c }) s

/-- A command that waits by R278 ends with a code (R399, R405): the answer it would have given from the running state. -/
def failParked (p code : Nat) (d : Detail) (k : Parked) (s : State) : State :=
  if k.task.ofPass then s
  else
    let parts := alwaysParts k.task.op k.task.proc
    let s := if isCred k.task.op then modPort p (fun x => { x with secBuf := none }) s else s
    let s := parts.1.foldl (fun s b => respondMore k.task.hdr k.task.op b s) s
    respond k.task.hdr k.task.op code (k.task.rxBytes ++ parts.2 ++ d.bytes p) s

/-- ARG1 of the failure that a SHADOW_DISCARD serves: the cask of E_KEY_REVOKED (Table 8-23). -/
def whyArg (c : HyCmd) : Int := if c.why == E.keyRevoked then (c.cask : Int) else 0

/-- The running command of a port fails in one of its exchanges. Where that exchange is a SHADOW_DISCARD, the command completes with the code that
called for it, and ARG2 carries the discard's own (R284, R514). -/
def stepFail (p code : Nat) (d : Detail) (s : State) : State :=
  match hyCmd s p with
  | none => taskFail p code d s
  | some c =>
    if (c.stage == .sealDiscard || c.stage == .credDiscard) && code != c.why then
      taskFail p c.why { d with handle := c.handle, arg1 := whyArg c, arg2 := (code : Int) } s
    else taskFail p code d s

/-! ### Entries of the inventory table (R314, R315, R319) -/

/-- An entry in the layout of Table 6-3. -/
def InvEntry.bytes (e : InvEntry) : Bytes :=
  let flags := bnat e.readOk + 2 * bnat e.halted + 4 * bnat e.prism + 8 * bnat e.remote + 16 * bnat e.bestMoved
  fit 16 e.ident ++ [b8 e.proto, b8 flags] ++ fit 2 e.cls ++ le 8 e.ports ++ [b8 e.best, b8 e.hearings] ++ leI 2 e.strength
    ++ leI 8 e.first ++ leI 8 e.latest ++ le 2 e.handle ++ le 2 e.read ++ [b8 e.owner, b8 e.modules.length] ++ le 4 e.crc
    ++ [b8 e.charged] ++ zeros 5

/-- The number of the entry with a key (R315). -/
def findInv (s : State) (proto : Nat) (ident : Bytes) : Option (Nat × InvEntry) :=
  s.inv.find? fun e => e.2.proto == proto && e.2.ident == fit 16 ident

/-- Change an entry of the table. -/
def modInv (i : Nat) (f : InvEntry → InvEntry) (s : State) : State :=
  { s with inv := s.inv.map fun e => if e.1 == i then (i, f e.2) else e }

/-- An entry of the table. -/
def invAt (s : State) (i : Nat) : Option InvEntry := (s.inv.find? fun e => e.1 == i).map (·.2)

/-- The Harvest record of an entry, in one RECORD item or two (R408, R432). Reporting clears BEST_MOVED (R319). -/
def reportInv (tag p i : Nat) (rx data : Bytes) (s : State) : State :=
  match invAt s i with
  | none => s
  | some e =>
    let more := data.length > 1304
    let s := sendRecord p 0x80 tag 0 more (e.bytes ++ rx ++ le 2 data.length ++ [0, 0] ++ data.take 1304) s
    let s := if more then
        sendRecord p 0x80 tag 0 false (fit 16 e.ident ++ le 2 1304 ++ le 2 (data.length - 1304) ++ data.drop 1304) s
      else s
    modInv i (fun e => { e with bestMoved := false }) s

/-- Handles of a port are released: the entries whose best port it is name them no more (R314, Table 6-3). -/
def clearInv (p : Nat) (gone : List HyHandle) (s : State) : State :=
  { s with inv := s.inv.map fun (i, e) =>
      if e.best == p && e.proto == 0x10 && gone.any fun y => y.h == e.handle && y.ident == some e.ident then (i, { e with handle := 0 }) else (i, e) }

/-! ### Descriptors heard (R286) -/

/-- Fields of a class descriptor (Table 5-7, bytes 16 to 27). -/
def dDl (d : Bytes) : Nat := num d 2 1
def dUl (d : Bytes) : Nat := num d 3 1
def dGuardUs (d : Bytes) : Nat := 10 * num d 4 1
def dTrMin (d : Bytes) : Nat := num d 5 1
def dWriteUs (d : Bytes) : Nat := num d 6 2
def dPages (d : Bytes) : Nat := num d 8 1
def dKeys (d : Bytes) : Nat := num d 9 1
def dSealed (d : Bytes) : Bool := bit (num d 10 1) 1
def dChallenge (d : Bytes) : Bool := bit (num d 10 1) 2

/-- A tag has declared its GUARD and TR_MIN on the port; a GUARD above port.field.guard_us is reported once per port and
commit (R286, R298). -/
def noteDesc (p : Nat) (d : Bytes) (s : State) : State :=
  let g := dGuardUs d
  let told := (port s p).hy.guardTold
  let raises := g > pAttrN s A.fieldGuardUs p && !told
  let s := modHy p (fun y => { y with
    guardUs := max y.guardUs g, trMin := max y.trMin (dTrMin d), guardTold := y.guardTold || raises }) s
  if raises then raise Ev.hyGuardRaised p (le 2 g) s else s

/-! ### The end of a Harvest pass (R433) -/

/-- The pass summary (R433). -/
def passSummary (s : State) (x : HvPass) : Bytes :=
  le 2 x.inserted ++ le 2 x.merged ++ le 2 x.lost ++ le 2 x.rounds ++ [b8 x.q, 0, 0, 0] ++ le 4 (usOf (s.now - x.since))

/-- Change the pass of a port. -/
def modPass (p : Nat) (f : HvPass → HvPass) (s : State) : State := modPort p (fun x => { x with pass := x.pass.map f }) s

/-- A pass ends while a READ waits or runs, or an ACK of R289: the tags it has recorded and not yet reported are reported (R319). -/
def reportLeft (p : Nat) (x : HvPass) (s : State) : State :=
  let tag := (x.hdr.map (·.tag)).getD 0
  let left := x.reads ++ (match x.cur with | some t => if x.stage == .read || x.stage == .rehandle then [t] else [] | none => [])
  (left.filter (·.report)).foldl (fun s t => match findInv s 0x10 t.ident with
    | some (i, _) => reportInv tag p i t.rx [] s
    | none => s) s

/-- The descriptors of the announces that a slot has left and the pass no longer treats (R286). -/
def noteLeft (p : Nat) (x : HvPass) (s : State) : State :=
  x.work.foldl (fun s w => match w with | .announce t => noteDesc p t.desc s | .header .. => s) s

/-- A pass ends with a code: its exchange is dropped, its summary goes out, and the HARVEST_STOPs that ended it are answered
(R304, R433). -/
def finishPass (p code : Nat) (d : Bytes) (s : State) : State :=
  match (port s p).pass with
  | none => s
  | some x =>
    let s := noteLeft p x (reportLeft p x s)
    let body := passSummary s x
    let s := modPort p (fun y => { y with
      pass := none,
      task := match y.task with | some t => if t.ofPass then none else some t | none => none,
      parked := y.parked.filter fun k => !k.task.ofPass }) s
    let s := if (port s p).task.isNone then quietAir p s else s
    let s := match x.hdr with
      | some h => respond h 0x80 code (body ++ (if code == 0 then [] else d)) s
      | none => sendRecord p 0x80 0 code false (body ++ (if code == 0 then [] else d)) s
    x.stops.foldl (fun s h => ok h 0x81 [] s) s

/-- The commands of a port that run or wait by R278 end with a code. -/
def endCmds (p code : Nat) (d : Detail) (s : State) : State :=
  let parked := (port s p).parked
  let s := match (port s p).task with
    | some t => if t.ofPass then s else endTask p code (d.bytes p) s
    | none => s
  let s := parked.foldl (fun s k => failParked p code d k s) s
  modPort p (fun x => { x with parked := x.parked.filter (·.task.ofPass) }) s

/-- Everything that runs or waits on a port ends with a code: its commands and the pass. -/
def abortWork (p code : Nat) (d : Detail) (s : State) : State := finishPass p code (d.bytes p) (endCmds p code d s)

end Sys2Proof.Machine
end

