-- ==== Sys2Proof/Machine/AirOps.lean ====
section
/-!
DEFINITION. The air side of a port engine: arming downlinks and windows on the timing bank, Q-damp, gain, level records,
signal estimates, and the receive status (02, 03).
-/

namespace Sys2Proof.Machine

/-! ### Arming (R38 to R42, R100 to R102) -/

/-- A counted wear event of a monitor and an instance (Table 11-2). -/
def countWear (monitor inst : Nat) (s : State) : State :=
  { s with spares := { s.spares with wearEvents := (monitor, inst, s.now) :: s.spares.wearEvents } }

/-- The engine of a port counts an underrun, overrun or late refusal (R45, Table 11-2 monitor 7). -/
def countEngine (p : Nat) (s : State) : State := countWear 7 (nth s.spares.portEngine p p) s

/-- Ask the timing bank for an action at an exact tick: the timer armed, or the lead of a refused arm (R42). -/
def armExact (n action fire : Nat) (s : State) : State × Option Int :=
  let accept := s.now + (if Config.armSlow s.free then 3 else 2)
  let lead : Int := (fire : Int) - (accept : Int)
  let s := drawn s
  if lead ≥ 8 then (setTimer n action fire s, none)
  else (modTimer n (fun t => { t with late := true, armed := false }) s, some lead)

/-- Whether a downlink is damped: D3 or D4 on a port in SWITCHED mode (Table 2-10). -/
def txDamped (s : State) (p : Nat) (tx : Tx) : Bool :=
  pAttr s A.qdMode p == 2 && (match tx.frame with | .hymond dl _ _ => dl ≥ 3 | .iso .. => false)

/-- Whether the window of a downlink is damped: H3 or H4 on a port in SWITCHED mode (Table 2-10). -/
def winDamped (s : State) (p : Nat) (tx : Tx) : Bool :=
  pAttr s A.qdMode p == 2 && (match tx.window with | some (_, _, m) => m == 0x13 || m == 0x14 | none => false)

/-- The QD actions of one exchange whose downlink starts at `fire` (Table 2-10, R101): action 0x06 damps, 0x07 releases. -/
def qdActions (s : State) (p : Nat) (tx : Tx) (fire : Nat) : List (Nat × Nat) :=
  let td := txDamped s p tx
  let wd := winDamped s p tx
  let fin := fire + tx.dur
  let hold := usT (pAttrN s A.qdHoldUs p)
  match tx.window with
  | none => if td then [(fire - 16, 6), (fin + 8, 7)] else []
  | some (o, c, _) =>
    let bridge := td && wd && o ≤ hold
    (if td then [(fire - 16, 6)] else []) ++ (if td && !bridge then [(fin + 8, 7)] else [])
      ++ (if wd && !bridge then [(fin + o - 16, 6)] else []) ++ (if wd then [(fin + c + 8, 7)] else [])

/-- Arm the next QD action of the plan on T_A (R100). Actions already reached by the held state are dropped. -/
def armQd (p : Nat) (s : State) : State :=
  match (port s p).air.qdPlan with
  | [] => s
  | (tick, action) :: rest =>
    let s := modAir p (fun a => { a with qdPlan := rest }) s
    armSoon (tA p) action tick s

/-- Whether results of the port wait that cannot be pushed, so that it starts no new exchange (R394). -/
def paused (s : State) (p : Nat) : Bool :=
  let r := outRing s p
  !r.waiting.isEmpty || (match r.staging with | [] => false | it :: _ => !fitsOut s p it)

/-- Whether the port may start a downlink: the field on and its guard over, or no field and no ramp (R80, R394). -/
def mayStart (s : State) (p : Nat) : Bool :=
  let x := port s p
  !paused s p && ((x.radio.phase == .on && x.radio.guardUntil.isNone) || x.radio.phase == .off)

/-- The lead a downlink needs: the arm lead, and 16 ticks more when QD is damped before it. -/
def startLead (s : State) (p : Nat) (tx : Tx) : Nat :=
  sureLead + (if txDamped s p tx && !(port s p).radio.qdDamped then 16 else 0)

/-- The release of QD that is still to come: armed on T_A, or put off. -/
def qdRelease (s : State) (p : Nat) : Option Nat :=
  let t := timer s (tA p)
  if t.armed && t.action == 0x07 then some t.fire else (port s p).air.qdDue

/-- The tick at which the first damped frame of an exchange begins. -/
def firstDamped (s : State) (p : Nat) (tx : Tx) (fire : Nat) : Option Nat :=
  if txDamped s p tx then some fire
  else if winDamped s p tx then tx.window.map fun (o, _, _) => fire + tx.dur + o
  else none

/-- A release still to come, put before the actions of the exchange now armed, unless QD stays damped from one to the other: its first damped
frame begins within port.qd.hold_us of the end of the last, 8 ticks before the release (R101). -/
def qdJoin (s : State) (p : Nat) (tx : Tx) (fire : Nat) (plan : List (Nat × Nat)) : List (Nat × Nat) :=
  match qdRelease s p with
  | none => plan
  | some t =>
    match firstDamped s p tx fire with
    | none => (t, 7) :: plan
    | some d => if d + 8 ≤ t + usT (pAttrN s A.qdHoldUs p) || d ≤ max t (s.now + sureLead) + sureLead + 16 then plan else (t, 7) :: plan

/-- The downlink has been armed for `fire`. DEDUCED, unsafe: log entry 61. -/
def armedAt (p : Nat) (tx : Tx) (fire : Nat) (s : State) : State :=
  let plan := qdJoin s p tx fire (qdActions s p tx fire)
  let s := modAir p (fun a => { a with armed := true, qdPlan := plan, qdDue := none }) s
  armQd p (disarm (tA p) s)

/-- Start the prepared downlink as soon as the port may, not before its own earliest tick, nor before the turnaround after a Hymond answer
(R30, R80, R285). -/
def kick (p : Nat) (s : State) : State :=
  let a := (port s p).air
  match a.tx with
  | none => s
  | some tx =>
    if a.armed || a.txEnd.isSome || a.win.isSome || !mayStart s p then s
    else
      let fire := max (s.now + startLead s p tx) (max (a.notBefore.getD 0) a.clearAt)
      armedAt p tx fire (setTimer (tB p) 0x03 fire s)

/-- Prepare a downlink that starts as soon as possible. -/
def sendTx (p : Nat) (tx : Tx) (s : State) : State :=
  kick p (modAir p (fun a => { a with tx := some tx, notBefore := none, armed := false, txEnd := none, win := none }) s)

/-- Prepare the next downlink of an exchange for an exact tick. When the port may not start now, it goes as soon as it may.
An arm with too short a lead fails the command with E_TIMING_LATE and the lead in ARG1 (R42). -/
def sendTxAt (p : Nat) (tx : Tx) (fire : Nat) (s : State) : State :=
  let s := modAir p (fun a => { a with tx := some tx, notBefore := some fire, armed := false, txEnd := none, win := none }) s
  if !mayStart s p then s
  else
    match armExact (tB p) 0x03 fire s with
    | (s, none) => armedAt p tx fire s
    | (s, some lead) => stepFail p E.timingLate { port := p, arg1 := lead } (countEngine p s)

/-! ### Gain and level records (R131 to R135) -/

/-- The step that places a band level nearest −18 dBFS, given the level measured at `step` (R134, R135): each step is 6 dB.
Of two equally near steps the lower is taken. -/
def nearestStep (step : Nat) (level : Int) : Nat :=
  let err := fun (k : Nat) => mag (level + 600 * ((k : Int) - (step : Int)) + 1800)
  (List.range 8).foldl (fun best k => if err k < err best then k else best) 0

/-- The level record of a window: the expected handle's, or the port's for ISO and where no one tag is expected; discarded when older than
port.rx.level_age_ms (R132, R134). -/
def levelRec (s : State) (p handle : Nat) (iso : Bool) : Option LevelRec :=
  let r := if iso || handle == 0 then (port s p).rx.level
    else ((port s p).rx.levels.find? fun e => e.1 == handle).map (·.2)
  match r with
  | none => none
  | some l => if s.now ≤ l.tick + msT (pAttrN s A.rxLevelAgeMs p) then some l else none

/-- Whether a window uses the fast AGC; in AUTO a Hymond window that expects no one tag does (R131). -/
def winFast (s : State) (p mode handle : Nat) : Bool :=
  mode != 0x14 && (match pAttr s A.rxAgcMode p with
    | 0 => false
    | 1 => true
    | _ => (mode ≥ 0x10 && handle == 0) || (levelRec s p handle (mode < 0x10)).isNone)

/-- Open the receive window of the frame on the air; the cancellers freeze (R123, R128, R131, R132, R135). -/
def openWindow (p : Nat) (tx : Tx) (mode closeAt : Nat) (s : State) : State :=
  let fast := winFast s p mode tx.handle
  let init := pAttrN s A.rxGainInitial p
  let gain := if fast then init else ((levelRec s p tx.handle (mode < 0x10)).map (·.step)).getD init
  freezeRx p (modAir p (fun a => { a with
    txEnd := none, wave := none, win := some { mode := mode, fast := fast, gain := gain, handle := tx.handle, closeAt := closeAt } }) s)

/-- The level record after an accepted frame (R132, R134). -/
def levelAfter (h : Held) (m : RxMeas) : Nat :=
  if h.fast then nearestStep h.gain m.band
  else if m.band > -800 || m.clipAny then h.gain - 1
  else if m.band < -2600 then min 7 (h.gain + 1) else h.gain

/-- Put an entry at the front of a list of the 16 most recent handles. -/
def recent {α : Type} (h : Nat) (v : α) (xs : List (Nat × α)) : List (Nat × α) :=
  ((h, v) :: xs.filter fun e => e.1 != h).take 16

/-- Update the level records for a frame; a rejected one that clips moves the record of a STEPPED window, whether or not it has pre-empted
another (R132 to R134). Where there is no record it makes none, and the move does not renew a record's age. DESIGN CHOICE, unsafe: log entry 74. -/
def noteLevel (p handle : Nat) (accepted : Bool) (w : Window) (h : Held) (m : RxMeas) (s : State) : State :=
  if accepted then
    let l : LevelRec := ⟨levelAfter h m, s.now⟩
    modRx p (fun r => { r with level := some l, levels := if handle == 0 then r.levels else recent handle l r.levels }) s
  else if m.clipMany && !w.fast then
    let down := fun (l : LevelRec) => { l with step := l.step - 2 }
    modRx p (fun r => { r with
      level := if handle == 0 then r.level.map down else r.level,
      levels := r.levels.map fun e => if e.1 == handle then (e.1, down e.2) else e }) s
  else s

/-- Refresh the per-subcarrier estimate of a handle (R169): an H4 frame gives the powers themselves; before the first one the
estimate is the frame's strength less 12.04 dB on every subcarrier. -/
def noteSignal (p handle mode : Nat) (strength : Int) (subPow : List Int) (s : State) : State :=
  if handle == 0 then s
  else modRx p (fun r =>
    let old := r.sig.find? fun e => e.1 == handle
    if mode == 0x14 then { r with sig := recent handle (true, subPow) r.sig }
    else match old with
      | some (_, true, v) => { r with sig := recent handle (true, v) r.sig }
      | _ => { r with sig := recent handle (false, List.replicate 16 (strength - 1204)) r.sig }) s

/-! ### The receive status (Tables 3-10 and 3-11) -/

/-- Aggressors Mirror subtracts on a port; on the paths of a set, those subtracted on any of them, at most 8 (R181, R329). DESIGN CHOICE, unsafe: log
entry 70. -/
def mirrorCount (s : State) (p : Nat) : Nat :=
  min 8 (((group s p).flatMap fun q => if pAttr s A.rxMirrorEnable q == 0 then [] else (port s q).rx.aggressors).eraseDups).length

/-- The 24-byte receive status. `strength` is that of R176, and `by_` the strength of the pre-empting frame, if any. The mode of a frame
whose header names a mode outside Table 3-10 is 0x10 plus its selector. DESIGN CHOICE, unsafe: log entry 75. -/
def rxStatus (s : State) (p code : Nat) (w : Window) (h : Held) (strength : Int) (m : RxMeas) (by_ : Option Int) : Bytes :=
  let mir := mirrorCount s p
  let mode := match h.header with
    | some x => if w.mode < 0x10 then w.mode else 0x10 + field x 47 45
    | none => w.mode
  let flags := bnat w.fast + (if mir > 0 then 2 else 0) + (if m.endTick > w.closeAt then 4 else 0) + (if w.restarted then 8 else 0)
    + (if m.clipMany then 16 else 0)
  le 2 code ++ [b8 mode, b8 flags, b8 h.gain, b8 h.errs, b8 h.corr, b8 mir] ++ leI 2 strength ++ leI 2 m.snr
    ++ le 2 (if w.mode < 0x10 then 0 else m.evm) ++ leI 2 (by_.getD (-32768)) ++ leI 8 (tsAt s h.tick)

/-- What the chain has measured of a frame that ends here before its last symbol: pre-empted, rejected by its header, or lost to an overrun.
These are free values (R175). DESIGN CHOICE, safe: log entry 67. -/
def earlyMeas (s : State) : RxMeas :=
  { snr := Config.frameSnr s.free, evm := Config.frameError s.free, band := 0, clipAny := Config.frameClips s.free
    clipMany := Config.frameClips s.free, subPow := (List.range 16).map (Config.framePower s.free), endTick := s.now }

/-- What every frame leaves in the registers of its port: the count of clipped frames, and the signal estimate of its handle once its header has
passed (R169, R180). -/
def noteFrame (p : Nat) (w : Window) (h : Held) (m : RxMeas) (s : State) : State :=
  let hd := h.header.getD 0
  let handle := if w.mode < 0x10 then 0 else field hd 23 8
  let s := modRx p (fun r => { r with clipped := if m.clipMany then inc32 r.clipped else r.clipped }) s
  noteSignal p handle (0x10 + field hd 47 45) h.strength m.subPow s

/-- 10^(−(2^j)/2000) × 2^40, for j = 0 to 11: the binary steps of a power ratio in units of 0.005 dB. -/
def halfPowers : List Nat :=
  [1098246496642, 1096982821206, 1094459830729, 1089431244582, 1079443278896, 1059741218663, 1021409344078,
   948854947791, 818841464886, 609817420461, 338220421597, 104039876156]

/-- 10^(−e/2000) × 2^40. -/
def halfPower (e : Nat) : Nat :=
  if 4096 ≤ e then 0
  else ((List.range 12).foldl (fun a j => if e / 2 ^ j % 2 == 1 then a * nth halfPowers j 0 / 2 ^ 40 else a) (2 ^ 40))

/-- The sum of powers given in 0.01 dB units, to the nearest 0.01 dB: the greatest of them, and what the others add to it, at most 12.05 dB for
sixteen (R176). DESIGN CHOICE, safe: log entry 77. -/
def sumPower (xs : List Int) : Int :=
  let top := xs.foldl max (xs.headD 0)
  let total := (xs.map fun x => halfPower (2 * (top - x).toNat)).sum
  let up := [1024, 512, 256, 128, 64, 32, 16, 8, 4, 2, 1].foldl (fun k b => if total * halfPower (2 * (k + b) - 1) ≥ 2 ^ 80 then k + b else k) 0
  top + up

/-- The strength of R176: over the sync or start of frame, and for H4 the sum of the 16 subcarriers over the six BPSK symbols of sync and header. -/
def strengthOf (w : Window) (h : Held) (m : RxMeas) : Int :=
  if w.mode ≥ 0x10 && field (h.header.getD 0) 47 45 == 4 then sumPower m.subPow else h.strength

/-- A frame ends before its last symbol, with a code: its record, and what it leaves. `by_` is the strength of a frame that pre-empts it. -/
def loseFrame (p code : Nat) (w : Window) (h : Held) (by_ : Option Int) (s : State) : Lost × State :=
  let m := earlyMeas s
  let s' := noteFrame p w h m (drawn s)
  (⟨h.header.getD 0, rxStatus s p code w h (strengthOf w h m) m by_⟩, if by_.isSome then s' else noteLevel p w.handle false w h m s')

/-! ### H4 bit loading (R166, R170, R171) -/

/-- The thresholds of Table 3-6 in 0.01 dB, for 1 to 6 bits. -/
def h4Thresholds : List Int := [1050, 1350, 1880, 2050, 2360, 2660]

/-- The bits a subcarrier takes at a ratio less the margin. -/
def h4Bits (maxBits : Nat) (ratio : Int) : Nat :=
  (List.range maxBits).foldl (fun best i => if ratio ≥ nth h4Thresholds i 0 then i + 1 else best) 0

/-- The loading map for a handle, and the ratios behind it; no map where there is no estimate, no noise profile,
or fewer than 21 bits (R170). -/
def formLoading (s : State) (p handle : Nat) : List Int × Option (List Nat) :=
  match (port s p).rx.sig.find? fun e => e.1 == handle, (port s p).rx.profile with
  | none, _ => ([], none)
  | _, none => ([], none)
  | some (_, _, sig), some noise =>
    let raw := (sig.zip noise).map fun (a, n) => a - n
    let map := raw.map fun x => h4Bits (pAttrN s A.rxH4MaxBits p) (x - pAttr s A.rxH4MarginCdb p)
    (raw, if map.sum < 21 then none else some map)

/-- The 8 bytes of a loading map (R252). -/
def mapBytes (m : List Nat) : Bytes := (List.range 8).map fun i => b8 (nth m (2 * i) 0 + 16 * nth m (2 * i + 1) 0)

end Sys2Proof.Machine
end

