-- ==== Sys2Proof/Machine/Casks.lean ====
section
/-!
DEFINITION. Casks as they are seen from outside the store: the life-cycle state, the content and state of a slot, the check of a cask that a
command uses, and the casks and the page of a credential command (R487 to R490, R501, R503, R506, R514).
-/

namespace Sys2Proof.Machine

/-! ### Casks (R487, R488) -/

/-- The code of the life-cycle state: 0 BLANK, 1 FACTORY, 2 FIELD, 3 RETIRED (R506, Table 8-4). -/
def lifeCycle (s : State) : Nat :=
  let x := s.nvm.sec
  if x.retired then 3 else if x.field then 2 else if x.factory then 1 else 0

/-- Change what the security core keeps. -/
def modSec (f : Sec → Sec) (s : State) : State := { s with nvm := { s.nvm with sec := f s.nvm.sec } }

/-- The content of a slot that has been filled. -/
def caskAt (s : State) (n : Nat) : Option Cask := (s.nvm.sec.casks.find? fun e => e.1 == n).map (·.2)

/-- The incarnation of a slot (R488). -/
def incOf (s : State) (n : Nat) : Nat := ((caskAt s n).map (·.inc)).getD 0

/-- The states of a cask. -/
inductive CaskSt where
  | empty | live | revoked
  deriving DecidableEq, Repr

/-- The state of a cask (R488); `fuel` bounds the depth of descent, which R494 limits to four derivations. -/
def caskStAt (s : State) : Nat → Nat → CaskSt
  | 0, _ => .revoked
  | fuel + 1, n =>
    match caskAt s n with
    | none => .empty
    | some c =>
      if !c.live then .empty
      else if c.parent == 0xFFFF then .live
      else if incOf s c.parent == c.gen && caskStAt s fuel c.parent == .live then .live else .revoked

/-- The state of a cask. -/
def caskSt (s : State) (n : Nat) : CaskSt := caskStAt s 8 n

/-- The number of derivations between a cask and an imported or generated one (R494). -/
def depthOf (s : State) : Nat → Nat → Nat
  | 0, _ => 8
  | fuel + 1, n =>
    match caskAt s n with
    | none => 0
    | some c => if c.parent == 0xFFFF then 0 else 1 + depthOf s fuel c.parent

/-- CASK_ATTR as CASK_INFO reports it (Table 10-1). -/
def caskWord (s : State) (n : Nat) : Nat :=
  match caskAt s n with
  | some c => c.word
  | none => 0xFFFF * 2 ^ 48

/-- Bits of CASK_ATTR (Table 10-1). -/
def useEncrypt : Nat := 8
def useDecrypt : Nat := 9
def useWrap : Nat := 10
def useDerive : Nat := 11
def bitExportable : Nat := 16
def bitAttest : Nat := 17
def invAdmin : Nat := 20
def invUser : Nat := 21
def invFirmware : Nat := 22
def lcFactory : Nat := 24
def lcField : Nat := 25

/-- The key of a cask; empty where it holds none. -/
def keyOf (s : State) (n : Nat) : Bytes := ((caskAt s n).map (·.key)).getD []

/-- The check of one cask that a command uses (R490, step 2): `usage` tests its attributes, `inv` is the invoker's bit, if checked. -/
def useCheck (s : State) (n : Nat) (usage : Nat → Bool) (inv : Option Nat) : Option Nat :=
  let a := ((caskAt s n).map (·.attr)).getD 0
  match caskSt s n with
  | .empty => some E.caskEmpty
  | .revoked => some E.keyRevoked
  | .live =>
    if !usage a then some E.caskUsage
    else if (match inv with | some b => !bit a b | none => false) then some E.caskInvoker
    else if (lifeCycle s == 1 && bit a lcFactory) || (lifeCycle s == 2 && bit a lcField) then none
    else some E.caskLifeCycle

/-! ### Credential commands (R499, R501, R503, R514) -/

/-- Whether a format is wrapped. -/
def wrappedFormat (format : Nat) : Bool := format == 0x11 || format == 0x12

/-- The cask of a running credential command that has been revoked since it began (R514): `addr` and `count` hold the incarnations
of the casks at the start. -/
def credRevoked (s : State) (op : Nat) (c : HyCmd) : Option Nat :=
  if caskSt s c.cask != .live || incOf s c.cask != c.addr then some c.cask
  else if op == 0xCB && wrappedFormat c.format && (caskSt s c.transport != .live || incOf s c.transport != c.count) then some c.transport
  else none

/-- The key page that Cellar has placed for a command, where the buffer holds that command's and no other's (R501, R503). -/
def pageOf (s : State) (p : Nat) (c : HyCmd) : Option Bytes :=
  match (port s p).secBuf with
  | some b => if b.handle == c.handle then some b.page else none
  | none => none

/-- The secure transmit buffer of a port is zeroised (R503). -/
def zeroiseBuf (p : Nat) (s : State) : State := modPort p (fun x => { x with secBuf := none }) s

end Sys2Proof.Machine
end

