-- ==== Sys2Proof/Machine/HyOps.lean ====
section
/-!
DEFINITION. The Hymond air protocol on the module's side (05): frames, handles, the exchange with its repeats, the sealed write and
the tree search.
-/

namespace Sys2Proof.Machine

/-! ### Frames (R241 to R256) -/

/-- The 48-bit header of Table 5-2. -/
def hyHeader (mode reply map len handle alive type : Nat) : Nat :=
  mode * 2 ^ 45 + reply * 2 ^ 42 + map * 2 ^ 41 + len * 2 ^ 24 + handle * 2 ^ 8 + alive * 2 ^ 4 + type

/-- Fields of a header (Table 5-2). -/
def hMode (h : Nat) : Nat := field h 47 45
def hLen (h : Nat) : Nat := field h 35 24
def hHandle (h : Nat) : Nat := field h 23 8
def hAlive (h : Nat) : Nat := field h 7 4
def hType (h : Nat) : Nat := field h 3 0

/-- The scrambler of R249 from register `r` on. -/
def scramble : Nat → List Bool → List Bool
  | _, [] => []
  | r, c :: cs =>
    let z := (bit r 8) ^^ (bit r 4)
    (c ^^ z) :: scramble ((r * 2 + bnat z) % 512) cs

/-- The bits of a downlink frame on the air: sync, then the scrambled header, header check, payload and payload check
(Table 5-1, R242, R244, R245, R249). -/
def hyBits (header : Nat) (payload : Bytes) : List Bool :=
  let hb := le 6 header
  bitsOf (le 4 0xB4E12D7A)
    ++ scramble 0x1FF (bitsOf (hb ++ le 2 (crc16 hb) ++ payload ++ le 4 (crc32c (hb ++ payload))))

/-- Ticks of one downlink bit in D1 to D4 (Table 2-9). -/
def dlBitTicks (dl : Nat) : Nat := nth [64, 32, 16, 8] (dl - 1) 64

/-- Ticks of an uplink frame with a payload check in H1 to H4 (R253, R254). -/
def ulTicks (ul len : Nat) (map : List Nat) : Nat :=
  if ul == 4 then 960 + ceilDiv (8 * (len + 4)) (max map.sum 1) * 160
  else 3072 + ceilDiv (8 * (len + 4)) (nth [1, 2, 4] (ul - 1) 1) * 32

/-- The TR field for a reply delay in ticks (Table 5-4). -/
def trField (ticks : Nat) : Nat := if ticks ≤ 32767 then ticks else 0x8000 + ceilDiv ticks 1024

/-- The delay a TR field names, in ticks (Table 5-4). -/
def trTicks (f : Nat) : Nat := if f < 0x8000 then f else (f - 0x8000) * 1024

/-! ### Handles and descriptors (R257, R286 to R289) -/

/-- A handle of a port. -/
def hyHandle (s : State) (p h : Nat) : Option HyHandle := (port s p).hy.handles.find? fun x => x.h == h

/-- Change a handle of a port. -/
def modHandle (p h : Nat) (f : HyHandle → HyHandle) (s : State) : State :=
  modHy p (fun y => { y with handles := y.handles.map fun x => if x.h == h then f x else x }) s

/-- Release a handle. -/
def dropHandle (p h : Nat) (s : State) : State :=
  let gone := (port s p).hy.handles.filter fun x => x.h == h
  clearInv p gone (modHy p (fun y => { y with handles := y.handles.filter fun x => x.h != h }) s)

/-- Hold a handle, in place of any that has the same number or the same identifier. -/
def takeHandle (p : Nat) (x : HyHandle) (s : State) : State :=
  let keep := (port s p).hy.handles.filter fun y => y.h != x.h && (x.ident.isNone || y.ident != x.ident)
  let gone := (port s p).hy.handles.filter fun y => !keep.contains y && !(y.h == x.h && y.ident == x.ident)
  clearInv p gone (modHy p (fun y => { y with handles := keep ++ [x] }) s)

/-- The handles that stay beside a new one. -/
def othersHeld (s : State) (p : Nat) (x : HyHandle) : Nat :=
  ((port s p).hy.handles.filter fun y => y.h != x.h && (x.ident.isNone || y.ident != x.ident)).length

/-- Hold a handle; none where 256 are held (R287). -/
def addHandle (p : Nat) (x : HyHandle) (s : State) : Option State := if othersHeld s p x ≥ 256 then none else some (takeHandle p x s)

/-- Whether a handle number is ACTIVE or HALTED on the port, so that a HEARD one is never confirmed under it (R289). -/
def handleTaken (s : State) (p h : Nat) : Bool :=
  (port s p).hy.handles.any fun x => x.h == h && (x.st == .active || x.st == .halted)

/-- The lowest handle above 0x0000 that is free on the port (R289). -/
def lowestFree (s : State) (p : Nat) : Nat :=
  ((List.range 257).find? fun i => !((port s p).hy.handles.any fun x => x.h == i + 1)).getD 256 + 1

/-! ### Modes (R291, R296) -/

/-- The modes enabled on a port: none on a port that does not run Hymond (R296). -/
def hyEnabled (s : State) (p : Nat) : Nat := if pAttr s A.protocol p == 3 then pAttrN s A.hyModesEnabled p else 0

/-- The mode of a prefix field: 0 names the port's default (R296, Table 8-12). -/
def resolveDl (s : State) (p m : Nat) : Nat := if m == 0 then pAttrN s A.hyDlMode p else m
def resolveUl (s : State) (p m : Nat) : Nat := if m == 0 then pAttrN s A.hyUlMode p else m

/-- Whether a downlink and an uplink mode are enabled on the port. -/
def modesOn (s : State) (p dl ul : Nat) : Bool :=
  1 ≤ dl && dl ≤ 4 && 1 ≤ ul && ul ≤ 4 && bit (hyEnabled s p) (dl - 1) && bit (hyEnabled s p) (ul + 3)

/-- Whether a descriptor declares the modes of a command and the feature it needs (R291). -/
def descAllows (d : Bytes) (dl ul op : Nat) : Bool :=
  bit (dDl d) (dl - 1) && bit (dUl d) (ul - 1)
    && (if op == 0x64 || op == 0xCB then dSealed d else true)
    && (if op == 0x66 || op == 0xCC || op == 0xCB then dChallenge d else true)

/-- The mode announces are asked in: the command's own if it is H1 or H2, else H2 where enabled, else H1 (R291). -/
def announceMode (s : State) (p ul : Nat) : Nat :=
  if ul == 1 || ul == 2 then ul else if bit (hyEnabled s p) 5 then 2 else 1

/-! ### Building the frame of a stage (Table 5-10) -/

/-- TR_MIN of a handle's tag; of a tag known from a header alone the longest that any tag declares (Table 5-7). DEDUCED, unsafe: log entry 46. -/
def trMinOf (s : State) (p handle : Nat) : Nat := (((hyHandle s p handle).bind (·.desc)).map dTrMin).getD 255

/-- The reply delay of a frame in ticks (R256, Table 5-13): `least` is what CORK and WRITE must cover. -/
def replyDelay (s : State) (p handle : Nat) (bcast : Bool) (least : Nat) : Nat :=
  let own := pAttrN s A.hyReplyDelayTicks p
  let tag := if bcast then (port s p).hy.trMin else trMinOf s p handle
  max (max own tag) least

/-- WRITE_US of a handle's tag in ticks. -/
def writeTicks (s : State) (p handle : Nat) : Nat := usT ((((hyHandle s p handle).bind (·.desc)).map dWriteUs).getD 0)

/-- Bits of an identifier prefix as mask bytes (Table 5-10, QUERY). -/
def maskBytes (bits : List Bool) : Bytes := bytesOfBits (ceilDiv bits.length 8) bits

/-- The frame a stage sends: CMD, arguments, frame type, ALIVE, REPLY, the length of the answer's payload when the module knows
it, the delay it must cover. -/
structure HyPlan where
  cmd : Nat
  args : Bytes
  type : Nat := 1
  handle : Nat
  reply : Nat
  answer : Option Nat
  least : Nat := 0
  /-- The handle under which the tag is held, where it is not the one the frame names (R289). -/
  tag : Option Nat := none
  /-- ACK sets the counter to 0; every other DL_CMD carries the next ALIVE (R271, R273). -/
  counts : Bool := true

/-- The arguments of an ACK with IDCHK, and with REHANDLE where a new handle is named (Table 5-10, R267, R289). -/
def ackArgs (rehandle : Option Nat) (ident : Bytes) : Bytes :=
  [b8 (1 + (if rehandle.isSome then 2 else 0))] ++ le 2 (rehandle.getD 0) ++ fit 16 ident

/-- The masked QUERY of one slot (R293, R295). -/
def queryArgs (wake : Bool) (tree : Bool) (mask : List Bool) : Bytes :=
  let sel := !mask.isEmpty
  [0, b8 (bnat wake + (if sel then 2 else 0) + (if tree then 4 else 0))] ++ le 2 0
    ++ (if sel then [0, b8 mask.length] ++ maskBytes mask else [])

/-- The frame of a single-exchange command, by opcode. DEDUCED, unsafe: log entry 46. -/
def singlePlan (s : State) (p op : Nat) (c : HyCmd) : HyPlan :=
  match op with
  | 0x62 => { cmd := 0x10, args := le 2 c.addr ++ le 2 c.count, handle := c.handle, reply := c.ul, answer := some (1 + c.count) }
  | 0x63 => { cmd := 0x11, args := le 2 c.addr ++ c.data, handle := c.handle, reply := c.ul, answer := some 1,
              least := writeTicks s p c.handle }
  | 0x65 => { cmd := 0x15, args := [b8 c.page], handle := c.handle, reply := c.ul, answer := some 8 }
  | 0x66 => { cmd := 0x20, args := [b8 c.slot] ++ fit 16 c.data, handle := c.handle, reply := c.ul, answer := some 17 }
  | 0x67 => { cmd := 0x04, args := [], handle := c.handle, reply := c.ul, answer := some 1 }
  | 0x68 => { cmd := 0x05, args := [], handle := c.handle, reply := c.ul, answer := some 1 }
  | _ => { cmd := 0x03, args := if c.ident.isEmpty then [0] ++ le 2 0 else [1] ++ le 2 0 ++ fit 16 c.ident,
           handle := c.handle, reply := c.ul, answer := some 29, counts := false }

/-- The frame of the present stage. -/
def stagePlan (s : State) (p op : Nat) (c : HyCmd) : HyPlan :=
  match c.stage with
  | .preAck => { cmd := 0x03, args := [0] ++ le 2 0, handle := c.handle, reply := announceMode s p c.ul,
                 answer := some 29, counts := false }
  | .raw => { cmd := c.cmd, args := c.args, type := c.type, handle := c.handle, reply := c.reply, answer := none, counts := false }
  | .query => { cmd := 0x01, args := queryArgs c.wake false (bitsOf (fit 16 c.ident)), type := 2, handle := 0,
                reply := announceMode s p c.ul, answer := none, counts := false }
  | .queryAck | .treeAck => { cmd := 0x03, args := c.args, handle := c.addr, reply := c.ul, answer := some 29, counts := false, tag := some c.handle }
  | .single => singlePlan s p op c
  | .sealGen | .credGen => { cmd := 0x15, args := [b8 c.page], handle := c.handle, reply := c.ul, answer := some 8 }
  | .sealShadow => { cmd := 0x12, args := [b8 c.page, 0] ++ c.data, handle := c.handle, reply := c.ul, answer := some 1 }
  | .credShadow => { cmd := 0x12, args := [b8 c.page, 0] ++ (pageOf s p c).getD [], handle := c.handle, reply := c.ul, answer := some 1 }
  | .sealCork | .credCork =>
    { cmd := 0x13, args := [b8 c.page] ++ le 2 c.gen ++ le 4 (if c.stage == .credCork then c.crc else crc32c c.data), handle := c.handle,
      reply := c.ul, answer := some 7, least := writeTicks s p c.handle }
  | .sealDiscard | .credDiscard => { cmd := 0x14, args := [b8 c.page], handle := c.handle, reply := c.ul, answer := some 1 }
  | .sealVerify => { cmd := 0x10, args := le 2 (c.page * 256) ++ le 2 256, handle := c.handle, reply := c.ul, answer := some 257 }
  | .treeQuery => { cmd := 0x01, args := queryArgs c.wake true c.bits, type := 2, handle := 0, reply := 1, answer := none,
                    counts := false }
  | .treeSlot => { cmd := 0x01, args := queryArgs c.wake false c.bits, type := 2, handle := 0,
                   reply := announceMode s p c.ul, answer := none, counts := false }
  | .hvAck => { cmd := 0x03, args := c.data, handle := c.addr, reply := c.ul, answer := some 29, counts := false, tag := some c.handle }
  | .credCellar => { cmd := 0, args := [], handle := c.handle, reply := 0, answer := none }
  | .credChallenge => { cmd := 0x20, args := [b8 c.slot] ++ fit 16 c.nonce, handle := c.handle, reply := c.ul, answer := some 17 }

/-- Whether HY_RAW_FRAME sends a TREE query, which tags answer in H1 whatever REPLY says (R123, R268): its flags stand behind CMD, TR and, with
REPLY H4, the map. -/
def rawTree (c : HyCmd) : Bool :=
  c.stage == .raw && c.type == 2 && num c.data 0 1 == 1 && bit (num c.data (if c.reply == 4 then 13 else 5) 1) 2

/-- The window of a frame: it opens at TR and closes after the answer when its length is known, else after the sync and 16 ticks
(Table 5-13). A TREE answer has a known number of pairs. -/
def hyWindow (c : HyCmd) (pl : HyPlan) (tr : Nat) (map : List Nat) : Option (Nat × Nat × Nat) :=
  let reply := if rawTree c then 1 else pl.reply
  if reply == 0 then none
  else
    let len := match pl.answer with
      | some n => ulTicks reply n map
      | none => if c.stage == .treeQuery then 3072 + 64 * (128 - c.bits.length)
        else (if reply == 4 then 320 else 1024) + 16
    some (tr, tr + len, 0x10 + reply)

/-- The downlink of a plan. HY_RAW_FRAME sends the payload the host gives, and its window opens at the TR in it (R256). -/
def hyTx (s : State) (p : Nat) (c : HyCmd) (pl : HyPlan) (alive : Nat) (map : List Nat) : Tx :=
  let raw := c.stage == .raw
  let f := if raw then num c.data 2 2 else trField (replyDelay s p (pl.tag.getD pl.handle) (pl.type == 2) pl.least)
  let payload := if raw then c.data else [b8 pl.cmd, 0] ++ le 2 f ++ (if pl.reply == 4 then mapBytes map else []) ++ pl.args
  let header := hyHeader c.dl pl.reply (bnat (pl.reply == 4)) payload.length pl.handle alive pl.type
  { frame := .hymond c.dl header payload, dur := (128 + 8 * payload.length) * dlBitTicks c.dl, bits := hyBits header payload,
    window := hyWindow c pl (trTicks f) map, handle := pl.handle }

/-! ### Ending a Hymond command -/

/-- Fail the running command; the handle of the failure detail is the command's. -/
def hyFail (p code : Nat) (c : HyCmd) (arg1 arg2 : Int) (s : State) : State :=
  stepFail p code { port := p, handle := c.handle, arg1 := arg1, arg2 := arg2 } s

/-- Move the command's handle to UNKNOWN (Table 5-18). -/
def hyLose (p : Nat) (c : HyCmd) (s : State) : State := modHandle p c.handle (fun x => { x with st := .unknown }) s

/-- Put a downlink on its way: at an exact tick, or as soon as possible. -/
def sendHy (p : Nat) (tx : Tx) (fire : Option Nat) (s : State) : State :=
  match fire with
  | none => sendTx p tx s
  | some f => sendTxAt p tx f s

/-- Start the exchange of the command's present stage (R170, R171, R273). `fire` is the exact start tick, if any. The map that the host puts into
HY_RAW_FRAME with REPLY H4 is no map the port has formed. DESIGN CHOICE, unsafe: log entry 76. -/
def hyBegin (p : Nat) (c : HyCmd) (fire : Option Nat) (s : State) : State :=
  match (port s p).task with
  | none => s
  | some t =>
    let pl := stagePlan s p t.op c
    let last := ((hyHandle s p pl.handle).map (·.alive)).getD 0
    let alive := if c.stage == .raw then c.alive else if pl.counts then (last + 1) % 16 else 0
    let c := { c with cmd := pl.cmd, type := pl.type, reply := pl.reply, alive := alive, tries := 0, busy := 0, hint := 0 }
    if pl.reply == 4 && c.stage != .raw then
      let (snr, formed) := formLoading s p pl.handle
      let tag := pl.tag.getD pl.handle
      let map := (c.map.or ((hyHandle s p tag).bind (·.map))).or formed
      match map with
      | none => hyFail p E.h4Loading c 0 0 (setHy p c s)
      | some m =>
        let s := modRx p (fun r => { r with loading := m, snr := if snr.isEmpty then r.snr else snr }) s
        let s := modHandle p tag (fun x => { x with map := none }) s
        sendHy p (hyTx s p c pl alive m) fire (setHy p { c with map := some m } s)
    else sendHy p (hyTx s p c pl alive []) fire (setHy p c s)

/-- The tick of the next downlink after an answer that ended, or a window that closed, at `base` (Table 5-13). -/
def turn (s : State) (p base : Nat) : Nat := base + pAttrN s A.hyTurnaroundTicks p

/-- Move on to a stage at the turnaround. -/
def hyGo (p : Nat) (c : HyCmd) (stage : HyStage) (base : Nat) (s : State) : State :=
  hyBegin p { c with stage := stage, map := none } (some (turn s p base)) s

/-! ### The tree search (R293, R294) -/

/-- The search ends: unresolved branches, no tag at all, or success. -/
def treeEnd (p : Nat) (c : HyCmd) (s : State) : State :=
  let s := setHy p c s
  if c.unresolved > 0 then hyFail p E.hyUnresolved { c with handle := 0 } 0 0 s
  else if c.found.isEmpty then hyFail p E.hyNoTag { c with handle := 0 } 0 0 s
  else taskOk p [] s

/-- The next branch of the search: the first of the stack (R293). `fire` is the exact start tick, if any. -/
def treeNext (p : Nat) (c : HyCmd) (fire : Option Nat) (s : State) : State :=
  match c.stack with
  | [] => treeEnd p c s
  | px :: rest =>
    if c.found.length ≥ c.maxTags then treeEnd p c s
    else
      let c := { c with stack := rest, bits := px, ident := bytesOfBits 16 px, handle := 0 }
      hyBegin p { c with stage := if px.length < 128 then .treeQuery else .treeSlot } fire s

/-- A branch could not be resolved: count it and go on. -/
def treeUnresolved (p : Nat) (c : HyCmd) (base : Nat) (s : State) : State :=
  treeNext p { c with unresolved := c.unresolved + 1 } (some (turn s p base)) s

/-- The bits of a TREE frame: up to the first pair whose halves lie within 10 dB of each other, which is the collision (R269). -/
def treeBits : List (Option Int × Option Int) → List Bool × Bool
  | [] => ([], false)
  | (a, z) :: rest =>
    let more := fun (v : Bool) => let r := treeBits rest; (v :: r.1, r.2)
    match a, z with
    | some x, some y => if mag (x - y) ≤ 1000 then ([], true) else more (y > x)
    | some _, none => more false
    | none, some _ => more true
    | none, none => ([], true)

/-! ### Results of an exchange (R290, Table 5-14) -/

/-- What a receive window gives. -/
inductive RxOut where
  /-- No frame; whether a sync was dropped in the window. -/
  | nothing (sync : Bool)
  /-- A frame rejected with a receive code. -/
  | rejected (code : Nat) (header : Nat)
  /-- An accepted Hymond frame. -/
  | hymond (header : Nat) (payload : Bytes) (strength : Int)
  /-- A TREE frame: its header, its bits and whether they end at a collision. -/
  | tree (header : Nat) (bits : List Bool) (collision : Bool)
  /-- An ISO frame: its bits, the collision position and the coding error position. -/
  | iso (bits : List Bool) (collision coding : Option Nat) (strength : Int)
  deriving DecidableEq, Repr

/-- Repeats are exhausted (R290 and the stages' own rules: R284, R293, R295). -/
def hyExhausted (p : Nat) (c : HyCmd) (base : Nat) (s : State) : State :=
  match c.stage with
  | .treeQuery | .treeSlot => treeUnresolved p c base s
  | .treeAck => treeUnresolved p c base (hyLose p c s)
  | .sealCork | .credCork => hyFail p E.hySealUnknown c 0 0 (hyLose p c s)
  | .sealDiscard | .credDiscard => hyFail p c.why c (whyArg c) E.hyRetries (hyLose p c s)
  | _ => hyFail p E.hyRetries c 0 0 (hyLose p c s)

/-- A cask of a credential command has been revoked after Cellar's result: the buffer is zeroised and the tag's page discarded; after the CORK the
verification fails (R514). -/
def credDrop (p n : Nat) (c : HyCmd) (base : Nat) (s : State) : State :=
  if c.stage == .credChallenge then hyFail p E.keyRevoked { c with cask := n } (n : Int) 0 s
  else hyGo p { c with why := E.keyRevoked, cask := n } .credDiscard base (zeroiseBuf p s)

/-- The cask for whose revocation a credential command may not send its present frame again (R514). -/
def credBarred (s : State) (p op : Nat) (c : HyCmd) : Option Nat :=
  if c.stage == .credShadow || c.stage == .credChallenge || (c.stage == .credGen && (pageOf s p c).isSome) then credRevoked s op c else none

/-- The opcode of the running command of a port. -/
def opOf (s : State) (p : Nat) : Nat := ((port s p).task.map (·.op)).getD 0

/-- The same downlink again, with the same ALIVE, at the turnaround; or the repeats are exhausted (R290). -/
def hyRepeat (p : Nat) (c : HyCmd) (base : Nat) (s : State) : State :=
  match (port s p).air.tx, credBarred s p (opOf s p) c with
  | none, _ => hyExhausted p c base s
  | some _, some n => credDrop p n c base s
  | some tx, none =>
    if c.tries ≥ pAttrN s A.hyRetries p then hyExhausted p c base s
    else
      let s := modHy p (fun y => { y with retries := (y.retries + 1) % 2 ^ 32 }) s
      sendTxAt p tx (turn s p base) (setHy p { c with tries := c.tries + 1 } s)

/-- Count a UL_BUSY with REASON WIRE (R276, R278). -/
def countBusy (p : Nat) (payload : Bytes) (s : State) : State :=
  if num payload 0 1 == 1 then modHy p (fun y => { y with busyWire := (y.busyWire + 1) % 2 ^ 32 }) s else s

/-- UL_BUSY: the command waits the hint, at least 50 µs and at most port.hy.busy_wait_max_us, or fails after the busy repeats
(R276, R278). A HEARD tag has then answered under a command, so that it is HEARD no more (R287). -/
def hyBusy (p : Nat) (c : HyCmd) (payload : Bytes) (s : State) : State :=
  match (port s p).task with
  | none => s
  | some t =>
    let hint := num payload 1 2
    let s := countBusy p payload s
    let s := if (stagePlan s p t.op c).tag.isSome then s else modHandle p c.handle (fun x => { x with st := if x.st == .heard then .active else x.st }) s
    if c.busy ≥ pAttrN s A.hyBusyRetries p then hyFail p E.tagWireBusy c (hint : Int) (c.busy : Int) s
    else
      let most := pAttrN s A.hyBusyWaitMaxUs p
      let us := if hint == 0xFFFF then most else min most (max 50 (10 * hint))
      let t := { t with proc := .hy { c with busy := c.busy + 1, hint := hint } }
      quietAir p (modPort p (fun x => { x with task := none, parked := x.parked ++ [⟨t, s.now + usT us, false⟩] }) s)

/-- The tag's STATUS is not OK (R263, R290). -/
def hyStatus (p : Nat) (c : HyCmd) (status : Nat) (s : State) : State :=
  if status == 5 then hyFail p E.hyAlive c 0 0 (hyLose p c s)
  else hyFail p E.hyTagStatus c (status : Int) 0 s

/-- Record the IDENT and descriptor of an ACK's answer, and make the handle ACTIVE with its counter at 0 (R267, R270, R291). -/
def hyLearn (p h : Nat) (payload : Bytes) (s : State) : State :=
  let d := slice payload 17 12
  noteDesc p d (modHandle p h (fun x => { x with
    st := .active, alive := 0, ident := some (slice payload 1 16), desc := some d }) s)

end Sys2Proof.Machine
end

