-- ==== Sys2Proof/Machine/HyRun.lean ====
section
/-!
DEFINITION. How a Hymond command goes on after each result of its exchange (R284, R290, R293, R295).
-/

namespace Sys2Proof.Machine

/-- The answer of a single-exchange command (R295, Table 8-12). -/
def singleDone (p op : Nat) (c : HyCmd) (payload : Bytes) (s : State) : State :=
  match op with
  | 0x62 => taskBytes p (payload.drop 1) s
  | 0x65 => taskOk p (slice payload 1 2 ++ slice payload 7 1 ++ [0] ++ slice payload 3 4) s
  | 0x66 => taskOk p (fit 16 (payload.drop 1)) s
  | 0x67 => taskOk p [] (modHandle p c.handle (fun x => { x with st := .halted }) s)
  | 0x68 => taskOk p [] (dropHandle p c.handle s)
  | 0x69 => taskOk p [] (hyLearn p c.handle payload s)
  | _ => taskOk p [] s

/-- The CORK of a sealed write has been answered (pseudocode of R283). -/
def corkDone (p : Nat) (c : HyCmd) (status : Nat) (payload : Bytes) (base : Nat) (s : State) : State :=
  if status == 6 then hyGo p { c with why := E.hySealCheck } .sealDiscard base s
  else if status != 0 then hyStatus p c status s
  else
    let gen := num payload 1 2
    let crc := num payload 3 4
    let key := c.page ≥ 0xF0
    if !key && crc != crc32c c.data then hyFail p E.hyVerify c 0 0 s
    else if pAttr s A.hySealVerify p == 1 && !key then hyGo p { c with gen := gen, crc := crc } .sealVerify base s
    else taskOk p (le 2 gen ++ le 2 0 ++ le 4 crc) s

/-- An UL_REPLY accepted for the present stage: the command's next step or its end. `cred` goes on with CRED_WRITE and CRED_VERIFY. After the opening
ACK of R291, HY_SET_MAP only sets the map, and HY_RAW_FRAME takes back the REPLY and ALIVE that it kept in `count` and `gen`. -/
def hyReply (cred : Nat → HyCmd → Bytes → Nat → State → State) (p op : Nat) (c : HyCmd) (payload : Bytes) (base : Nat) (s : State) : State :=
  let status := num payload 0 1
  match c.stage with
  | .preAck =>
    if status != 0 then hyStatus p c status s
    else
      let s := hyLearn p c.handle payload s
      let c := { c with ident := slice payload 1 16 }
      if op == 0x6C then taskOk p [] (modHandle p c.handle (fun x => { x with map := c.map }) s)
      else if !descAllows (slice payload 17 12) c.dl c.ul op then hyFail p E.hyMode c 0 0 s
      else if op == 0xCB || op == 0xCC then cred p c payload base s
      else if c.after == .raw then hyGo p { c with reply := c.count, alive := c.gen } .raw base s
      else hyGo p c c.after base s
  | .queryAck =>
    if status != 0 then hyStatus p c status s
    else taskOk p (le 2 c.handle ++ le 2 0 ++ slice payload 17 12) (hyLearn p c.handle payload s)
  | .hvAck => if status != 0 then hyStatus p c status s else taskOk p (slice payload 1 28) (hyLearn p c.handle payload s)
  | .treeAck =>
    if status != 0 then treeUnresolved p c base s
    else
      let s := hyLearn p c.handle payload s
      treeNext p { c with found := c.found ++ [(c.handle, c.strength, slice payload 1 16, slice payload 17 12)] }
        (some (turn s p base)) s
  | .single => if status != 0 then hyStatus p c status s else singleDone p op c payload s
  | .sealGen => if status != 0 then hyStatus p c status s else hyGo p { c with gen := num payload 1 2 } .sealShadow base s
  | .sealShadow => if status != 0 then hyStatus p c status s else hyGo p c .sealCork base s
  | .sealCork => corkDone p c status payload base s
  | .sealDiscard | .credDiscard =>
    if status == 5 then hyFail p c.why c (whyArg c) E.hyAlive (hyLose p c s)
    else hyFail p c.why c (whyArg c) (if status == 0 then 0 else E.hyTagStatus) s
  | .sealVerify =>
    if status != 0 then hyStatus p c status s
    else if payload.drop 1 == c.data then taskOk p (le 2 c.gen ++ le 2 0 ++ le 4 c.crc) s
    else hyFail p E.hyVerify c 0 0 s
  | _ => cred p c payload base s

/-- An announce accepted for a masked QUERY: hold the handle and send ACK with IDCHK, with REHANDLE by R289; a tag that does not declare the modes of
the command gets none (R291). In a tree search its branch stays unresolved. DEDUCED, unsafe: log entry 46. -/
def hyAnnounce (p : Nat) (c : HyCmd) (h : Nat) (payload : Bytes) (strength : Int) (base : Nat) (s : State) : State :=
  let ident := slice payload 0 16
  let d := slice payload 16 12
  let s := noteDesc p d s
  let c := { c with sawFrame := true, strength := strength }
  if ident != fit 16 c.ident then hyRepeat p c base s
  else
    let re := handleTaken s p h
    let final := if re then lowestFree s p else h
    let tree := c.stage == .treeSlot
    let s' := addHandle p { h := final, st := .heard, ident := some ident, desc := some d } s
    if !descAllows d c.dl c.ul 0x61 then
      -- the ACK would ask for a mode the tag does not declare; a handle that REHANDLE has not named is no tag's yet
      let s := if re then s else s'.getD s
      if tree then treeUnresolved p c base s else hyFail p E.hyMode c 0 0 (setHy p c s)
    else match s' with
    | none => hyFail p E.hyListFull c 0 0 (setHy p c s)
    | some s =>
      hyGo p { c with handle := final, addr := h, args := ackArgs (if re then some final else none) ident }
        (if tree then .treeAck else .queryAck) base s

/-- A TREE frame for the present query (R293). DEDUCED, unsafe: log entry 46. -/
def hyTree (p : Nat) (c : HyCmd) (bits : List Bool) (collision : Bool) (base : Nat) (s : State) : State :=
  let known := c.bits ++ bits
  if collision then
    treeNext p { c with stack := (known ++ [true]) :: (known ++ [false]) :: c.stack } (some (turn s p base)) s
  else if known.length == 128 then
    hyBegin p { c with stage := .treeSlot, bits := known, ident := bytesOfBits 16 known } (some (turn s p base)) s
  else hyRepeat p c base s

/-- A descriptor in an announce or in the answer to an ACK counts for the port's guard and reply delay, whatever becomes of the command (R286). -/
def heardDesc (p : Nat) (c : HyCmd) (header : Nat) (payload : Bytes) (s : State) : State :=
  let cmd := if c.stage == .raw then num c.data 0 1 else c.cmd
  if hType header == 0xA then noteDesc p (slice payload 16 12) s
  else if hType header == 0x9 && cmd == 3 && num payload 0 1 == 0 && payload.length ≥ 29 then noteDesc p (slice payload 17 12) s
  else s

/-- Whether an answer is the one to a command's DL_CMD, by HANDLE and ALIVE (R273). -/
def answers (c : HyCmd) (h : Nat) : Bool := hHandle h == c.handle && hAlive h == c.alive

/-- An answer is discarded and counted (R273). -/
def countStale (p : Nat) (s : State) : State := modHy p (fun y => { y with stale := (y.stale + 1) % 2 ^ 32 }) s

/-- A result of HY_RAW_FRAME: header and payload as received; the handle's state is left as it is. An answer to a DL_CMD whose HANDLE or ALIVE is
not the command's is discarded, and the exchange is one without answer (R273, R278, R295). DEDUCED, unsafe: log entry 46. -/
def rawDone (p : Nat) (c : HyCmd) (out : RxOut) (s : State) : State :=
  let stale := fun h => c.type == 1 && !answers c h
  match out with
  | .hymond h payload _ =>
    if stale h then hyFail p E.rxNoResponse c 0 0 (countStale p s)
    else taskBytes p (le 6 h ++ le 2 0 ++ payload) (if hType h == 0xB then countBusy p payload s else heardDesc p c h payload s)
  | .tree h bits _ =>
    if stale h then hyFail p E.rxNoResponse c 0 0 (countStale p s)
    else taskBytes p (le 6 h ++ le 2 0 ++ bytesOfBits (ceilDiv bits.length 8) bits) s
  | .rejected code _ => hyFail p code c 0 0 s
  | _ => if c.reply == 0 && !rawTree c then taskBytes p (zeros 8) s else hyFail p E.rxNoResponse c 0 0 s

/-- The result of the exchange of a Hymond command. `base` is the end of the answer or of the window. -/
def hyResult (cred : Nat → HyCmd → Bytes → Nat → State → State) (p op : Nat) (c : HyCmd) (out : RxOut) (base : Nat) (s : State) : State :=
  if c.stage == .raw then rawDone p c out s
  else match out with
  | .hymond h payload strength =>
    let ty := hType h
    if ty == 0xA && c.type == 2 && c.stage != .treeQuery then hyAnnounce p c (hHandle h) payload strength base s
    else if c.type == 1 && (ty == 0x9 || ty == 0xB) && answers c h then
      if ty == 0xB then hyBusy p c payload s
      else
        let status := num payload 0 1
        let ack := c.cmd == 0x03
        let s := if ack || status == 5 then s else modHandle p c.handle (fun x => { x with alive := c.alive, st :=
          if x.st == .heard then .active else x.st }) s
        hyReply cred p op c payload base s
    else hyRepeat p { c with sawFrame := true } base (countStale p s)
  | .tree h bits collision =>
    if c.stage == .treeQuery then hyTree p c bits collision base s
    else hyRepeat p { c with sawFrame := true } base (if c.type == 1 && !answers c h then countStale p s else s)
  | .nothing sync =>
    if c.stage == .treeQuery && !sync then treeNext p c (some (turn s p base)) s else hyRepeat p c base s
  | .rejected _ _ => hyRepeat p { c with sawFrame := true } base s
  | .iso .. => s

end Sys2Proof.Machine
end

