-- ==== Sys2Proof/Machine/IsoOps.lean ====
section
/-!
DEFINITION. ISO/IEC 14443 and 15693 on the module's side (04): frames, verdicts, handles, timing and the frames of each stage.
-/

namespace Sys2Proof.Machine

/-! ### Frames (R189 to R191, Tables 4-2 and 4-3) -/

/-- One elementary time unit in ticks at a rate code (port.iso.max_rate). -/
def etu (rate : Nat) : Nat := 256 / 2 ^ rate

/-- The odd parity bit of a byte's bits (R191). -/
def oddParity (bs : List Bool) : Bool := !(bs.foldl (· ^^ ·) false)

/-- Every whole byte followed by its odd parity bit; a part of a byte at the end carries none (R189, R207). -/
def withParity : Nat → List Bool → List Bool
  | 0, bs => bs
  | k + 1, bs => if bs.length < 8 then bs else bs.take 8 ++ [oddParity (bs.take 8)] ++ withParity k (bs.drop 8)

/-- The bits of a Type A standard frame. -/
def aBits (x : Bytes) : List Bool := withParity x.length (bitsOf x)

/-- Strip the parity of a received frame whose first piece has `first` bits: the data bits and the index of the first byte whose
parity is wrong. `trust` is false for a split byte, whose parity bit belongs to bits both sides sent. -/
def stripParity : Nat → Nat → Nat → Bool → List Bool → List Bool × Option Nat
  | 0, _, _, _, _ => ([], none)
  | fuel + 1, idx, first, trust, bs =>
    let d := bs.take first
    match bs.drop first with
    | [] => (d, none)
    | par :: rest =>
      let r := stripParity fuel (idx + 1) 8 true rest
      (d ++ r.1, if trust && par != oddParity d then some idx else r.2)

/-- The data-bit position of a position among the received bits, parity bits not counted. -/
def dataPos (first k : Nat) : Nat :=
  if k ≤ first then k else first + (k - first - 1) / 9 * 8 + min 8 ((k - first - 1) % 9)

/-- The verdict on an ISO frame: code, position, data bits, collision position. -/
abbrev IsoVerdict := Nat × Nat × List Bool × Option Nat

/-- Whether a coding error stands before any collision. -/
def codingFirst (coll coding : Option Nat) : Bool :=
  match coding, coll with
  | some a, some c => a < c
  | some _, none => true
  | none, _ => false

/-- The verdict on a frame outside anticollision: coding, collision, parity, check value (R160, R174, R190, R191). -/
def isoPlain (kind : Nat) (parity check : Bool) (bs : List Bool) (coll coding : Option Nat) : IsoVerdict :=
  let par := kind == 0 && parity
  let pos := fun (k : Nat) => if par then dataPos 8 k else k
  let (d, bad) := if par then stripParity (bs.length + 1) 0 8 true bs else (bs, none)
  if codingFirst coll coding then (E.rxCoding, pos (coding.getD 0), d, none)
  else match coll with
  | some k => if kind == 0 then (E.rxCollision, pos k, d.take (pos k), some (pos k)) else (E.rxCoding, pos k, d, none)
  | none =>
    match bad with
    | some i => (E.isoParity, i, d, none)
    | none =>
      if !check then (0, 0, d, none)
      else
        let x := bytesOfBits (ceilDiv d.length 8) d
        let body := x.take (x.length - 2)
        let crc := if kind == 0 then crcA body else crc16 body
        if d.length % 8 == 0 && x.length ≥ 2 && x.drop (x.length - 2) == le 2 crc then (0, 0, bitsOf body, none)
        else (E.rxCrc, 0, d, none)

/-- The verdict on an anticollision answer to `known` bits of the level (R160, R191, R203). -/
def isoAnti (known : Nat) (bs : List Bool) (coll coding : Option Nat) : IsoVerdict :=
  let first := 8 - known % 8
  let (d, bad) := stripParity (bs.length + 1) 0 first (first == 8) bs
  if codingFirst coll coding then (E.rxCoding, dataPos first (coding.getD 0), d, none)
  else match coll with
  | some k =>
    let k := dataPos first k
    match bad with
    | some i => if first + 8 * i ≤ k then (E.isoParity, i, d, none) else (E.rxCollision, k, d.take k, some k)
    | none => (E.rxCollision, k, d.take k, some k)
  | none =>
    match bad with
    | some i => (E.isoParity, i, d, none)
    | none => if known + d.length == 40 then (0, 0, d, none) else (E.rxCoding, d.length, d, none)

/-! ### Air times (Table 4-2) and downlinks -/

/-- Ticks of a Type A frame of `bs` up to the end of its last pause. PRESUMED, unsafe: log entry 45. -/
def aDur (rate : Nat) (bs : List Bool) : Nat :=
  if bs.getLastD false then bs.length * etu rate + etu rate / 2 + 64 / 2 ^ rate
  else (1 + bs.length) * etu rate + 64 / 2 ^ rate

/-- Ticks of a Type B frame of `n` bytes: SOF, characters, EOF. PRESUMED, unsafe: log entry 45. -/
def bDur (rate n : Nat) : Nat := (22 + 10 * n) * etu rate

/-- Ticks of an ISO/IEC 15693 reader frame of `n` bytes in the port's coding. PRESUMED, unsafe: log entry 45. -/
def vDur (s : State) (p n : Nat) : Nat := 2048 + n * (if pAttr s A.isoVCoding p == 1 then 131072 else 8192) + 1024

/-- The window of the Type A commands of part 3 (Table 4-4), by the last bit sent. DEDUCED, unsafe: in a frame that ends in a
parity bit that is the last data bit of the FDT (R192): log entry 44. -/
def aWindow (bs : List Bool) : Nat × Nat := let fdt := if bs.getLastD false then 2472 else 2344; (fdt - 128, fdt + 512)

/-- The window of ATTRIB, PPS and blocks (Table 4-4, R221). -/
def blkWindow (fwi wtxm : Nat) : Nat × Nat := (2216, min (8192 * 2 ^ fwi * wtxm) (8192 * 2 ^ 14) + 98304)

/-- A Type A downlink. -/
def txA (rate : Nat) (bs : List Bool) (w : Option (Nat × Nat)) : Tx :=
  { frame := .iso 0 rate bs, dur := aDur rate bs, bits := bs, window := w.map fun (o, c) => (o, c, 1), handle := 0 }

/-- A Type A standard frame with CRC_A in the window of part 3. -/
def txA3 (x : Bytes) : Tx := let bs := aBits (x ++ le 2 (crcA x)); txA 0 bs (some (aWindow bs))

/-- A Type B downlink with CRC_B. -/
def txB (rate : Nat) (x : Bytes) (w : Nat × Nat) : Tx :=
  let y := x ++ le 2 (crc16 x)
  { frame := .iso 1 rate (bitsOf y), dur := bDur rate y.length, bits := bitsOf y, window := some (w.1, w.2, 2), handle := 0 }

/-- The window of REQB, WUPB and Slot-MARKER (Table 4-4). -/
def bWindow : Nat × Nat := (2048, 15360)

/-- An ISO/IEC 15693 downlink with its CRC. -/
def txV (s : State) (p : Nat) (x : Bytes) (w : Option (Nat × Nat)) : Tx :=
  let y := x ++ le 2 (crc16 x)
  { frame := .iso 2 0 (bitsOf y), dur := vDur s p y.length, bits := bitsOf y, window := w.map fun (o, c) => (o, c, 3), handle := 0 }

/-- An EOF alone (R227, R230). -/
def txEof (w : Nat × Nat) : Tx := { frame := .iso 2 0 [], dur := 1024, bits := [], window := some (w.1, w.2, 3), handle := 0 }

/-- The ordinary ISO/IEC 15693 window (Table 4-4). -/
def vWindow : Nat × Nat := (8576, 8832)

/-- The rate and subcarrier bits of the ISO/IEC 15693 request flags (R229). -/
def vFlags (s : State) (p : Nat) : Nat :=
  (if pAttr s A.isoVSubcarriers p == 1 then 1 else 0) + (if pAttr s A.isoVRate p == 1 then 2 else 0)

/-- t3 of ISO/IEC 15693-3 in ticks, from the end of the reader frame: 4384/fc and the tag's SOF at full depth, or the tag's nominal
response time otherwise (Table 4-4). PRESUMED, unsafe: log entry 45. -/
def vT3 (s : State) (p : Nat) : Nat :=
  let k := if pAttr s A.isoVRate p == 1 then 1 else 4
  8768 + k * (if pAttr s A.isoVDepth p == 0 then 4096 else 106496)

/-! ### Handles (R196 to R202) -/

/-- An ISO handle of a port. -/
def isoHandle (s : State) (p h : Nat) : Option IsoHandle := (port s p).iso.handles.find? fun x => x.h == h

/-- Change the ISO registers of a port. -/
def modIso (p : Nat) (f : Iso → Iso) (s : State) : State := modPort p (fun x => { x with iso := f x.iso }) s

/-- Change an ISO handle of a port. -/
def modIsoHandle (p h : Nat) (f : IsoHandle → IsoHandle) (s : State) : State :=
  modIso p (fun y => { y with handles := y.handles.map fun x => if x.h == h then f x else x }) s

/-- Move an ISO handle to a state. -/
def isoMove (p h : Nat) (st : IsoSt) (s : State) : State := modIsoHandle p h (fun x => { x with st := st }) s

/-- Move every HALT handle of a type to UNKNOWN: WUPA or WUPB wakes those tags (R202). -/
def isoWake (p kind : Nat) (s : State) : State :=
  modIso p (fun y => { y with handles := y.handles.map fun x =>
    if x.kind == kind && x.st == .halt then { x with st := .unknown } else x }) s

/-- The CIDs a handle goes on holding when its tag is found or selected anew: those lost exchanges left with the tag, and its
present one (R224). -/
def IsoHandle.owing (y : IsoHandle) : List Nat :=
  if y.cid == 0xFF || y.owed.contains y.cid then y.owed else y.owed ++ [y.cid]

/-- Give a tag a handle: the one it holds already, or the lowest free of 0x0001 to 0x0010; none where 16 are in use
(R196, R198). DEDUCED, unsafe: log entry 44. -/
def giveIso (p : Nat) (x : IsoHandle) (s : State) : Option (Nat × State) :=
  let hs := (port s p).iso.handles
  match hs.find? fun y => y.kind == x.kind && y.id == x.id with
  | some y => some (y.h, modIsoHandle p y.h (fun _ => { x with h := y.h, owed := y.owing }) s)
  | none =>
    match ((List.range 16).map (· + 1)).find? fun h => !(hs.any fun y => y.h == h) with
    | none => none
    | some h => some (h, modIso p (fun i => { i with handles := i.handles ++ [{ x with h := h }] }) s)

/-- The CIDs in use on a port (R213, R224). -/
def cidsUsed (s : State) (p : Nat) : List Nat :=
  ((port s p).iso.handles.map (·.cid)).filter (· != 0xFF) ++ (port s p).iso.handles.flatMap (·.owed)

/-- The lowest free CID of a port (R212). -/
def freeCid (s : State) (p : Nat) : Option Nat := (List.range 15).find? fun c => !(cidsUsed s p).contains c

/-- A tag in PROTOCOL that does not support CID bars every other handle from PROTOCOL (R214). -/
def cidBarred (s : State) (p : Nat) : Bool := (port s p).iso.handles.any fun x => x.st == .protocol && !x.cidOk

/-- The CID a command gets: the lowest free one, or the one it asks for if that is free (R212 to R214). DEDUCED, unsafe:
one that is in use counts as no free CID, though others are free (log entry 44). -/
def pickCid (s : State) (p ask : Nat) : Option Nat :=
  if cidBarred s p then none
  else if ask == 0xFF then freeCid s p
  else if (cidsUsed s p).contains ask then none else some ask

/-- FSC and FSD in bytes of a size code. -/
def frameSize (code : Nat) : Nat := nth [16, 24, 32, 40, 48, 64, 96, 128, 256] code 256

/-- The highest divisor code a capability and a limit allow (R215). -/
def pickDiv (caps limit : Nat) : Nat :=
  (List.range 3).foldl (fun best i => if i + 1 ≤ limit && bit caps i then i + 1 else best) 0

/-- The divisors DS and DR by R215 from a capability byte (TA(1), or the bit-rate capability of the ATQB). -/
def divisors (s : State) (p ta dsMax drMax : Nat) : Nat × Nat :=
  let m := pAttrN s A.isoMaxRate p
  let ds := field ta 6 4
  let dr := field ta 2 0
  if bit ta 7 then let d := pickDiv (ds &&& dr) (min m (min dsMax drMax)); (d, d)
  else (pickDiv ds (min m dsMax), pickDiv dr (min m drMax))

/-! ### Commands in progress -/

/-- Put an ISO command back into the running task. -/
def setIso (p : Nat) (c : IsoCmd) (s : State) : State := modTask p (fun t => { t with proc := .iso c }) s

/-- Send a downlink of an ISO command at the first instant that Table 4-4 allows (R192, R195). -/
def isoSend (p : Nat) (c : IsoCmd) (tx : Tx) (notBefore : Nat) (s : State) : State :=
  let at_ := max notBefore (port s p).iso.gapUntil
  kick p (modAir p (fun a => { a with
    tx := some tx, notBefore := some at_, armed := false, txEnd := none, win := none }) (setIso p c s))

/-- Fail an ISO command. -/
def isoFail (p code : Nat) (c : IsoCmd) (arg1 arg2 : Int) (s : State) : State :=
  taskFail p code { port := p, handle := c.handle, arg1 := arg1, arg2 := arg2 } (setIso p c s)

/-- The SEL code of a cascade level. -/
def selCode (level : Nat) : Nat := 0x91 + 2 * level

/-- SELECT of a UID part with its BCC. -/
def selectTx (level : Nat) (part : Bytes) : Tx := txA3 ([b8 (selCode level), 0x70] ++ fit 5 part)

/-- A REQA or WUPA. -/
def reqTx (wake : Bool) : Tx :=
  let bs := (bitsOf [if wake then 0x52 else 0x26]).take 7
  txA 0 bs (some (aWindow bs))

/-- Whether a downlink is a REQA or WUPA, whose starts lie at least 14 000 ticks apart (Table 4-4). -/
def isReq (tx : Tx) : Bool :=
  match tx.frame with
  | .iso 0 _ bs => bs.length == 7 && (natOfBits bs == 0x52 || natOfBits bs == 0x26)
  | _ => false

/-- The anticollision frame of the known bits (R207). -/
def antiTx (level : Nat) (known : List Bool) : Tx :=
  let n := known.length
  let bs := withParity 8 (bitsOf [b8 (selCode level), b8 ((2 + n / 8) * 16 + n % 8)] ++ known)
  txA 0 bs (some (aWindow bs))

/-- The code of a number of slots in REQB. -/
def slotCode (n : Nat) : Nat := if n ≥ 16 then 4 else if n ≥ 8 then 3 else if n ≥ 4 then 2 else if n ≥ 2 then 1 else 0

/-- REQB or WUPB. -/
def reqB (afi n : Nat) (wake : Bool) : Tx := txB 0 [0x05, b8 afi, b8 (slotCode n + (if wake then 8 else 0))] bWindow

/-- The tag a Type B command speaks to. -/
def isoTag (s : State) (p : Nat) (c : IsoCmd) : IsoHandle :=
  (isoHandle s p c.handle).getD { h := 0, kind := 1, st := .unknown, id := c.data }

/-- The downlink of a stage, with the tick before which it must not start. Blocks are sent by `blkSend`. DEDUCED, unsafe:
HLTB's answer has the block window of the tag's FWI, since Table 4-4 names none (R192): log entry 44. -/
def isoFrame (s : State) (p : Nat) (c : IsoCmd) : Tx × Nat :=
  let x := isoTag s p c
  let req := ((port s p).iso.reqAt.map (· + 14000)).getD 0
  match c.stage with
  | .aReq => (reqTx (c.wake && c.first), req)
  | .actReq => (reqTx true, req)
  | .aPart => (selectTx (c.part + 1) (nth c.done c.part []), 0)
  | .aAnti => (antiTx (c.done.length + 1) c.known, 0)
  | .aSel => (selectTx (c.done.length + 1) (bytesOfBits 5 c.known), 0)
  | .actSel => (selectTx (c.part + 1) (nth x.parts c.part []), 0)
  | .aHalt | .hltA => (txA3 [0x50, 0x00], 0)
  | .rats => (txA3 [0xE0, b8 (pAttrN s A.isoFsdi p * 16 + c.cid)], 0)
  | .pps =>
    let bs := let y := [b8 (0xD0 + x.cid), 0x11, b8 (c.dsMax * 4 + c.drMax)]; aBits (y ++ le 2 (crcA y))
    (txA 0 bs (some (blkWindow x.fwi 1)), 0)
  | .bReq => (reqB c.afi 1 c.wake, 0)
  | .bSlot =>
    if c.slot == 1 then (reqB c.afi c.n (c.wake && c.round == 0), 0)
    else (txB 0 [b8 ((c.slot - 1) * 16 + 5)] bWindow, 0)
  | .attrib | .bFoundAttrib =>
    (txB 0 ([0x1D] ++ fit 4 x.id ++ [0x00, b8 (pAttrN s A.isoFsdi p + 16 * c.drMax + 64 * c.dsMax), 0x01, b8 c.cid])
      (blkWindow x.fwi 1), 0)
  | .hltB | .bFoundHalt => (txB 0 ([0x50] ++ fit 4 x.id) (blkWindow x.fwi 1), 0)
  | .vSlot =>
    if c.slot == 0 then
      let fl := vFlags s p + 4 + (if c.useAfi then 16 else 0) + (if c.slots == 1 then 32 else 0)
      (txV s p ([b8 fl, 0x01] ++ (if c.useAfi then [b8 c.afi] else []) ++ [b8 c.mlen] ++ le (ceilDiv c.mlen 8) c.mask)
        (some vWindow), 0)
    else (txEof vWindow, 0)
  | .vStayQuiet => (txV s p ([b8 (vFlags s p + 32), 0x02] ++ fit 8 (c.done.headD [])) none, 0)
  | .vCmd =>
    let sel := c.handle == 0
    let fl := vFlags s p + (if sel then 16 else 32) + (if c.opt then 64 else 0)
    let mfg : Bytes := if c.code ≥ 0xA0 then [b8 c.mfg] else []
    let w := if c.write && c.opt then none
      else if c.write then some (8576, msT (pAttrN s A.isoVWriteWaitMs p)) else some vWindow
    (txV s p ([b8 fl, b8 c.code] ++ mfg ++ (if sel then [] else fit 8 x.id) ++ c.data) w, 0)
  | .vEof => (txEof vWindow, 0)
  | .vSelect => (txV s p ([b8 (vFlags s p + 32), 0x25] ++ fit 8 x.id) (some vWindow), 0)
  | .vQuiet => (txV s p ([b8 (vFlags s p + 32), 0x02] ++ fit 8 x.id) none, 0)
  | .vReset => (txV s p ([b8 (vFlags s p + 32), 0x26] ++ fit 8 x.id) (some vWindow), 0)
  | .raw =>
    let bs := (bitsOf c.data).take c.bits
    let y := bytesOfBits (ceilDiv c.bits 8) bs
    let bs := if c.check then bs ++ bitsOf (le 2 (if c.kind == 0 then crcA y else crc16 y)) else bs
    let bs := if c.kind == 0 && c.parity then withParity bs.length bs else bs
    let dur := if c.kind == 0 then aDur c.rate bs else if c.kind == 1 then bDur c.rate (ceilDiv bs.length 8)
      else vDur s p (ceilDiv bs.length 8)
    let (o, cl) := if c.kind == 0 then aWindow bs else if c.kind == 1 then bWindow else vWindow
    let len := min (max (usT c.winUs) (cl - o)) (usT 65000)
    ({ frame := .iso c.kind c.rate bs, dur := dur, bits := bs, window := some (o, o + len, c.kind + 1), handle := 0 },
      if isReq (txA 0 bs none) && c.kind == 0 then req else 0)
  | .block | .deselect | .failDeselect => (txEof vWindow, 0)

/-- Send the frame of the command's stage, not before a tick. -/
def isoBeginAt (p : Nat) (c : IsoCmd) (least : Nat) (s : State) : State :=
  let s := match c.stage with
    | .aReq => if c.wake && c.first then isoWake p 0 s else s
    | .actReq => isoWake p 0 s
    | .bReq => if c.wake then isoWake p 1 s else s
    | .bSlot => if c.wake && c.round == 0 && c.slot == 1 then isoWake p 1 s else s
    | _ => s
  let (tx, nb) := isoFrame s p c
  isoSend p c tx (max nb least) s

/-- Send the frame of the command's stage. -/
def isoBegin (p : Nat) (c : IsoCmd) (s : State) : State := isoBeginAt p c 0 s

/-- The verdict on a tag frame for the present stage. -/
def isoVerdict (s : State) (p : Nat) (c : IsoCmd) (bs : List Bool) (coll coding : Option Nat) : IsoVerdict :=
  match c.stage with
  | .aReq | .actReq => isoPlain 0 true false bs coll coding
  | .aAnti => isoAnti c.known.length bs coll coding
  | .aPart | .aSel | .aHalt | .actSel | .hltA | .rats | .pps => isoPlain 0 true true bs coll coding
  | .bReq | .bSlot | .bFoundAttrib | .bFoundHalt | .attrib | .hltB => isoPlain 1 false true bs coll coding
  | .vSlot | .vStayQuiet | .vCmd | .vEof | .vSelect | .vQuiet | .vReset => isoPlain 2 false true bs coll coding
  | .block | .deselect | .failDeselect => isoPlain (isoTag s p c).kind ((isoTag s p c).kind == 0) true bs coll coding
  | .raw => isoPlain c.kind c.parity c.check bs coll coding

end Sys2Proof.Machine
end

