-- ==== Sys2Proof/Machine/IsoRun.lean ====
section
/-!
DEFINITION. How an ISO command goes on after each result of its exchanges: the anticollisions, the inventory, activation and the
block protocol (R203 to R234).
-/

namespace Sys2Proof.Machine

/-! ### Ends -/

/-- An anticollision or inventory ends (R198, R205, R206, R209, R228). DEDUCED, unsafe: a last failure that was a wrong BCC
gives the detail of E_ISO_BCC, the cascade level in ARG1 (R206, Table 8-23): log entry 44. -/
def isoEnd (p : Nat) (c : IsoCmd) (s : State) : State :=
  let c := { c with handle := 0 }
  if c.full then isoFail p E.isoListFull c 0 0 s
  else if c.unresolved > 0 then
    isoFail p E.isoUnresolved c (c.bccLevel : Int) 0 s
  else if !c.heard then isoFail p E.isoNoTag c 0 0 s
  else taskOk p [] (setIso p c s)

/-- Record a tag found, or note that 16 handles are in use (R196, R198). -/
def isoFound (p : Nat) (c : IsoCmd) (x : IsoHandle) (s : State) : IsoCmd × State :=
  let x := { x with rx := ((port s p).task.bind (·.rx)).getD [] }
  match giveIso p x s with
  | some (h, s') => ({ c with handle := h, found := c.found ++ [{ x with h := h }] }, s')
  | none => ({ c with handle := 0, full := true }, s)

/-- A stop waits for the pass whose run the port makes: the run ends at this slot boundary with what it has found (R304, R313). -/
def runStops (s : State) (p : Nat) : Bool :=
  (match (port s p).task with | some t => t.ofPass | none => false) && ((port s p).pass.bind (·.stop)).isSome

/-- Go on with a command at a slot boundary, or end the run of a pass that is to stop (R304). -/
def atSlot (p : Nat) (c : IsoCmd) (s : State) (go : State → State) : State :=
  if runStops s p then taskOk p [] (setIso p { c with handle := 0 } s) else go s

/-! ### Type A (R203 to R208) -/

/-- The next branch of the search. DEDUCED, unsafe: log entry 44. -/
def antiNext (p : Nat) (c : IsoCmd) (s : State) : State :=
  atSlot p c s fun s =>
  match c.stack with
  | [] => isoEnd p c s
  | (done, known) :: rest =>
    if c.found.length ≥ c.maxTags then isoEnd p c s
    else isoBegin p { c with stack := rest, done := done, known := known, part := 0, tries := 0, stage := .aReq } s

/-- A failure inside a branch: send the frame again, or count the branch as unresolved (R205, R206). -/
def antiRetry (p : Nat) (c : IsoCmd) (bcc : Bool) (s : State) : State :=
  if c.tries < pAttrN s A.isoRetries p then isoBegin p { c with tries := c.tries + 1 } s
  else antiNext p { c with unresolved := c.unresolved + 1, bccLevel := if bcc then c.done.length + 1 else 0 } s

/-- The BCC of a UID part is right: the XOR of its four bytes. -/
def bccOk (part : Bytes) : Bool := nth part 4 0 == (part.take 4).foldl (· ^^^ ·) 0

/-- The UID of the cascade levels' parts: the cascade tag opens every part but the last (R206). -/
def uidOf (parts : List Bytes) : Bytes :=
  ((parts.dropLast).map fun x => slice x 1 3).flatten ++ ((parts.getLast?).map fun x => x.take 4).getD []

/-- The answer of the anticollision frame. -/
def antiAnswer (p : Nat) (c : IsoCmd) (d : List Bool) (coll : Option Nat) (s : State) : State :=
  let select := fun (known : List Bool) (c : IsoCmd) =>
    if bccOk (bytesOfBits 5 known) then isoBegin p { c with known := known, tries := 0, stage := .aSel } s else antiRetry p c true s
  match coll with
  | some k =>
    let agreed := c.known ++ d.take k
    let c' := { c with stack := (c.done, agreed ++ [false]) :: c.stack, known := agreed ++ [true], tries := 0 }
    if agreed.length + 1 ≥ 40 then select (agreed ++ [true]) { c with stack := (c.done, agreed ++ [false]) :: c.stack }
    else isoBegin p c' s
  | none => select (c.known ++ d) c

/-- A SAK after SELECT of a complete level (R203). DEDUCED, unsafe: a cascade bit at the third level is a failure, so the SELECT
is retried and then the branch counts as unresolved: log entry 44. -/
def selAnswer (p : Nat) (c : IsoCmd) (sak : Byte) (strength : Int) (s : State) : State :=
  let parts := c.done ++ [bytesOfBits 5 c.known]
  if bit sak.toNat 2 then
    if parts.length ≥ 3 then antiRetry p c false s
    else isoBegin p { c with done := parts, known := [], tries := 0, stage := .aAnti } s
  else
    let x : IsoHandle := {
      h := 0, kind := 0, st := .halt, id := uidOf parts, parts := parts, info := fit 2 c.atqa ++ [sak], strength := strength }
    let (c, s) := isoFound p c x s
    isoBegin p { c with stage := .aHalt } s

/-- One result of ISO_A_ANTICOLL. -/
def antiResult (p : Nat) (c : IsoCmd) (out : RxOut) (s : State) : State :=
  match c.stage, out with
  | .aReq, .nothing _ => antiNext p { c with first := false } s
  | .aReq, _ =>
    let (atqa, s) := match out with
      | .iso d none _ _ => if d.length == 16 then (bytesOfBits 2 d, s) else (le 2 (Config.atqa s.free), drawn s)
      | _ => (le 2 (Config.atqa s.free), drawn s)
    isoBegin p { c with first := false, heard := true, atqa := atqa, stage := if c.done.isEmpty then .aAnti else .aPart } s
  | .aPart, .iso _ _ _ _ =>
    let k := c.part + 1
    isoBegin p { c with part := k, tries := 0, stage := if k < c.done.length then .aPart else .aAnti } s
  | .aPart, _ => antiRetry p c false s
  | .aAnti, .nothing _ => antiNext p c s
  | .aAnti, .iso d coll _ _ => antiAnswer p c d coll s
  | .aAnti, _ => antiRetry p c false s
  | .aSel, .iso d _ _ st => if d.length == 8 then selAnswer p c (b8 (natOfBits d)) st s else antiRetry p c false s
  | .aSel, _ => antiRetry p c false s
  | _, _ => if c.full then isoEnd p c s else antiNext p c s

/-- One result of ISO_A_ACTIVATE (R208). -/
def actResult (p : Nat) (c : IsoCmd) (out : RxOut) (s : State) : State :=
  let x := isoTag s p c
  let lost := fun (_ : Unit) => isoFail p E.isoActivation c 0 0 (isoMove p c.handle .unknown s)
  match c.stage, out with
  | .actReq, .nothing _ => lost ()
  | .actReq, _ => isoBegin p { c with stage := .actSel, part := 0 } s
  | _, .iso d _ _ _ =>
    let k := c.part + 1
    if d.length != 8 then lost ()
    else if k < x.parts.length then
      if bit (natOfBits d) 2 then isoBegin p { c with part := k } s else lost ()
    else if b8 (natOfBits d) == nth x.info 2 0 then
      taskOk p [] (modIsoHandle p c.handle (fun y => { y with
        st := .active, cid := 0xFF, owed := y.owing, cidOk := true, ds := 0, dr := 0, num := 0, used := false }) s)
    else lost ()
  | _, _ => lost ()

/-! ### Activation (R212 to R217) -/

/-- The parts of an ATS (R212): FSCI, TA, FWI, SFGI, CID supported, NAD supported; none where it is malformed (R213). -/
def parseAts (x : Bytes) : Option (Nat × Nat × Nat × Nat × Bool × Bool) :=
  let tl := num x 0 1
  if tl == 0 || tl != x.length then none
  else if tl == 1 then some (2, 0, 4, 0, true, false)
  else
    let t0 := num x 1 1
    let a := bnat (bit t0 4)
    let bq := bnat (bit t0 5)
    let cq := bnat (bit t0 6)
    if tl < 2 + a + bq + cq then none
    else
      let ta := if a == 1 then num x 2 1 else 0
      let tb := if bq == 1 then num x (2 + a) 1 else 0x40
      let tc := if cq == 1 then num x (2 + a + bq) 1 else 2
      some (min 8 (field t0 3 0), ta, if field tb 7 4 == 15 then 4 else field tb 7 4,
        if field tb 3 0 == 15 then 0 else field tb 3 0, bit tc 1, bit tc 0)

/-- Whether another PROTOCOL handle of the port uses a CID (R213). -/
def otherCid (s : State) (p h : Nat) : Bool :=
  (port s p).iso.handles.any fun x => x.h != h && x.st == .protocol && x.cid != 0xFF

/-- The ATS has come. -/
def ratsAnswer (p : Nat) (c : IsoCmd) (x : Bytes) (base : Nat) (s : State) : State :=
  match parseAts x with
  | none => isoFail p E.isoActivation c 0 0 s
  | some (fsci, ta, fwi, sfgi, cidOk, nad) =>
    if !cidOk && otherCid s p c.handle then isoFail p E.isoActivation c 0 0 s
    else
      let cid := if cidOk then c.cid else 0
      let s := modIsoHandle p c.handle (fun y => { y with
        st := .protocol, cid := cid, cidOk := cidOk, nad := nad, fsc := frameSize fsci, fwi := fwi, sfgi := sfgi, rates := ta,
        ds := 0, dr := 0, num := 0, used := false }) s
      let s := if sfgi == 0 then s else modIso p (fun i => { i with gapUntil := max i.gapUntil (base + 8192 * 2 ^ sfgi) }) s
      taskOk p ([b8 cid, b8 fsci, b8 fwi, b8 sfgi, b8 (min 20 x.length)] ++ zeros 3 ++ x.take 20) s

/-- The answer to ATTRIB: its low nibble repeats the CID (R213, R216). -/
def attribGood (c : IsoCmd) (x : Bytes) : Bool := x.length ≥ 1 && field (num x 0 1) 3 0 == c.cid

/-- A Type B handle enters PROTOCOL (R216, R217, R219). -/
def attribDone (p : Nat) (c : IsoCmd) (s : State) : State :=
  modIsoHandle p c.handle (fun y => { y with st := .protocol, cid := c.cid, ds := c.dsMax, dr := c.drMax, num := 0, used := false }) s

/-- The handle of an ATQB (R209, Table 4-1); none where the answer is no ATQB. -/
def parseAtqb (x : Bytes) (strength : Int) : Option IsoHandle :=
  if x.length != 12 || num x 0 1 != 0x50 then none
  else
    let pi1 := num x 10 1
    let pi2 := num x 11 1
    some { h := 0, kind := 1, st := .readyDeclared, id := slice x 1 4, info := slice x 5 7, strength := strength,
           cidOk := bit pi2 0, fsc := frameSize (field pi1 7 4), fwi := if field pi2 7 4 == 15 then 4 else field pi2 7 4,
           rates := num x 9 1 }

/-! ### Type B anticollision (R209, R210) -/

/-- Start a round, or end the command. DEDUCED, unsafe: log entry 44. -/
def bRound (p : Nat) (c : IsoCmd) (s : State) : State :=
  if c.round < pAttrN s A.isoBRoundsMax p && c.found.length < c.maxTags then
    isoBegin p { c with stage := .bSlot, slot := 1, collided := 0 } s
  else isoEnd p { c with unresolved := c.collided } s

/-- The next slot, or the end of the round. -/
def bNext (p : Nat) (c : IsoCmd) (s : State) : State :=
  atSlot p c s fun s =>
  if c.full then isoEnd p { c with unresolved := c.collided } s
  else if c.slot < c.n && c.found.length < c.maxTags then isoBegin p { c with stage := .bSlot, slot := c.slot + 1 } s
  else if c.collided == 0 then isoEnd p { c with unresolved := 0 } s
  else bRound p { c with n := if 2 * c.collided > c.n then min 16 (2 * c.n) else c.n, round := c.round + 1 } s

/-- One result of ISO_B_ANTICOLL. A tag without CID support takes CID 0 where no other handle in PROTOCOL uses one and one is
free (R210, R213, R214). DEDUCED, unsafe: an accepted frame that is no ATQB counts as a collided slot (R209), and a tag that
found no handle is halted even with the attrib flag (R198): log entry 44. -/
def bAntiResult (p : Nat) (c : IsoCmd) (out : RxOut) (s : State) : State :=
  let snap := fun (c : IsoCmd) (s : State) =>
    { c with found := c.found.map fun x => if x.h == c.handle then (isoHandle s p x.h).getD x else x }
  match c.stage, out with
  | .bSlot, .nothing _ => bNext p c s
  | .bSlot, .iso d _ _ st =>
    match parseAtqb (bytesOfBits (d.length / 8) d) st with
    | none => bNext p { c with collided := c.collided + 1, heard := true } s
    | some x =>
      let (c, s) := isoFound p { c with heard := true, data := x.id } x s
      let cid := if x.cidOk then pickCid s p 0xFF
        else if otherCid s p c.handle || cidBarred s p || (freeCid s p).isNone then none else some 0
      match c.attrib && !c.full, cid with
      | true, some k =>
        let (ds, dr) := divisors s p x.rates 3 3
        isoBegin p { c with stage := .bFoundAttrib, cid := k, dsMax := ds, drMax := dr } s
      | true, none => isoBegin p { c with stage := .bFoundHalt, noCid := c.noCid + 1 } s
      | false, _ => isoBegin p { c with stage := .bFoundHalt } s
  | .bSlot, _ => bNext p { c with collided := c.collided + 1, heard := true } s
  | .bFoundAttrib, .iso d _ _ _ =>
    if attribGood c (bytesOfBits (d.length / 8) d) then
      let s := attribDone p c s
      bNext p (snap c s) s
    else isoBegin p { c with stage := .bFoundHalt } s
  | .bFoundAttrib, _ => isoBegin p { c with stage := .bFoundHalt } s
  | _, _ =>
    let s := isoMove p c.handle .halt s
    bNext p (snap c s) s

/-! ### ISO/IEC 15693 (R227 to R232) -/

/-- Stay quiet to the tags found, then the end of the inventory. -/
def vQuietNext (p : Nat) (c : IsoCmd) (s : State) : State :=
  match c.done with
  | [] => isoEnd p c s
  | _ => isoBegin p { c with stage := .vStayQuiet } s

/-- The next mask of the queue. -/
def vNext (p : Nat) (c : IsoCmd) (s : State) : State :=
  match c.queue with
  | [] => vQuietNext p c s
  | (m, len, many) :: rest =>
    if c.full || c.found.length ≥ c.maxTags then vQuietNext p c s
    else isoBegin p { c with queue := rest, mask := m, mlen := len, slots := if many then 16 else 1, slot := 0, stage := .vSlot } s

/-- The next slot of the round, not before a tick. -/
def vSlotNext (p : Nat) (c : IsoCmd) (least : Nat) (s : State) : State :=
  atSlot p c s fun s =>
  if c.full || c.found.length ≥ c.maxTags || c.slot + 1 ≥ c.slots then vNext p c s
  else isoBeginAt p { c with slot := c.slot + 1 } least s

/-- A slot holds a collision or an error. -/
def vCollided (c : IsoCmd) : IsoCmd :=
  let c := { c with heard := true }
  if c.slots == 1 then { c with queue := c.queue ++ [(c.mask, c.mlen, true)] }
  else if c.mlen ≤ 56 then { c with queue := c.queue ++ [(c.mask + c.slot * 2 ^ c.mlen, c.mlen + 4, true)] }
  else { c with unresolved := c.unresolved + 1 }

/-- One result of ISO_V_INVENTORY. -/
def vInvResult (p : Nat) (c : IsoCmd) (out : RxOut) (base : Nat) (s : State) : State :=
  match c.stage, out with
  | .vStayQuiet, _ =>
    let uid := c.done.headD []
    let s := modIso p (fun i => { i with handles := i.handles.map fun x =>
      if x.kind == 2 && x.id == uid then { x with st := .quiet } else x }) s
    vQuietNext p { c with
      done := c.done.drop 1,
      found := c.found.map fun x => if x.id == uid then { x with st := .quiet } else x } s
  | _, .nothing _ =>
    let a := (port s p).air
    vSlotNext p c (max base (a.started + ((a.tx.map (·.dur)).getD 0) + vT3 s p)) s
  | _, .iso d _ _ st =>
    let x := bytesOfBits (d.length / 8) d
    if x.length != 10 || bit (num x 0 1) 0 then vSlotNext p (vCollided c) 0 s
    else
      let uid := slice x 2 8
      let c := { c with heard := true }
      if c.found.any fun y => y.id == uid then vSlotNext p c 0 s
      else
        let c := if c.quiet then { c with done := c.done ++ [uid] } else c
        match (port s p).iso.handles.find? fun y => y.kind == 2 && y.id == uid with
        | some y =>
          let y' := { y with st := .ready, strength := st, info := slice x 1 1, rx := ((port s p).task.bind (·.rx)).getD [] }
          vSlotNext p { c with found := c.found ++ [y'] } 0 (modIsoHandle p y.h (fun _ => y') s)
        | none =>
          let (c, s) := isoFound p c { h := 0, kind := 2, st := .ready, id := uid, info := slice x 1 1, strength := st } s
          vSlotNext p c 0 s
  | _, _ => vSlotNext p (vCollided c) 0 s

/-- The exchange of ISO_V_COMMAND has failed: repeat where the command may be repeated (R231, R232). -/
def vCmdRetry (p : Nat) (c : IsoCmd) (s : State) : State :=
  let may := c.rep || (!c.write && c.code < 0xA0)
  if may && c.tries < pAttrN s A.isoRetries p then isoBegin p { c with stage := .vCmd, tries := c.tries + 1 } s
  else
    isoFail p E.isoRetries c 0 0 (modIso p (fun i => { i with handles := i.handles.map fun x =>
      if x.h == c.handle || (c.handle == 0 && x.st == .selected) then { x with st := .unknown } else x }) s)

/-- The data of a 15693 answer: its flags and the rest; an answer with the Error flag ends the command (R231). -/
def vAnswer (p : Nat) (c : IsoCmd) (x : Bytes) (ok : State → State) (s : State) : State :=
  if bit (num x 0 1) 0 then isoFail p E.isoTagError c (num x 1 1 : Int) 0 s else ok s

/-- One result of ISO_V_COMMAND. -/
def vCmdResult (p : Nat) (c : IsoCmd) (out : RxOut) (base : Nat) (s : State) : State :=
  if c.stage == .vCmd && c.write && c.opt then
    isoBeginAt p { c with stage := .vEof } (base + msT (pAttrN s A.isoVWriteWaitMs p)) s
  else match out with
  | .iso d _ _ _ =>
    let x := bytesOfBits (d.length / 8) d
    if x.isEmpty then vCmdRetry p c s
    else vAnswer p c x (fun s => taskOk p (x.take 1 ++ [0] ++ le 2 (x.length - 1) ++ x.drop 1) s) s
  | _ => vCmdRetry p c s

/-! ### The block protocol (R218 to R224) -/

/-- A block as the tag sent it. -/
inductive Blk where
  | info (n : Nat) (chain : Bool) (inf : Bytes)
  | ack (n : Nat)
  | deselect
  | wtx (m : Nat)
  | bad
  deriving DecidableEq, Repr

/-- Read a block: known PCB, the tag's CID, no NAD, a length within FSD (R219, R220, Table 4-7). -/
def parseBlk (s : State) (p : Nat) (x : IsoHandle) (y : Bytes) : Blk :=
  let pcb := num y 0 1
  let withCid := bit pcb 3
  if y.isEmpty || y.length + 2 > frameSize (pAttrN s A.isoFsdi p) || withCid != x.cidOk
    || (withCid && field (num y 1 1) 3 0 != x.cid) || (withCid && y.length < 2) then .bad
  else
    let inf := y.drop (if withCid then 2 else 1)
    let k := pcb &&& 0xF7
    if k &&& 0xEE == 0x02 then .info (k % 2) (bit k 4) inf
    else if k &&& 0xFE == 0xA2 && inf.isEmpty then .ack (k % 2)
    else if k == 0xC2 && inf.isEmpty then .deselect
    else if k == 0xF2 && inf.length == 1 then .wtx (field (num inf 0 1) 5 0)
    else .bad

/-- The bytes of a block (Table 4-7). -/
def blkBytes (x : IsoHandle) (pcb : Nat) (inf : Bytes) : Bytes :=
  (if x.cidOk then [b8 (pcb + 8), b8 x.cid] else [b8 pcb]) ++ inf

/-- Send a block to the command's tag and wait for the answer with a WTXM (Table 4-4, R217, R221). -/
def blkSend (p : Nat) (c : IsoCmd) (out : Bytes) (s : State) : State :=
  let x := isoTag s p c
  let w := blkWindow x.fwi c.wtxm
  let tx := if x.kind == 0 then txA x.dr (aBits (out ++ le 2 (crcA out))) (some w) else txB x.dr out w
  isoSend p c tx 0 s

/-- Start the exchange of a block (R220). -/
def blkBegin (p : Nat) (c : IsoCmd) (kind : Nat) (blk : Bytes) (s : State) : State :=
  blkSend p { c with blk := blk, kind := kind, tries := 0, wtxm := 1, waited := 0, wtxCount := 0 } blk s

/-- Send the next I-block of the command APDU (R218). -/
def apduNext (p : Nat) (c : IsoCmd) (s : State) : State :=
  let x := isoTag s p c
  let most := x.fsc - (if x.cidOk then 2 else 1) - 2
  let inf := c.data.take most
  let chain := c.data.length > most
  let c := { c with data := c.data.drop most, chain := chain, num := x.num, rxChain := false, stage := .block }
  blkBegin p c 0 (blkBytes x (0x02 + x.num + (if chain then 16 else 0)) inf) s

/-- Deselect the tag before the command fails with `why` (R220, R222, R224). -/
def blkGiveUp (p : Nat) (c : IsoCmd) (why : Nat) (s : State) : State :=
  let x := isoTag s p c
  blkBegin p { c with stage := .failDeselect, why := why } 2 (blkBytes x 0xC2 []) s

/-- The exchange fails. -/
def blkFail (p : Nat) (c : IsoCmd) (code : Nat) (s : State) : State :=
  isoFail p (if c.stage == .failDeselect then c.why else code) c 0 0 (isoMove p c.handle .unknown s)

/-- Count a try and send a block again, or fail with E_ISO_RETRIES (R220). -/
def blkTry (p : Nat) (c : IsoCmd) (out : Bytes) (s : State) : State :=
  if c.tries + 1 > pAttrN s A.isoRetries p then blkFail p c E.isoRetries s
  else blkSend p { c with tries := c.tries + 1 } out s

/-- An invalid block or none: S(DESELECT) again, R(ACK) while the tag sends a chain, else R(NAK) (R220). -/
def blkInvalid (p : Nat) (c : IsoCmd) (s : State) : State :=
  let x := isoTag s p c
  let out := if c.kind == 2 then c.blk
    else blkBytes x ((if c.rxChain then 0xA2 else 0xB2) + x.num) []
  blkTry p c out s

/-- The number of the tag's next block toggles after a completed I-block exchange (R219). -/
def blkToggle (p : Nat) (c : IsoCmd) (s : State) : State :=
  modIsoHandle p c.handle (fun y => { y with num := 1 - y.num, used := true }) s

/-- An I-block of the tag's response (R222, R223). -/
def blkInfo (p : Nat) (c : IsoCmd) (chain : Bool) (inf : Bytes) (s : State) : State :=
  let s := blkToggle p c s
  let resp := c.resp ++ inf
  if resp.length > 4096 then blkGiveUp p c E.isoOversize s
  else if chain then
    let x := isoTag s p c
    blkBegin p { c with resp := resp, rxChain := true } 1 (blkBytes x (0xA2 + x.num) []) s
  else taskBytes p resp (setIso p c s)

/-- One answer inside a block exchange (pseudocode of R220). -/
def blkResult (p : Nat) (c : IsoCmd) (out : RxOut) (base : Nat) (s : State) : State :=
  let x := isoTag s p c
  let c := { c with waited := c.waited + (base - (port s p).air.started), wtxm := 1 }
  let b := match out with
    | .iso d _ _ _ => if d.length % 8 == 0 then parseBlk s p x (bytesOfBits (d.length / 8) d) else .bad
    | _ => .bad
  match b with
  | .wtx m =>
    if m < 1 || m > 59 then blkInvalid p c s
    else
      let c := { c with wtxCount := c.wtxCount + 1 }
      if c.wtxCount > pAttrN s A.isoWtxMax p || c.waited > msT (pAttrN s A.isoWaitMaxMs p) then
        if c.stage == .failDeselect then blkFail p c c.why s else blkGiveUp p c E.isoWaitLimit s
      else blkSend p { c with wtxm := m } (blkBytes x 0xF2 [b8 m]) s
  | .ack n =>
    if c.kind == 0 && n == c.num then
      if c.chain then apduNext p c (blkToggle p c s) else blkTry p c (blkBytes x (0xB2 + x.num) []) s
    else if c.kind == 0 then blkTry p c c.blk s
    else blkInvalid p c s
  | .info n chain inf => if c.kind != 2 && !(c.kind == 0 && c.chain) && n == x.num then blkInfo p c chain inf s else blkInvalid p c s
  | .deselect =>
    if c.kind != 2 then blkInvalid p c s
    else
      let s := modIsoHandle p c.handle (fun y => { y with cid := 0xFF }) s
      if c.stage == .failDeselect then blkFail p c c.why s else taskOk p [] (isoMove p c.handle .halt s)
  | .bad => blkInvalid p c s

/-! ### The other commands -/

/-- The receive code of an exchange that is not repeated (Table 4-11). -/
def isoRxFail (p : Nat) (c : IsoCmd) (out : RxOut) (s : State) : State :=
  match out with
  | .rejected code pos => isoFail p code c (if code == E.rxCrc then 0 else (pos : Int)) 0 s
  | _ => isoFail p E.rxNoResponse c 0 0 s

/-- The result of ISO_RAW_FRAME (R233): the bits and any collision position stand in the body of a collision's failure too. DEDUCED, unsafe: log entry
44. -/
def isoRawBody (d : List Bool) (coll : Option Nat) : Bytes :=
  le 2 d.length ++ le 2 (coll.getD 0xFFFF) ++ zeros 4 ++ bytesOfBits (ceilDiv d.length 8) d

/-- One result of an ISO command of one exchange. DEDUCED, unsafe: log entry 44. -/
def isoSingle (p : Nat) (c : IsoCmd) (out : RxOut) (base : Nat) (s : State) : State :=
  match c.stage with
  | .hltA => taskOk p [] (isoMove p c.handle .halt s)
  | .vQuiet => taskOk p [] (isoMove p c.handle .quiet s)
  | .raw =>
    match out with
    | .iso d (some k) _ _ =>
      endTask p E.rxCollision (pad4 (isoRawBody d (some k)) ++ ({ port := p, arg1 := (k : Int) } : Detail).bytes p) s
    | .iso d none _ _ => taskOk p (isoRawBody d none) s
    | _ => isoRxFail p c out s
  | .pps =>
    let x := isoTag s p c
    let s := modIsoHandle p c.handle (fun y => { y with used := true }) s
    match out with
    | .iso d _ _ _ =>
      if bytesOfBits (d.length / 8) d == [b8 (0xD0 + x.cid)] then
        taskOk p [b8 c.dsMax, b8 c.drMax, 0, 0] (modIsoHandle p c.handle (fun y => { y with ds := c.dsMax, dr := c.drMax }) s)
      else isoFail p E.isoActivation c 0 0 s
    | _ => isoFail p E.isoActivation c 0 0 s
  | _ =>
    match out with
    | .iso d _ _ st =>
      let x := bytesOfBits (d.length / 8) d
      match c.stage with
      | .rats => ratsAnswer p c x base s
      | .attrib =>
        if attribGood c x then taskOk p [b8 c.cid, b8 c.dsMax, b8 c.drMax, 0] (attribDone p c s) else isoFail p E.isoActivation c 0 0 s
      | .bReq =>
        match parseAtqb x st with
        | none => isoFail p E.rxCoding c 0 0 s
        | some y =>
          match giveIso p y s with
          | none => isoFail p E.isoListFull c 0 0 s
          | some (h, s) => taskOk p (isoRecord ((isoHandle s p h).getD y)) s
      | .hltB => if x == [0x00] then taskOk p [] (isoMove p c.handle .halt s) else isoFail p E.rxCoding c 0 0 s
      | .vSelect => vAnswer p c x (fun s => taskOk p [] (modIso p (fun i => { i with handles := i.handles.map fun y =>
          if y.h == c.handle then { y with st := .selected } else if y.st == .selected then { y with st := .ready } else y }) s)) s
      | .vReset => vAnswer p c x (fun s => taskOk p [] (isoMove p c.handle .ready s)) s
      | _ => taskOk p [] s
    | _ => if c.stage == .bReq && out matches .nothing _ then isoFail p E.isoNoTag c 0 0 s else isoRxFail p c out s

/-- The gap after a tag frame before the next reader frame (Table 4-4). PRESUMED, unsafe: log entry 45. -/
def isoGap (s : State) (p : Nat) (c : IsoCmd) : Nat :=
  match (port s p).air.tx with
  | some { frame := .iso 0 _ _, .. } => 2344
  | some { frame := .iso 1 _ _, .. } =>
    let up := match c.stage with | .block | .deselect | .failDeselect => (isoTag s p c).ds | .raw => c.rate | _ => 0
    14 * etu up
  | _ => 8384

/-- The result of an exchange of an ISO command. `base` is the end of the tag frame or of the window. -/
def isoResult (p op : Nat) (c : IsoCmd) (out : RxOut) (base : Nat) (s : State) : State :=
  let s := match out with
    | .nothing _ => s
    | _ => modIso p (fun i => { i with gapUntil := max i.gapUntil (base + isoGap s p c) }) s
  match op with
  | 0x41 => antiResult p c out s
  | 0x42 => actResult p c out s
  | 0x47 => bAntiResult p c out s
  | 0x4A | 0x4B => blkResult p c out base s
  | 0x50 => vInvResult p c out base s
  | 0x51 => vCmdResult p c out base s
  | _ => isoSingle p c out base s

end Sys2Proof.Machine
end

