-- ==== Sys2Proof/Machine/Plan.lean ====
section
/-!
DEFINITION. The cluster plan in force: frames, runs, the channel a port has in a frame, and when a run ends (R458 to R460, R466, R468, R469).
-/

namespace Sys2Proof.Machine

/-! ### Frames and plans -/

/-- The present Trellis frame number (R458). -/
def frameNo (s : State) : Nat := (ts s).toNat / 1000000

/-- The section of a module in a plan: its offset (Tables 9-1, 9-2). -/
def sectionAt (plan : Bytes) (id : Nat) : Option Nat :=
  ((List.range (num plan 5 1)).map fun i => 24 + 1284 * i).find? fun o => num plan o 1 == id

/-- The runs of a port of a module: FIRST and CHANNEL (Table 9-3). -/
def runsOf (plan : Bytes) (id p : Nat) : List (Nat × Nat) :=
  match sectionAt plan id with
  | none => []
  | some o =>
    let e := o + 4 + 20 * p
    (List.range (min 4 (num plan e 1))).map fun i => (num plan (e + 4 + 4 * i) 2, num plan (e + 6 + 4 * i) 1)

/-- CYCLE and the cycle position of a frame (R460). -/
def cycleOf (plan : Bytes) : Nat := num plan 6 2
def cyclePos (plan : Bytes) (frame : Nat) : Nat :=
  (((frame : Int) - (num plan 8 8 : Int)) % (max 1 (cycleOf plan) : Nat)).toNat

/-- The index of the run in force at a cycle position: the last whose FIRST is at most it (R460). -/
def runIndex (runs : List (Nat × Nat)) (c : Nat) : Nat := (runs.filter fun r => r.1 ≤ c).length - 1

/-- The channel of the run in force in a frame; none for OFF. -/
def runChannel (plan : Bytes) (id p frame : Nat) : Option Nat :=
  let runs := runsOf plan id p
  let ch := (nth runs (runIndex runs (cyclePos plan frame)) (0, 0xFF)).2
  if ch == 0xFF then none else some ch

/-- Whether a port is stepped: its runs do not all name one channel (R460). -/
def isStepped (plan : Bytes) (id p : Nat) : Bool :=
  match runsOf plan id p with
  | [] => false
  | r :: rest => rest.any fun x => x.2 != r.2

/-- The active plan, while one is in force. -/
def planOf (s : State) : Option Bytes := s.cluster.active.map (·.2)

/-- The channel in force on a port in a frame: port.radio.channel, or the channel of the run in force of an active plan; none in an
OFF run, and on a stepped port once time is lost (R460, R469). -/
def channelIn (s : State) (p frame : Nat) : Option Nat :=
  match planOf s with
  | none => some (pAttrN s A.radioChannel p)
  | some b =>
    if (runsOf b s.moduleId p).isEmpty then some (pAttrN s A.radioChannel p)
    else if s.time.lostTime && isStepped b s.moduleId p then none
    else runChannel b s.moduleId p frame

/-- The channel in force on a port now. -/
def channelNow (s : State) (p : Nat) : Option Nat := channelIn s p (frameNo s)

/-- Whether a port is in an OFF run (R468). -/
def offRun (s : State) (p : Nat) : Bool := (channelNow s p).isNone

/-- Whether a port is stepped under the active plan. -/
def stepped (s : State) (p : Nat) : Bool :=
  match planOf s with
  | none => false
  | some b => isStepped b s.moduleId p

/-- The frames of the run in force that remain, the present one included; none where the run has no end. -/
def framesLeft (s : State) (p : Nat) : Option Nat :=
  match planOf s with
  | none => none
  | some b =>
    if !isStepped b s.moduleId p then none
    else
      let runs := runsOf b s.moduleId p
      let c := cyclePos b (frameNo s)
      match runs[runIndex runs c + 1]? with
      | some r => some (r.1 - c)
      | none => some (cycleOf b - c)

/-- The tick at which the run in force of a port ends; none where it has no end. -/
def runEnd (s : State) (p : Nat) : Option Nat := (framesLeft s p).map fun n => tickOf s ((frameNo s + n) * 1000000)

/-- The channel a port in an OFF run is tuned to: that of its next run that carries a field (R468). -/
def nextChannel (s : State) (p : Nat) : Nat :=
  match planOf s with
  | none => pAttrN s A.radioChannel p
  | some b =>
    let runs := runsOf b s.moduleId p
    let i := runIndex runs (cyclePos b (frameNo s))
    let later := (runs.drop (i + 1) ++ runs.take (i + 1)).filter fun r => r.2 != 0xFF
    ((later.head?).map (·.2)).getD (pAttrN s A.radioChannel p)

/-! ### The end of a run (R466) -/

/-- The tick of the present frame's start. -/
def frameTick (s : State) : Nat := tickOf s (frameNo s * 1000000)

/-- 5 µs in ticks: T_A starts the ramp down that much before the end of a run (Table 9-5), so that the field is at zero 1 µs before it. -/
def runLead : Nat := 136

/-- 1 µs in ticks, rounded up: the ramp up of a run is released no earlier after the frame start (R466). -/
def runGap : Nat := 28

/-- The field of a stepped port has to be down when its run in force ends: the next run has another channel, or none. -/
def runTurns (s : State) (p : Nat) : Option Nat :=
  match framesLeft s p with
  | none => none
  | some n =>
    let f := frameNo s + n
    if channelIn s p f == channelNow s p then none else some (tickOf s (f * 1000000))

/-- The end of the run in force is so near that the field does not come back in it. -/
def runClosing (s : State) (p : Nat) : Bool := match runTurns s p with | some e => e ≤ s.now + runLead | none => false

end Sys2Proof.Machine
end

