-- ==== Sys2Proof/Machine/FieldOps.lean ====
section
/-!
DEFINITION. Slices, fields, Press, tuning and what ends or interrupts a field (02).
-/

namespace Sys2Proof.Machine

/-- Whether the cut of R83 acts, by INTLK_N or by VAUX (R572). DEDUCED, unsafe: log entry 25. -/
def interlocked (s : State) : Bool := s.pins.intlkActs || s.pins.vauxMv < 1500

/-! ### Power (R86, R112, R113) -/

/-- The set power in force for a written one (R86). -/
def roundPower (v : Int) : Int :=
  if 3091 ≤ v && v ≤ 3093 then 3090
  else if 3094 ≤ v && v ≤ 3097 then 3097
  else (v + 5) / 10 * 10

/-- A set power in mW, rounded up to a whole mW (R113): 3097 is 1250 mW; a multiple of 10 is 10^(v/1000) mW. -/
def powerMw (v : Int) : Nat :=
  if v ≥ 3097 then 1250
  else
    let k := (v / 10).toNat
    1 + (List.range 11).foldr (fun i n => if (n + 2 ^ i) ^ 100 < 10 ^ k then n + 2 ^ i else n) 0

/-- What a field of a port asks of Press under a configuration: its set power, or the sum over its set (R113). -/
def fieldMw (s : State) (c : Cfg) (p : Nat) : Nat :=
  let m := membersIn s c p
  ((if m.isEmpty then [p] else m).map fun q => powerMw (roundPower (cfg1 s c A.txPowerCdbm q))).sum

/-- The allocation Press works with: one that has arrived lower acts before it is acknowledged (R364). -/
def allocNow (s : State) : Nat := s.power.allocPending.getD s.power.allocMw

/-- The Press reserve is withheld (Table 7-1). -/
def reserveWithheld (s : State) : Bool := allocNow s < 51000

/-- press.class: 8 or 6 (R112, R363). -/
def pressClass (s : State) : Nat := if allocNow s ≥ 71300 then 8 else 6

/-- press.reserve_mw (R112). -/
def pressReserve : Nat := 1000

/-- press.available_mw (R112, Table 7-1). -/
def pressAvailable (s : State) : Nat :=
  if reserveWithheld s then 0 else min (if pressClass s == 8 then 32000 else 20000) (min regTotalMw (mAttrN s A.pressBudgetMw)) - pressReserve

/-- press.granted_mw. -/
def pressGranted (s : State) : Nat := (s.ports.map fun x => x.radio.grantMw + x.radio.auxMw).sum

/-- Whether a request fits now (R114, R118). -/
def pressFits (s : State) (mw : Nat) : Bool := !s.press.stopped && pressGranted s + mw ≤ pressAvailable s

/-- Whether a request stands before another in the order of R114. -/
def reqBefore (a z : PressReq) : Bool :=
  a.prio > z.prio || (a.prio == z.prio && (a.tick < z.tick || (a.tick == z.tick && a.port < z.port)))

/-- Put a request into the order (R114). -/
def reqInsert (r : PressReq) : List PressReq → List PressReq
  | [] => [r]
  | x :: xs => if reqBefore r x then r :: x :: xs else x :: reqInsert r xs

/-- Take the requests of a port's field out of Press; that of a Mirror training or of a tone is its own, whatever port it stands under (R146, R470).
-/
def pressDrop (p : Nat) (s : State) : State :=
  { s with press := { s.press with waiting := s.press.waiting.filter fun r => r.port != p || r.kind == .train || r.kind == .tone } }

/-- Take one request out of Press. -/
def pressTake (r : PressReq) (s : State) : State :=
  { s with press := { s.press with waiting := s.press.waiting.filter (· != r) } }

/-- Take the number of the next grant (R118). -/
def nextGrant (s : State) : Nat × State := (s.press.grants, { s with press := { s.press with grants := s.press.grants + 1 } })

/-! ### Slices (R62 to R74) -/

/-- Send the slice of a port towards a state; a synthesiser calibration starts when it leaves STANDBY upwards, and in place on a slice above
STANDBY whose synthesiser has not locked (R63, R69). -/
def aim (p : Nat) (target : SliceSt) (s : State) : State :=
  let now := s.now
  modSlice p (fun x =>
    { x with target := target, calSince :=
        if target.code > 1 && (x.st == .standby || (x.st.code > 1 && !x.locked)) then some (x.calSince.getD now) else x.calSince }) s

/-- Whether the slice of a port is in LISTEN or above, on a locked synthesiser. -/
def listening (s : State) (p : Nat) : Bool :=
  let x := sliceAt s p
  x.st.code ≥ 3 && x.locked && x.calSince.isNone

/-- Start a synthesiser calibration in place (R69, R70). -/
def recal (p channel : Nat) (s : State) : State :=
  let now := s.now
  modSlice p (fun x => { x with channel := channel, locked := false, calSince := some now }) s

/-- The slices of a port or of its set take a channel: they recalibrate in place, unless their synthesisers are not in use (R69, R70). -/
def retune (p channel : Nat) (s : State) : State :=
  (group s p).foldl (fun s q =>
    if (sliceAt s q).st.code ≥ 2 then recal q channel s else modSlice q (fun x => { x with channel := channel }) s) s

/-- A change of channel that came while the field was on a ramp down is made with the field off (R70). -/
def takeChannel (p : Nat) (s : State) : State :=
  match (port s p).radio.newChannel with
  | none => s
  | some ch => retune p ch (modRadio p (fun r => { r with newChannel := none }) s)

/-- One transition of a slice has completed (R63). STANDBY to SYNTH completes by SYNTH_LOCKED. -/
def sliceStep (now : Nat) (x : Slice) : Slice :=
  if x.st == x.target || x.st == .field then x
  else if x.target == .sleep then { x with st := .sleep, locked := false, calSince := none }
  else match x.st with
  | .sleep => { x with st := .standby, calSince := if x.target == .standby then none else some now }
  | .standby => x
  | .synth =>
    if x.target == .standby then { x with st := .standby, locked := false, calSince := none }
    else if x.locked then { x with st := .listen } else x
  | .listen => if x.target == .field then x else { x with st := .synth }
  | .field => x

/-- The synthesiser of a slice has locked (R69). -/
def lockSlice (margin : Int) (x : Slice) : Slice :=
  { x with locked := true, calSince := none, bandMargin := margin, st := if x.st == .standby then .synth else x.st }
/-- port.radio.idle_state. -/
def idleState (s : State) (p : Nat) : SliceSt := SliceSt.ofCode (pAttrN s A.radioIdleState p)

/-- A port without field, work or waiting commands lets its slice return to its idle state (R64); in DOZE every slice stays in SLEEP (R343). -/
def settle (p : Nat) (s : State) : State :=
  let x := port s p
  if x.radio.phase == .off && x.radio.want.isNone && x.task.isNone && x.pass.isNone && x.parked.isEmpty
    && ((inRing s p).items.all RingEntry.isDone) && s.mod.st != .doze
  then (group s p).foldl (fun s q => aim q (idleState s p) s) s else s

/-- As `settle`, in SERVICE, on a port whose engine is its own (R64). -/
def settleIn (p : Nat) (s : State) : State := if s.mod.st == .service && !isFollower s p then settle p s else s

/-! ### Tuning (R103 to R108) -/

/-- The level in mV of a code of the 12-bit converter that drives TN, 12 V at its greatest code: steps of 2.93 mV (R103). DESIGN CHOICE, safe: log
entry 63. -/
def tnLevel (code : Nat) : Nat := (code * 12000 + 2047) / 4095

/-- The code of that converter nearest to a voltage in mV. -/
def tnCode (mv : Nat) : Nat := (min mv 12000 * 4095 + 6000) / 12000

/-- The voltage TN takes for a voltage asked for (R103). -/
def tnStep (mv : Nat) : Nat := tnLevel (tnCode mv)

/-- port.tune.phase lies between −90 and 90 degrees (Table 2-14). -/
def clampPhase (x : Int) : Int := max (-9000) (min 9000 x)

/-- Whether two phases have different signs; a phase of 0 counts as positive. DESIGN CHOICE, unsafe: log entry 64. -/
def signChange (a z : Int) : Bool := (a < 0) != (z < 0)

/-- The index of the first pair of neighbours with a sign change: of several, the one at the lowest TN. DESIGN CHOICE, unsafe: log entry 64. -/
def firstChange : Nat → List Int → Option Nat
  | i, a :: z :: rest => if signChange a z then some i else firstChange (i + 1) (z :: rest)
  | _, _ => none

/-- The index of the smallest absolute value; the first of several. -/
def smallest (xs : List Int) : Nat :=
  ((List.range xs.length).foldl (fun best i => if mag (nth xs i 0) < mag (nth xs best 0) then i else best) 0)

/-- One probe of the coil phase at a TN voltage (R106): a free value within the range of port.tune.phase. -/
def probe (p mv : Nat) (s : State) : Int × State := (clampPhase (Config.coilPhase s.free p mv), drawn s)

/-- The coarse points of R106. -/
def coarse (p : Nat) : Nat → Nat → State → List Int × State
  | 0, _, s => ([], s)
  | k + 1, mv, s =>
    let (x, s) := probe p mv s
    let (xs, s) := coarse p k (mv + 500) s
    (x :: xs, s)

/-- The binary search of R106. -/
def fineSearch (p : Nat) (phLo : Int) : Nat → Nat → Nat → State → Nat × Nat × State
  | 0, lo, hi, s => (lo, hi, s)
  | k + 1, lo, hi, s =>
    let mid := (lo + hi) / 2
    let (x, s) := probe p mid s
    if signChange x phLo then fineSearch p phLo k lo mid s else fineSearch p phLo k mid hi s

/-- Set TN, in the steps of its converter, and its phase (R103). -/
def setTn (p mv : Nat) (phase : Int) (s : State) : State :=
  modRadio p (fun r => { r with tnMv := tnStep mv, tunePhase := clampPhase phase }) s

/-- The auto-tune of one port (R106); false where no sign change was found. TN then stays at the best point, and port.tune.phase reads the phase
found there. DESIGN CHOICE, unsafe: log entry 64. -/
def tuneOne (p : Nat) (s : State) : Bool × State :=
  let (ph, s) := coarse p 25 0 s
  match firstChange 0 ph with
  | none => let b := smallest ph; (false, setTn p (500 * b) (nth ph b 0) s)
  | some i =>
    let (lo, hi, s) := fineSearch p (nth ph i 0) 8 (500 * i) (500 * i + 500) s
    let (x, s) := probe p ((lo + hi) / 2) s
    (true, setTn p ((lo + hi) / 2) x s)

/-- The auto-tune of a port or of every member of its set (R106, R323): the ports where no sign change was found. -/
def autotune (p : Nat) (s : State) : List Nat × State :=
  (group s p).foldl (fun (bad, s) q => let (x, s) := tuneOne q s; (if x then bad else bad ++ [q], s)) ([], s)

/-- A full auto-tune runs before the next ramp up of a port or of its set, while the setting tunes at all (R104, R107, R576). -/
def tunesNext (s : State) (p : Nat) : Bool :=
  pAttr s A.tnAutotune p != 0 && (group s p).any fun q => (port s q).radio.tuneDue || (port s q).radio.tuneSkip

/-- A tuning of a port or of its set has run: what CAL skipped is done; a drift is answered where the tuning was that of a FIELD_ON, or found the
resonance (R107, R576). -/
def tuneRan (p : Nat) (answers : Bool) (s : State) : State :=
  (group s p).foldl (fun s q => modRadio q (fun r => { r with tuneSkip := false, tuneDue := r.tuneDue && !answers }) s) s

/-- The arguments of EV_TUNE_DRIFT (Table 8-20). -/
def driftArgs (s : State) (p : Nat) : Bytes := le 2 (port s p).radio.tnMv ++ leI 2 (port s p).radio.tunePhase

/-! ### Prism calibration (R327, R328) -/

/-- The place in its set of the member with the largest residual. -/
def worstMember (err : List Int) : Nat :=
  (List.range err.length).foldl (fun best i => if mag (nth err i 0) > mag (nth err best 0) then i else best) 0

/-- The residuals of a set as a calibration or the measurement of R328 finds them: free values; the lead and absent members read 0. -/
def prismErr (n p m : Nat) : List Int := (List.range 4).map fun i => if 0 < i && i < m then Config.prismResidual n p i else 0

/-- Residuals within 3 degrees, with which alone the calibration after a swap ends (R330). -/
def withinThree (err : List Int) : List Int := err.map fun x => if mag x > 300 then x % 601 - 300 else x

/-- EV_SWAP, the ledger, and the answer to SWAP_REQUEST (R532, R549). DEDUCED, unsafe: log entry 53. -/
def tellSwap (planned : Bool) (kind inst spare us ports portNo : Nat) (hdr : Option Hdr) (s : State) : State :=
  let s := { s with nvm := { s.nvm with portInterruptUs := s.nvm.portInterruptUs + us * ports } }
  let s := raise Ev.swap portNo ([b8 kind, b8 (bnat planned)] ++ le 2 inst ++ le 2 spare ++ [0, 0] ++ le 4 us) s
  match hdr with
  | some h => ok h 0xE4 (le 2 spare ++ [0, 0] ++ le 4 us) s
  | none => s

/-- Whether the interruption of a swap is over on the port that leads: its field stands again, or has ended, and a set is calibrated (R330, R532). -/
def swapOver (s : State) (p : Nat) : Bool :=
  ((port s p).radio.phase == .on || (port s p).radio.phase == .off) && ((members s p).isEmpty || (port s p).prism.calibrated)

/-- The swaps of a port whose interruption is over are reported, each with the time since its start (R532). -/
def tellBack (p : Nat) (s : State) : State :=
  if !swapOver s p then s
  else
    let now := s.now
    let due := s.spares.telling.filter (·.lead == p)
    let s := { s with spares := { s.spares with telling := s.spares.telling.filter (·.lead != p) } }
    due.foldl (fun s t => tellSwap t.planned t.kind t.inst t.spare (usOf (now - t.since)) t.ports t.portNo t.hdr s) s

/-- Calibrate the phases of the set a port leads: the residuals are free values; the set may send frames when every one lies within
3 degrees, and a failure counts towards the wear of the slice of the member with the largest residual. Without the probes of the Press
reserve, or under the cut, the set stays uncalibrated (R327, R328, R365, R576). The calibration that a member's swap still owes is reported (R330). -/
def prismCal (p : Nat) (s : State) : State :=
  let m := members s p
  if m.isEmpty then s
  else if reserveWithheld s || interlocked s then modPort p (fun x => { x with prism := { x.prism with calibrated := false } }) s
  else
    let err := prismErr s.free p m.length
    let err := if (port s p).prism.recal.isSome then withinThree err else err
    let bad := err.any fun x => mag x > 300
    let tn := m.map fun q => (port s q).radio.tnMv
    let s := if bad then countWear 6 (sliceOf s (nth m (worstMember err) p)) s else s
    let swapped := (port s p).prism.recal
    let s := modPort p (fun x => { x with prism := { x.prism with err := err, calibrated := true, failed := bad, tn := tn, recal := none } }) (drawn s)
    tellBack p (match swapped with
      | some i => raise Ev.prismRecal p ([b8 i, 0] ++ (err.map (leI 2)).flatten) s
      | none => s)

/-- A member's TN has moved by more than 500 mV since the last calibration, so the set calibrates again (R327). -/
def prismTnCheck (p : Nat) (s : State) : State :=
  match leadIn s s.cfg.running p with
  | none => s
  | some l =>
    let old := (port s l).prism.tn
    let moved := (members s l).zipIdx.any fun (q, i) =>
      mag (((port s q).radio.tnMv : Int) - ((nth old i 0 : Nat) : Int)) > 500
    if moved then prismCal l s else s

/-! ### Field conditions (R59, R76, R77, R84, R85, R328) -/

/-- Ticks of field within the duty window of R85: the last 1000 buckets of 1 ms. -/
def dutyTicks (s : State) (p : Nat) : Nat :=
  let from_ := (s.now / 27120 - 999) * 27120
  let span := fun (a z : Nat) => z - max a from_
  let r := (port s p).radio
  (r.spans.map fun (a, z) => span a z).sum + (match r.onSince with | some a => span a s.now | none => 0)

/-- The duty limit in ticks; none where it does not act (R85). -/
def dutyLimit (s : State) (p : Nat) : Option Nat :=
  let v := pAttrN s A.fieldDutyLimit p
  if v ≥ 1000 then none else some (msT v)

/-- Whether the duty window bars a field: the time in it plus the guard time exceeds the limit (R85). -/
def dutyBars (s : State) (p : Nat) : Bool :=
  match dutyLimit s p with
  | none => false
  | some lim => dutyTicks s p + usT (pAttrN s A.fieldGuardUs p) > lim

/-- The mode mask of port.hy.modes_enabled in a configuration; 0 on a port of another protocol (R296). -/
def hyModesIn (s : State) (c : Cfg) (p : Nat) : Nat :=
  if protoOf c p == 3 then (cfg1 s c A.hyModesEnabled p).toNat else 0

/-- Whether the settings of a configuration break R76 for an aerial class. -/
def aerialBreaks (s : State) (c : Cfg) (p cls : Nat) : Bool :=
  let inUse := 1 ≤ cls && cls ≤ 4
  let modes := cls == 1 && (hyModesIn s c p &&& 0xCC) != 0
  let tune := (cls == 1 || cls == 4) && cfg1 s c A.tnAutotune p != 0
  let qd := cls == 1 && cfg1 s c A.qdMode p != 0
  inUse && (modes || tune || qd)

/-- The first condition that bars a field on a port, with its code (R59, R76, R77, R84, R85, R328). -/
def fieldBar (s : State) (p : Nat) : Option Nat :=
  let g := group s p
  if isFollower s p then some E.resourceNotOwned
  else if g.any fun q => let c := aerialOf s q; c == 0 || c == 6 || c == 7 then some E.noAerial
  else if g.any fun q => aerialBreaks s s.cfg.running p (aerialOf s q) then some E.aerialMismatch
  else if interlocked s then some E.interlock
  else if g.any (dutyBars s) then some E.dutyLimit
  else if (port s p).prism.failed && !(members s p).isEmpty then some E.prismPhase
  else none

/-! ### Ramps (R65, R78 to R81) -/

/-- The guard time of a port in ticks (R80, R286). -/
def guardTicks (s : State) (p : Nat) : Nat :=
  usT (if pAttr s A.protocol p == 3 then max (pAttrN s A.fieldGuardUs p) (port s p).hy.guardUs else pAttrN s A.fieldGuardUs p)

/-- Start the guard time on T_A; the released set of the canceller adapts in it (R80, R126). -/
def startGuard (p : Nat) (s : State) : State :=
  let until_ := s.now + guardTicks s p
  adaptSet false p (setTimer (tA p) 0x00 until_ (modRadio p (fun r => { r with guardUntil := some until_ }) s))

/-- Arm the ramp up once the grant, the slice and the field-off minimum allow it, in no OFF run and not at the end of a run (R78, R81, R460, R466). A
full auto-tune that is due runs before the ramp up of a field that has been asked for, not of one that is restored; each port where it finds no sign
change is reported (R107, R576). -/
def tryArm (p : Nat) (s : State) : State :=
  let r := (port s p).radio
  match r.want with
  | none => s
  | some w =>
    let ready := (group s p).all (listening s) && !offRun s p && !runClosing s p
    if !w.granted || w.armed || r.offUntil.isSome || !ready || interlocked s then s
    else
      let s := if tunesNext s p && w.fresh then
          let (bad, s) := autotune p s
          let s := prismTnCheck p (tuneRan p true s)
          bad.foldl (fun s q => raise Ev.tuneDrift q (driftArgs s q) s) s
        else s
      setTimer (tA p) 0x01 (s.now + sureLead) (modRadio p (fun r => { r with want := some { w with armed := true } }) s)

/-- Press grants the request at its head (R114): a field may ramp up, a raised set power is taken (R113), a tone has its 10 mW (R470). -/
def grant (r : PressReq) (s : State) : State :=
  let (n, s) := nextGrant (pressTake r s)
  match r.kind with
  | .field =>
    tryArm r.port (modRadio r.port (fun x => { x with
      grantMw := r.mw, grantNo := n, want := x.want.map fun w => { w with granted := true } }) s)
  | .raise => modRadio r.port (fun x => { x with grantMw := x.grantMw + r.mw, grantNo := n }) s
  | .tone => modPort r.port (fun x => { x with tone := x.tone.map fun t => { t with granted := true } })
      (modRadio r.port (fun x => { x with auxMw := x.auxMw + r.mw, auxNo := n }) s)
  | .train =>
    match s.mirrorJob with
    | none => s
    | some j =>
      (portsOf j.ports).foldl (fun s q => modRadio q (fun x => { x with auxMw := x.auxMw + 10, auxNo := n }) s)
        { s with mirrorJob := some { j with granted := true } }

/-- Ask Press at a priority: a request that becomes the head and fits is granted at once; with a timeout of 0 any other fails at once
(R47, R114, R115). The answer says whether the request failed. -/
def pressAskAt (prio p mw : Nat) (kind : ReqKind) (s : State) : Bool × State :=
  let timeout := pAttrN s A.pressTimeoutUs p
  let r : PressReq := ⟨p, mw, prio, s.now, s.now + usT timeout, kind⟩
  let q := reqInsert r s.press.waiting
  if q.head? == some r && pressFits s mw then (false, grant r { s with press := { s.press with waiting := q } })
  else if timeout == 0 then (true, s)
  else (false, { s with press := { s.press with waiting := q } })

/-- Ask Press under the priority of the port (R114). -/
def pressAsk (p mw : Nat) (kind : ReqKind) (s : State) : Bool × State := pressAskAt (pAttrN s A.pressPriority p) p mw kind s

/-- The failure detail of E_PRESS_TIMEOUT and E_PRESS_SHED (Table 8-23). -/
def pressDetail (s : State) (p mw : Nat) : Detail := { port := p, arg1 := (mw : Int), arg2 := (pressAvailable s : Int) }

/-- Start a field on a port: the slices are sent to LISTEN and Press is asked at the same time for the set powers now in force (R78, R113). The answer
is the code with which the request fails at once. -/
def startField (p : Nat) (s : State) : Option (Nat × Detail) × State :=
  match fieldBar s p with
  | some code => (some (code, { port := p }), s)
  | none =>
    let s := modRadio p (fun r => { r with want := some ⟨false, false, s.now, true⟩ }) s
    let s := (group s p).foldl (fun s q =>
      let power := pAttr s A.txPowerCdbm q
      aim q .listen (modRadio q (fun r => { r with power := power }) s)) s
    let mw := fieldMw s s.cfg.running p
    match pressAsk p mw .field s with
    | (false, s) => (none, s)
    | (true, s) => (some (E.pressTimeout, pressDetail s p mw), modRadio p (fun r => { r with want := none }) s)

/-- Every handle of a port is released, and its secure transmit buffer zeroised: its field has gone or been interrupted
(R197, R287, R503). -/
def releaseHandles (p : Nat) (s : State) : State :=
  clearInv p (port s p).hy.handles <| modPort p (fun x => { x with
    iso := { x.iso with handles := [] }, hy := { x.hy with handles := [] }, secBuf := none, copy := ([], []) }) s

/-- Close the span of field-on time that runs (R85). Spans that lie before the window are dropped. -/
def closeSpan (p : Nat) (s : State) : State :=
  let now := s.now
  modRadio p (fun r => match r.onSince with
    | none => r
    | some a => { r with onSince := none, spans := (a, now) :: (r.spans.filter fun e => e.2 + 27120000 > now) }) s

/-- 20 µs in ticks, the blanking of the Z8 detector after a field or a pulse (R340). -/
def blankTicks : Nat := usT 20

/-- The field of a port is at zero: the slices are in LISTEN, the exchange is over, the handles are released (R65). -/
def fieldDown (p : Nat) (s : State) : State :=
  let now := s.now
  let s := (group s p).foldl (fun s q =>
    modPort q (fun x => { x with z8 := { x.z8 with blankUntil := now + blankTicks } })
      (modSlice q (fun x => if x.st == .field then { x with st := .listen, target := .listen } else x) (closeSpan q s))) s
  let s := setQd p (pAttr s A.qdMode p == 1) (disarm (tA p) (modRadio p (fun r => { r with guardUntil := none }) s))
  quietAir p (releaseHandles p s)

/-- A field has ended: the grant is credited back and the field-off minimum starts (R81, R113). FIELD_OFFs are answered. DEDUCED, unsafe: log entry
38. -/
def fieldEnded (p : Nat) (s : State) : State :=
  let off := s.now + usT (pAttrN s A.fieldOffMinUs p)
  let hdrs := (port s p).radio.offHdrs
  let s := fieldDown p (modRadio p (fun r => { r with
    phase := .off, grantMw := 0, credit := none, offUntil := some off, offHdrs := [], want := none }) s)
  settle p (tellBack p (hdrs.foldl (fun s h => ok h 0x21 [] s) (takeChannel p s)))

/-- Start a ramp down; `restore` for an interruption that brings the field back without a command (R65). -/
def rampDown (p : Nat) (restore : Bool) (s : State) : State :=
  modRadio p (fun r => match r.phase with
    | .on | .rising => { r with phase := .falling restore, guardUntil := none }
    | .falling _ => { r with phase := .falling (restore && r.phase == .falling true) }
    | .gap => if restore then r else { r with phase := .falling false, want := none }
    | .off => r) s

/-- A field that has not ramped up is given up: its request leaves Press, its grant is credited, its arm is taken back. -/
def dropWant (p : Nat) (s : State) : State :=
  let r := (port s p).radio
  if r.want.isNone then s
  else
    let s := disarm (tA p) (pressDrop p s)
    modRadio p (fun r => { r with want := none, grantMw := if r.phase == .off then 0 else r.grantMw }) s

/-- End a field or the wait for one, whatever its phase, with a ramp down where there is a field (R65). -/
def endField (p : Nat) (s : State) : State :=
  let s := pressDrop p s
  let ph := (port s p).radio.phase
  if ph == .off then settle p (dropWant p s) else if ph == .gap then fieldEnded p s else rampDown p false s

/-- The field is cut at once, without a ramp (R73, R83). DEDUCED, unsafe: log entry 38. -/
def cutField (p : Nat) (s : State) : State :=
  let s := pressDrop p s
  if (port s p).radio.phase == .off then settle p (dropWant p s) else fieldEnded p s

/-- A field fails: the work of the port ends with a code and the field ramps down (R65, R77, R85, R90, R91, R118). -/
def failField (p code : Nat) (d : Detail) (s : State) : State := endField p (abortWork p code d s)

/-- Interrupt a field, standing or on its ramp up, that comes back without a command (R65, R466). -/
def interruptField (p : Nat) (s : State) : State :=
  if (port s p).radio.phase == .on || (port s p).radio.phase == .rising then rampDown p true s else s

/-- A learning of the pre-distorter is due on a port whose set power has moved by more than 3 dB since the last one (R96), and on a port with D3 or
D4, or in the set of one (R323), whose slice has never learned. DEDUCED, unsafe: log entry 65. -/
def learnDue (s : State) (p : Nat) (power : Int) : Bool :=
  match (sliceAt s p).dpdPower with
  | some x => mag (power - x) > 300
  | none => hyModesIn s s.cfg.running (leadOf s p) &&& 0x0C != 0

/-- Whether the vector in force keeps the carrier of a member of the set that `p` leads off (R324). -/
def carrierOff (s : State) (p q : Nat) : Bool :=
  match (members s p).findIdx? (· == q) with
  | none => false
  | some i => nth (cfgVal s s.cfg.running A.prismVectors p) (8 * (port s p).prism.vector + 2 * i + 1) 0 == 255

/-- The carrier of one slice of a field is on or off (R65, R324, R325). -/
def carrier (q : Nat) (on : Bool) (s : State) : State :=
  let now := s.now
  let is := (sliceAt s q).st == .field
  if on && !is then
    let due := learnDue s q (port s q).radio.power
    modRadio q (fun r => { r with onSince := some now, dpdDue := r.dpdDue || due })
      (modSlice q (fun x => { x with st := .field, target := .field }) s)
  else if !on && is then modSlice q (fun x => { x with st := .listen, target := .listen }) (closeSpan q s)
  else s

/-- The carriers of the set follow its vector (R324). -/
def carriers (p : Nat) (s : State) : State := (group s p).foldl (fun s q => carrier q (!carrierOff s p q) s) s

/-- The set takes a vector: on a field its members move over 256 ticks, and those it switches ramp (R325). -/
def steer (p vector : Nat) (s : State) : State :=
  let on := (port s p).radio.phase == .on
  let moves := on && (port s p).prism.vector != vector
  let s := modPort p (fun y => { y with prism := { y.prism with
    vector := vector, next := none, movedAt := if moves then some s.now else y.prism.movedAt } }) s
  if on then carriers p s else s

/-- A field is at its set amplitude (R80): the guard time starts, at the set powers of its grant (R113). -/
def fieldUp (p : Nat) (s : State) : State :=
  let now := s.now
  let s := carriers p s
  let s := setQd p (pAttr s A.qdMode p == 1) (modAir p (fun a => { a with idleSince := now }) s)
  startGuard p (modRadio p (fun r => { r with phase := .on, want := none }) s)

end Sys2Proof.Machine
end

