-- ==== Sys2Proof/Machine/TrellisOps.lean ====
section
/-!
DEFINITION. Trellis: frames, the cluster plan, the run in force, and what a stepped port may start (R458 to R469); Mirror's selection,
which follows the channels (R142, R143).
-/

namespace Sys2Proof.Machine

/-! ### What a run admits (R467, R468) -/

/-- The lengths in frames of the runs of a port that carry a field. -/
def fieldRuns (s : State) (p : Nat) : List Nat :=
  match planOf s with
  | none => []
  | some b =>
    let runs := runsOf b s.moduleId p
    runs.zipIdx.filterMap fun (r, i) =>
      if r.2 == 0xFF then none
      else some ((match runs[i + 1]? with | some z => z.1 | none => cycleOf b) - r.1)

/-- What R467 says of a command on a port: it may start, it waits for the next run with a field, or it fits no run. -/
inductive FitVerdict where
  | fits | waits | never
  deriving DecidableEq, Repr

/-- The committed values of a port's attributes and of the module-wide ones. -/
def portValues (s : State) (p : Nat) : List Int :=
  (attrTable.filter fun a => a.rw && (a.scope == .port || a.scope == .module)).flatMap fun a =>
    cfgVal s s.cfg.running a.id (if a.scope == .port then p else 0xFFFF)

/-- R467 for a command of a port with a given opcode and counted length. Its maximum duration is a function of the committed attributes and of these,
and otherwise a free value, since the spec gives no sum for it. DEDUCED, unsafe: log entry 48. -/
def fitsRun (s : State) (p op len : Nat) : FitVerdict :=
  if !stepped s p then .fits
  else
    let need := usT (Config.maxDuration (portValues s p) op len)
    let usable := fun (n : Nat) => usT (1000 * n) - usT 19 - guardTicks s p
    if (fieldRuns s p).all fun n => usable n < need then .never
    else if offRun s p then .waits
    else match runEnd s p with
      | none => .fits
      | some e => if s.now + need + usT 6 ≤ e then .fits else .waits

/-! ### Mirror's selection (R142, R143, R181) -/

/-- The trained coupling of an aggressor into a victim; the least value of the matrix for a pair not trained. -/
def couplingOf (s : State) (a v : Nat) : Int :=
  ((s.coupling.find? fun e => e.1 == a && e.2.1 == v).map (·.2.2)).getD (-9000)

/-- Put a pair into a list ordered by falling coupling, then by port. -/
def insertStrong (x : Nat × Int) : List (Nat × Int) → List (Nat × Int)
  | [] => [x]
  | y :: ys => if x.2 > y.2 || (x.2 == y.2 && x.1 < y.1) then x :: y :: ys else y :: insertStrong x ys

/-- The channel a port's carrier has or is about to have, that of its set for a member; none in an OFF run (R142). -/
def chanOf (s : State) (p : Nat) : Option Nat :=
  let l := leadOf s p
  if offRun s l then none else some ((port s l).radio.newChannel.getD (sliceAt s l).channel)

/-- The same-channel aggressors of a port above port.rx.mirror.floor_cdb, the strongest first. -/
def aggressorsOf (s : State) (v : Nat) : List (Nat × Int) :=
  if pAttr s A.rxMirrorEnable v == 0 then []
  else match chanOf s v with
    | none => []
    | some ch =>
      let as := (List.range 64).filterMap fun a =>
        let k := couplingOf s a v
        if a != v && chanOf s a == some ch && k > pAttr s A.rxMirrorFloorCdb v then some (a, k) else none
      as.foldr insertStrong []

/-- Mirror selects anew for one victim, and reports aggressors left uncovered (R142, R143). -/
def selectMirror (v : Nat) (s : State) : State :=
  let all := aggressorsOf s v
  let rest := all.drop 8
  let s := modRx v (fun r => { r with aggressors := (all.take 8).map (·.1), uncovered := rest.length }) s
  match rest with
  | [] => s
  | (a, k) :: _ => raise Ev.mirrorUncovered v ([b8 rest.length, b8 a] ++ leI 2 k) s

/-- Mirror selects anew for every port (R142). -/
def selectAll (s : State) : State :=
  let s := (List.range 64).foldl (fun s v => selectMirror v s) s
  { s with cluster := { s.cluster with chans := (List.range 64).map (chanOf s) } }

/-- Mirror selects anew where Trellis has changed the channel of a port since it last selected (R142). -/
def reselect (s : State) : State := if (List.range 64).map (chanOf s) == s.cluster.chans then s else selectAll s

/-! ### Channels -/

/-- A run of the port begins a field again after a gap, or lets a FIELD_ON go on that waited for it (R466, R468): the slices leave their idle state.
-/
def resumeField (p : Nat) (s : State) : State :=
  let now := s.now
  let s := (group s p).foldl (fun s q => aim q .listen s) s
  tryArm p (modRadio p (fun r => { r with want := some ⟨true, false, now, false⟩ }) s)

/-- The channel of a port changes: with the field off the slice recalibrates in place, with the field on the field is interrupted
and comes back, and on a ramp up it is interrupted once it stands (R70). In the gap of an OFF run the field comes back on the new channel (R465,
R466). -/
def changeChannel (p channel : Nat) (s : State) : State :=
  let later := modRadio p (fun r => { r with newChannel := some channel }) s
  match (port s p).radio.phase with
  | .off => retune p channel s
  | .gap => resumeField p (retune p channel s)
  | .rising => later
  | _ => interruptField p later

/-- The field of a port stands in the gap of an OFF run, and nothing brings it back (R466, R468). -/
def inGap (s : State) (p : Nat) : Bool := (port s p).radio.phase == .gap && (port s p).radio.want.isNone

/-- In an OFF run a port without field rests: its slices in port.radio.idle_state, on the channel of the next run with a field (R468). -/
def restOff (p : Nat) (s : State) : State :=
  let ch := nextChannel s p
  let s := if (sliceAt s p).channel != ch then retune p ch s else s
  if inGap s p then (group s p).foldl (fun s q => aim q (idleState s p) s) s else s

/-- A port enters an OFF run: its field goes down, and where it has none the port rests (R466, R468). -/
def enterOff (p : Nat) (s : State) : State :=
  let s := interruptField p s
  if (port s p).radio.phase == .off || (port s p).radio.phase == .gap then restOff p s else s

/-- A change of channel that came while the field was on a ramp interrupts it once it is up (R70). -/
def lateChannel (p : Nat) (s : State) : State :=
  match (port s p).radio.newChannel, (port s p).radio.phase with
  | some _, .on => interruptField p s
  | _, _ => s

/-! ### Run boundaries (R466, R468, R469) -/

/-- The ramp down at the end of a run is armed on T_A once that timer is free; once it is due it takes precedence (R466). DEDUCED, unsafe: log entry
48. -/
def armRunEnd (p : Nat) (s : State) : State :=
  match runTurns s p with
  | none => s
  | some e =>
    if !((port s p).radio.phase == .on || (port s p).radio.phase == .rising) then s
    else if (timer s (tA p)).armed && s.now + runLead < e then s
    else armSoon (tA p) 0x02 (e - runLead) s

/-- At a boundary, a port under a plan takes the channel of its run in force, or has no field in an OFF run; Mirror selects anew for a channel that
moves (R142, R460, R468, R469). DEDUCED, unsafe: log entry 48. -/
def followRun (p : Nat) (s : State) : State :=
  if (planOf s).isNone || isFollower s p then s
  else reselect (match channelNow s p with
  | none => enterOff p s
  | some ch => if (sliceAt s p).channel != ch then changeChannel p ch s else if inGap s p then resumeField p s else s)

end Sys2Proof.Machine
end

