-- ==== Sys2Proof/Machine/Commit.lean ====
section
/-!
DEFINITION. The configuration commands: ATTR_SET (R421, R422), the checks of CONFIG_COMMIT (R52 to R61, R426, Table 8-7), and how a commit
takes effect (R57, R58, R427).
-/

namespace Sys2Proof.Machine

/-! ### Configurations -/

/-- Whether an attribute is per port. -/
def isPortAttr (id : Nat) : Bool :=
  match attrRow id with
  | some r => r.scope == .port
  | none => false

/-- The set powers of a configuration rounded by R86. DEDUCED, unsafe: log entry 35. -/
def roundCfg (c : Cfg) : Cfg := c.map fun e => if e.1.1 == A.txPowerCdbm then (e.1, e.2.map roundPower) else e

/-- The keys whose value in force differs between two configurations; the guard and field-off defaults follow the protocol (R82). -/
def changedKeys (s : State) (a z : Cfg) : List (Nat × Nat) :=
  let protos := (List.range 64).filter fun p => protoOf a p != protoOf z p
  let keys := (a.map (·.1) ++ z.map (·.1)).eraseDups ++ protos.flatMap fun p => [(A.fieldGuardUs, p), (A.fieldOffMinUs, p)]
  keys.filter fun k => cfgVal s a k.1 k.2 != cfgVal s z k.1 k.2

/-- A configuration with the entries of another for one port. -/
def takePort (base new : Cfg) (p : Nat) : Cfg :=
  let mine := fun (e : (Nat × Nat) × List Int) => isPortAttr e.1.1 && e.1.2 == p
  (new.filter mine).foldl (fun c e => cfgSet c e.1.1 e.1.2 e.2) (base.filter fun e => !mine e)

/-- A configuration with the entries of another that belong to no port. -/
def takeModule (base new : Cfg) : Cfg :=
  let mine := fun (e : (Nat × Nat) × List Int) => !isPortAttr e.1.1
  (new.filter mine).foldl (fun c e => cfgSet c e.1.1 e.1.2 e.2) (base.filter fun e => !mine e)

/-! ### ATTR_SET (R421, R422) -/

/-- Watermarks outside the rings of a queue byte: each is 1 to its ring's capacity (Table 7-13). -/
def marksBreak (q : Nat) (w : List Int) : Bool :=
  nth w 0 0 < 1 || nth w 0 0 > (inCap q : Int) || nth w 1 0 < 1 || nth w 1 0 > (outCap q : Int)

/-- The error of one record of ATTR_SET, if any (R422). -/
def attrSetError (r : AttrRec) : Option Nat :=
  match attrRow r.id with
  | none => some E.attrUnknown
  | some a =>
    if !a.rw then some E.attrReadOnly
    else if r.type != a.typ || r.vals.length != a.n then some E.attrType
    else if (expandIndex a.scope r.index).isEmpty || !(r.vals.all a.inBounds) then some E.range
    else if r.id == A.linkQWmCells && (expandIndex a.scope r.index).any (fun q => marksBreak q r.vals) then some E.range
    else if r.id == A.hyModesEnabled && r.vals.any (fun v => v.toNat &&& 0x0F == 0 || v.toNat &&& 0xF0 == 0) then some E.range
    else none

/-- The first record that fails, with its number and code. -/
def attrSetBad : Nat → List AttrRec → Option (Nat × AttrRec × Nat)
  | _, [] => none
  | n, r :: rs =>
    match attrSetError r with
    | some e => some (n, r, e)
    | none => attrSetBad (n + 1) rs

/-- Stage one record on every index it names. -/
def stageRec (c : Cfg) (r : AttrRec) : Cfg :=
  match attrRow r.id with
  | none => c
  | some a => (expandIndex a.scope r.index).foldl (fun c i => cfgSet c r.id i r.vals) c

/-- The PORT of a failure detail that names an attribute and an index (Table 8-23). -/
def attrPort (id index : Nat) : Nat := if isPortAttr id && index < 64 then index else 0xFF

/-- ATTR_SET: it stages every record or none (R422, R424). -/
def attrSetRun (h : Hdr) (recs : List AttrRec) (s : State) : State :=
  match attrSetBad 0 recs with
  | some (n, r, e) => fail h 0x04 e { port := attrPort r.id r.index, record := n, arg1 := (r.id : Int), arg2 := (r.index : Int) } s
  | none => ok h 0x04 [] { s with cfg := { s.cfg with staged := recs.foldl stageRec s.cfg.staged } }

/-! ### The checks of Table 8-7 -/

/-- The least of some keys, by ID and then by index. -/
def leastKey : List (Nat × Nat) → Option (Nat × Nat)
  | [] => none
  | k :: ks =>
    match leastKey ks with
    | none => some k
    | some m => some (if keyLt m k then m else k)

/-- The detail that names an attribute and an index (R422, R426). -/
def keyDetail (k : Nat × Nat) : Bytes :=
  ({ port := if isPortAttr k.1 then k.2 else 0xFF, arg1 := (k.1 : Int), arg2 := (k.2 : Int) } : Detail).bytes 0x40

/-- The keys for which a port's conditions fail: each condition stands beside its attribute. -/
def badKeys (p : Nat) (cs : List (Nat × Bool)) : List (Nat × Nat) := cs.filterMap fun (id, c) => if c then some (id, p) else none

/-- Check 1: the limits of the regulatory profile (R109, R110). -/
def check1 (s : State) (c : Cfg) : List (Nat × Nat) :=
  let v := fun (id p : Nat) => cfg1 s c id p
  let m := regChannelMask s
  (List.range 64).flatMap (fun p => badKeys p [
    (A.radioChannel, !bit m (v A.radioChannel p).toNat),
    (A.txCeilingCdbm, v A.txCeilingCdbm p > (regCeiling : Int)),
    (A.fieldDutyLimit, v A.fieldDutyLimit p > (regDuty : Int))])
  ++ badKeys 0xFFFF [
    (A.moduleTxChannelMask, (v A.moduleTxChannelMask 0xFFFF).toNat &&& m != (v A.moduleTxChannelMask 0xFFFF).toNat),
    (A.pressBudgetMw, v A.pressBudgetMw 0xFFFF > (regTotalMw : Int))]

/-- Whether a modulation depth fits the protocols enabled on a port (R94, R238, Table 2-9). -/
def depthFits (s : State) (c : Cfg) (p : Nat) : Bool :=
  let d := cfg1 s c A.txAskDepth p
  match protoOf c p with
  | 1 => !bit (cfg1 s c A.isoTypes p).toNat 1 || (80 ≤ d && d ≤ 140)
  | 2 => cfg1 s c A.isoVDepth p == 0 || (100 ≤ d && d ≤ 300)
  | 3 => 80 ≤ d && d ≤ 300
  | _ => true

/-- Whether the vectors of a set break R324: an entry of a member that does not exist, or a vector with every member off. -/
def vectorsBreak (s : State) (c : Cfg) (p : Nat) : Bool :=
  let m := (membersIn s c p).length
  let vs := cfgVal s c A.prismVectors p
  let n := (cfg1 s c A.prismVectorCount p).toNat
  m > 0 && (((List.range 64).any fun i => i % 8 / 2 ≥ m && nth vs i 0 != 0)
    || (List.range n).any fun k => (List.range m).all fun i => nth vs (8 * k + 2 * i + 1) 0 == 255)

/-- Check 2: bounds that name other attributes, and combined settings (R82, R94, R99, R117, R186, R238, R296, R301, R324). -/
def check2 (s : State) (c : Cfg) : List (Nat × Nat) :=
  let v := fun (id p : Nat) => cfg1 s c id p
  let most := ((List.range 64).map fun p => fieldMw s c p).foldl max 0
  (List.range 64).flatMap (fun p =>
    let proto := protoOf c p
    let floor := guardRow proto
    let modes := (v A.hyModesEnabled p).toNat
    let qd := v A.qdMode p
    let hv := v A.hvMode p != 0
    let lo := v A.hvQMin p
    let hi := v A.hvQMax p
    let q := v A.hvQInitial p
    let follower := match leadIn s c p with | some l => l != p | none => false
    badKeys p [
      (A.radioChannel, !bit (v A.moduleTxChannelMask 0xFFFF).toNat (v A.radioChannel p).toNat),
      (A.txPowerCdbm, v A.txPowerCdbm p > v A.txCeilingCdbm p),
      (A.txAskDepth, !depthFits s c p),
      (A.fieldGuardUs, v A.fieldGuardUs p < floor.2.1),
      (A.fieldOffMinUs, v A.fieldOffMinUs p < floor.2.2.2),
      (A.qdMode, ((hyModesIn s c p &&& 0xCC) != 0 && qd != 2) || ((proto == 1 || proto == 2) && qd == 1)),
      (A.isoTypes, proto == 1 && v A.isoTypes p == 0),
      (A.hyModesEnabled, modes &&& 0x0F == 0 || modes &&& 0xF0 == 0),
      (A.hyDlMode, proto == 3 && !bit modes ((v A.hyDlMode p).toNat - 1)),
      (A.hyUlMode, proto == 3 && !bit modes ((v A.hyUlMode p).toNat + 3)),
      (A.hvMode, hv && (v A.hvTableEntries p == 0 || follower)),
      (A.hvQInitial, q < lo || q > hi),
      (A.hvQMax, hi < lo),
      (A.prismVectors, vectorsBreak s c p)])
  ++ badKeys 0xFFFF [(A.pressBudgetMw, v A.pressBudgetMw 0xFFFF - (pressReserve : Int) < (most : Int))]
  ++ (List.range 72).flatMap fun q =>
    badKeys q [(A.linkQWmCells, marksBreak q (cfgVal s c A.linkQWmCells q))]

/-- Check 3: modes and tuning against the aerial class (R76). -/
def check3 (s : State) (c : Cfg) : List (Nat × Nat) :=
  (List.range 64).flatMap fun p =>
    let k := aerialOf s p
    badKeys p [
      (A.qdMode, k == 1 && cfg1 s c A.qdMode p != 0),
      (A.tnAutotune, (k == 1 || k == 4) && cfg1 s c A.tnAutotune p != 0),
      (A.hyModesEnabled, k == 1 && (hyModesIn s c p &&& 0xCC) != 0)]

/-- Check 4 on one lead: the first rule of Table 6-6 that its set breaks, and the first port that breaks it. -/
def prismBreak (s : State) (c : Cfg) (p : Nat) : Option (Nat × Nat) :=
  let m := membersIn s c p
  let vs := cfgVal s c A.prismVectors p
  let n := (cfg1 s c A.prismVectorCount p).toNat
  let ch := fun (q : Nat) => cfg1 s c A.radioChannel q
  let twice := m.find? fun q => (List.range 8).any fun i => let l := p / 8 * 8 + i; l != p && (membersIn s c l).contains q
  let cls := aerialOf s p
  if m.isEmpty then none
  else if m.length < 2 || m.length > 4 then some (1, p)
  else if m.head? != some p then some (2, p)
  else match m.find? fun q => ch q != ch p with
  | some q => some (3, q)
  | none =>
    match twice with
    | some q => some (4, q)
    | none =>
      if cls < 2 || cls > 4 then some (5, p)
      else match m.find? fun q => aerialOf s q != cls with
      | some q => some (5, q)
      | none => if (vs.drop (8 * n)).any (· != 0) then some (6, p) else none

/-- The conflict detail of Table 1-13. -/
def conflict (cls idx fa ia fb ib : Nat) : Bytes := [b8 cls, 0] ++ le 2 idx ++ le 2 fa ++ le 2 ia ++ le 2 fb ++ le 2 ib

/-- Check 5: two ports with Mirror on, on one channel, coupled above −10 dB either way, and not in one Prism set (R144, R181). -/
def check5 (s : State) (c : Cfg) : Option Bytes :=
  let on := (List.range 64).filter fun p => cfg1 s c A.rxMirrorEnable p != 0
  (s.coupling.filterMap fun (a, z, k) =>
    let (lo, hi) := (min a z, max a z)
    let oneSet := match leadIn s c lo with | some l => leadIn s c hi == some l | none => false
    if lo != hi && k > -1000 && on.contains lo && on.contains hi && cfg1 s c A.radioChannel lo == cfg1 s c A.radioChannel hi && !oneSet
    then some (lo, hi) else none)
  |> leastKey |>.map fun (lo, hi) => conflict 0x06 lo 1 lo 1 hi

/-- An exclusive claim: class, index, feature code, instance (Table 1-11). -/
abbrev Claim := Nat × Nat × Nat × Nat

/-- The exclusive claims of a port. -/
def portClaims (s : State) (c : Cfg) (p : Nat) : List Claim :=
  let v := fun (id : Nat) => cfg1 s c id p
  let on := fun (b : Bool) (xs : List Claim) => if b then xs else []
  let follower := match leadIn s c p with | some l => l != p | none => false
  let feature := fun (f : Nat) (b : Bool) (xs : List Claim) => on b (xs ++ on follower [(0x06, p, f, p)])
  on (protoOf c p != 0) [(0x06, p, 1, p), (0x03, tA p, 1, p), (0x03, tB p, 1, p)]
    ++ on (hyModesIn s c p &&& 0xCC != 0) [(0x01, p, 1, p)]
    ++ feature 2 (v A.hvMode != 0) [(0x03, tC p, 2, p)]
    ++ ((membersIn s c p).filter (· != p)).flatMap (fun q =>
        [(0x06, q, 3, p), (0x03, tA q, 3, p), (0x03, tB q, 3, p), (0x03, tC q, 3, p)])
    ++ feature 4 (v A.lensEnable != 0) [(0x03, tC p, 4, p)]
    ++ feature 5 (v A.z8Enable != 0) [(0x01, p, 5, p), (0x07, p, 5, p)]
    ++ feature 6 (v A.tnAutotune != 0) [(0x02, p, 6, p)]
    ++ feature 7 (v A.tnFixedMv != 0xFFFF) [(0x02, p, 7, p)]

/-- The exclusive claims of a configuration. -/
def claims (s : State) (c : Cfg) : List Claim :=
  (List.range 64).flatMap (portClaims s c)
    ++ (if cfg1 s c A.clusterSyncMode 0xFFFF != 0 then [(0x05, 0, 9, 0), (0x05, 1, 9, 0)] else [])
    ++ (List.range 8).flatMap fun n =>
      (if cfg1 s c A.diagTrigMode n == 2 then [(0x05, 1, 10, n)] else [])
        ++ (if cfg1 s c A.diagCapEnable n != 0 then [(0x08, n, 11, n)] else [])

/-- Order of claimants: the lower feature code, then the lower instance (R60). -/
def claimLt (a z : Claim) : Bool := a.2.2.1 < z.2.2.1 || (a.2.2.1 == z.2.2.1 && a.2.2.2 < z.2.2.2)

/-- The conflict of one resource: its two least claimants, where it has two. -/
def conflictOf (xs : List Claim) (cls idx : Nat) : Option (Claim × Claim) :=
  let mine := xs.filter fun x => x.1 == cls && x.2.1 == idx
  match mine with
  | [] => none
  | x :: _ =>
    let a := mine.foldl (fun m y => if claimLt y m then y else m) x
    match mine.erase a with
    | [] => none
    | y :: _ => some (a, (mine.erase a).foldl (fun m z => if claimLt z m then z else m) y)

/-- Check 6: the first conflict, by class, index and feature codes (R54, R56, R60). -/
def check6 (s : State) (c : Cfg) : Option Bytes :=
  let xs := claims s c
  let keys := (xs.map fun x => (x.1, x.2.1)).filter fun k => (conflictOf xs k.1 k.2).isSome
  match leastKey keys with
  | none => none
  | some (cls, idx) => (conflictOf xs cls idx).map fun (a, z) => conflict cls idx a.2.2.1 a.2.2.2 z.2.2.1 z.2.2.2

/-- The first claimant with which a running sum exceeds a capacity (R55). -/
def exceeds (cap : Nat) : Nat → List (Nat × Nat × Nat) → Option (Nat × Nat)
  | _, [] => none
  | used, (f, i, n) :: rest => if used + n > cap then some (f, i) else exceeds cap (used + n) rest

/-- Check 7: pool timers and inventory table entries (R55, R318). -/
def check7 (s : State) (c : Cfg) : Option Bytes :=
  let v := fun (id i : Nat) => cfg1 s c id i
  let pool := (if v A.clusterTrellisEnable 0xFFFF != 0 then [(8, 0, 2)] else [])
    ++ (if v A.clusterSyncMode 0xFFFF != 0 then [(9, 0, 1)] else [])
    ++ (List.range 8).filterMap (fun n => if v A.diagTrigMode n != 0 then some (10, n, 1) else none)
    ++ (List.range (v A.moduleSchedCount 0xFFFF).toNat).map fun i => (12, i, 1)
  let table := (List.range 64).filterMap fun p =>
    if v A.hvMode p != 0 then some (2, p, (v A.hvTableEntries p).toNat) else none
  match exceeds 48 0 pool with
  | some (f, i) => some (conflict 0x04 0xFFFF f i 0 0)
  | none => (exceeds 4096 0 table).map fun (f, i) => conflict 0x09 0xFFFF f i 0 0

/-- The first check of Table 8-7 that a configuration fails: its code and its detail. -/
def commitError (s : State) (c : Cfg) : Option (Nat × Bytes) :=
  match leastKey (check1 s c) with
  | some k => some (E.aboveRegLimit, keyDetail k)
  | none =>
  match leastKey (check2 s c) with
  | some k => some (E.range, keyDetail k)
  | none =>
  match leastKey (check3 s c) with
  | some k => some (E.aerialMismatch, keyDetail k)
  | none =>
  match (List.range 64).findSome? (prismBreak s c) with
  | some (rule, q) => some (E.prismRule, ({ port := q, arg1 := (rule : Int) } : Detail).bytes 0x40)
  | none =>
  match check5 s c with
  | some d => some (E.couplingLimit, d)
  | none =>
  match check6 s c with
  | some d => some (E.resourceConflict, d)
  | none => (check7 s c).map fun d => (E.resourceExhausted, d)

/-! ### Taking effect (R57, R58) -/

/-- A port is at a transaction boundary: no command in progress or waiting by R278, no FIELD_OFF unanswered, its pass at most yielding, and not held
(R58, R146, R536, R546). -/
def atBoundary (s : State) (p : Nat) : Bool :=
  let x := port s p
  x.task.isNone && x.parked.isEmpty && !x.held && x.radio.offHdrs.isEmpty && (match x.pass with | none => true | some q => q.stage == .yielding)

/-- A commit's request for more power waits in Press (R113). -/
def raising (s : State) (p : Nat) : Bool := s.press.waiting.any fun r => r.port == p && r.kind == .raise

/-- The T_C cadence of a port: the Harvest grid or the Lens pulses (R35, R302, R332). DEDUCED, safe: log entry 33. -/
def armCadence (p : Nat) (s : State) : State :=
  if pAttr s A.hvMode p == 2 then
    let period := msT (pAttrN s A.hvPeriodMs p)
    modTimer (tC p) (fun t => { t with armed := true, mode := 1, action := 0x08, fire := s.now + period, period := period }) s
  else if pAttr s A.lensEnable p != 0 then
    let period := msT (pAttrN s A.lensPeriodMs p)
    let base := p * period / 64
    modTimer (tC p) (fun t => { t with
      armed := true, mode := 2, action := 0x09, fire := gridTick (s.now + sureLead) base period, gridBase := base, period := period }) s
  else disarm (tC p) s

/-- The channel of a port or set follows its configuration and plan; a field that an OFF run kept down comes back when the plan ends (R65, R70, R465).
-/
def applyChannel (p : Nat) (s : State) : State :=
  match channelNow s p with
  | none => s
  | some ch =>
    if isFollower s p then s
    else if (sliceAt s p).channel == ch then
      let s := modRadio p (fun r => { r with newChannel := none }) s
      if inGap s p then resumeField p s else s
    else changeChannel p ch s

/-- A field stands, or comes back without a command, so that its grant stands too (R65, R113). -/
def grantStands (s : State) (p : Nat) : Bool :=
  match (port s p).radio.phase with
  | .off | .falling false => false
  | _ => true

/-- The set power of a port under the grant of its field (R113). It moves where the grant covers the sum of the set, or Press has granted the
difference; a lowered sum is credited once every member's loop has settled. Otherwise the field keeps its old powers. -/
def applyPower (p : Nat) (raised : Bool) (s : State) : State :=
  let l := leadOf s p
  if !grantStands s l then s
  else
    let mw := fieldMw s s.cfg.running l
    let power := pAttr s A.txPowerCdbm p
    let g := (port s l).radio.grantMw
    let ps := group s l
    if mw > g && !raised then s
    else
      modRadio l (fun r => { r with credit := if mw < g then some (mw, ps) else none })
        (modRadio p (fun r => { r with power := power }) s)

/-- A learning of the pre-distorter is due when the set power differs by more than 3 dB from that of the last one (R96). -/
def dpdMoved (s : State) (p : Nat) : Bool :=
  match (sliceAt s p).dpdPower with
  | some x => mag (pAttr s A.txPowerCdbm p - x) > 300
  | none => false

/-- Lens is empty, and its next pulse takes the baseline without an event (R337). -/
def lensEmpty (l : Lens) : Lens := { l with present := false, anew := true, stale := false, confirming := false }

/-- Lens as a commit enables or disables it (R337). -/
def lensSwitch (on : Bool) (l : Lens) : Lens := if on then lensEmpty l else { l with confirming := false }

/-- What a commit that has reached a port changes beside its attributes. -/
def applyEffects (p : Nat) (old : Cfg) (raised : Bool) (s : State) : State :=
  let was := fun (id : Nat) => cfg1 s old id p
  let is := fun (id : Nat) => pAttr s id p
  let s := if protoOf old p != protoOf s.cfg.running p then releaseHandles p s else s
  let s := applyPower p raised s
  let s := applyChannel p s
  let s := if cfgVal s old A.prismVectors p != cfgVal s s.cfg.running A.prismVectors p then
      (if (port s p).radio.phase == .on then carriers p s else s)
    else s
  let s := if is A.tnAutotune == 0 then (group s p).foldl (fun s q => modRadio q (fun r => { r with tuneDue := false }) s) s else s
  let s := if was A.qdMode != is A.qdMode then setQd p (is A.qdMode == 1) s else s
  let fixed := is A.tnFixedMv
  let s := if (was A.tnFixedMv != fixed || was A.prismMembers != is A.prismMembers) && fixed != 0xFFFF then
      prismTnCheck p ((group s p).foldl (fun s q => let (x, s) := probe q fixed.toNat s; setTn q fixed.toNat x s) s)
    else s
  let s := if was A.prismMembers != is A.prismMembers then
      prismCal p (modPort p (fun x => { x with prism := { x.prism with calibrated := false, failed := false } }) s)
    else s
  let s := if was A.lensEnable != is A.lensEnable then modPort p (fun x => { x with lens := lensSwitch (is A.lensEnable != 0) x.lens }) s else s
  let s := if was A.z8Enable != is A.z8Enable then modPort p (fun x => { x with z8 := { x.z8 with present := false } }) s else s
  let s := modRadio p (fun r => { r with dpdDue := r.dpdDue || dpdMoved s p }) s
  let cadence := [A.hvMode, A.hvPeriodMs, A.lensEnable, A.lensPeriodMs].any fun id => was id != is id
  settle p (if cadence then armCadence p s else s)

/-- A port applies the commit now. -/
def applyNow (p : Nat) (raised : Bool) (s : State) : State :=
  match s.cfg.committing with
  | none => s
  | some c =>
    if !bit c.waiting p then s
    else
      let old := s.cfg.running
      applyEffects p old raised { s with cfg := { s.cfg with
        running := takePort old c.cfg p, committing := some { c with waiting := c.waiting ^^^ 2 ^ p } } }

/-- A port and its set apply the commit now: the ports of the set whose values change, together (R58, R113). -/
def applySet (p : Nat) (raised : Bool) (s : State) : State := (group s (leadOf s p)).foldl (fun s q => applyNow q raised s) s

/-- The ports that must all be at a boundary for a port to apply a commit: itself, its set, and the set it joins (R58). -/
def commitGroup (s : State) (c : Cfg) (p : Nat) : List Nat :=
  let lead := fun (k : Cfg) => match leadIn s k p with | some l => l :: membersIn s k l | none => []
  p :: (lead s.cfg.running ++ lead c ++ membersIn s c p)

/-- A port applies the commit if it stands at its boundary. A raised power on a field that stands, or a raised sum of its set, asks Press first, once
for the set; a power that an earlier request did not get waits for the next ramp up (R113). DEDUCED, safe: log entry 34. -/
def applyPort (p : Nat) (s : State) : State :=
  match s.cfg.committing with
  | none => s
  | some c =>
    let l := leadOf s p
    if !bit c.waiting p || !((commitGroup s c.cfg p).all (atBoundary s)) || raising s l then s
    else
      let g := (port s l).radio.grantMw
      let mw := fieldMw s c.cfg l
      if grantStands s l && mw > g && mw > fieldMw s s.cfg.running l && membersIn s c.cfg l == members s l then
        match pressAsk l (mw - g) .raise s with
        | (true, s) => applySet p false s
        | (false, s) => if raising s l then s else applySet p true s
      else applyNow p false s

/-- A commit that every affected port has applied is answered (R57, R426). -/
def finishCommit (s : State) : State :=
  match s.cfg.committing with
  | none => s
  | some c =>
    if c.waiting != 0 then s
    else
      let s := { s with cfg := { s.cfg with running := c.cfg, committing := none, commitId := c.id } }
      match c.hdr with | some h => ok h 0x05 (le 4 c.id) s | none => s

/-- The ports that a commit in progress still waits for. -/
def waitingPorts (s : State) : Nat := match s.cfg.committing with | some c => c.waiting | none => 0

/-- What a commit changes on a port beside its attributes comes at the port's next boundary: the declared guards and reply delays start anew, and the
set goes back to vector 0 (R57, R286, R325). -/
def takeCommit (p : Nat) (s : State) : State :=
  if !(port s p).newCommit || !atBoundary s p then s
  else steer p 0 (modPort p (fun x => { x with
    newCommit := false, hy := { x.hy with guardUs := 0, trMin := 0, guardTold := false } }) s)

/-- The commit goes on at the boundaries some ports have reached; Mirror selects anew where it took effect (R57, R142). DEDUCED, safe: log entry 34.
-/
def driveCommit (ps : List Nat) (s : State) : State :=
  let s := ps.foldl (fun s p => takeCommit p s) s
  if s.cfg.committing.isNone then s
  else
    let s' := ps.foldl (fun s p => applyPort p s) s
    finishCommit (if waitingPorts s' != waitingPorts s || waitingPorts s' == 0 then selectAll s' else s')

/-! ### The lock of the time unit (R450, R456, R457) -/

/-- Change the time unit. -/
def modTime (f : Time → Time) (s : State) : State := { s with time := f s.time }

/-- cluster.time.offset_ns: the offset from the master, or from upstream at LOCK 2 (Table 9-7). -/
def timeOffset (s : State) : Int := if s.time.lock == 2 then s.time.chainNs else s.time.offsetNs

/-- EV_TIME_LOCK (Table 8-20). -/
def tellLock (s : State) : State := raise Ev.timeLock 0xFF ([b8 s.time.lock, 0, 0, 0] ++ leI 4 (timeOffset s)) s

/-- The lock changes: a fall to LOCK 0 starts holdover, a return ends it (R457); the second of R450 runs from the lock on. -/
def setLock (lock : Nat) (s : State) : State :=
  let now := s.now
  let hold := now + msT (mAttrN s A.clusterTimeHoldoverMs)
  modTime (fun t => { t with
    lock := lock, everLocked := t.everLocked || lock > 0, holdUntil := if lock == 0 then some hold else none,
    nearAt := if t.lock == 0 && lock > 0 then some now else t.nearAt, base := if lock > 0 then none else t.base, chainSince := none, apart := 0 }) s

/-- The SYNC chain is claimed or given up: its offsets start anew, and without a chain no module is at LOCK 2 (R452, R456). DEDUCED, unsafe: log entry
49. -/
def chainAnew (s : State) : State :=
  let s := { s with time := { s.time with head := false, chainFrom := s.now, edgeAt := none, goodSince := none, chainSince := none } }
  if s.time.lock == 2 then tellLock (setLock 1 s) else s

/-! ### What a commit changes module-wide -/

/-- The active plan and the staged store end (R465). -/
def endPlans (s : State) : State :=
  let s := match s.cluster.pending with | some (_, _, h) => fail h 0xA1 E.cancelled {} s | none => s
  { s with cluster := { s.cluster with active := none, staged := none, pending := none } }

/-- The module's LLDPDU requests its power from the PSE; none leaves while the link is down (R363). DEDUCED, safe: log entry 27. -/
def requestPower (s : State) : State :=
  if s.link.speed == 0 then s else { s with sent := .lldp (mAttrN s A.modulePowerRequestMw) s.power.allocMw :: s.sent }

/-- What the module-wide part of a commit changes at once (R363, R438, R448, R465). -/
def applyModule (old : Cfg) (s : State) : State :=
  let moved := fun (id : Nat) => cfg1 s old id 0xFFFF != mAttr s id
  let s := if moved A.clusterTrellisEnable && mAttr s A.clusterTrellisEnable == 0 then endPlans s else s
  let s := if moved A.clusterPtpDomain || moved A.clusterPtpPriority1 then
      { s with time := { s.time with role := 0, since := s.now, foreign := [], sync := none, delayReq := none, annAt := none } } else s
  let s := if moved A.modulePowerRequestMw then requestPower s else s
  let s := if moved A.clusterSyncMode then chainAnew s else s
  let scheds := mAttrN s A.moduleSchedCount
  { s with diag := { s.diag with
      scheds := s.diag.scheds.filter fun x => x.action < scheds,
      triggers := s.diag.triggers.zipIdx.map fun (x, n) => if pAttr s A.diagTrigMode n == 0 then none else x } }

/-- VPA of each group follows the highest committed set power of the group, from 6 V to 24 V (R92). -/
def setVpa (s : State) : State :=
  let level := fun (g : Nat) =>
    max 6000 (min 24000 (Config.vpaLevel (((List.range 8).map fun i => pAttr s A.txPowerCdbm (8 * g + i)).foldl max 0)))
  { s with power := { s.power with vpaSet := (List.range 8).map level } }

/-- The ports a commit affects: those with a changed value, their sets, and the ports that leave an active plan (R57, R58, R465). -/
def affected (s : State) (old new : Cfg) (keys : List (Nat × Nat)) : List Nat :=
  let ends := cfg1 s old A.clusterTrellisEnable 0xFFFF != 0 && cfg1 s new A.clusterTrellisEnable 0xFFFF == 0
  let planned := match planOf s with
    | some b => if ends then (List.range 64).filter fun p => !(runsOf b s.moduleId p).isEmpty else []
    | none => []
  let own := (keys.filter fun k => isPortAttr k.1).map (·.2)
  (List.range 64).filter fun p => own.contains p || planned.contains p

/-- A commit that passes is accepted: the staged configuration is copied, the module-wide part applies, and the ports follow at their
boundaries (R57, R286, R325, R424, R426). DEDUCED, unsafe: log entry 35. -/
def acceptCommit (h : Hdr) (new : Cfg) (keys : List (Nat × Nat)) (s : State) : State :=
  let old := s.cfg.running
  let ps := affected s old new keys
  let id := (s.cfg.commitId + 1) % 2 ^ 32
  let commit : Commit := { cfg := new, id := id, hdr := some h, waiting := maskOf ps }
  let s := { s with cfg := { s.cfg with running := takeModule old new, staged := new, committing := some commit } }
  let s := (List.range 64).foldl (fun s p => takeCommit p (modPort p (fun x => { x with newCommit := true }) s)) s
  let s := applyModule old s
  let s := setVpa { s with cfg := { s.cfg with running := new } }
  let s := { s with cfg := { s.cfg with running := takeModule old new } }
  driveCommit ps s

/-- CONFIG_COMMIT (R426). DEDUCED, unsafe: log entry 35. -/
def commitRun (h : Hdr) (s : State) : State :=
  let new := roundCfg s.cfg.staged
  let keys := changedKeys s s.cfg.running new
  if keys.isEmpty then ok h 0x05 (le 4 s.cfg.commitId) (selectAll { s with cfg := { s.cfg with running := new, staged := new } })
  else match commitError s new with
  | some (code, d) => respond h 0x05 code d s
  | none => acceptCommit h new keys s

/-- CONFIG_DISCARD (R424). -/
def discardRun (h : Hdr) (s : State) : State := ok h 0x06 [] { s with cfg := { s.cfg with staged := s.cfg.running } }

/-- A configuration with the defaults that follow a rule written out: those of guard, field-off minimum and tuning (R82, R105, R428). -/
def withDefaults (s : State) (c : Cfg) : Cfg :=
  (List.range 64).foldl (fun d p => [A.fieldGuardUs, A.fieldOffMinUs, A.tnAutotune].foldl (fun d id => cfgSet d id p (cfgVal s c id p)) d) c

/-- CONFIG_SAVE: the running configuration goes to NVM, defaults included (R428). -/
def saveRun (h : Hdr) (s : State) : State :=
  ok h 0x07 (le 4 s.cfg.commitId)
    { s with nvm := { s.nvm with saved := withDefaults s s.cfg.running, savedId := (s.nvm.savedId + 1) % 2 ^ 32 } }

end Sys2Proof.Machine
end

