-- ==== Sys2Proof/Machine/TableOps.lean ====
section
/-!
DEFINITION. The inventory table: hearings, best port, quota, reports, ageing, clearing, and deduplication across a cluster
(R314 to R321, R432, R473 to R476).
-/

namespace Sys2Proof.Machine

/-- A new entry takes the lowest free number; the list keeps the numbers in rising order. DEDUCED, unsafe: log entry 47. -/
def addInv (e : InvEntry) (s : State) : Nat × State :=
  let i := ((List.range (s.inv.length + 1)).find? fun i => !(s.inv.any fun x => x.1 == i)).getD s.inv.length
  (i, { s with inv := s.inv.filter (fun x => x.1 < i) ++ [(i, e)] ++ s.inv.filter (fun x => x.1 > i) })

/-- The entries charged to a port (R318). -/
def chargedTo (s : State) (p : Nat) : Nat := (s.inv.filter fun e => e.2.charged == p).length

/-- What Harvest hears of a tag: key, class, handle, strength. -/
structure Hearing where
  proto : Nat
  ident : Bytes
  cls : Bytes
  handle : Nat
  strength : Int
  /-- The timestamp of its frame's samples (R46). -/
  stamp : Int

/-- The timestamp that a receive status carries in its bytes 16 to 23 (R46, Table 3-11). -/
def rxStamp (rx : Bytes) : Int := signed 64 (num rx 16 8)

/-- The stronger of two pairs of strength and module, equal strengths going to the lower module (R475). -/
def topPair (a z : Int × Nat) : Int × Nat := if z.1 > a.1 || (z.1 == a.1 && z.2 < a.2) then z else a

/-- The deduplication record of an entry (Table 9-6). -/
def dedupBytes (s : State) (e : InvEntry) : Bytes :=
  fit 16 e.ident ++ [b8 e.proto, b8 s.moduleId, b8 e.best, 0] ++ leI 2 e.localMax ++ [0, 0] ++ leI 8 e.latest

/-- Publish the deduplication record of an entry (R434, R473); not while an ID clash stands (R446). -/
def publish (i : Nat) (s : State) : State :=
  match invAt s i with
  | none => s
  | some e =>
    if mAttr s A.clusterDedupEnable == 0 || !s.cluster.clashes.isEmpty then s
    else sendRecord 0x43 0xA5 0 0 false ([1, 0, 0, 0] ++ dedupBytes s e) s

/-- A hearing is inserted or merged (R315, R316, R318, R473): the number of the entry, whether it is new, and whether it is reported
by R319. No entry where the quota of the port allows no insert, or the table of 4096 entries is full (R11, R314). Entries charged to a port keep their
place when a commit lowers its quota. DEDUCED, unsafe: log entry 47. -/
def hearTag (p : Nat) (h : Hearing) (s : State) : Option (Nat × Bool × Bool × State) :=
  let prism := !(members s p).isEmpty
  match findInv s h.proto h.ident with
  | none =>
    if chargedTo s p ≥ pAttrN s A.hvTableEntries p || s.inv.length ≥ 4096 then none
    else
      let (i, s) := addInv {
        ident := fit 16 h.ident, proto := h.proto, prism := prism, cls := h.cls, ports := 2 ^ p, best := p,
        hearings := 1, strength := h.strength, first := h.stamp, latest := h.stamp, handle := h.handle, owner := s.moduleId,
        modules := [s.moduleId], charged := p, heardAt := tickOf s h.stamp.toNat, localMax := h.strength, top := (h.strength, s.moduleId) } s
      some (i, true, true, publish i s)
  | some (i, e) =>
    let moves := p != e.best && h.strength > e.strength + mAttr s A.hvTableBestMarginCdb
    let best := moves || p == e.best
    let rises := h.strength > e.localMax
    let top := topPair e.top (max e.localMax h.strength, s.moduleId)
    let s := modInv i (fun _ => { e with
      ports := e.ports ||| 2 ^ p, hearings := min 255 (e.hearings + 1), latest := h.stamp, heardAt := tickOf s h.stamp.toNat,
      prism := e.prism || prism, best := if moves then p else e.best, bestMoved := e.bestMoved || moves,
      strength := if best then h.strength else e.strength, handle := if best then h.handle else e.handle,
      localMax := max e.localMax h.strength, top := top, owner := top.2, remote := top.2 != s.moduleId }) s
    let s := if rises then publish i s else s
    some (i, false, moves || pAttr s A.hvReportMerges p == 1, s)

/-- The TAG of a Harvest record of a port's pass: that of the HARVEST_START that began it, 0 for a pass of the grid (R408). -/
def passTag (s : State) (p : Nat) : Nat := (((port s p).pass.bind (·.hdr)).map (·.tag)).getD 0

/-- Remove entries, which frees their quota (R320). -/
def dropInv (f : Nat × InvEntry → Bool) (s : State) : State := { s with inv := s.inv.filter fun e => !f e }

/-- HARVEST_CLEAR (R320). -/
def clearRun (h : Hdr) (mask : Nat) (s : State) : State :=
  let gone := fun (e : Nat × InvEntry) => bit mask e.2.best
  ok h 0x82 (le 2 (s.inv.filter gone).length ++ [0, 0]) (dropInv gone s)

/-- HARVEST_READ_TABLE (R432). -/
def readTableRun (h : Hdr) (start count : Nat) (s : State) : State :=
  let later := s.inv.filter fun e => e.1 ≥ start
  let xs := later.take count
  let next := if later.length > count then ((xs.getLast?).map fun e => e.1 + 1).getD 0xFFFF else 0xFFFF
  ok h 0x83 (le 2 next ++ [b8 xs.length, 0] ++ (xs.map fun e => e.2.bytes).flatten) s

/-- An entry not heard for hv.table.age_ms is removed (R320). -/
def ageRun (i : Nat) (s : State) : State :=
  let age := mAttrN s A.hvTableAgeMs
  if age == 0 then s else dropInv (fun e => e.1 == i && s.now ≥ e.2.heardAt + msT age) s

/-- One imported deduplication record (R475, R476); whether it matched an entry. -/
def importRec (r : DedupRec) (s : State) : Bool × State :=
  if r.modul == s.moduleId then (false, s)
  else match findInv s r.proto r.ident with
  | none => (false, s)
  | some (i, e) =>
    let fresh := !e.modules.contains r.modul
    let top := topPair e.top (r.strength, r.modul)
    let s := modInv i (fun _ => { e with
      modules := if fresh then e.modules ++ [r.modul] else e.modules, top := top, owner := top.2, remote := top.2 != s.moduleId }) s
    let s := if fresh then publish i s else s
    (true, if top.2 != e.owner then reportInv 0 e.best i (zeros 24) [] s else s)

/-- DEDUP_IMPORT (R475). -/
def importRun (h : Hdr) (recs : List DedupRec) (s : State) : State :=
  let (n, s) := recs.foldl (fun (n, s) r => let (m, s) := importRec r s; (n + bnat m, s)) (0, s)
  ok h 0xA5 (le 2 n ++ [0, 0]) s

end Sys2Proof.Machine
end

