-- ==== Sys2Proof/Machine/HarvestRun.lean ====
section
/-!
DEFINITION. Harvest passes: rounds, slots, reads, disposal, sub-passes, and passes on ISO ports (R301 to R313, R331).
-/

namespace Sys2Proof.Machine

/-! ### The transaction boundary (R57, R58, R126, R146, R325, R328, R536, R546) -/

/-- A change of vector takes effect (R325). -/
def applyVector (p : Nat) (s : State) : State :=
  match (port s p).prism.next with
  | some v => steer p v s
  | none => s

/-- At the boundary after a measurement, the errors of more than 1.5 degrees are corrected; what is left is a free value within R326's bound
(R326, R328). -/
def prismCorrect (p : Nat) (s : State) : State :=
  let n := s.free
  let err := (port s p).prism.err.zipIdx.map fun (e, i) => if mag e > 150 then max (-300) (min 300 (Config.prismResidual n p i)) else e
  if (members s p).isEmpty || (port s p).radio.phase != .on || err == (port s p).prism.err then s
  else modPort p (fun x => { x with prism := { x.prism with err := err } }) (drawn s)

/-- PA gain tables that CAL skipped run at the first boundary with a field (R576). -/
def paAt (p : Nat) (s : State) : State :=
  if (port s p).radio.phase != .on then s
  else (group s p).foldl (fun s q =>
    if (port s q).radio.paDue then
      modRadio q (fun r => { r with paDue := false }) (modSlice q (fun x => { x with paCal := true }) s)
    else s) s

/-- At the end of a transaction with the field on, the engine of a set measures its members' phases (R328). What it measures is a free value. -/
def prismTrack (p : Nat) (s : State) : State :=
  let m := members s p
  if m.isEmpty || (port s p).radio.phase != .on then s
  else
    let err := prismErr s.free p m.length
    modPort p (fun x => { x with prism := { x.prism with err := err } }) (drawn s)

/-- The supervisor takes its copy of the port's handle table (R535). -/
def takeCopy (p : Nat) (s : State) : State := modPort p (fun x => { x with copy := (x.hy.handles, x.iso.handles) }) s

/-- What takes place on a port and its set at every transaction boundary, that of a Harvest round included: the released set's adaptation, the
commit, the vector, the corrections, the channel, the copy of the handles (R57, R58, R126, R325, R328, R466, R535). -/
def crossCore (p : Nat) (s : State) : State :=
  takeCopy p (lateChannel p (followRun p (paAt p (prismCorrect p (applyVector p (driveCommit [p] (adaptSet false p s)))))))

/-- svc.fw.hold_ms in ticks. -/
def fwHoldTicks (s : State) : Nat := msT (mAttrN s A.svcFwHoldMs)

/-- The port holds for a firmware activation at its boundary, while every port still can within svc.fw.hold_ms of the first (R546). -/
def holdFw (p : Nat) (s : State) : State :=
  match s.act with
  | none => s
  | some a =>
    if a.retryAt.isSome || bit a.held p || s.now > a.firstHold.getD s.now + fwHoldTicks s then s
    else modPort p (fun x => { x with held := true })
      { s with act := some { a with held := a.held ||| 2 ^ p, since := a.since + s.now, firstHold := some (a.firstHold.getD s.now) } }

/-- The ports and queues of a core: the place of SV0 to SV3 whose work it does (Table 1-3). -/
def roleOf (s : State) (core : Nat) : Option Nat := s.spares.supervisor.findIdx? (· == core)

/-- The port holds for a planned swap of its supervisor core (R536). -/
def holdSwap (p : Nat) (s : State) : State :=
  if s.mod.st != .service then s
  else
    let mine := fun (x : Swap) => x.kind == 3 && x.prepared && roleOf s x.inst == some (p / 16)
    let hold := fun (x : Swap) => if mine x then { x with held := x.held ||| 2 ^ p } else x
    let xs := s.spares.swaps.map hold
    if !s.spares.swaps.any mine then s
    else modPort p (fun y => { y with held := true }) { s with spares := { s.spares with swaps := xs } }

/-- Mirror or a noise measurement waits for the boundary of a port, which TRANSACTION_BOUNDARY then brings (R140, R146). -/
def holdWanted (s : State) (p : Nat) : Bool := (group s p).any fun q =>
  (match s.noiseJob with | some j => bit j.waiting q | none => false)
    || (match s.mirrorJob with | some j => bit j.ports q && !bit j.held q | none => false)

/-- A port crosses its boundary without a command of the host: at a round boundary, or before a pass (R57, R58). Where a measurement waits for it the
port stays at the boundary. -/
def crossBase (p : Nat) (s : State) : State :=
  let s := crossCore p s
  if holdWanted s p then s else holdSwap p (holdFw p s)

/-! ### Exchanges of a pass -/

/-- Q of a round: units of 1/16, halves rounded up (R305). -/
def roundQ (qf : Nat) : Nat := (qf + 8) / 16

/-- The tick at which the pass may start its next downlink: the turnaround and R307, with a lead that is surely met. -/
def passFire (s : State) (p : Nat) : Nat := max (((port s p).pass.map (·.clear)).getD 0) (s.now + sureLead + 16)

/-- Start an exchange of the pass on the port. -/
def passTask (p op : Nat) (proc : Proc) (s : State) : State :=
  modPort p (fun x => { x with task := some { hdr := ⟨p, 0, false⟩, op := op, proc := proc, ofPass := true } }) s

/-- Start a Hymond exchange of the pass (Table 6-1). -/
def passHy (p op : Nat) (stage : HvStage) (c : HyCmd) (s : State) : State :=
  let fire := passFire s p
  hyBegin p c (some fire) (passTask p op (.hy c) (modPass p (fun x => { x with stage := stage }) s))

/-- The pass ends: the summary, the vector of a pass in sub-passes back to 0, and its own field down (R303, R304, R331, R433). -/
def endPass (p code : Nat) (d : Bytes) (s : State) : State :=
  match (port s p).pass with
  | none => s
  | some x =>
    let s := finishPass p code d s
    let s := if (members s p).isEmpty || pAttr s A.prismHvCycle p != 1 then s else steer p 0 s
    if x.ownField then endField p s else settle p s

/-- A FIELD_OFF or a DOZE_ENTER waits, or the host has been lost, and nothing runs on the port any more: the field ramps down, or the
FIELD_OFFs are answered where there is none (R226, R304, R342, R399). -/
def offDue (p : Nat) (s : State) : State :=
  let x := port s p
  let due := !x.radio.offHdrs.isEmpty || (s.mod.dozeHdr.isSome && x.parked.isEmpty) || x.radio.fallDue
  if !due || x.task.isSome || x.pass.isSome || x.radio.phase == .falling false then s
  else
  let s := modRadio p (fun r => { r with fallDue := false }) s
  if x.radio.phase == .off then
    let s := modRadio p (fun r => { r with offHdrs := [] }) (dropWant p (pressDrop p s))
    driveCommit [p] (settle p (x.radio.offHdrs.foldl (fun s h => ok h 0x21 [] s) s))
  else endField p s

/-- Count a tag Harvest has inserted, merged or lost (R317, R433). -/
def countTag (p inserted merged lost : Nat) (s : State) : State :=
  modPort p (fun x => { x with inserted := (x.inserted + inserted) % 2 ^ 32, lost := (x.lost + lost) % 2 ^ 32 })
    (modPass p (fun y => { y with inserted := y.inserted + inserted, merged := y.merged + merged, lost := y.lost + lost }) s)

/-- The pass ends with a code and a plain detail. -/
def passFail (p code : Nat) (s : State) : State := endPass p code (({ port := p } : Detail).bytes p) s

/-! ### Rounds (R305) -/

/-- Send a broadcast of a round: QUERY or NEXT_SLOT in port.hy.dl_mode, asking for announces in port.hv.ul_mode (R305, R307). -/
def sendBcast (p cmd : Nat) (args : Bytes) (s : State) : State :=
  let dl := pAttrN s A.hyDlMode p
  let ul := pAttrN s A.hvUlMode p
  let f := trField (max (pAttrN s A.hyReplyDelayTicks p) (port s p).hy.trMin)
  let payload := [b8 cmd, 0] ++ le 2 f ++ args
  let header := hyHeader dl ul 0 payload.length 0 0 2
  let tx : Tx := { frame := .hymond dl header payload, dur := (128 + 8 * payload.length) * dlBitTicks dl, bits := hyBits header payload,
                   window := some (trTicks f, trTicks f + 1040, 0x10 + ul), handle := 0 }
  let clear := ((port s p).pass.map (·.clear)).getD 0
  kick p (modAir p (fun a => { a with
    tx := some tx, notBefore := some clear, armed := false, txEnd := none, win := none }) s)

/-- A round begins with QUERY. -/
def hvQuery (p : Nat) (s : State) : State :=
  match (port s p).pass with
  | none => s
  | some x =>
    let q := roundQ x.qf
    let s := modPass p (fun y => { y with
      stage := .window, q := q, slot := 0, heard := false, wake := false, confirm := 0, rounds := x.rounds + 1 }) s
    sendBcast p 0x01 ([b8 q, b8 (bnat x.wake)] ++ le 2 x.confirm) s

/-! ### ISO ports (R313) -/

/-- The runs of a pass on an ISO port. -/
def isoRuns (s : State) (p : Nat) : List Nat :=
  match pAttr s A.protocol p with
  | 1 => (if bit (pAttrN s A.isoTypes p) 0 then [0x41] else []) ++ (if bit (pAttrN s A.isoTypes p) 1 then [0x47] else [])
  | 2 => [0x50]
  | _ => []

/-- The tags a run found are recorded and released (R313). The answer says whether the quota of the port has refused one of them. -/
def hvRecord (p : Nat) : List IsoHandle → State → Bool × State
  | [], s => (false, s)
  | x :: xs, s =>
    let cls := if x.kind == 0 then x.info.take 2 else if x.kind == 2 then x.info.take 1 else []
    let forget := modIso p (fun y => { y with handles := y.handles.filter fun z => z.h != x.h })
    match hearTag p ⟨isoProto x.kind, x.id, cls, 0, x.strength, rxStamp x.rx⟩ s with
    | none => (true, (hvRecord p xs (forget s)).2)
    | some (i, fresh, rep, s) =>
      let s := countTag p (bnat fresh) (bnat (!fresh)) 0 s
      let s := if rep then reportInv (passTag s p) p i x.rx [] s else s
      hvRecord p xs (forget s)

/-! ### Slots (R304, R306, R309) -/

/-- Repeat the exchange of a command that has waited by R278, with the same ALIVE; but the casks of a credential command are checked again, and its
key page is asked for again where another command's has taken its place (R501, R503, R514). -/
def hyResume (p : Nat) (k : Parked) (s : State) : State :=
  let s := modPort p (fun x => { x with task := some k.task, parked := x.parked.erase k }) s
  match k.task.proc with
  | .hy c =>
    match credBarred s p k.task.op c with
    | some n => credDrop p n c s.now s
    | none =>
      if c.stage == .credShadow && (pageOf s p c).isNone then setHy p { c with stage := .credCellar } s
      else
        let tx := hyTx s p c (stagePlan s p k.task.op c) c.alive (c.map.getD [])
        sendTx p tx (setHy p { c with tries := 0 } s)
  | _ => s

/-- A command that has waited by R278 goes on when the port is free: at the first boundary after its wait. -/
def resumeParked (p : Nat) (s : State) : State :=
  let x := port s p
  if x.task.isSome || x.held || !(match x.pass with | none => true | some q => q.stage == .yielding) then s
  else match x.parked.find? fun k => k.waited && !k.task.ofPass with
    | none => s
    | some k => hyResume p k s

/-- Commands of the port wait in its ring. -/
def ringWaits (s : State) (p : Nat) : Bool := (inRing s p).items.any fun e => !e.isDone

/-- A round may start: no command waits, none is to be repeated by R278, nothing holds the port at its boundary, no raised power waits in Press, and
the round fits its run (R58, R113, R304, R467). DEDUCED, unsafe: log entry 47. -/
def mayRound (s : State) (p : Nat) : Bool :=
  !ringWaits s p && !(port s p).held && !raising s p && !holdWanted s p && !((port s p).parked.any fun k => k.waited && !k.task.ofPass)
    && fitsRun s p 0x80 0 == .fits

/-- A pass at a round boundary: what takes place at every boundary, then the commands that wait, or the next round (R58, R304, R328). -/
def hvYield (p : Nat) (s : State) : State :=
  let s := crossBase p (prismTrack p (modPass p (fun x => { x with stage := .yielding }) s))
  if fitsRun s p 0x80 0 == .never then passFail p E.planInvalid s
  else if mayRound s p then modPass p (fun x => { x with stage := .start }) s else resumeParked p s

/-- A run on an ISO port has ended with a code; the boundary between two runs is one at which the pass yields (R304, R313). DEDUCED, unsafe: log entry
47. -/
def hvIsoDone (p code : Nat) (d : Bytes) (found : List IsoHandle) (s : State) : State :=
  let (full, s) := hvRecord p found s
  let stop := (port s p).pass.bind (·.stop)
  if full then passFail p E.hvTableFull s
  else if stop.isSome then passFail p (stop.getD 0) s
  else if code == E.isoNoTag then
    hvYield p (modPass p (fun x => { x with runs := x.runs.drop 1, first := true }) s)
  else if code == 0 || code == E.isoUnresolved || code == E.isoListFull then
    hvYield p (modPass p (fun x => { x with first := false }) s)
  else endPass p code d s

/-- The vector of the set moves on for the next sub-pass, which waits the guard time after it (R331): a boundary, where the pass yields (R58, R304).
The tags that the first sub-pass has halted are not woken again. DEDUCED, unsafe: log entry 47. -/
def nextSub (p vector : Nat) (s : State) : State :=
  let qf := 16 * pAttrN s A.hvQInitial p
  let runs := isoRuns s p
  let s := steer p vector s
  hvYield p (startGuard p (modPass p (fun x => { x with
    vector := vector, qf := qf, quiet := 0, runs := runs, first := true, wake := false }) s))

/-- A sub-pass has ended: the next one begins, or the pass ends (R305, R331). -/
def endSub (p : Nat) (s : State) : State :=
  match (port s p).pass with
  | none => s
  | some x =>
    if !(members s p).isEmpty && pAttr s A.prismHvCycle p == 1 && x.vector + 1 < pAttrN s A.prismVectorCount p then nextSub p (x.vector + 1) s
    else endPass p 0 [] s

/-- The next run on an ISO port; after the last one the pass, or its sub-pass, ends (R313, R331). -/
def hvIso (p : Nat) (s : State) : State :=
  match (port s p).pass with
  | none => s
  | some x =>
    match x.runs with
    | [] => endSub p s
    | op :: _ =>
      let c : IsoCmd := { stage := .aReq, maxTags := 16, wake := x.first && x.wake }
      let s := modPass p (fun y => { y with stage := .iso, rounds := y.rounds + 1 }) s
      let s := passTask p op (.iso c) s
      match op with
      | 0x41 => antiNext p { c with stack := [([], [])] } s
      | 0x47 => bRound p { c with stage := .bSlot, n := 2 ^ (Config.harvestSlots s.free % 5) } (drawn s)
      | _ => vNext p { c with stage := .vSlot, queue := [(0, 0, true)], quiet := true } s

/-- A round has ended: the pass, its sub-pass, or the next round (R305, R309, R331). -/
def hvRoundEnd (p : Nat) (s : State) : State :=
  match (port s p).pass with
  | none => s
  | some x =>
    let quiet := if !x.heard && x.q == pAttrN s A.hvQMin p then x.quiet + 1 else 0
    let s := modPass p (fun y => { y with quiet := quiet }) s
    let waits := (port s p).parked.any (·.task.ofPass)
    if quiet < pAttrN s A.hvEmptyRounds p || waits then hvYield p s
    else endSub p s

/-- Hold the handle of a heard tag for Harvest: with KEEP at most 256 (R311). -/
def hvHold (p : Nat) (x : HyHandle) (s : State) : Option State :=
  if pAttr s A.hvDisposal p == 0 then addHandle p x s
  else some (takeHandle p x s)

/-- Change the table's entry of a tag. -/
def modTag (t : HvTag) (f : InvEntry → InvEntry) (s : State) : State :=
  match findInv s 0x10 t.ident with
  | none => s
  | some (i, _) => modInv i f s

/-- Report a tag's entry where R319 asks for it. -/
def reportTag (p : Nat) (t : HvTag) (data : Bytes) (s : State) : State :=
  if !t.report then s
  else match findInv s 0x10 t.ident with
  | none => s
  | some (i, _) => reportInv (passTag s p) p i t.rx data s

/-- The exchange of Harvest with a tag, in the port's modes (R305, R309). -/
def hvCmd (s : State) (p h : Nat) : HyCmd :=
  { stage := .single, handle := h, dl := pAttrN s A.hyDlMode p, ul := pAttrN s A.hyUlMode p }

/-- A recorded tag is halted, or kept and confirmed by the next broadcast unless it is ACTIVE already (R310). DEDUCED, unsafe: log entry 47. -/
def dispose (p : Nat) (t : HvTag) (s : State) : State :=
  match hyHandle s p t.handle with
  | none => modPass p (fun x => { x with stage := .window }) s
  | some y =>
    if y.st == .unknown then modPass p (fun x => { x with stage := .window }) s
    else if pAttr s A.hvDisposal p == 1 then
      passHy p 0x67 .halt (hvCmd s p t.handle) (modPass p (fun x => { x with cur := some t }) s)
    else
      let owed := y.st == .heard
      let s := modPass p (fun x => { x with stage := .window, confirm := if owed then t.handle else x.confirm }) s
      modHandle p t.handle (fun z => if owed then { z with st := .active, alive := 0 } else z) s

/-- A tag has been recorded: read it, or dispose of it (Table 6-1). DEDUCED, unsafe: log entry 47. -/
def treatTag (p : Nat) (t : HvTag) (s : State) : State :=
  if pAttrN s A.hvReadCount p > 0 then
    let c := { hvCmd s p t.handle with addr := pAttrN s A.hvReadAddr p, count := pAttrN s A.hvReadCount p }
    passHy p 0x62 .read c (modPass p (fun x => { x with cur := some t }) s)
  else dispose p t (reportTag p t [] s)

/-- Record a tag: none where the quota allows no insert (R318). -/
def recordTag (p : Nat) (t : HvTag) (s : State) : Option (HvTag × State) :=
  match hearTag p ⟨0x10, t.ident, slice t.desc 0 2, t.handle, t.strength, rxStamp t.rx⟩ s with
  | none => none
  | some (_, fresh, rep, s) =>
    some ({ t with report := rep }, countTag p (bnat fresh) (bnat (!fresh)) 0 s)

/-- The work of a slot: an ACK to a tag known from its header, or an accepted announce (Table 6-1, R289). -/
def hvWorkOn (p : Nat) (w : HvWork) (s : State) : State :=
  match w with
  | .header h rx =>
    match hvHold p { h := h, st := .heard } s with
    | none => passFail p E.hyListFull s
    | some s =>
      let t : HvTag := { handle := h, ident := [], desc := [], strength := signed 16 (num rx 8 2), rx := rx }
      let c := { hvCmd s p h with stage := .hvAck, ul := pAttrN s A.hvUlMode p, addr := h, data := [0] ++ le 2 0 }
      passHy p 0x69 .ack c (modPass p (fun x => { x with cur := some t }) s)
  | .announce t =>
    let s := noteDesc p t.desc s
    match recordTag p t s with
    | none => passFail p E.hvTableFull s
    | some (t, s) =>
      let re := handleTaken s p t.handle
      let final := if re then lowestFree s p else t.handle
      match hvHold p { h := final, st := .heard, ident := some t.ident, desc := some t.desc } s with
      | none => passFail p E.hyListFull (reportTag p t [] s)
      | some s =>
        if re then
          let c := { hvCmd s p final with
            stage := .hvAck, ul := pAttrN s A.hvUlMode p, addr := t.handle, data := ackArgs (some final) t.ident }
          passHy p 0x69 .rehandle c (modPass p (fun x => { x with cur := some { t with handle := final } }) s)
        else treatTag p t s

/-- The end of a slot: the work it left, then the boundary: a stop, a READ whose wait has ended, the next slot, or the end of the round
(R304 to R306, R309). -/
def hvNext (p : Nat) (s : State) : State :=
  match (port s p).pass with
  | none => s
  | some x =>
    match x.work, x.stop with
    | w :: rest, _ => hvWorkOn p w (modPass p (fun y => { y with work := rest }) s)
    | [], some code => passFail p code s
    | [], none =>
      match (port s p).parked.find? fun k => k.task.ofPass && k.waited with
      | some k =>
        let h := match k.task.proc with | .hy c => c.handle | _ => 0
        let s := modPass p (fun y => { y with
          stage := .read, cur := y.reads.find? (·.handle == h), reads := y.reads.filter (·.handle != h) }) s
        hyResume p k s
      | none =>
        if x.slot + 1 < 2 ^ x.q && roundQ x.qf == x.q then
          let s := modPass p (fun y => { y with stage := .window, slot := x.slot + 1, confirm := 0 }) s
          sendBcast p 0x02 (le 2 x.confirm) s
        else hvRoundEnd p s

/-- The headers a slot leaves without their identifiers, handles that are taken left out (R157, R289, Table 6-1). DEDUCED, unsafe: log entry 47. -/
def headerWork (s : State) (p : Nat) (hs : List (Nat × Bytes)) : List HvWork :=
  (hs.filter fun e => hType e.1 == 0xA && !handleTaken s p (hHandle e.1)).map fun e => .header (hHandle e.1) e.2

/-- The announce window of a slot has given its result (R305 to R307): every downlink of the port stays clear of the announces that still run. `w` is
the window, `rx` the receive status of the last frame. -/
def hvWindow (p : Nat) (w : Window) (rx : Bytes) (out : RxOut) (base : Nat) (s : State) : State :=
  match (port s p).pass with
  | none => s
  | some x =>
    let a := (port s p).air
    let some? := match out with | .nothing _ => false | _ => true
    let synced := some? || w.dropped > 0 || !w.lost.isEmpty
    let step := pAttrN s A.hvQStep p
    let crc := match out with | .rejected code h => if code == E.rxCrc then [(h, rx)] else [] | _ => []
    let hs := (w.lost.map fun l => (l.header, l.rx)) ++ crc
    let heads := hs.filter fun e => hType e.1 == 0xA
    let ann : Option HvTag := match out with
      | .hymond h payload strength =>
        if hType h == 0xA then
          some { handle := hHandle h, ident := slice payload 0 16, desc := slice payload 16 12, strength := strength, rx := rx }
        else none
      | _ => none
    let qf := if ann.isSome || !heads.isEmpty then x.qf
      else if synced then min (x.qf + step) (16 * pAttrN s A.hvQMax p)
      else max (x.qf - step) (16 * pAttrN s A.hvQMin p)
    let (dur, tr) := match a.tx with | some { dur := d, window := some (o, _, _), .. } => (d, o) | _ => (0, 0)
    let keep := a.started + dur + tr + ulTicks (pAttrN s A.hvUlMode p) (28 + pAttrN s A.hvAnnounceBytes p) []
    let clear := turn s p (if synced then max base keep else base)
    let work := headerWork s p hs ++ (match ann with | some t => [.announce t] | none => [])
    hvNext p (modPass p (fun y => { y with
      qf := qf, heard := y.heard || synced, clear := max y.clear clear, work := y.work ++ work })
      (modAir p (fun b => { b with clearAt := max b.clearAt clear }) (quietAir p s)))

/-! ### The outcomes of the pass's own exchanges -/

/-- The READ of a tag has ended (R309). -/
def readDone (p code : Nat) (data : Bytes) (t : HvTag) (s : State) : State :=
  let s := modTag t (fun e =>
    { e with read := code, readOk := e.readOk || code == 0, crc := if code == 0 then crc32c data else e.crc }) s
  dispose p t (reportTag p t (if code == 0 then data else []) s)

/-- The HALT of a tag has ended (R310). -/
def haltDone (p code : Nat) (t : HvTag) (s : State) : State :=
  let s := countTag p 0 0 (if code == 0 then 0 else 1) (modPass p (fun x => { x with stage := .window }) s)
  if code != 0 then modHandle p t.handle (fun x => { x with st := .unknown }) s
  else
    modTag t (fun e => { e with halted := true, handle := if e.best == p then 0 else e.handle }) (dropHandle p t.handle s)

/-- The ACK to a tag has ended (R289, R308): the tag is recorded from the answer, or counted as lost. -/
def ackDone (p code : Nat) (data : Bytes) (known : Bool) (t : HvTag) (s : State) : State :=
  if code != 0 then
    let s := if known then reportTag p t [] s else s
    countTag p 0 0 1 (modPass p (fun x => { x with stage := .window }) s)
  else if known then
    treatTag p t (modTag t (fun e => { e with handle := if e.best == p then t.handle else e.handle }) s)
  else
    let rx := ((port s p).task.bind (·.rx)).getD t.rx
    match recordTag p { t with ident := slice data 0 16, desc := slice data 16 12, rx := if t.rx.isEmpty then rx else t.rx } s with
    | none => passFail p E.hvTableFull s
    | some (t, s) => treatTag p t s

/-- A pass that has been told to stop ends here: nothing of its slot is on the air, and no broadcast goes out, or nothing may while results wait that
cannot be pushed; at a round boundary once no command of the port runs (R304, R342, R394, R399). -/
def stopsHere (s : State) (p : Nat) (x : HvPass) : Bool :=
  let a := (port s p).air
  let free := (port s p).task.isNone
  x.stop.isSome && (match x.stage with
    | .yielding => free && (port s p).parked.all (·.task.ofPass)
    | .window => a.tx.isSome && a.txEnd.isNone && a.win.isNone && (free || (paused s p && !a.armed))
    | _ => a.tx.isSome && a.txEnd.isNone && a.win.isNone && paused s p && !a.armed)

/-- Whether the pass of a port can go on by itself. -/
def passReady (s : State) (p : Nat) : Bool :=
  match (port s p).pass with
  | none => false
  | some x =>
    x.result.isSome || stopsHere s p x || ((port s p).task.isNone && (match x.stage with
      | .start => (port s p).radio.phase == .on && (port s p).radio.guardUntil.isNone
      | .read => true
      | .window => (port s p).air.tx.isNone
      | _ => false))

/-- One step of a pass: it takes the outcome of its exchange, or begins its next round. A pass that runs when a commit sets port.hv.mode OFF goes on
to its end. DESIGN CHOICE, unsafe: log entry 72. -/
def passStep (p : Nat) (s : State) : State :=
  match (port s p).pass with
  | none => s
  | some x =>
    match x.result with
    | none =>
      if stopsHere s p x then passFail p (x.stop.getD 0) s else
      match x.stage, x.stop with
      | .start, some code => passFail p code s
      | .start, none =>
        if fitsRun s p 0x80 0 == .never then passFail p E.planInvalid s
        else if (port s p).held || fitsRun s p 0x80 0 != .fits then modPass p (fun y => { y with stage := .yielding }) s
        else if pAttr s A.protocol p == 3 then hvQuery p s else hvIso p s
      | .read, _ => hvNext p (modPass p (fun y => { y with
          stage := .window, reads := y.reads ++ (match y.cur with | some t => [t] | none => []), cur := none }) s)
      | _, _ => hvNext p s
    | some (code, data, found) =>
      let s := modPass p (fun y => { y with result := none }) s
      match x.stage, x.cur with
      | .field, _ => if code == 0 then modPass p (fun y => { y with stage := .start }) s else endPass p code data s
      | .iso, _ => hvIsoDone p code data found s
      | .ack, some t => ackDone p code data false t s
      | .rehandle, some t => ackDone p code data true t s
      | .read, some t => readDone p code data t s
      | .halt, some t => haltDone p code t s
      | _, _ => modPass p (fun y => { y with stage := .window }) s

/-! ### Starting and stopping (R302 to R304) -/

/-- Ask for the field of a port whose task waits for it (R78, R81, R84, R468): at once where there is none, in the next run with a field during an OFF
run unless something bars it already, and after the ramp down where the old field is going. The answer is the code with which it fails. -/
def askField (p : Nat) (s : State) : Option (Nat × Detail) × State :=
  let now := s.now
  if (port s p).radio.phase != .off || (port s p).radio.want.isSome then (none, s)
  else match offRun s p, fieldBar s p with
    | true, some code => (some (code, { port := p }), s)
    | true, none => (none, modRadio p (fun r => { r with want := some ⟨false, false, now, true⟩ }) s)
    | false, _ => startField p s

/-- A pass starts on a port; where its sub-passes begin with a change of vector on a field that stands, the guard time comes first (R302, R303, R331).
-/
def startPass (p : Nat) (h : Option Hdr) (s : State) : State :=
  let x : HvPass := {
    hdr := h, since := s.now, qf := 16 * pAttrN s A.hvQInitial p, wake := pAttr s A.hvWake p == 1, runs := isoRuns s p }
  let cycle := !(members s p).isEmpty && pAttr s A.prismHvCycle p == 1
  let moves := cycle && (port s p).prism.vector != 0 && (port s p).radio.phase == .on
  let s := if cycle then steer p 0 s else s
  let s := if moves then startGuard p s else s
  let s := modPort p (fun y => { y with pass := some x, gridDue := false }) s
  let ph := (port s p).radio.phase
  if ph == .off || ph == .falling false then
    match askField p (passTask p 0x20 .fieldOn (modPass p (fun y => { y with ownField := true }) s)) with
    | (none, s) => s
    | (some (code, d), s) => taskFail p code d s
  else modPass p (fun y => { y with stage := .start }) s

/-- Whether Harvest may run on a port: its claim is made, and the port is no member of another port's set (R59, R301). -/
def hvAllowed (s : State) (p : Nat) : Bool := pAttr s A.hvMode p != 0 && pAttr s A.protocol p != 0 && !isFollower s p

/-- The next HARVEST_START that waited for the pass to end; its claim is tested again where a commit has come between (R59, R302). -/
def nextStart (p : Nat) (s : State) : State :=
  match (port s p).starts with
  | h :: rest =>
    let s := modPort p (fun x => { x with starts := rest }) s
    if hvAllowed s p then startPass p (some h) s else fail h 0x80 E.resourceNotOwned { port := p } s
  | [] => s

/-- A port that runs STANDING passes in the present state; none begins once DOZE_ENTER waits (R302, R342, R399). -/
def hvStanding (s : State) (p : Nat) : Bool :=
  pAttr s A.hvMode p == 2 && s.mod.st == .service && hvAllowed s p && !s.link.hostLost && s.mod.dozeHdr.isNone

/-- The pass of a grid tick that waited for a command of the port; it is given up where the port no longer runs STANDING (R302). -/
def gridStart (p : Nat) (s : State) : State :=
  if hvStanding s p then startPass p none s else modPort p (fun x => { x with gridDue := false }) s

/-- A pass may begin at the port's boundary, where nothing waits for it (R57, R58, R113). -/
def mayPass (s : State) (p : Nat) : Bool := atBoundary s p && (port s p).pass.isNone && !holdWanted s p && !raising s p

/-- Let the pass of a port go on as far as it can. Before a pass begins that waited, the port crosses its boundary (R57, R58). -/
def drivePass : Nat → Nat → State → State
  | 0, _, s => s
  | n + 1, p, s =>
    if passReady s p then drivePass n p (passStep p s)
    else if ((port s p).starts.isEmpty && !(port s p).gridDue) || !mayPass s p then s
    else
      let s := crossBase p s
      if !mayPass s p then s
      else if !(port s p).starts.isEmpty then drivePass n p (nextStart p s)
      else drivePass n p (gridStart p s)

/-- What a port does by itself after a step on it: a command that has waited by R278 is repeated, its pass goes on; with nothing left to do its slices
go to their idle state (R64). -/
def goOn (p : Nat) (s : State) : State := settleIn p (offDue p (drivePass 64 p (resumeParked p s)))

/-- HARVEST_START (R302). -/
def harvestStart (h : Hdr) (p : Nat) (s : State) : State :=
  if !hvAllowed s p then fail h 0x80 E.resourceNotOwned { port := p } s
  else if mayPass s p && (port s p).starts.isEmpty then goOn p (startPass p (some h) s)
  else goOn p (modPort p (fun x => { x with starts := x.starts ++ [h] }) s)

/-- A pass is told to end at its next slot boundary, or ends at once where no slot is in progress and no command of the port runs in it (R304, R342).
-/
def stopPass (p code : Nat) (s : State) : State :=
  match (port s p).pass with
  | none => s
  | some x =>
    match x.stage with
    | .field =>
      let s := modPort p (fun y => { y with task := none }) (dropWant p (pressDrop p s))
      passFail p code s
    | .start => passFail p code s
    | _ => modPass p (fun y => { y with stop := some (y.stop.getD code) }) s

/-- HARVEST_STOP (R304, R433). -/
def harvestStop (h : Hdr) (p : Nat) (s : State) : State :=
  if (port s p).pass.isNone then ok h 0x81 [] s
  else goOn p (stopPass p E.hvStopped (modPass p (fun x => { x with stops := x.stops ++ [h] }) s))

/-- A tick of the grid of a STANDING port: a pass starts, behind the command that runs on the port, if one does; none where the last pass overruns
(R302). DEDUCED, safe: log entry 33. -/
def gridRun (p : Nat) (s : State) : State :=
  let t := timer s (tC p)
  if pAttr s A.hvMode p != 2 || !t.armed || t.action != 0x08 || s.now < t.fire then s
  else
    let s := modTimer (tC p) (fun t => { t with fire := t.fire + t.period }) s
    if s.mod.st != .service || (port s p).pass.isSome || !(port s p).starts.isEmpty || !hvStanding s p then s
    else goOn p (modPort p (fun x => { x with gridDue := true }) s)

end Sys2Proof.Machine
end

