-- ==== Sys2Proof/Machine/LinkOps.lean ====
section
/-!
DEFINITION. The operations of the host link: frames, control records, numbering, credit, acknowledgement and repair (07).
-/

namespace Sys2Proof.Machine

/-! ### Frames (Tables 7-3 and 7-4) -/

/-- Frame flags of a frame the module sends (Table 7-4). -/
def frameFlags (s : State) (retx : Bool) : Nat :=
  (if s.mod.st == .halted then 8 else 0) + (if s.mod.st == .doze then 4 else 0) + bnat retx

/-- The bytes of a mailbox frame (Table 7-3, R368). -/
def frameBytes (flags queue alive seq limit moduleId sel : Nat) (payload : Bytes) : Bytes :=
  let head := [0x4A, 0x5A, 0x01, b8 flags, b8 queue, b8 alive] ++ le 2 seq ++ le 2 limit
    ++ le 2 payload.length ++ [b8 moduleId, b8 sel, 0, 0]
  let x := head ++ payload
  x ++ le 4 (crc32c x)

/-- The bytes of a control record (Table 7-7). -/
def CtlRec.bytes : CtlRec → Bytes
  | .ack seq => [0x01, 4] ++ le 2 seq
  | .nak first count => [0x02, 6] ++ le 2 first ++ le 2 count
  | .credit queue limit => [0x03, 6, b8 queue, 0] ++ le 2 limit
  | .refuse seq error => [0x04, 6] ++ le 2 seq ++ le 2 error
  | .helloAck nonce boot id st fw => [0x11, 14] ++ le 4 nonce ++ le 4 boot ++ [b8 id, b8 st] ++ le 2 fw
  | .announce id st mac serial fw life =>
    [0x12, 22, b8 id, b8 st] ++ le 6 mac ++ le 8 serial ++ le 2 fw ++ [b8 life, 0]

/-- A control record of the host, as parsed from a frame. -/
inductive HostRec where
  | ack (seq : Nat)
  | nak (first count : Nat)
  | credit (queue limit : Nat)
  | hello (nonce grant : Nat)
  deriving DecidableEq, Repr

/-- One record of the host: its type, its size and its reserved bytes must be right (R373). -/
def parseRec (x : Bytes) : Option (HostRec × Nat) :=
  match num x 0 1, num x 1 1 with
  | 0x01, 4 => if x.length < 4 then none else some (.ack (num x 2 2), 4)
  | 0x02, 6 => if x.length < 6 then none else some (.nak (num x 2 2) (num x 4 2), 6)
  | 0x03, 6 => if x.length < 6 || num x 3 1 != 0 then none else some (.credit (num x 2 1) (num x 4 2), 6)
  | 0x10, 10 => if x.length < 10 || num x 8 2 != 0 then none else some (.hello (num x 2 4) (num x 6 2), 10)
  | _, _ => none

/-- The records of a control frame's payload; none where the frame fails check 8 (R373). -/
def parseRecs : Nat → Bytes → Option (List HostRec)
  | 0, _ => none
  | fuel + 1, x =>
    if x.isEmpty then some []
    else match parseRec x with
      | none => none
      | some (r, n) => (parseRecs fuel (x.drop n)).map (r :: ·)

/-- The items of a payload by their LEN fields; none where they do not fill it exactly (check 13). -/
def splitItems : Nat → Bytes → Option (List Bytes)
  | 0, _ => none
  | fuel + 1, x =>
    if x.isEmpty then some []
    else
      let n := num x 0 2
      if n < 8 || n > 1408 || n % 4 != 0 || x.length < n then none
      else (splitItems fuel (x.drop n)).map (x.take n :: ·)

/-! ### Sending control frames -/

/-- Change the link. -/
def modLink (f : Link → Link) (s : State) : State := { s with link := f s.link }

/-- Queue a control frame to an address. -/
def sendCtl (dst : Src) (recs : List CtlRec) (s : State) : State :=
  modLink (fun l => { l with ctl := l.ctl ++ [⟨dst, recs⟩] }) s

/-- Queue a control frame to the session's host; nothing where no session is open. -/
def sendHost (recs : List CtlRec) (s : State) : State :=
  match s.link.session with
  | none => s
  | some x => sendCtl x.src recs s

/-- Change the link counters. -/
def modCnt (f : LinkCnt → LinkCnt) (s : State) : State := modLink (fun l => { l with cnt := f l.cnt }) s

/-- Acknowledge: the highest sequence up to which every frame is accepted (R375). -/
def sendAck (s : State) : State :=
  modLink (fun l => { l with sinceAck := 0, ackDue := none }) (sendHost [.ack ((s.link.rxNext + 65535) % 65536)] s)

/-- The runs of offsets below `top` that are not in `seen`: first offset and length, in order. -/
def gapRuns (seen : List Nat) : Nat → Nat → Nat → List (Nat × Nat)
  | 0, start, off => if start < off then [(start, off - start)] else []
  | k + 1, start, off =>
    if seen.contains off then
      (if start < off then [(start, off - start)] else []) ++ gapRuns seen k (off + 1) (off + 1)
    else gapRuns seen k start (off + 1)

/-- The NAK records of R377: every unaccepted run below the highest accepted sequence, and a closing NAK of COUNT 0. -/
def nakRecs (l : Link) : List CtlRec :=
  match l.rxSeen.max? with
  | none => [.nak l.rxNext 0]
  | some h =>
    ((gapRuns l.rxSeen h 0 0).map fun (a, n) => CtlRec.nak ((l.rxNext + a) % 65536) n)
      ++ [.nak ((l.rxNext + h + 1) % 65536) 0]

/-- Send a NAK and start its repetition while a gap stands (R377). -/
def sendNak (s : State) : State :=
  match s.link.session with
  | none => s
  | some _ =>
    let due := if s.link.rxSeen.isEmpty then none else some (s.now + usT (mAttrN s A.linkNakRepeatUs))
    modLink (fun l => { l with nakDue := due }) (modCnt (fun c => { c with nakSent := inc32 c.nakSent }) (sendHost (nakRecs s.link) s))

/-- Refuse a frame: the REFUSE record names its sequence and the error (R371). -/
def refuse (dst : Src) (seq code : Nat) (s : State) : State :=
  sendCtl dst [.refuse seq code] (modCnt (fun c => { c with refused := inc32 c.refused }) s)

/-! ### Numbering (R376) -/

/-- Move E over the sequences accepted behind it. -/
def slideRx : Nat → Link → Link
  | 0, l => l
  | k + 1, l =>
    if l.rxSeen.contains 0 then
      slideRx k { l with rxNext := (l.rxNext + 1) % 65536, rxSeen := (l.rxSeen.filter (· != 0)).map (· - 1) }
    else l

/-- Mark a sequence as accepted (R376). -/
def markSeq (seq : Nat) (l : Link) : Link :=
  let off := (seq + 65536 - l.rxNext) % 65536
  if off ≥ 256 || l.rxSeen.contains off then l
  else slideRx 256 { l with rxSeen := off :: l.rxSeen }

/-- The repetition of the NAK follows the gaps: it starts when a gap opens and stops when none is left (R377). -/
def trackGap (s : State) : State :=
  modLink (fun l =>
    if l.rxSeen.isEmpty then { l with nakDue := none }
    else if l.nakDue.isSome then l else { l with nakDue := some (s.now + usT (mAttrN s A.linkNakRepeatUs)) }) s

/-- Number a refused data frame as accepted: its sequence is marked, and its queue's alive counter advances when the frame
carried the expected value (R371). -/
def markRefused (queue seq alive : Nat) (s : State) : State :=
  trackGap (modLink (fun l =>
    let off := (seq + 65536 - l.rxNext) % 65536
    if off ≥ 256 || l.rxSeen.contains off then l
    else
      let l := markSeq seq l
      { l with rxAlive := upd l.rxAlive queue fun a => if a == alive then (a + 1) % 256 else a }) s)

/-- What R376 says of a sequence and an alive counter. -/
inductive SeqVerdict where
  | duplicate | outside | fresh | ahead | behind
  deriving DecidableEq, Repr

/-- R376 on sequence `seq` and alive counter `alive` of queue `queue`. -/
def seqVerdict (l : Link) (queue seq alive : Nat) : SeqVerdict :=
  let fwd := (seq + 65536 - l.rxNext) % 65536
  let back := (l.rxNext + 65536 - seq) % 65536
  let da := (alive + 256 - nth l.rxAlive queue 0) % 256
  if (fwd < 256 && l.rxSeen.contains fwd) || (1 ≤ back && back ≤ 32768) then .duplicate
  else if fwd ≥ 256 then .outside
  else if da == 0 then .fresh
  else if da ≤ 127 then .ahead
  else .behind

/-! ### Credit (R381 to R384) -/

/-- A limit is taken only when it lies ahead of the one held (R384). -/
def takeLimit (held new : Nat) : Nat :=
  let d := (new + 65536 - held) % 65536
  if 1 ≤ d && d ≤ 32767 then new % 65536 else held

/-- The host's limit for an outbound ring (R384). -/
def takeCredit (queue limit : Nat) (s : State) : State :=
  modLink (fun l => { l with txLimit := upd l.txLimit queue fun x => takeLimit x limit }) s

/-- Whether a cost may be sent (R382). -/
def creditAllows (limit spent cost : Nat) : Bool := (limit + 131072 - spent % 65536 - cost) % 65536 < 32768

/-- The cells a frame costs (R381). -/
def frameCells (items : List Bytes) : Nat := (items.map fun x => cellsOf x.length).sum

/-- A consumer has popped an item: the limit rises by its cost and is advertised within link.ack_delay_us (R383). -/
def raiseLimit (queue cells : Nat) (s : State) : State :=
  modLink (fun l => { l with
    rxLimit := upd l.rxLimit queue fun x => (x + cells) % 65536,
    creditDue := if l.session.isNone || (l.creditDue.any fun e => e.1 == queue) then l.creditDue
      else l.creditDue ++ [(queue, s.now + usT (mAttrN s A.linkAckDelayUs))] }) s

/-- Send the CREDIT records that are due (R383). -/
def sendDueCredits (s : State) : State :=
  let due := s.link.creditDue.filter fun e => e.2 ≤ s.now
  if due.isEmpty then s
  else
    let recs := due.map fun e => CtlRec.credit e.1 (nth s.link.rxLimit e.1 0)
    modLink (fun l => { l with creditDue := l.creditDue.filter fun e => e.2 > s.now }) (sendHost recs s)

/-! ### Accepting (R375) -/

/-- A frame has been accepted: count it for the ACK, which goes at once after 16 frames or at ACK_REQ (R375). -/
def countForAck (ackReq : Bool) (s : State) : State :=
  let s := modLink (fun l => { l with
    sinceAck := l.sinceAck + 1,
    ackDue := if l.ackDue.isSome then l.ackDue else some (s.now + usT (mAttrN s A.linkAckDelayUs)) }) s
  if ackReq || s.link.sinceAck ≥ 16 then sendAck s else s

/-- PEAK and the watermark of an inbound ring, and its event, as `cells` join it (R396). -/
def passIn (q cells : Nat) (s : State) : State :=
  let s' := modIn q (fun r => { r with flags := r.flags.after r.level (r.level + cells) (wmIn s q) }) s
  if (inRing s' q).flags.wmLatched && !(inRing s q).flags.wmLatched then
    raise Ev.queueWatermark 0xFF (wmArgs q 0 ((inRing s q).level + cells)) s'
  else s'

/-- Push an item into an inbound ring, with PEAK and the watermark of R396. -/
def pushIn (q : Nat) (e : RingEntry) (s : State) : State :=
  modIn q (fun r => { r with items := r.items ++ [e] }) (passIn q e.cells s)

/-- A valid frame of the session's host has come (R360, R399). DEDUCED, unsafe: log entry 13. -/
def heard (s : State) : State := modLink (fun l => { l with lastValid := s.now, lastValidTs := ts s, hostLost := false }) s

/-- Whether a source is the session's host. -/
def fromSession (s : State) (src : Src) : Bool :=
  match s.link.session with
  | none => false
  | some x => x.src == src

/-! ### The host's control records -/

/-- ACK: every frame up to and including `seq` is covered, and leaves the replay store (R379). -/
def onAck (seq : Nat) (s : State) : State :=
  let covered := fun (n : Nat) => (seq + 65536 - n) % 65536 < 32768
  modLink (fun l => { l with
    replay := l.replay.filter fun f => !covered f.seq, resend := l.resend.filter fun n => !covered n }) s

/-- NAK: the named frames go again, in sequence order; COUNT 0 names every frame from FIRST onwards (Table 7-7, R379). -/
def onNak (first count : Nat) (s : State) : State :=
  modLink (fun l =>
    let named := l.replay.filter fun f =>
      let d := (f.seq + 65536 - first) % 65536
      if count == 0 then d < 32768 else d < count
    { l with resend := (l.replay.map (·.seq)).filter fun n => l.resend.contains n || (named.any fun f => f.seq == n) }) s

/-- The IPv4 address of the module and the length of its network part, by the mode in force; by DHCP, the lease that is held (R356). PRESUMED, unsafe:
log entry 17. -/
def ipv4Of (s : State) : Option (Nat × Nat) :=
  let l := s.link
  if l.ipv4Mode == 1 then match l.lease with
    | some (a, n, from_) => if s.now ≥ from_ then some (a, n) else none
    | none => none
  else if l.ipv4Mode == 2 then some (l.ipv4Addr, l.ipv4Len)
  else if l.ipv4Mode == 3 && s.moduleId < 64 then some (((169 * 256 + 254) * 256 + (s.moduleId + 1)) * 256 + 1, 16)
  else none

/-- With link.ipv4.mode DHCP in force on a link that is up, an exchange for a lease runs: DISCOVER leaves, and REQUEST for the address that a server
offers; the lease is held from the end of the exchange on. Without, none is held (R356). PRESUMED, unsafe: log entry 17. -/
def startDhcp (s : State) : State :=
  if s.link.ipv4Mode == 1 && s.link.speed != 0 then
    let s := { s with sent := .dhcp s.nvm.mac :: s.sent }
    match Config.dhcpLease s.now with
    | none => modLink (fun l => { l with lease := none }) s
    | some (a, n, ticks) =>
      let now := s.now
      modLink (fun l => { l with lease := some (a % 2 ^ 32, n % 33, now + ticks) }) { s with sent := .dhcpRequest s.nvm.mac (a % 2 ^ 32) :: s.sent }
  else modLink (fun l => { l with lease := none }) s

/-- The link settings in force become those of the configuration (R401). -/
def takeLinkCfg (s : State) : State :=
  let was := s.link.ipv4Mode
  let s := modLink (fun l => { l with
    udpPort := mAttrN s A.linkUdpPort, ipv4Mode := mAttrN s A.linkIpv4Mode,
    ipv4Addr := mAttrN s A.linkIpv4Addr, ipv4Len := mAttrN s A.linkIpv4Prefix }) s
  if s.link.ipv4Mode == was then s else startDhcp s

/-- The free cells of an inbound ring. -/
def freeIn (s : State) (q : Nat) : Nat := inCap q - (inRing s q).level

/-- The version word of an image in service. -/
def fwVersion (s : State) : Nat := (nth s.nvm.images s.nvm.active {}).version

/-- A frame takes its place in the order of first sending (R361). -/
def putByBirth (f : SentFrame) : List SentFrame → List SentFrame
  | [] => [f]
  | g :: rest => if f.birth ≤ g.birth then f :: g :: rest else g :: putByBirth f rest

/-- Frames in the order in which they were first sent (R361). -/
def byBirth (fs : List SentFrame) : List SentFrame := fs.foldr putByBirth []

/-- A session opens: numbers and counters start at 0, the limits at the values exchanged, and what the host had not
acknowledged goes again under new numbers (R359, R361, R383, R401). -/
def openSession (src : Src) (nonce grant : Nat) (s : State) : State :=
  let limits := (List.range 72).map (freeIn s)
  let s := modLink (fun l => { l with
    session := some ⟨src, nonce⟩, lastValid := s.now, lastValidTs := ts s, hostLost := false,
    rxNext := 0, rxSeen := [], rxAlive := List.replicate 72 0, rxCells := List.replicate 72 0, rxLimit := limits,
    txSeq := 0, txAlive := List.replicate 72 0, txCells := List.replicate 72 0, txLimit := List.replicate 72 (grant % 65536),
    old := byBirth (l.replay ++ l.old), replay := [], resend := [],
    sinceAck := 0, ackDue := none, nakDue := none, creditDue := [] }) (takeLinkCfg s)
  sendCtl src (.helloAck nonce s.nvm.bootCount s.moduleId s.mod.st.code (fwVersion s)
    :: (List.range 72).map fun q => CtlRec.credit q (nth limits q 0)) s

/-- HELLO: it opens a session, or is refused while another host holds it and has been heard within 2 s (R360). -/
def onHello (src : Src) (nonce grant : Nat) (s : State) : State :=
  match s.link.session with
  | none => openSession src nonce grant s
  | some x =>
    if x.src == src || s.now ≥ s.link.lastValid + msT 2000 then openSession src nonce grant s
    else refuse src 0 E.sessionBusy s

/-- One control record of the host. ACK, NAK and CREDIT count only from the session's host. -/
def onRec (src : Src) (s : State) : HostRec → State
  | .hello nonce grant => onHello src nonce grant s
  | .ack seq => if fromSession s src then onAck seq s else s
  | .nak first count => if fromSession s src then onNak first count s else s
  | .credit queue limit => if fromSession s src then takeCredit queue limit s else s

/-! ### Sending data frames (R374, R379, R395, R601) -/

/-- The longest run of items from the front of a ring that goes into one frame: one selector (R388), at most 1408 bytes,
and within the credit cells given. -/
def frameRun : Nat → Nat → Nat → List OutItem → List OutItem
  | _, _, _, [] => []
  | sel, room, cells, x :: xs =>
    if x.sel == sel && x.bytes.length ≤ room && cellsOf x.bytes.length ≤ cells
    then x :: frameRun sel (room - x.bytes.length) (cells - cellsOf x.bytes.length) xs else []

/-- The items of a ring that go into its next frame, were credit ample. -/
def nextRun (r : OutRing) : List OutItem :=
  match r.items with
  | [] => []
  | x :: _ => frameRun x.sel 1408 65536 r.items

/-- Whether a ring has a frame ready: its items cannot all go in one frame, or its stale timer has fired (R395). -/
def ringReady (r : OutRing) : Bool := !r.items.isEmpty && (r.staleFired || (nextRun r).length < r.items.length)

/-- Whether the host's credit allows a frame of a cost on an outbound ring (R382). -/
def mayCost (l : Link) (q cells : Nat) : Bool := creditAllows (nth l.txLimit q 0) (nth l.txCells q 0) cells

/-- The cost of a run of items (R381). -/
def runCells (xs : List OutItem) : Nat := (xs.map fun x => cellsOf x.bytes.length).sum

/-- The longest beginning of a run that the credit of its ring allows (R382). -/
def allowedRun (l : Link) (q : Nat) (xs : List OutItem) : List OutItem :=
  ((List.range xs.length).map fun k => xs.take (xs.length - k)).find? (fun ys => mayCost l q (runCells ys)) |>.getD []

/-- The frames the replay store keeps: those of the session, and those of earlier sessions that have yet to go again (R361, R379). -/
def kept (l : Link) : List SentFrame := l.replay ++ l.old

/-- The bytes of the replay store in use (R379). -/
def replayBytes (l : Link) : Nat := ((kept l).map fun f => 20 + f.payload.length).sum

/-- Whether the numbers of unacknowledged frames allow one more on a queue, among some frames (R379). -/
def mayCount (fs : List SentFrame) (q : Nat) : Bool := fs.length < 256 && (fs.filter fun f => f.queue == q).length < 128

/-- Whether the replay store and the numbers of unacknowledged frames allow a new data frame on a queue (R379). -/
def mayNumber (l : Link) (q : Nat) : Bool := replayBytes l + 1428 ≤ 262144 && mayCount (kept l) q

/-- Put a data frame on the cable. Its credit field carries the present limit of the same queue number, which counts as its
advertisement (R374, R383). -/
def emitFrame (retx : Bool) (f : SentFrame) (s : State) : State :=
  match s.link.session with
  | none => s
  | some x =>
    let b := frameBytes (frameFlags s retx) f.queue f.alive f.seq (nth s.link.rxLimit f.queue 0) s.moduleId f.sel f.payload
    let s := { s with sent := .frame s.link.udpPort x.src b :: s.sent }
    modLink (fun l => { l with creditDue := l.creditDue.filter fun e => e.1 != f.queue }) s

/-- Send a new data frame of a queue: it takes the next sequence and the queue's next alive counter, and enters the replay
store (R374, R379). -/
def emitNew (q sel cells birth : Nat) (payload : Bytes) (s : State) : State :=
  let f : SentFrame := ⟨s.link.txSeq, q, nth s.link.txAlive q 0, sel, payload, cells, s.now, birth⟩
  let s := modLink (fun l => { l with
    txSeq := (l.txSeq + 1) % 65536, txAlive := upd l.txAlive q fun a => (a + 1) % 256,
    txCells := upd l.txCells q fun c => c + cells, replay := l.replay ++ [f], rr := q }) s
  emitFrame false f s

/-- Items whose push waited enter their ring as cells free (R392); a port's items stay with its engine until RESULT_PUSH. -/
def drainWaiting (q : Nat) : Nat → State → State
  | 0, s => s
  | k + 1, s =>
    match (outRing s q).waiting with
    | [] => s
    | it :: rest =>
      if q ≥ 64 && fitsOut s q it then
        drainWaiting q k (pushOut q it (modOut q (fun r => { r with waiting := rest }) s))
      else s

/-- Take `n` items from the front of an outbound ring; the stale timer starts again when items remain (R395). -/
def popOut (q n : Nat) (s : State) : State :=
  let stale := pAttrN s A.linkQStaleUs q
  let s := modOut q (fun r =>
    let r' : OutRing := { r with items := r.items.drop n }
    if r'.items.isEmpty then { r' with staleAt := none, staleFired := false }
    else { r' with staleAt := some (s.now + usT stale), staleFired := stale == 0 }) s
  drainWaiting q ((outRing s q).waiting.length) s

/-- What a ring can send now: an old frame of an earlier session first (R361), else a run of its items within the credit. -/
inductive Offer where
  | old (f : SentFrame)
  | run (xs : List OutItem)
  | noCredit
  deriving DecidableEq, Repr

/-- The offer of an outbound ring. Frames of earlier sessions go in their original order, each before any later frame of its queue (R361).
DEDUCED, unsafe: log entry 16. -/
def offer (s : State) (q : Nat) : Option Offer :=
  match s.link.old.find? fun f => f.queue == q with
  | some f =>
    if s.link.old.head? != some f then none
    else some (if mayCost s.link q f.cells then .old f else .noCredit)
  | none =>
    let r := outRing s q
    if !ringReady r then none
    else
      let run := allowedRun s.link q (nextRun r)
      some (if run.isEmpty then .noCredit else .run run)

/-- Latch NO_CREDIT on every ring whose ready items wait for credit (Table 7-11). -/
def latchNoCredit (s : State) : State :=
  (List.range 72).foldl (fun s q =>
    match offer s q with
    | some .noCredit => modOut q (fun r => { r with flags := { r.flags with noCredit := true } }) s
    | _ => s) s

/-- The round robin over the 72 outbound rings: the first ring behind the one served last that has a frame to send (R49, R601). -/
def pickRing (s : State) : Option (Nat × Offer) :=
  (((List.range 72).map fun i => (s.link.rr + 1 + i) % 72).filterMap fun q =>
    match offer s q with
    | some (.old f) => if mayCount s.link.replay q then some (q, Offer.old f) else none
    | some (.run xs) => if mayNumber s.link q then some (q, Offer.run xs) else none
    | _ => none).head?

/-- Send the next new data frame, if any ring has one. -/
def transmitNew (s : State) : State :=
  let s := latchNoCredit s
  match pickRing s with
  | some (q, .old f) => emitNew q f.sel f.cells f.birth f.payload (modLink (fun l => { l with old := l.old.erase f }) s)
  | some (q, .run xs) =>
    let payload := (xs.map (·.bytes)).flatten
    let sel := ((xs.head?).map (·.sel)).getD 0
    let n := s.link.born
    popOut q xs.length (emitNew q sel (runCells xs) n payload (modLink (fun l => { l with born := n + 1 }) s))
  | _ => s

/-- One turn of the link transmit arbiter: control frames first, then retransmissions in sequence order, then new data
frames (R601). -/
def transmitOne (s : State) : State :=
  let s := sendDueCredits s
  match s.link.ctl with
  | c :: rest =>
    let b := frameBytes (frameFlags s false) 0xFF 0 0 0 s.moduleId 0 (c.recs.map CtlRec.bytes).flatten
    modLink (fun l => { l with ctl := rest }) { s with sent := .frame s.link.udpPort c.dst b :: s.sent }
  | [] =>
    match s.link.resend with
    | n :: rest =>
      let s := modLink (fun l => { l with resend := rest }) s
      match s.link.replay.find? fun f => f.seq == n with
      | none => s
      | some f =>
        let s := modCnt (fun c => { c with retx := inc32 c.retx }) s
        let s := modLink (fun l => { l with
          replay := l.replay.map fun g => if g.seq == n then { g with sentAt := s.now } else g }) s
        emitFrame true f s
    | [] => if s.link.session.isNone then s else transmitNew s

end Sys2Proof.Machine
end

