-- ==== Sys2Proof/Machine/Cellar.lean ====
section
/-!
DEFINITION. Cellar: the casks and their checks, the security commands, the store's log, the life cycle (R480 to R519), and the
credentials written into tags (R499 to R503, R514).
-/

namespace Sys2Proof.Machine

/-! ### Creating casks (R487, R491) -/

/-- The bits of CASK_ATTR a host may write. -/
def attrMask : Nat := 0x03F30F03

/-- The conditions of R491 on new attributes. -/
def attrGood (a : Nat) : Bool :=
  let uses := ([useEncrypt, useDecrypt, useWrap, useDerive].filter (bit a)).length
  a &&& attrMask == a && uses == 1 && field a 23 20 != 0 && field a 25 24 != 0 && (!bit a bitAttest || bit a useEncrypt)
    && (field a 1 0 == 1 || field a 1 0 == 2)

/-- The bits of a key by KEYLEN. -/
def keyBits (a : Nat) : Nat := if field a 1 0 == 1 then 128 else 256

/-! ### The store's log (R516, R519) -/

/-- A record is the current one of its cask: no later record of the cask counts. -/
def recCurrent (pages : List (List CaskRec)) (r : CaskRec) : Bool :=
  pages.all fun pg => pg.all fun x => x.cask != r.cask || x.seq ≤ r.seq

/-- Program a record at the head of the log. -/
def putRec (r : CaskRec) (pages : List (List CaskRec)) : List (List CaskRec) :=
  match pages.getLast? with
  | some pg => if pg.length < 32 then pages.dropLast ++ [pg ++ [r]] else pages ++ [[r]]
  | none => [[r]]

/-- A record takes the next SEQ of the log, under the root in force (R485, R516). -/
def Sec.log (root : Bytes) (n : Nat) (c : Cask) (x : Sec) : Sec :=
  { x with pages := putRec (c.record root x.debugOpen n x.seq) x.pages, seq := (x.seq + 1) % 2 ^ 32 }

/-- The current records of a page are copied to the head of the log, each with a SEQ and a Cork of its own, and the page is erased: `rest` are the
other pages (R519). -/
def Sec.copyPage (root : Bytes) (pg : List CaskRec) (rest : List (List CaskRec)) (x : Sec) : Sec :=
  (pg.filter (recCurrent x.pages)).foldl (fun x r => Sec.log root r.cask r.content x) { x with pages := rest }

/-- Compaction of the oldest pages while fewer than four pages are free (R516, R519). -/
def Sec.compact (root : Bytes) : Nat → Sec → Sec
  | 0, x => x
  | k + 1, x =>
    match x.pages with
    | [] => x
    | pg :: rest => if 64 - x.pages.length ≥ 4 then x else Sec.compact root k (Sec.copyPage root pg rest x)

/-- The content that a destruction leaves in a slot: the incarnation stays (R488). -/
def Cask.emptied (c : Cask) : Cask := { c with live := false, key := [], attr := 0, parent := 0xFFFF, gen := 0, test := false }

/-- A slot takes a content. -/
def Sec.setCask (n : Nat) (c : Cask) (x : Sec) : Sec :=
  { x with casks := x.casks.filter (fun e => e.1 < n) ++ [(n, c)] ++ x.casks.filter (fun e => e.1 > n) }

/-- The record of a creation or a destruction is appended, and its content is the slot's (R516). -/
def Sec.append (root : Bytes) (n : Nat) (c : Cask) (x : Sec) : Sec := (Sec.log root n c (x.setCask n c)).compact root 64

/-- Append the record of a creation or a destruction (R516). -/
def appendRec (n : Nat) (c : Cask) (s : State) : State := modSec (Sec.append s.cellar.root n c) s

/-- Fill a slot (R487, R488). -/
def fillCask (n : Nat) (key : Bytes) (attr parent gen : Nat) (s : State) : State :=
  appendRec n { live := true, key := key, attr := attr, parent := parent, gen := gen, test := s.nvm.sec.debugOpen,
                inc := (incOf s n + 1) % 65536 } s

/-- Empty a slot. -/
def emptyCask (n : Nat) (s : State) : State :=
  match caskAt s n with
  | none => s
  | some c => appendRec n c.emptied s

/-- sec.store.records_free: the record slots not yet programmed. -/
def recordsFree (s : State) : Nat :=
  let ps := s.nvm.sec.pages
  (64 - ps.length) * 32 + (match ps.getLast? with | some pg => 32 - pg.length | none => 0)

/-- The casks in a state. -/
def casksIn (s : State) (st : CaskSt) : List Nat := (s.nvm.sec.casks.map (·.1)).filter fun n => caskSt s n == st

/-- A revocation zeroises the transmit buffers filled from a cask that is no longer LIVE, the master or the transport cask (R503). -/
def zeroiseRevoked (s : State) : State :=
  let kept := fun (b : KeyPage) => (b.cask :: b.transport.toList).all fun n => caskSt s n == .live
  { s with ports := s.ports.map fun x => { x with secBuf := x.secBuf.filter kept } }

/-! ### Answers -/

/-- A security command counts as completed (R524). -/
def countDone (s : State) : State := { s with cellar := { s.cellar with operations := (s.cellar.operations + 1) % 2 ^ 32 } }

/-- A security command has completed. -/
def cellarOk (h : Hdr) (op : Nat) (body : Bytes) (s : State) : State := ok h op body (countDone s)

/-- Count a command failed by R490. -/
def countRefused (s : State) : State := { s with cellar := { s.cellar with refused := (s.cellar.refused + 1) % 2 ^ 32 } }

/-- A security command fails by R490 with the cask concerned in ARG1. -/
def cellarFail (h : Hdr) (op code cask : Nat) (s : State) : State :=
  fail h op code { arg1 := (cask : Int) } (countRefused s)

/-- The checks of a command that creates a cask, after those of the casks it uses: the target and its attributes (R490). -/
def createCheck (h : Hdr) (op n attr : Nat) (s : State) (go : State → State) : State :=
  if caskSt s n != .empty then cellarFail h op E.caskOccupied n s
  else if !attrGood attr then failRange h op 12 (countRefused s)
  else go s

/-- The entropy source seeds the generator, at start and after every 2²⁰ requests (R486). -/
def seedDrbg (s : State) : State :=
  let entropy := (List.range 48).map (Config.entropyByte s.free)
  drawn { s with cellar := { s.cellar with drbg := s.cellar.drbg.seed entropy } }

/-- `n` bytes of the random generator (R486). A health test of its source that fails comes as EMERGENCY_SWAP of the security core. -/
def randomBytes (n : Nat) (s : State) : Bytes × State :=
  let s := if s.cellar.drbg.requests ≥ 2 ^ 20 then seedDrbg s else s
  let r := s.cellar.drbg.generate n
  (r.1, { s with cellar := { s.cellar with drbg := r.2 } })

/-! ### The security commands (R490 to R497, R504) -/

/-- CASK_INFO (R487). -/
def infoRun (h : Hdr) (n : Nat) (s : State) : State :=
  let st := match caskSt s n with | .empty => 0 | .live => 1 | .revoked => 2
  cellarOk h 0xC0 (le 8 (caskWord s n) ++ [b8 st, 0, 0, 0]) s

/-- CASK_IMPORT (R492). -/
def importCask (h : Hdr) (n kek attr : Nat) (wrapped : Bytes) (s : State) : State :=
  if lifeCycle s == 3 then fail h 0xC1 E.lifeCycleOrder {} (countRefused s)
  else match useCheck s kek (bit · useWrap) (some invAdmin) with
  | some e => cellarFail h 0xC1 e kek s
  | none =>
    createCheck h 0xC1 n attr s fun s =>
      if wrapped.length != keyBits attr / 8 + 8 then failRange h 0xC1 20 s
      else match keyUnwrap (keyOf s kek) wrapped with
      | none => fail h 0xC1 E.unwrap { arg1 := (kek : Int) } s
      | some key => cellarOk h 0xC1 [] (fillCask n key attr 0xFFFF 0 s)

/-- CASK_GENERATE (R493). -/
def generateCask (h : Hdr) (n bits attr : Nat) (s : State) : State :=
  if lifeCycle s == 3 then fail h 0xC2 E.lifeCycleOrder {} (countRefused s)
  else createCheck h 0xC2 n attr s fun s =>
    if bits != keyBits attr then failRange h 0xC2 10 s
    else let (key, s) := randomBytes (bits / 8) s; cellarOk h 0xC2 [] (fillCask n key attr 0xFFFF 0 s)

/-- CASK_DERIVE (R494). -/
def deriveCask (h : Hdr) (n parent attr : Nat) (label context : Bytes) (s : State) : State :=
  if lifeCycle s == 3 then fail h 0xC3 E.lifeCycleOrder {} (countRefused s)
  else match useCheck s parent (bit · useDerive) (some invAdmin) with
  | some e => cellarFail h 0xC3 e parent s
  | none =>
    createCheck h 0xC3 n attr s fun s =>
      let pa := ((caskAt s parent).map (·.attr)).getD 0
      if field attr 25 24 &&& field pa 25 24 != field attr 25 24 then failRange h 0xC3 12 s
      else if depthOf s 8 parent + 1 > 4 then failRange h 0xC3 10 s
      else
        let gen := incOf s parent
        let key := kdf s.nvm.sec.debugOpen (keyOf s parent) label context (keyBits attr)
        cellarOk h 0xC3 (le 2 gen ++ [0, 0]) (fillCask n key attr parent gen s)

/-- CASK_DESTROY (R496). -/
def destroyCask (h : Hdr) (n : Nat) (s : State) : State :=
  if caskSt s n == .empty then cellarOk h 0xC4 [0, 0, 0, 0] s
  else
    let was := (casksIn s .revoked).filter (· != n)
    let s := zeroiseRevoked (emptyCask n s)
    cellarOk h 0xC4 (le 2 ((casksIn s .revoked).length - was.length) ++ [0, 0]) s

/-- The invoker of a command: HOST_ADMIN on SQ1, HOST_USER on a CQ (R435, R489). -/
def invOf (h : Hdr) : Nat := if h.q == 0x41 then invAdmin else invUser

/-- A data result of CASK_ENCRYPT and CASK_DECRYPT. -/
def dataBody (x : Bytes) : Bytes := le 2 x.length ++ [0, 0] ++ x

/-- CASK_ENCRYPT; a CMAC takes only an IV of zeros (R497). -/
def encryptRun (h : Hdr) (n mode : Nat) (iv data : Bytes) (s : State) : State :=
  match useCheck s n (fun a => bit a useEncrypt && !bit a bitAttest) (some (invOf h)) with
  | some e => cellarFail h 0xC5 e n s
  | none =>
    if mode == 3 && iv.any (· != 0) then failRange h 0xC5 12 s else
    let key := keyOf s n
    let blks := blocks16 (data.length / 16 + 1) data
    cellarOk h 0xC5 (dataBody (match mode with
      | 1 => cbcEnc key iv blks
      | 2 => ctr key (ofBe iv) blks
      | _ => cmac key data)) s

/-- CASK_DECRYPT (R497). -/
def decryptRun (h : Hdr) (n mode : Nat) (iv data : Bytes) (s : State) : State :=
  match useCheck s n (bit · useDecrypt) (some (invOf h)) with
  | some e => cellarFail h 0xC6 e n s
  | none =>
    let key := keyOf s n
    let blks := blocks16 (data.length / 16 + 1) data
    cellarOk h 0xC6 (dataBody (if mode == 1 then cbcDec key iv blks else ctr key (ofBe iv) blks)) s

/-- CASK_WRAP (R495). -/
def wrapRun (h : Hdr) (n target : Nat) (s : State) : State :=
  match useCheck s n (bit · useWrap) (some invAdmin) with
  | some e => cellarFail h 0xC7 e n s
  | none =>
    match useCheck s target (bit · bitExportable) none with
    | some e => cellarFail h 0xC7 e target s
    | none => cellarOk h 0xC7 (dataBody (keyWrap (keyOf s n) (keyOf s target))) s

/-- ATTEST (R504). -/
def attestRun (h : Hdr) (n : Nat) (nonce : Bytes) (s : State) : State :=
  match useCheck s n (fun a => bit a useEncrypt && bit a bitAttest) (some invAdmin) with
  | some e => cellarFail h 0xC8 e n s
  | none =>
    let r := le 8 s.nvm.serial ++ [b8 (lifeCycle s), b8 (bnat s.nvm.sec.debugOpen)] ++ le 2 (fwVersion s) ++ le 4 s.nvm.bootCount
    cellarOk h 0xC8 (r ++ hmac (keyOf s n) (ascii "JZ64-ATTEST" ++ fit 16 nonce ++ r)) s

/-- CASK_LIST (R487). -/
def listRun (h : Hdr) (s : State) : State := cellarOk h 0xCD (le 128 ((casksIn s .live).foldl (fun m n => m ||| 2 ^ n) 0)) s

/-! ### Life cycle (R506 to R512) -/

/-- Whether the life-cycle state or DEBUG_OPEN destroys a key: every one in RETIRED, a factory-class one in FIELD, a production one under DEBUG_OPEN
(Table 10-5). -/
def Sec.destroys (x : Sec) (c : Cask) : Bool := c.live && (x.retired || (x.field && !bit c.attr lcField) || (x.debugOpen && !c.test))

/-- The casks whose key the life-cycle state or DEBUG_OPEN destroys and whose current record still holds it. -/
def Sec.doomed (x : Sec) : List Nat :=
  ((x.pages.flatten.filter fun r => x.destroys r.content && recCurrent x.pages r).map (·.cask)).eraseDups

/-- Every page that holds a destroyed key is compacted away: its current records are copied to the head and the page is erased (R507). -/
def Sec.erasePages (root : Bytes) : Nat → Sec → Sec
  | 0, x => x
  | k + 1, x =>
    match x.pages.find? fun pg => pg.any fun r => x.destroys r.content with
    | none => x
    | some pg => Sec.erasePages root k (Sec.copyPage root pg (x.pages.erase pg) x)

/-- The erasure of a change: in RETIRED the helper data, the root check and every page; else a record empties each destroyed cask, and compaction
erases the pages that held its key (R506, R507, R516). -/
def Sec.erase (root : Bytes) (x : Sec) : Sec :=
  if x.retired then { x with casks := [], pages := [], helper := [[], []], rootCheck := [] }
  else
    let gone := x.doomed.filterMap fun n => (x.pages.flatten.find? fun r => r.cask == n && recCurrent x.pages r).map fun r => (n, r.content)
    (gone.foldl (fun x e => Sec.append root e.1 e.2.emptied x) x).erasePages root 64

/-- A change takes effect as its one-time-programmable bit is programmed: the casks it destroys count as EMPTY at once (R507). It answers when
compaction has erased them. DEDUCED, unsafe: log entry 51. -/
def beginChange (h : Hdr) (op : Nat) (program : Sec → Sec) (s : State) : State :=
  let old := lifeCycle s
  let s := modSec (fun x => { program x with erasingFrom := old }) s
  let gone := fun (e : Nat × Cask) => s.nvm.sec.destroys e.2
  let ns := (s.nvm.sec.casks.filter gone).map (·.1)
  let s := modSec (fun x => { x with casks := x.casks.map fun e => if gone e then (e.1, e.2.emptied) else e }) s
  zeroiseRevoked { s with cellar := { s.cellar with change := some (some h, op, ns.length) } }

/-- The test delivery KEK (R510). -/
def testKek (s : State) : Bytes :=
  kdf true (rootOf true) (ascii "JZ64-DELIVERY") (le 8 s.nvm.serial) 256

/-- LIFECYCLE_SET (R506, Table 10-5). -/
def lifecycleRun (h : Hdr) (target confirm : Nat) (s : State) : State :=
  if confirm != 0x5A4A1C5E then fail h 0xC9 E.confirm {} s
  else if lifeCycle s == 1 && target == 2 then beginChange h 0xC9 (fun x => { x with field := true }) s
  else if (lifeCycle s == 1 || lifeCycle s == 2) && target == 3 then beginChange h 0xC9 (fun x => { x with retired := true }) s
  else fail h 0xC9 E.lifeCycleOrder {} s

/-- DEBUG_OPEN_SET: from here on the test root is in force (R483, R506, R508, R510). -/
def debugOpenRun (h : Hdr) (confirm : Nat) (s : State) : State :=
  if confirm != 0x5A4ADB60 then fail h 0xCA E.confirm {} s
  else if lifeCycle s == 3 || lifeCycle s == 0 then fail h 0xCA E.lifeCycleOrder {} s
  else if s.nvm.sec.debugOpen then fail h 0xCA E.debugLocked {} s
  else
    let s := beginChange h 0xCA (fun x => { x with debugOpen := true }) s
    fillCask 0 (testKek s) 0x03100402 0xFFFF 0 { s with cellar := { s.cellar with root := rootOf true } }

/-- The arguments of EV_LIFE_CYCLE (Table 8-20). -/
def lifeArgs (s : State) (old n : Nat) : Bytes := [b8 old, b8 (lifeCycle s), b8 (bnat s.nvm.sec.debugOpen), 0] ++ le 2 n

/-- The erasure of a change has ended: the change is answered, unless it has been already, and reported (R507, R512). In DOZE the security core is
halted with its state kept (R343). DEDUCED, unsafe: log entry 51. -/
def changeDone (s : State) : State :=
  match s.cellar.change, s.mod.st with
  | none, _ => s
  | some _, .doze => s
  | some (h, op, n), _ =>
    let old := s.nvm.sec.erasingFrom
    let s := modSec (Sec.erase s.cellar.root) s
    let s := { s with cellar := { s.cellar with change := none } }
    let s := match h with | some h => cellarOk h op (le 2 n ++ [0, 0]) s | none => s
    raise Ev.lifeCycle 0xFF (lifeArgs s old n) s

/-- A record of the log, read with the root in force, counts (R517). -/
def recCounts (s : State) (r : CaskRec) : Bool := r.corked s.cellar.root s.nvm.sec.debugOpen

/-- The record of an update that a loss of power tore: its Cork is not complete (R517). -/
def tornRec (n seq : Nat) : CaskRec := ⟨n, seq, { live := false, key := [], attr := 0, inc := 0 }, zeros 40, []⟩

/-- The newest record of the log is rolled back where its Cork fails and it names a cask (R518). A retired module has no root to read a Cork with. -/
def rollBack (s : State) : State :=
  match s.nvm.sec.pages.flatten.getLast? with
  | none => s
  | some r =>
    if !s.mod.rootOk || recCounts s r || r.cask > 1023 then s
    else raise Ev.caskRecovered 0xFF (le 2 r.cask ++ [0])
      (modSec (fun x => { x with pages := (x.pages.map fun pg => pg.filter (· != r)).filter (!·.isEmpty) }) s)

/-- Every record whose Cork fails under the present root is discarded, and the content of each cask is that of its counting record with the highest
SEQ (R517, R518). -/
def scanLog (s : State) : State :=
  let counts := recCounts s
  modSec (fun x =>
    let pages := (x.pages.map fun pg => pg.filter counts).filter (!·.isEmpty)
    let now := pages.flatten.filter (recCurrent pages)
    { x with pages := pages, casks := (List.range 1024).filterMap fun n => (now.find? fun r => r.cask == n).map fun r => (n, r.content) }) s

/-- The root is there, or the module is retired and no start can reconstruct it (R480, R511). -/
def rootReady (s : State) : Bool := s.mod.rootOk || (s.nvm.sec.retired && !s.nvm.sec.debugOpen)

/-- The cask store is recovered at a start (R518): `torn` is the cask of an update that a loss of power tore. The log is scanned, that update is
rolled back, an interrupted erasure is completed, and the records that do not count are discarded. The entropy source seeds the generator (R486).
DEDUCED, unsafe: log entry 51. -/
def recoverRun (torn : Option Nat) (s : State) : State :=
  if s.mod.storeOk || !rootReady s || s.mod.st == .doze then s
  else
    let s := match torn with
      | some n => modSec (fun x => { x with pages := putRec (tornRec n x.seq) x.pages }) s
      | none => s
    let s := seedDrbg (rollBack s)
    let ns := s.nvm.sec.doomed
    let old := s.nvm.sec.erasingFrom
    let s := { scanLog (modSec (Sec.erase s.cellar.root) s) with mod := { s.mod with storeOk := true } }
    if ns.isEmpty then s
    else
      raise Ev.lifeCycle 0xFF (lifeArgs s old ns.length)
        (ns.foldl (fun s n => raise Ev.caskRecovered 0xFF (le 2 n ++ [1]) s) s)

/-! ### Credentials (R499 to R503, R514) -/

/-- The credential of a tag's key slot (R499). -/
def credOf (s : State) (cask slot bits : Nat) (ident : Bytes) : Bytes :=
  kdf s.nvm.sec.debugOpen (keyOf s cask) (ascii "ZENIS-CRED") (fit 16 ident ++ [b8 slot]) bits

/-- The bits of the credential of a format (R499). -/
def formatBits (format : Nat) : Nat := if format == 0x01 || format == 0x11 then 128 else 256

/-- The key page of a credential (R501). -/
def credPage (s : State) (c : HyCmd) : Bytes :=
  let cred := credOf s c.cask c.slot (formatBits c.format) c.ident
  let ta := ((caskAt s c.transport).map (·.attr)).getD 0
  let tk := kdf s.nvm.sec.debugOpen (keyOf s c.transport) (ascii "ZENIS-TRANSPORT") (fit 16 c.ident) (keyBits ta)
  let key := if wrappedFormat c.format then keyWrap tk cred else cred
  fit 40 key ++ [b8 c.format] ++ zeros 215

/-- The check of the casks a credential command uses (R490, R501): the code and the cask. -/
def credCheck (s : State) (op cask format : Nat) : Option (Nat × Nat) :=
  match useCheck s cask (bit · useDerive) (some invUser) with
  | some e => some (e, cask)
  | none =>
    if op == 0xCB && wrappedFormat format then
      let tc := mAttrN s A.secCredTransportCask
      (useCheck s tc (bit · useDerive) (some invFirmware)).map fun e => (e, tc)
    else none

/-- CHALLENGE with a nonce of the module, and the MAC that a tag with the credential answers, computed as the operation begins (R502, R513). The
length of the credential that CRED_VERIFY derives is a free value: R499 takes it from a format, which the command does not name. -/
def credChallenge (p op : Nat) (c : HyCmd) (fire : Option Nat) (s : State) : State :=
  let (nonce, s) := randomBytes 16 s
  let bits := if op == 0xCB then formatBits c.format else if Config.credLong s.free then 256 else 128
  let s := if op == 0xCB then s else drawn s
  let expect := cmac (credOf s c.cask c.slot bits c.ident) (nonce ++ fit 16 c.ident)
  hyBegin p { c with stage := .credChallenge, nonce := nonce, expect := expect, map := none } fire s

/-- The next tag command of CRED_WRITE or CRED_VERIFY, unless a cask has been revoked (R514). -/
def credGo (p op : Nat) (c : HyCmd) (stage : HyStage) (base : Nat) (s : State) : State :=
  match credRevoked s op c, stage with
  | none, .credChallenge => credChallenge p op c (some (turn s p base)) s
  | none, _ => hyGo p c stage base s
  | some n, .credGen => hyFail p E.keyRevoked { c with cask := n } (n : Int) 0 s
  | some n, _ => credDrop p n { c with stage := stage } base s

/-- SHADOW_WRITE with the page that Cellar has placed for the command; the command waits while it has not (R501). -/
def credShadow (p op : Nat) (c : HyCmd) (base : Nat) (s : State) : State :=
  match pageOf s p c with
  | some page => credGo p op { c with crc := crc32c page } .credShadow base s
  | none =>
    if (credRevoked s op c).isSome then credGo p op c .credShadow base s
    else quietAir p (setHy p { c with stage := .credCellar } s)

/-- A credential command has completed, and counts as a security command that did (R501, R502, R524). -/
def credOk (p : Nat) (body : Bytes) (s : State) : State := taskOk p body (countDone s)

/-- CRED_WRITE and CRED_VERIFY go on after an answer of the tag (R501, R502, R514). -/
def credReply (p op : Nat) (c : HyCmd) (payload : Bytes) (base : Nat) (s : State) : State :=
  let status := num payload 0 1
  if status == 6 && c.stage == .credCork then hyGo p { c with why := E.hySealCheck } .credDiscard base s
  else if status != 0 then hyStatus p c status s
  else match c.stage with
  | .preAck =>
    if op == 0xCB && c.slot ≥ dKeys (slice payload 17 12) then taskFail p E.range { port := p, handle := c.handle, arg2 := 12 } s
    else credGo p op c c.after base s
  | .credGen => credShadow p op { c with gen := num payload 1 2 } base s
  | .credShadow => credGo p op c .credCork base s
  | .credCork =>
    let c := { c with gen := num payload 1 2 }
    if mAttr s A.secCredVerify == 1 then credGo p op c .credChallenge base s else credOk p (le 2 c.gen ++ [0, 0]) s
  | .credChallenge =>
    if fit 16 (payload.drop 1) == c.expect then credOk p (if op == 0xCB then le 2 c.gen ++ [0, 0] else []) s
    else hyFail p E.credVerify c 0 0 s
  | _ => s

/-- Cellar places the key page of the port's CRED_WRITE in the secure transmit buffer, in place of a page for another handle (R501, R503). -/
def placeRun (p : Nat) (s : State) : State :=
  match (port s p).task with
  | some { op := 0xCB, proc := .hy c, .. } =>
    let waiting := c.stage == .credGen || c.stage == .credCellar
    if !waiting || (pageOf s p c).isSome || s.cellar.change.isSome || !s.mod.storeOk then s
    else if (credRevoked s 0xCB c).isSome then (if c.stage == .credCellar then credShadow p 0xCB c s.now s else s)
    else
      let page : KeyPage :=
        { cask := c.cask, transport := if wrappedFormat c.format then some c.transport else none, handle := c.handle, page := credPage s c }
      let s := modPort p (fun x => { x with secBuf := some page }) s
      if c.stage == .credCellar then credShadow p 0xCB c (s.now + sureLead) s else s
  | _ => s

end Sys2Proof.Machine
end

