-- ==== Sys2Proof/Machine/Engine.lean ====
section
/-!
DEFINITION. The port engine: the timing bank's releases, the receive window from sync to verdict, and how a result reaches the running
command or the Harvest pass (01, 03).
-/

namespace Sys2Proof.Machine

/-! ### Results (R173 to R177) -/

/-- The earliest tick of the pass's next downlink moves on after an exchange of its own (R307). -/
def passClear (p base : Nat) (s : State) : State :=
  let t := turn s p base
  modPass p (fun x => { x with clear := max x.clear t }) s

/-- A descriptor in the answer to a command that is being ended counts for the port all the same (R286). -/
def endDesc (p : Nat) (t : Task) (out : RxOut) (s : State) : State :=
  match t.proc, out with
  | .hy c, .hymond h payload _ => if c.type != 1 || answers c h then heardDesc p c h payload s else s
  | _, _ => s

/-- A window or a downlink without a window has given its result: it goes to the running command, or to the pass that waits for announces.
`rx` is the receive status of the tag frame, if there was one, and `base` the end of the frame or of the window. -/
def deliver (p : Nat) (w : Window) (rx : Option Bytes) (out : RxOut) (base : Nat) (s : State) : State :=
  let s := modAir p (fun a => { a with
    txEnd := none, wave := none, idleSince := s.now, clearAt := if w.mode ≥ 0x10 then turn s p base else a.clearAt, qdDue := a.qdDue.map (max · (base + 8)) }) (closeRx p (disarm (tB p) s))
  let s := match (port s p).task with
    | some t =>
      let s := if rx.isSome then modTask p (fun t => { t with rx := rx }) s else s
      match t.ending with
      | some code => taskFail p code { port := p } (endDesc p t out s)
      | none =>
        let s := if t.ofPass then passClear p base s else s
        match t.proc with
        | .hy c => hyResult (fun p c pl b s => credReply p t.op c pl b s) p t.op c out base s
        | .iso c => isoResult p t.op c out base s
        | _ => s
    | none =>
      if (port s p).pass.isSome then hvWindow p w (rx.getD noRx) out base s else quietAir p s
  freeQd p (goOn p s)

/-- A frame is on the air: a downlink, or a tag frame under reception. -/
def frameOnAir (s : State) (p : Nat) : Bool :=
  let a := (port s p).air
  (match a.txEnd with | some e => s.now < e | none => false) || (match a.win with | some w => w.held.isSome | none => false)

/-- A command that FIELD_OFF or the loss of the host has ended fails once no frame is on the air any more (R226, R399). -/
def endQuiet (p : Nat) (s : State) : State :=
  match (port s p).task with
  | some { ending := some code, .. } => if frameOnAir s p then s else freeQd p (goOn p (taskFail p code { port := p } s))
  | _ => s

/-- A table of the pre-distorter after a frame: each entry moves by 1/32 of the error seen there (R97). `place` is that of its first entry. -/
def dpdStepped (n place : Nat) (xs : List Int) : List Int := xs.zipIdx.map fun (x, i) => x + Config.dpdError n (place + i) / 32

/-- The pre-distorter of one slice after a D3 or D4 frame: its tables step, and eight frames in a row above 6 % make a learning due (R97). -/
def dpdSlice (lead q evm : Nat) (s : State) : State :=
  let n := s.free
  let run := if evm > 60 then (sliceAt s q).evmRun + 1 else 0
  let s := modSlice q (fun x => { x with
    evm := evm, evmRun := if run ≥ 8 then 0 else run, dpdAmp := dpdStepped n 0 x.dpdAmp, dpdPhase := dpdStepped n 64 x.dpdPhase
    dpdTaps := dpdStepped n 128 x.dpdTaps }) (drawn s)
  if run ≥ 8 then raise Ev.dpdRelearn q (le 2 evm) (modRadio lead (fun r => { r with dpdDue := true }) s) else s

/-- The pre-distorters of a port and of every member of its set after a D3 or D4 frame: `evm` is that of the port's own slice, and those of the
members are free values (R97, R323). DESIGN CHOICE, safe: log entry 67. -/
def dpdAfter (p evm : Nat) (s : State) : State :=
  (group s p).foldl (fun s q => if q == p then dpdSlice p q evm s else dpdSlice p q (Config.frameEvm s.free) (drawn s)) s

/-- The downlink mode of the frame last sent; 0 for an ISO frame. -/
def lastDl (s : State) (p : Nat) : Nat :=
  match (port s p).air.tx with
  | some { frame := .hymond dl _ _, .. } => dl
  | _ => 0

/-- The pre-distorter after a D3 or D4 frame that no frame of a tag has followed: the EVM is then a free value (R97). -/
def dpdUnheard (p : Nat) (s : State) : State := if lastDl s p ≥ 3 then dpdAfter p (Config.frameEvm s.free) s else s

/-- What a window that closes without a frame gives: the last frame rejected in it, the last frame pre-empted in it, or nothing (R177). DEDUCED,
unsafe: log entry 41. -/
def windowEnd (p base : Nat) (w : Window) (s : State) : State :=
  let s := dpdUnheard p s
  match w.bad, w.lost.getLast? with
  | some l, _ => deliver p w (some l.rx) (.rejected (num l.rx 0 2) l.header) base s
  | none, some l => deliver p w (some l.rx) (.rejected E.rxPreempted l.header) base s
  | none, none => deliver p w none (.nothing (w.dropped > 0)) base s

/-! ### The timing bank's releases (R38, R39, Table 1-8) -/

/-- The field starts to ramp up (R79). The module never transmits on an unlocked synthesiser or under the cut, nor in an OFF run or at
the end of a run (R73, R83, R460, R466). -/
def startRamp (p : Nat) (s : State) : State :=
  let r := (port s p).radio
  let gap := frameTick s + runGap
  if r.want.isNone || !(r.phase == .off || r.phase == .gap) then s
  else if stepped s p && s.now < gap then armSoon (tA p) 0x01 gap s
  else if !(group s p).all (listening s) || interlocked s || offRun s p || runClosing s p then
    modRadio p (fun r => { r with want := r.want.map fun w => { w with armed := false } }) s
  else modRadio p (fun r => { r with phase := .rising }) s

/-- The guard time has elapsed: downlinks that wait may start (R80). -/
def guardOver (p : Nat) (s : State) : State :=
  match (port s p).radio.guardUntil with
  | none => s
  | some u => if s.now < u then s else goOn p (kick p (modRadio p (fun r => { r with guardUntil := none }) s))

/-- The envelope of a downlink (Table 2-9). The pause of Type A above 106 kbit/s is by ISO/IEC 14443-2. PRESUMED, unsafe: log entry 45. -/
def waveOf (s : State) (p : Nat) (tx : Tx) : Waveform :=
  let ask := pAttrN s A.txAskDepth p
  match tx.frame with
  | .hymond dl _ _ =>
    { bit := dlBitTicks dl, pause := 0, edge := nth [8, 6, 4, 2] (dl - 1) 8, depth := ask, tables := if dl == 4 then 2 else if dl == 3 then 1 else 0 }
  | .iso 0 rate _ => { bit := etu rate, pause := 64 / 2 ^ rate, edge := if rate == 0 then 12 else 6, depth := 1000, tables := 0 }
  | .iso 1 rate _ => { bit := etu rate, pause := 0, edge := 6, depth := ask, tables := 0 }
  | .iso _ _ _ => { bit := 0, pause := 256, edge := 12, depth := if pAttr s A.isoVDepth p == 0 then 1000 else ask, tables := 0 }

/-- Whether the window of a downlink is that of ISO/IEC 14443-3 Type A, on the grid of 256 ticks from the end of the reader frame (Table 4-4). -/
def onGrid (s : State) (p : Nat) (tx : Tx) : Bool :=
  match tx.frame, (port s p).task with
  | .iso 0 _ _, some { proc := .iso c, .. } => !(c.stage == .pps || c.stage == .block || c.stage == .deselect || c.stage == .failDeselect)
  | _, _ => false

/-- Arm T_B for an end of the window of the downlink that ends at `fin` (Table 4-4). The ticks are those the table states, 128 before and 512 after
the frame delay; the grid mode's own points lie elsewhere. DEDUCED, unsafe: log entry 68. -/
def armWindow (p action fire fin : Nat) (tx : Tx) (s : State) : State :=
  if onGrid s p tx then setGrid (tB p) action fire fin 256 s else setTimer (tB p) action fire s

/-- The downlink starts; the window that follows it is armed (R37). It does not start while the field is on a ramp (R39). -/
def startDownlink (p fire : Nat) (s : State) : State :=
  match (port s p).air.tx with
  | none => s
  | some tx =>
    let ph := (port s p).radio.phase
    if !(ph == .on || ph == .off) then modAir p (fun a => { a with armed := false }) s
    else
      let fin := fire + tx.dur
      let wave := waveOf s p tx
      let s := modAir p (fun a => { a with armed := false, started := fire, txEnd := some fin, wave := some wave }) s
      let s := if isReq tx then modIso p (fun i => { i with reqAt := some fire }) s else s
      match tx.window with
      | none => setTimer (tB p) 0x00 fin s
      | some (o, _, _) => armWindow p 0x04 (fin + o) fin tx s

/-- The window that no downlink opened. -/
def noWindow : Window := { mode := 0, fast := false, gain := 0, handle := 0, closeAt := 0 }

/-- T_B has fired. -/
def fireB (p action fire : Nat) (s : State) : State :=
  match action, (port s p).air.tx with
  | 0x03, _ => startDownlink p fire s
  | 0x04, some tx =>
    match tx.window with
    | none => s
    | some (_, c, m) =>
      let fin := (port s p).air.started + tx.dur
      let closeAt := fin + c
      armWindow p 0x05 closeAt fin tx (openWindow p tx m closeAt (trackMirror p s))
  | 0x05, _ => modAir p (fun a => { a with win := a.win.map fun w => { w with closed := true } }) s
  | 0x00, some _ => if (port s p).air.txEnd.isSome then deliver p noWindow none (.nothing false) fire (dpdUnheard p (trackMirror p s)) else s
  | _, _ => s

/-- The loading map of the H4 answer that a window waits for: the one that HY_RAW_FRAME carries in its payload, else the last that the port has formed
(R170, R252, R254). -/
def heldMap (s : State) (p : Nat) : List Nat :=
  match hyCmd s p with
  | some c =>
    if c.stage == .raw && c.reply == 4 then (List.range 16).map fun i => num c.data (4 + i / 2) 1 / 16 ^ (i % 2) % 16
    else (port s p).rx.loading
  | none => (port s p).rx.loading

/-- The tick at which the frame held in a window ends, once its header has passed: the sync ends 1024 ticks into a frame of H1 to H3 and 320
into one of H4 (R253, R254); a TREE frame carries pairs of half symbols (R269). -/
def heldEnd (s : State) (p : Nat) (h : Held) : Option Nat :=
  h.header.map fun hd =>
    if hMode hd == 4 then h.tick + ulTicks 4 (hLen hd) (heldMap s p) - 320
    else if hType hd == 12 then h.tick + 3072 + 64 * hLen hd - 1024
    else h.tick + ulTicks (hMode hd) (hLen hd) [] - 1024

/-- Whether the running command has computed a damped frame ahead that follows the answer it waits for, within port.qd.hold_us (R30, R101):
the frames of a sealed write and of CRED_WRITE, and what follows the ACK that asks for a descriptor. -/
def damsOn (s : State) (p : Nat) : Bool :=
  (port s p).air.win.isSome && pAttrN s A.hyTurnaroundTicks p ≤ usT (pAttrN s A.qdHoldUs p) &&
  match (port s p).task with
  | some { proc := .hy c, ending := none, .. } =>
    c.dl ≥ 3 && (match c.stage with
      | .preAck | .sealGen | .sealShadow | .credGen | .credShadow => true
      | .sealCork => pAttr s A.hySealVerify p == 1 && c.page < 0xF0
      | .credCork => mAttr s A.secCredVerify == 1
      | _ => false)
  | _ => false

/-- Action 0x07 of T_A: QD is released, unless a damped frame is still being received or the command's next damped frame follows (Table 2-10,
R101). DEDUCED, unsafe: log entry 61. -/
def releaseQd (p : Nat) (s : State) : State :=
  let a := (port s p).air
  let keep := modAir p (fun a => { a with qdDue := some s.now }) s
  if !a.qdPlan.isEmpty then armQd p (setQd p false s)
  else match (a.win.filter fun w => w.mode == 0x13 || w.mode == 0x14).bind (·.held) with
  | some h =>
    match heldEnd s p h with
    | none => keep
    | some e =>
      if s.now < e + 8 then armSoon (tA p) 0x07 (e + 8) s
      else if damsOn s p then keep else setQd p false s
  | none => setQd p false s

/-- T_A has fired. -/
def fireA (p action : Nat) (s : State) : State :=
  match action with
  | 0x00 => guardOver p s
  | 0x01 => startRamp p s
  | 0x02 => interruptField p s
  | 0x06 => armQd p (setQd p true s)
  | 0x07 => releaseQd p s
  | _ => s

/-- Whether a timer is due. -/
def timerDue (s : State) (n : Nat) : Bool := (timer s n).armed && (timer s n).fire ≤ s.now

/-- Release the action of a timer that is due. A Lens pulse carries a measurement and is released by LENS_PULSE. DESIGN CHOICE, unsafe: log entry 32.
DEDUCED, safe: log entry 33. -/
def fireOne (n : Nat) (s : State) : State :=
  if !timerDue s n then s
  else
    let t := timer s n
    let p := n / 3
    if n < 192 then
      if n % 3 == 0 then armRunEnd p (fireA p t.action (disarm n s))
      else if n % 3 == 1 then fireB p t.action t.fire (disarm n s)
      else if t.action == 0x08 then gridRun p s
      else s
    else s

/-- A timer fires. Timers of the same port that are due before it, or on the same tick with a lower letter, are released first (R39). -/
def timerFireRun (n : Nat) (s : State) : State :=
  let s := if n < 192 && n % 3 == 0 then armRunEnd (n / 3) s else s
  if !timerDue s n then s
  else
    let fire := (timer s n).fire
    let before := fun (m : Nat) => m / 3 == n / 3 && (timer s m).armed && ((timer s m).fire < fire || ((timer s m).fire == fire && m < n))
    let first := if n < 192 then ((List.range 3).map fun k => n / 3 * 3 + k).filter fun m => m != n && before m else []
    fireOne n (first.foldl (fun s m => fireOne m s) s)

/-! ### Elastic buffers (R43 to R45) -/

/-- The transmit elastic buffer runs empty during a frame (R43). -/
def underrunRun (p : Nat) (s : State) : State :=
  match (port s p).air.txEnd with
  | none => s
  | some _ =>
    let s := countEngine p s
    goOn p (if (port s p).task.isSome then stepFail p E.txUnderrun { port := p } s else passFail p E.txUnderrun (quietAir p s))

/-- The receive elastic buffer fills during a window: the frame under reception is rejected, and the search goes on (R44). DEDUCED, unsafe: log entry
41. -/
def overrunRun (p : Nat) (s : State) : State :=
  match (port s p).air.win with
  | none => s
  | some w =>
    let s := countEngine p s
    match w.held with
    | none => s
    | some h =>
      let (l, s) := loseFrame p E.rxOverrun w h none s
      let w := { w with held := none, bad := some l }
      if s.now ≥ w.closeAt then windowEnd p s.now w s else endQuiet p (modAir p (fun a => { a with win := some w }) s)

/-! ### Finding the frame (R151 to R159) -/

/-- Change the open window. -/
def modWin (p : Nat) (f : Window → Window) (s : State) : State := modAir p (fun a => { a with win := a.win.map f }) s

/-- A frame is dropped and counted as a false sync (R154). -/
def falseSync (p : Nat) (s : State) : State :=
  modWin p (fun w => { w with dropped := w.dropped + 1 }) (modRx p (fun r => { r with falseSync := inc32 r.falseSync }) s)

/-- Hold a frame. -/
def holdFrame (p : Nat) (h : Held) (s : State) : State := modWin p (fun w => { w with held := some h }) s

/-- The correlator declares a sync (R152, R153, R156 to R158). While a frame is being received it runs on past the tick of the close action
(R153, Table 3-4), which ends only the search for a first frame (R124). Its equaliser trains on the frame itself (R162, R165). A sync that is both
stronger by port.rx.capture_cdb and better correlated counts as a pre-emption alone. DEDUCED, unsafe: log entry 41. -/
def syncRun (p : Nat) (h4 : Bool) (errs corr : Nat) (strength : Int) (s : State) : State :=
  match (port s p).air.win with
  | none => s
  | some w =>
    let good := errs ≤ pAttrN s A.rxSyncErrors p && corr ≥ pAttrN s A.rxSyncThreshold p
    if (s.now > w.closeAt && w.held.isNone) || w.mode < 0x10 || (w.mode == 0x14) != h4 || !good then s
    else
      let x : Held := { tick := s.now, errs := errs, corr := corr, strength := strength, gain := w.gain, fast := w.fast, header := none,
                        eq := trainEq s.free (w.mode - 0x10) s.now, paths := pathWeights s s.free p }
      let s := drawn s
      match w.held with
      | none => holdFrame p x s
      | some h =>
        if strength ≥ h.strength + pAttr s A.rxCaptureCdb p then
          let x := { x with gain := nearestStep 0 (strength + 1000), fast := true }
          match h.header with
          | none => holdFrame p x (falseSync p s)
          | some _ =>
            let (l, s) := loseFrame p E.rxPreempted w h (some strength) s
            let s := modRx p (fun r => { r with preempted := inc32 r.preempted }) s
            holdFrame p x (modWin p (fun w => { w with lost := w.lost ++ [l] }) s)
        else if h.header.isNone && corr > h.corr then
          holdFrame p { x with gain := h.gain, fast := h.fast } (modWin p (fun w => { w with restarted := true }) (falseSync p s))
        else s

/-- The held frame leaves the window, and the gain goes back to the window's own; a window whose close tick has come ends (R124, R154, R158).
DEDUCED, unsafe: log entry 41. -/
def letGo (p : Nat) (f : Window → Window) (s : State) : State :=
  let s := modWin p (fun w => { f w with held := none }) s
  match (port s p).air.win with
  | some w => if s.now ≥ w.closeAt then windowEnd p (max w.closeAt s.now) w s else endQuiet p s
  | none => s

/-- The error of a header whose check has passed (R155). -/
def headerError (s : State) (p header : Nat) : Option Nat :=
  if hLen header > 2048 then some E.rxLength
  else if 1 ≤ hMode header && hMode header ≤ 4 && bit (hyEnabled s p) (hMode header + 3) then none
  else some E.rxMode

/-- A release of QD put off until the length of the held frame is known comes 8 ticks after its end (Table 2-10). -/
def dateQd (p : Nat) (h : Held) (s : State) : State :=
  match (port s p).air.qdDue, heldEnd s p h with
  | some t, some e => armSoon (tA p) 0x07 (max t (e + 8)) (modAir p (fun a => { a with qdDue := none }) s)
  | _, _ => s

/-- The verdict on a header (R154, R155). -/
def headerRun (p : Nat) (header check : Nat) (s : State) : State :=
  match (port s p).air.win with
  | none => s
  | some w =>
    match w.held with
    | none => s
    | some h =>
      if w.mode < 0x10 || h.header.isSome then s
      else if check != crc16 (le 6 header) then letGo p id (falseSync p s)
      else
        let h := { h with header := some header, eq := headerEq s.free (hMode header) h.eq }
        let s := drawn s
        match headerError s p header with
        | none => holdFrame p h (dateQd p h s)
        | some code =>
          let (l, s) := loseFrame p code w h none s
          letGo p (fun w => { w with bad := some l }) s

/-- An ISO start of frame (R159). A port whose field-on floor has not been measured sets no threshold. DEDUCED, unsafe: log entry 41. -/
def sofRun (p : Nat) (energy strength : Int) (s : State) : State :=
  match (port s p).air.win with
  | none => s
  | some w =>
    let enough := match (port s p).rx.noiseField with
      | some f => energy ≥ f + 900
      | none => true
    if s.now > w.closeAt || w.mode ≥ 0x10 || w.held.isSome || !enough then s
    else holdFrame p { tick := s.now, errs := 0, corr := 0, strength := strength, gain := w.gain, fast := w.fast, header := some 0,
                       paths := pathWeights s s.free p } (drawn s)

/-- One block of the fast AGC (R135). -/
def agcRun (p : Nat) (level : Int) (clipped : Bool) (s : State) : State :=
  modWin p (fun w =>
    if !w.fast || w.held.isSome || s.now > w.closeAt then w
    else if clipped then { w with gain := w.gain - 3 }
    else if level < -2600 || level > -800 then { w with gain := nearestStep w.gain level } else w) s

/-! ### The verdict (R160, R169, R173 to R176) -/

/-- What a frame with a payload gives (R174, R245, R247). -/
def hyVerdict (header : Nat) : RxFrame → Option (Nat × RxOut)
  | .hymond payload check =>
    if payload.length != hLen header || check != crc32c (le 6 header ++ payload) then some (E.rxCrc, .rejected E.rxCrc header)
    else if 9 ≤ hType header && hType header ≤ 11 then some (0, .hymond header payload 0)
    else some (E.hyFrame, .rejected E.hyFrame header)
  | .tree pairs =>
    if hType header == 12 then
      let r := treeBits (pairs.take (hLen header))
      some (0, .tree header r.1 r.2)
    else some (E.hyFrame, .rejected E.hyFrame header)
  | .iso .. => none

/-- What an ISO frame gives to the running command: its code and the result (R160, R174, R190, R191, R203). -/
def isoOut (s : State) (p : Nat) : RxFrame → Option (Nat × RxOut)
  | .iso bits coll coding =>
    match (port s p).task with
    | some { proc := .iso c, .. } =>
      let (code, pos, d, k) := isoVerdict s p c bits coll coding
      if code == 0 || (code == E.rxCollision && (c.stage == .raw || c.stage == .aAnti)) then some (code, .iso d k none 0) else some (code, .rejected code pos)
    | _ => none
  | _ => none

/-- The result with its strength. -/
def withStrength (x : Int) : RxOut → RxOut
  | .hymond h p _ => .hymond h p x
  | .iso b k c _ => .iso b k c x
  | o => o

/-- The receive status, the counters, the level record and the signal estimate of a frame; then its result goes on. A frame rejected by R191 or R247
carries that rule's code in its status. DESIGN CHOICE, unsafe: log entry 75. -/
def judge (p : Nat) (w : Window) (h : Held) (m : RxMeas) (envEvm code : Nat) (out : RxOut) (s : State) : State :=
  let strength := strengthOf w h m
  let rx := rxStatus s p code w h strength m none
  let handle := if w.mode < 0x10 then 0 else hHandle (h.header.getD 0)
  let s := modRx p (fun r => { r with crcFail := if code == E.rxCrc then inc32 r.crcFail else r.crcFail }) s
  let s := noteLevel p (if code == 0 then handle else w.handle) (code == 0) w h m (noteFrame p w h m s)
  let s := if lastDl s p ≥ 3 then dpdAfter p envEvm s else s
  deliver p w (some rx) (withStrength strength out) (min m.endTick s.now) s

/-- The verdict on a tag frame at its end (R173). A frame that does not fit what is held is no event of this port. -/
def verdictRun (p : Nat) (f : RxFrame) (m : RxMeas) (envEvm : Nat) (s : State) : State :=
  match (port s p).air.win with
  | none => s
  | some w =>
    match w.held with
    | none => s
    | some h =>
      match h.header with
      | none => s
      | some hd =>
        match (if w.mode < 0x10 then isoOut s p f else hyVerdict hd f) with
          | none => s
          | some (code, out) => judge p w h m envEvm code out s

/-- A window closes without a frame (R123, R177). -/
def windowCloseRun (p : Nat) (s : State) : State :=
  match (port s p).air.win with
  | none => s
  | some w =>
    if s.now < w.closeAt || w.held.isSome then s else windowEnd p w.closeAt { w with closed := true } s

/-! ### The wait of R278 -/

/-- The waits of a port that have ended (R278, R309). -/
def busyRun (p : Nat) (s : State) : State :=
  let s := modPort p (fun x => { x with parked := x.parked.map fun k => if k.ready ≤ s.now then { k with waited := true } else k }) s
  goOn p (resumeParked p s)

end Sys2Proof.Machine
end

