-- ==== Sys2Proof/Machine/LensOps.lean ====
section
/-!
DEFINITION. A measurement of Lens: the detuning, the wake of the slice for a pulse, and LENS_MEASURE's work (R332 to R334, R340, R346).
-/

namespace Sys2Proof.Machine

/-! ### Detuning (R334) -/

/-- The square of the magnitude of a complex value. -/
def normSq (z : Cpx) : Nat := mag z.1 * mag z.1 + mag z.2 * mag z.2

/-- A measurement in the units of the references, 1/65536 of its own. -/
def lensUnits (m : Cpx) : Cpx := (m.1 * 65536, m.2 * 65536)

/-- The greatest number below 2^64 whose square times `k` is at most `x`. -/
def rootOver (k x : Nat) : Nat :=
  (List.range 64).foldr (fun i n => if (n + 2 ^ i) * (n + 2 ^ i) * k ≤ x then n + 2 ^ i else n) 0

/-- Twice the detuning d = |m − r| / |r| in units of 0.01 %, rounded down: d ≥ t exactly when this is at least 2t, and d < t/2 exactly when
it is less than t. Against a reference of zero the spec gives no value: a free value (R334). -/
def detune2 (n : Nat) (m r : Cpx) : Nat :=
  let x := lensUnits m
  if normSq r == 0 then Config.lensRatio n else rootOver (normSq r) (400000000 * normSq (x.1 - r.1, x.2 - r.2))

/-- The detuning as its 16-bit field; beyond the field a free value (R334). -/
def detuneWord (n d2 : Nat) : Nat := if d2 / 2 < 65536 then d2 / 2 else Config.lensRatio n % 65536

/-! ### A pulse (R63, R73, R332 to R334, R340) -/

/-- Change Lens on a port. -/
def modLens (p : Nat) (f : Lens → Lens) (s : State) : State := modPort p (fun x => { x with lens := f x.lens }) s

/-- A slice that rests below LISTEN wakes for the pulse: it walks Table 2-2 through STANDBY and SYNTH, with the calibration that finds its coarse band
margin, and stands in LISTEN; SLICE_TRANSITION_COMPLETE takes it back to where it rested (R63, R69, R334). DEDUCED, unsafe: log entry 43. -/
def pulseWake (now : Nat) (margin : Int) (x : Slice) : Slice :=
  if x.st != x.target || x.st.code ≥ 3 then x
  else
    let up := { x with target := .listen, calSince := if x.st == .standby then some now else x.calSince }
    let up := if x.st == .sleep then sliceStep now up else up
    let up := if up.st == .standby then lockSlice margin up else up
    { sliceStep now up with target := x.target }

/-- Whether a slice can send a pulse: it stands in LISTEN on a locked synthesiser, or rests below it and can wake (R73, R334). -/
def canPulse (x : Slice) : Bool :=
  (x.st == x.target && (x.st == .sleep || x.st == .standby)) || ((x.st == .listen || x.st == x.target) && x.locked && x.calSince.isNone)

/-- What a pulse does beside its measurement: the wake of the slice, 8 µs in the duty window, and the blanking of the Z8 detector (R332, R334, R340).
-/
def pulseTraces (p : Nat) (s : State) : State :=
  let fin := s.now + usT 8
  let s := modSlice p (pulseWake s.now (Config.bandMargin s.free p)) (drawn s)
  modPort p (fun x => { x with z8 := { x.z8 with blankUntil := fin + blankTicks } })
    (modRadio p (fun r => { r with spans := (s.now, fin) :: (r.spans.filter fun e => e.2 + 27120000 > s.now) }) s)

/-! ### LENS_MEASURE (R71, R73, R346, R460) -/

/-- What bars LENS_MEASURE on a port that has claimed Lens: a field, the cut, a withheld reserve, or an OFF run that never ends (R83, R346, R365,
R460). DEDUCED, unsafe: log entry 43. -/
def lensBar (s : State) (p : Nat) : Option (Nat × Detail) :=
  if (port s p).radio.phase != .off then some (E.portBusy, { port := p })
  else if interlocked s then some (E.interlock, { port := p })
  else if reserveWithheld s then some (E.pressTimeout, pressDetail s p 10)
  else if offRun s p then some (E.planInvalid, { port := p })
  else none

/-- The work of LENS_MEASURE: its code and its body. The measurement is a free value (R346). DEDUCED, unsafe: log entry 43. -/
def lensMeasureWork (p : Nat) (s : State) : Nat × Bytes × State :=
  match lensBar s p with
  | some (code, d) => (code, d.bytes p, s)
  | none =>
    let n := s.free
    let m : Cpx := (signed 16 (Config.lensSample n p 0 % 65536).toNat, signed 16 (Config.lensSample n p 1 % 65536).toNat)
    let d := detuneWord n (detune2 n m (port s p).lens.base)
    (0, leI 2 m.1 ++ leI 2 m.2 ++ le 2 d ++ [0, 0], pulseTraces p (modLens p (fun l => { l with last := m }) (drawn s)))

end Sys2Proof.Machine
end

