-- ==== Sys2Proof/Machine/RadioRun.lean ====
section
/-!
DEFINITION. The port radio: the commands of Table 8-10, the slices, the ramps, Press, the aerial identity, the noise floors, Mirror training, and
what a transaction boundary does (02, 03).
-/

namespace Sys2Proof.Machine

/-! ### Holding ports (R146, R546) -/

/-- A port may take commands again, unless a firmware activation, a Mirror training or a swap still holds it. -/
def unhold (p : Nat) (s : State) : State :=
  let fw := match s.act with | some a => bit a.held p | none => false
  let mir := match s.mirrorJob with | some j => bit j.held p | none => false
  let swap := s.spares.swaps.any fun x => bit x.held p
  goOn p (modPort p (fun x => { x with held := fw || mir || swap }) s)

/-- Change the Mirror job. -/
def modMirror (f : MirrorJob → MirrorJob) (s : State) : State := { s with mirrorJob := s.mirrorJob.map f }

/-- The Mirror training ends: the grant is credited, and the ports resume their queues (R146). -/
def endMirror (s : State) : State :=
  match s.mirrorJob with
  | none => s
  | some j =>
    let s := { s with
      mirrorJob := none, press := { s.press with waiting := s.press.waiting.filter fun r => r.kind != .train } }
    let s := if j.granted then
        (portsOf j.ports).foldl (fun s q => modRadio q (fun r => { r with auxMw := r.auxMw - 10 }) s) s
      else s
    (portsOf j.held).foldl (fun s q => unhold q s) s

/-- MIRROR_TRAIN fails (R146). -/
def failMirror (code : Nat) (d : Detail) (s : State) : State :=
  match s.mirrorJob with
  | none => s
  | some j => endMirror (fail j.hdr 0x25 code d s)

/-- Every port of the mask is held: Press is asked for 10 mW per port at priority 7 (R146). DEDUCED, unsafe: log entry 38. -/
def askMirror (s : State) : State :=
  match s.mirrorJob with
  | none => s
  | some j =>
    let ps := portsOf j.ports
    let mw := 10 * ps.length
    let p := ps.headD 0
    let r : PressReq := ⟨p, mw, 7, s.now, s.now + j.timeout, .train⟩
    let q := reqInsert r s.press.waiting
    if ps.isEmpty then endMirror (ok j.hdr 0x25 (le 8 0) s)
    else if q.head? == some r && pressFits s mw then grant r { s with press := { s.press with waiting := q } }
    else if j.timeout == 0 then failMirror E.pressTimeout (pressDetail s p mw) s
    else { s with press := { s.press with waiting := q } }

/-- A field stands on a port, by itself or by its set. -/
def portFielded (s : State) (p : Nat) : Bool := (port s (leadOf s p)).radio.phase != .off

/-- Mirror takes a port at its boundary, that of its set; a port that has a field then ends the command (R146, R323). -/
def holdMirror (p : Nat) (s : State) : State :=
  match s.mirrorJob with
  | none => s
  | some j =>
    if !bit j.ports p || bit j.held p || !atBoundary s (leadOf s p) then s
    else if portFielded s p then failMirror E.portBusy { port := p } s
    else
      let held := j.held ||| 2 ^ p
      let s := modPort p (fun x => { x with held := true }) (modMirror (fun j => { j with held := held }) s)
      if held == j.ports then askMirror s else s

/-! ### Noise (R137 to R140, R168) -/

/-- The running mean of weight 1/8, rounded down; the first measurement stands as it is. -/
def mean8 (old : Option Int) (x : Int) : Int := match old with | none => x | some o => (7 * o + x) / 8

/-- A field-on measurement enters the floor, and is held against the alarm level; EV_NOISE_HIGH carries the floor (R137, R139, Table 3-16). -/
def noteField (p : Nat) (level : Int) (s : State) : State :=
  let alarm := pAttr s A.rxNoiseAlarmCdbm p
  let x := (port s p).rx
  let run := if level > alarm then x.noiseRun + 1 else 0
  let told := x.noiseTold && level > alarm - 300
  let tell := run ≥ 3 && !told
  let s := modRx p (fun r => { r with
    noiseField := some (mean8 r.noiseField level), noiseFieldAt := some s.now, noiseRun := run, noiseTold := told || tell }) s
  if tell then raise Ev.noiseHigh p (leI 2 (mean8 x.noiseField level)) s else s

/-- A field-off measurement enters the floor (R137). -/
def noteOff (p : Nat) (level : Int) (s : State) : State :=
  modRx p (fun r => { r with noise := some (mean8 r.noise level), noiseAt := some s.now }) s

/-- A measurement of the subcarriers enters the H4 profile (R168). -/
def noteProfile (p : Nat) (xs : List Int) (s : State) : State :=
  modRx p (fun r => { r with profile := some (match r.profile with
    | none => xs
    | some old => List.zipWith (fun o x => mean8 (some o) x) old xs) }) s

/-- MEASURE_NOISE measures on one port: the readings are free values. DEDUCED, safe: log entry 42. -/
def measureOne (p : Nat) (s : State) : Bytes × State :=
  let n := s.free
  let on := (port s (leadOf s p)).radio.phase == .on
  let off := Config.noise n p 0
  let fld := Config.noise n p 1
  let prof := (List.range 16).map fun k => Config.noise n p (k + 2)
  let s := drawn s
  let s := if on then noteField p fld s else noteOff p off s
  ([b8 p, 0] ++ leI 2 off ++ leI 2 (if on then fld else -32768) ++ [0, 0] ++ (prof.map (leI 2)).flatten, noteProfile p prof s)

/-- Put a record of a list into the order of the ports. -/
def insertRec (x : Nat × Bytes) : List (Nat × Bytes) → List (Nat × Bytes)
  | [] => [x]
  | y :: ys => if x.1 < y.1 then x :: y :: ys else y :: insertRec x ys

/-- MEASURE_NOISE is answered once every port of its mask has measured (R140). -/
def endNoise (s : State) : State :=
  match s.noiseJob with
  | none => s
  | some j => if j.waiting != 0 then s else respondList j.hdr 0x24 40 (j.recs.map (·.2)) { s with noiseJob := none }

/-- A port of MEASURE_NOISE's mask measures at its boundary, that of its set (R140, R323). -/
def noiseAt (p : Nat) (s : State) : State :=
  match s.noiseJob with
  | none => s
  | some j =>
    if !bit j.waiting p || !atBoundary s (leadOf s p) then s
    else
      let (r, s) := measureOne p s
      endNoise { s with noiseJob := some { j with waiting := j.waiting ^^^ 2 ^ p, recs := insertRec (p, r) j.recs } }

/-- MEASURE_NOISE (R140). -/
def measureNoiseRun (h : Hdr) (ports : Nat) (s : State) : State :=
  let s := { s with noiseJob := some ⟨h, ports, []⟩ }
  endNoise ((portsOf ports).foldl (fun s p => noiseAt p s) s)

/-- MIRROR_TRAIN (R146). -/
def mirrorTrainRun (h : Hdr) (ports timeoutUs : Nat) (s : State) : State :=
  if interlocked s then fail h 0x25 E.interlock {} s
  else match (portsOf ports).find? (portFielded s) with
  | some p => fail h 0x25 E.portBusy { port := p } s
  | none =>
    let s := { s with mirrorJob := some { hdr := h, ports := ports, held := 0, timeout := usT timeoutUs } }
    if ports == 0 then askMirror s
    else (portsOf ports).foldl (fun s p => holdMirror p s) s

/-- The training has run: the couplings measured into the ports of the mask, from each other and from the fields that stand outside it, take their
places in the matrix, and the command is answered (R145, R146). -/
def trainingRun (coupling : List (Nat × Nat × Int)) (s : State) : State :=
  match s.mirrorJob with
  | none => s
  | some j =>
    if !j.granted || s.mod.st == .doze then s
    else
      let live := fun (a : Nat) => bit j.ports a || (sliceAt s a).st == .field
      let mine := coupling.filter fun e => e.1 != e.2.1 && live e.1 && bit j.ports e.2.1
      let keep := s.coupling.filter fun e => !(mine.any fun x => x.1 == e.1 && x.2.1 == e.2.1)
      let s := trainFilters mine s
      endMirror (ok j.hdr 0x25 (le 8 j.ports)
        { s with coupling := keep ++ mine, mod := { s.mod with trained := s.mod.trained ||| j.ports } })

/-- A periodic noise measurement: field on, in a stretch of at least 80 µs of unmodulated carrier outside windows, of 100 µs where it forms the
profile too (R137, R168). -/
def noiseRun (p : Nat) (fieldOn : Bool) (level : Int) (profile : Option (List Int)) (s : State) : State :=
  let x := port s p
  let l := port s (leadOf s p)
  let still := fun (us : Nat) => s.now ≥ l.air.idleSince + usT us
  let due := fun (t : Option Nat) (ms : Nat) => match t with | none => true | some a => s.now ≥ a + msT ms
  if s.mod.st != .service || !listening s p then s
  else if fieldOn then
    if l.radio.phase != .on || l.air.txEnd.isSome || l.air.win.isSome || !still 80 || !due x.rx.noiseFieldAt 10 then s
    else
      let s := noteField p level s
      match profile with
      | some xs => if xs.length == 16 && still 100 then noteProfile p xs s else s
      | none => s
  else if l.radio.phase != .off || l.radio.want.isSome || l.task.isSome || !due x.rx.noiseAt 100 then s
  else noteOff p level s

/-! ### Calibrations (R106 to R108, R120) -/

/-- TN_MV and PHASE of the answers of AUTOTUNE and CALIBRATE_RADIO. -/
def tuneBody (s : State) (p : Nat) : Bytes := le 2 (port s p).radio.tnMv ++ leI 2 (port s p).radio.tunePhase

/-- A full auto-tune on command; whether it found the resonance on every port of the set. A drift stays due where it did not (R106, R107). -/
def tuneNow (p : Nat) (s : State) : Bool × State :=
  let (bad, s) := autotune p s
  (bad.isEmpty, prismTnCheck p (tuneRan p bad.isEmpty (adaptSet true p s)))

/-- What bars the probes that a tuning or a calibration of the PA gain needs: the cut where no field stands, and a withheld reserve (R83, R365). -/
def probeBar (s : State) (p : Nat) : Option (Nat × Detail) :=
  if (port s p).radio.phase == .off && interlocked s then some (E.interlock, { port := p })
  else if reserveWithheld s then some (E.pressTimeout, pressDetail s p 10) else none

/-- The work of AUTOTUNE: its code and its body (R106, R108). -/
def autotuneWork (p : Nat) (s : State) : Nat × Bytes × State :=
  match probeBar s p with
  | some (code, d) => (code, d.bytes p, s)
  | none =>
    let (found, s) := tuneNow p s
    if found then (0, tuneBody s p, s) else (E.tuneRange, ({ port := p } : Detail).bytes p, s)

/-- A slice of a port or of its set is not in LISTEN on a locked synthesiser, so that nothing can be transmitted (R71, R73). -/
def notReady (s : State) (p : Nat) : Bool := !(group s p).all (listening s)

/-- The slices of a port or of its set go to LISTEN for a command that needs them (R63, R71). -/
def wakeSlices (p : Nat) (s : State) : State :=
  (group s p).foldl (fun s q => if (sliceAt s q).st == .field then s else aim q .listen s) s

/-- A command stands in the slice's pending slot until the synthesiser has locked and the slice can transmit (R71, R73). -/
def pendTask (h : Hdr) (op p : Nat) (s : State) : State :=
  wakeSlices p (modPort p (fun x => { x with task := some { hdr := h, op := op, proc := .pending s.now } }) s)

/-- AUTOTUNE (R71, R106, R108). TN belongs to the feature only with port.tn.autotune on (R59, R104, Table 1-11). -/
def autotuneRun (h : Hdr) (p : Nat) (s : State) : State :=
  if pAttr s A.tnAutotune p == 0 then fail h 0x22 E.resourceNotOwned { port := p } s
  else if (probeBar s p).isNone && notReady s p then pendTask h 0x22 p s
  else
    let (code, body, s) := autotuneWork p s
    respond h 0x22 code body (settle p s)

/-- The synthesiser step of CALIBRATE_RADIO begins (R120). -/
def calSynth (p : Nat) (s : State) : State :=
  match (port s p).radio.phase with
  | .off => (group s p).foldl (fun s q =>
      if (sliceAt s q).st.code ≥ 2 then recal q (sliceAt s q).channel s else aim q .synth s) s
  | .falling false => s
  | _ => rampDown p true (modRadio p (fun r => { r with newChannel := some (r.newChannel.getD (sliceAt s p).channel) }) s)

/-- The PA gain tables of a port or its set are calibrated by probes, where the loop answers within its band; a slice whose loop does not counts
towards its PA monitor (R91, R120). The answer is the code with which the step fails. -/
def paWork (p : Nat) (s : State) : Option (Nat × Detail) × State :=
  match probeBar s p with
  | some e => (some e, s)
  | none =>
    let n := s.free
    let bad := (group s p).filter fun q => !Config.paProbeOk n q
    let s := (group s p).foldl (fun s q =>
      if bad.contains q then countWear 2 (sliceOf s q) s
      else modRadio q (fun r => { r with paDue := false }) (modSlice q (fun x => { x with paCal := true }) s)) (drawn s)
    (if bad.isEmpty then none else some (E.paLoop, { port := p }), s)

/-- The steps of CALIBRATE_RADIO still to run, in bit order; those that transmit wait for the synthesiser and for LISTEN (R71, R73, R120). -/
def calNext (p : Nat) (s : State) : State :=
  match (port s p).task with
  | some { proc := .calibrate mask evm, .. } =>
    let put := fun (m : Nat) => modTask p (fun t => { t with proc := .calibrate m evm })
    if bit mask 0 then calSynth p s
    else if (bit mask 1 || bit mask 3) && (probeBar s p).isNone && notReady s p then wakeSlices p s
    else
      let (bad, s) := if bit mask 1 then paWork p s else (none, s)
      match bad with
      | some (code, d) => settle p (taskFail p code d s)
      | none =>
      let s := put (mask &&& 0xC) s
      if bit mask 2 && (port s p).radio.phase == .on then modRadio p (fun r => { r with dpdDue := true }) s
      else
        let s := if bit mask 2 then modRadio p (fun r => { r with dpdDue := true }) s else s
        match if bit mask 3 then probeBar s p else none with
        | some (code, d) => settle p (taskFail p code d s)
        | none =>
        let (found, s) := if bit mask 3 then tuneNow p s else (true, s)
        let s := adaptSet true p s
        settle p (if found then taskOk p (tuneBody s p ++ le 2 evm ++ [0, 0]) s else taskFail p E.tuneRange { port := p } s)
  | _ => s

/-- Clear the finished step of CALIBRATE_RADIO and go on. -/
def calStepDone (p b evm : Nat) (s : State) : State :=
  match (port s p).task with
  | some { proc := .calibrate mask e, .. } =>
    if !bit mask b then s
    else goOn p (calNext p (modTask p (fun t => { t with proc := .calibrate (mask ^^^ 2 ^ b) (if b == 2 then evm else e) }) s))
  | _ => s

/-- CALIBRATE_RADIO (R120). Its tuning needs the claim on TN as AUTOTUNE does (R59, R104). -/
def calibrateRun (h : Hdr) (p mask : Nat) (s : State) : State :=
  if bit mask 3 && pAttr s A.tnAutotune p == 0 then fail h 0x23 E.resourceNotOwned { port := p } s
  else calNext p (modPort p (fun x => { x with task := some { hdr := h, op := 0x23, proc := .calibrate mask 0 } }) s)

/-- The pre-distortion tables have been learnt (R95, R96, R98); the bursts end the stretch of plain carrier (R137). -/
def dpdRun (p : Nat) (amp phase taps : List Int) (evm : Nat) (s : State) : State :=
  let l := (leadIn s s.cfg.running p).getD p
  let x := port s p
  let cal := match x.task with | some { proc := .calibrate m _, .. } => bit m 2 && !bit m 0 | _ => false
  if !x.radio.dpdDue || (port s l).radio.phase != .on || !(atBoundary s l || cal) then s
  else
    let power := (port s p).radio.power
    let s := modSlice p (fun y => { y with
      dpdAmp := amp, dpdPhase := phase, dpdTaps := taps, dpdPower := some power, evm := evm, learnEvm := evm, evmRun := 0 })
      (modAir l (fun a => { a with idleSince := s.now }) s)
    calStepDone p 2 evm (modRadio p (fun r => { r with dpdDue := false }) s)

/-! ### Field commands (R71, R78, R115, R226, R304, R603) -/

/-- FIELD_ON (R78). -/
def fieldOnRun (h : Hdr) (p : Nat) (s : State) : State :=
  if (port s p).radio.phase == .on then ok h 0x20 [] s
  else
    let s := modPort p (fun x => { x with task := some { hdr := h, op := 0x20, proc := .fieldOn } }) s
    match askField p s with
    | (none, s) => s
    | (some (code, d), s) => settle p (taskFail p code d s)

/-- The running command ends with a code at the end of the frame on the air, or at once (R226, R399). DEDUCED, unsafe: log entry 39. -/
def endRunning (p code : Nat) (s : State) : State :=
  let x := port s p
  match x.task with
  | none => s
  | some t =>
    if t.ofPass then s
    else if !frameOnAir s p then taskFail p code { port := p } s
    else
      let s := modTask p (fun t => { t with ending := some code }) s
      match x.air.txEnd with
      | some e => if x.air.win.isNone then armSoon (tB p) 0x00 e s else s
      | none => s

/-- FIELD_OFF acts on the command that runs, is pending or waits in Press, on the pass and on the field, and is answered once there is no
field (R71, R113, R115, R226, R304, R603). DEDUCED, unsafe: log entry 39. -/
def fieldOffRun (h : Hdr) (p : Nat) (s : State) : State :=
  let parked := (port s p).parked.filter fun k => !k.task.ofPass
  let s := parked.foldl (fun s k => failParked p E.cancelled { port := p } k s) s
  let s := modPort p (fun x => { x with parked := x.parked.filter (·.task.ofPass) }) s
  let s := match (port s p).task with
    | some { proc := .fieldOn, ofPass := false, .. } => taskFail p E.cancelled { port := p } (if (port s p).radio.phase == .off then dropWant p s else s)
    | some _ => endRunning p E.cancelled s
    | none => s
  let s := pressDrop p s
  let s := if (port s p).pass.isSome then stopPass p E.cancelled s else s
  let x := port s p
  if x.radio.phase == .off && x.task.isNone && x.pass.isNone then goOn p (driveCommit [p] (ok h 0x21 [] (settle p (dropWant p s))))
  else goOn p (modRadio p (fun r => { r with offHdrs := r.offHdrs ++ [h] }) s)

/-! ### Slices and ramps (R63, R69 to R74, R78 to R81) -/

/-- The work of PRISM_CALIBRATE: its code and its body (R327, R328). -/
def prismCalWork (p : Nat) (s : State) : Nat × Bytes × State :=
  if interlocked s then (E.interlock, ({ port := p } : Detail).bytes p, s)
  else if reserveWithheld s then (E.pressTimeout, (pressDetail s p 10).bytes p, s)
  else
    let s := prismCal p s
    if (port s p).prism.failed then (E.prismPhase, ({ port := p } : Detail).bytes p, s)
    else (0, ((port s p).prism.err.map (leI 2)).flatten, s)

/-- The command in the slice's pending slot goes on once the slices of its port can transmit (R71, R73). -/
def runPending (p : Nat) (s : State) : State :=
  if notReady s p then s
  else match (port s p).task with
  | some { proc := .pending _, op := op, .. } =>
    let (code, body, s) := if op == 0x88 then prismCalWork p s else if op == 0x91 then lensMeasureWork p s else autotuneWork p s
    goOn p (endTask p code body s)
  | some { proc := .calibrate m _, .. } => if (port s p).radio.phase == .off && !bit m 0 then goOn p (calNext p s) else s
  | _ => s

/-- A slice's transition completes; a command or a ramp up that waits for it goes on (R63, R71, R78). -/
def sliceRun (p : Nat) (s : State) : State :=
  let now := s.now
  let l := (leadIn s s.cfg.running p).getD p
  tryArm l (runPending l (modSlice p (sliceStep now) s))

/-- The synthesiser of a port's slice has locked (R69, R71, R327). -/
def lockRun (p : Nat) (margin : Int) (s : State) : State :=
  let x := sliceAt s p
  if x.calSince.isNone then s
  else
    let l := (leadIn s s.cfg.running p).getD p
    let s := modSlice p (lockSlice margin) s
    let s := if (group s l).all fun q => (sliceAt s q).locked then prismCal l s else s
    let all := (group s l).all fun q => (sliceAt s q).locked && (sliceAt s q).calSince.isNone
    let cal := match (port s l).task with | some { proc := .calibrate m _, .. } => bit m 0 | _ => false
    let s := if !all then s else if cal then (if (port s l).radio.phase == .off then calStepDone l 0 0 s else s) else runPending l s
    tryArm l s

/-- A synthesiser that has not locked in time fails the command that waits for it, and the field stays off (R72). DEDUCED, unsafe: log entry 37. -/
def lockTimeoutRun (p : Nat) (s : State) : State :=
  let l := (leadIn s s.cfg.running p).getD p
  let r := (port s l).radio
  match (sliceAt s p).calSince with
  | none => s
  | some since =>
    let slot := match (port s l).task with | some { proc := .pending t, .. } => t | _ => 0
    let from_ := max slot (match r.want with | some w => max since w.since | none => since)
    let waits := r.want.isSome || r.phase == .gap
      || (match (port s l).task with | some { proc := .calibrate _ _, .. } => true | some { proc := .pending _, .. } => true | _ => false)
    if !waits || s.now < from_ + usT 100 then s
    else
      let s := modSlice p (fun x => { x with target := .standby, calSince := none, locked := false, failAt := some s.now }) s
      let s := pressDrop l s
      let s := if (port s l).task.isSome then taskFail l E.synthUnlocked { port := l } s else s
      goOn l (if r.phase == .gap then fieldEnded l s else settle l (dropWant l s))

/-- The lock monitor has removed PA drive (R73, R74). -/
def lockLostRun (p : Nat) (phaseErr : Int) (s : State) : State :=
  let l := (leadIn s s.cfg.running p).getD p
  let ph := (port s l).radio.phase
  if mag phaseErr ≤ 800 || !(ph == .on || ph == .rising || ph == .falling true || ph == .falling false) then s
  else
    let s := abortWork l E.synthUnlocked { port := l } s
    let s := cutField l s
    let s := modSlice p (fun x => { x with locked := false, calSince := some s.now, lossAt := some s.now }) s
    goOn l (raise Ev.synthLockLost p (leI 2 phaseErr) s)

/-- The field has reached its set amplitude (R80): FIELD_ON is answered. DESIGN CHOICE, safe: log entry 4. -/
def rampUpRun (p : Nat) (s : State) : State :=
  if (port s p).radio.phase != .rising then s
  else
    let s := fieldUp p s
    let s := tellBack p (if (port s p).prism.calibrated then s else prismCal p s)
    let s := match (port s p).task with
      | some { proc := .fieldOn, .. } => taskOk p [] s
      | _ => s
    goOn p (lateChannel p (calStepDone p 0 0 s))

/-- A ramp down completes: the field has ended, and a commit that waited for the FIELD_OFF goes on; or it comes back after its gap, while in an OFF
run the slices rest (R58, R65, R70, R81, R113, R468). -/
def rampDownRun (p : Nat) (s : State) : State :=
  match (port s p).radio.phase with
  | .falling true =>
    let s := fieldDown p (modRadio p (fun r => { r with phase := .gap }) s)
    match channelNow s p with
    | none => restOff p s
    | some ch =>
      if runClosing s p then s else
      let ch := (port s p).radio.newChannel.getD ch
      resumeField p (retune p ch (modRadio p (fun r => { r with newChannel := none }) s))
  | .falling false =>
    let s := driveCommit [p] (fieldEnded p s)
    match (port s p).task with
    | some { proc := .fieldOn, .. } =>
      match askField p s with
      | (none, s) => s
      | (some (code, d), s) => goOn p (taskFail p code d s)
    | some { proc := .calibrate _ _, .. } => goOn p (calNext p s)
    | _ => goOn p s
  | _ => s

/-- The field-off minimum has elapsed (R81). -/
def offMinRun (p : Nat) (s : State) : State :=
  match (port s p).radio.offUntil with
  | none => s
  | some u => if s.now < u then s else tryArm p (modRadio p (fun r => { r with offUntil := none }) s)

/-! ### Press (R114, R115, R118) -/

/-- The head of the order is granted if it fits (R114). -/
def grantRun (s : State) : State :=
  match s.press.waiting with
  | [] => s
  | r :: _ =>
    if !pressFits s r.mw then s
    else
      let s := grant r s
      if r.kind == .raise then goOn r.port (driveCommit [r.port] (applySet r.port true s)) else s

/-- The tone of a port ends, with a code: its grant is credited, or its request leaves Press (R470). -/
def endTone (p code : Nat) (d : Detail) (s : State) : State :=
  match (port s p).tone with
  | none => s
  | some t =>
    let s := { s with press := { s.press with waiting := s.press.waiting.filter fun r => r.port != p || r.kind != .tone } }
    let s := modPort p (fun x => { x with tone := none }) (if t.granted then modRadio p (fun r => { r with auxMw := r.auxMw - 10 }) s else s)
    if code == 0 then ok t.hdr 0xA3 [] s else fail t.hdr 0xA3 code d s

/-- A request that has waited too long fails (R113, R115, R146, R470). -/
def pressTimeoutRun (p : Nat) (s : State) : State :=
  match s.press.waiting.find? fun r => r.port == p && r.deadline ≤ s.now with
  | none => s
  | some r =>
    let s := { s with press := { s.press with waiting := s.press.waiting.filter (· != r) } }
    let d := pressDetail s p r.mw
    match r.kind with
    | .raise => goOn p (driveCommit [p] (applySet p false s))
    | .tone => endTone p E.pressTimeout d s
    | .train => failMirror E.pressTimeout d s
    | .field =>
      let s := modRadio p (fun x => { x with want := none }) s
      goOn p (settle p (if (port s p).task.isSome then taskFail p E.pressTimeout d s else s))

/-- A grant as Press sheds it: that of a field, of a calibration tone or of the Mirror training, the last two at priority 7 (R118, R146, R470). -/
structure ShedGrant where
  ports : List Nat
  prio : Int
  no : Nat
  mw : Nat
  kind : ReqKind

/-- The grants that stand. -/
def grantsNow (s : State) : List ShedGrant :=
  ((List.range 64).filterMap fun p => let r := (port s p).radio
    if r.grantMw > 0 then some ⟨[p], pAttr s A.pressPriority p, r.grantNo, r.grantMw, .field⟩ else none)
  ++ ((List.range 64).filterMap fun p => if ((port s p).tone.map (·.granted)).getD false then some ⟨[p], 7, (port s p).radio.auxNo, 10, .tone⟩ else none)
  ++ (match s.mirrorJob with
    | some j => if j.granted then [⟨portsOf j.ports, 7, (port s ((portsOf j.ports).headD 0)).radio.auxNo, 10 * (portsOf j.ports).length, .train⟩] else []
    | none => [])

/-- The order in which Press sheds: the lowest priority first, then the most recent grant (R118). -/
def shedBefore (a z : ShedGrant) : Bool := a.prio < z.prio || (a.prio == z.prio && a.no > z.no)

/-- Put a grant into that order. -/
def shedInsert (g : ShedGrant) : List ShedGrant → List ShedGrant
  | [] => [g]
  | x :: xs => if shedBefore g x then g :: x :: xs else x :: shedInsert g xs

/-- Shed grants from a list until the rest fits: the grants shed, and the total granted that remains. -/
def shedList (s : State) : Nat → List ShedGrant → List ShedGrant × Nat
  | total, [] => ([], total)
  | total, g :: gs =>
    if total ≤ pressAvailable s then ([], total)
    else let r := shedList s (total - g.mw) gs; (g :: r.1, r.2)

/-- One grant is shed: the field goes down and its work fails; a training or a tone ends with its grant (R118). -/
def shedOne (g : ShedGrant) (s : State) : State :=
  let p := g.ports.headD 0
  let d := pressDetail s p g.mw
  match g.kind with
  | .field | .raise => goOn p (failField p E.pressShed d s)
  | .tone => endTone p E.pressShed d s
  | .train => failMirror E.pressShed d s

/-- Press sheds down to the power now available (R118). -/
def shedRun (s : State) : State :=
  let (gs, left) := shedList s (pressGranted s) ((grantsNow s).foldr shedInsert [])
  if gs.isEmpty then s
  else raise Ev.pressShed 0xFF (le 8 (maskOf (gs.flatMap (·.ports)).eraseDups) ++ le 4 left) (gs.foldl (fun s g => shedOne g s) s)

/-! ### What ends a field (R77, R83 to R85, R90, R91) -/

/-- The duty window is full (R85). -/
def dutyRun (p : Nat) (s : State) : State :=
  let l := (leadIn s s.cfg.running p).getD p
  match dutyLimit s p with
  | none => s
  | some lim =>
    if (port s l).radio.phase != .on || dutyTicks s p < lim then s
    else
      let s := raise Ev.dutyLimit p (le 2 (dutyTicks s p / 27120)) s
      goOn l (failField l E.dutyLimit { port := l } s)

/-- The slices of a port drive its field: on, or on a ramp (R90). -/
def drives (s : State) (p : Nat) : Bool := match (port s p).radio.phase with | .off | .gap => false | _ => true

/-- A load mismatch (R90). -/
def mismatchRun (p vswr : Nat) (s : State) : State :=
  let l := (leadIn s s.cfg.running p).getD p
  let s := modRadio p (fun r => { r with vswr := vswr }) s
  if vswr ≤ 300 || !drives s l then s
  else
    let s := raise Ev.portMismatch p (le 2 vswr) s
    goOn l (failField l E.portMismatch { port := l, arg1 := (vswr : Int) } s)

/-- The power loop fails; the event counts towards the slice's PA monitor (R91). -/
def paLoopRun (p : Nat) (s : State) : State :=
  let l := (leadIn s s.cfg.running p).getD p
  if (port s l).radio.phase != .on || (port s p).radio.vswr > 300 then s
  else
    let s := countWear 2 (sliceOf s p) s
    goOn l (failField l E.paLoop { port := l } s)

/-- The loop of a port has settled within 0.1 dB of its target: a lowered set power is credited once every loop of its set has (R88, R113). -/
def creditLoop (p l : Nat) (s : State) : State :=
  match (port s l).radio.credit with
  | none => s
  | some (mw, ps) =>
    let rest := ps.filter (· != p)
    modRadio l (fun r => if rest.isEmpty then { r with grantMw := mw, credit := none } else { r with credit := some (mw, rest) }) s

/-- Q-damp changes are under way on a port in SWITCHED mode: the coil is damped for frames (R87, R100). -/
def qdMoves (s : State) (p : Nat) : Bool := pAttr s A.qdMode p == 2 && (port s p).radio.qdDamped

/-- One measurement of the power loop on unmodulated carrier, which it acts on outside downlink frames, windows, Q-damp changes and the 256 ticks of a
vector change: `err` is the delivered power less the target, in 0.01 dB (R87, R88, R325). -/
def loopRun (p : Nat) (err : Int) (s : State) : State :=
  let l := (leadIn s s.cfg.running p).getD p
  let x := port s l
  let moves := match x.prism.movedAt with | some t => s.now < t + 256 | none => false
  let frozen := (match x.air.txEnd with | some e => s.now < e | none => false) || x.air.win.isSome || qdMoves s l || moves
  if x.radio.phase != .on || frozen then s
  else
    let step := max (-5) (min 5 (-err))
    let s := modSlice p (fun y => { y with drive := y.drive + step, segments := 1 + Config.paSegments (port s p).radio.power % 8 }) s
    if mag err ≤ 10 then creditLoop p l s else s

/-- The aerial class of an ID resistance in ohm (Table 2-6). -/
def classOf (ohm : Nat) : Nat :=
  if ohm < 1000 then 0
  else if 9000 ≤ ohm && ohm ≤ 11000 then 1
  else if 18000 ≤ ohm && ohm ≤ 22000 then 2
  else if 42000 ≤ ohm && ohm ≤ 52000 then 3
  else if 90000 ≤ ohm && ohm ≤ 110000 then 4
  else if ohm > 200000 then 7 else 6

/-- One port's ID resistance has been measured (R75, R77, R105). DEDUCED, safe: log entry 34. -/
def aerialOne (p ohm : Nat) (s : State) : State :=
  let old := aerialOf s p
  let new := classOf ohm
  if old == new then s
  else
    let s := modRadio p (fun r => { r with aerial := new }) s
    let l := (leadIn s s.cfg.running p).getD p
    let x := (port s l).radio
    let gone := new == 0 || new == 6 || new == 7
    let s := if x.phase != .off then goOn l (failField l E.noAerial { port := l } s)
      else if x.want.isSome && gone then
        let s := dropWant l s
        goOn l (settle l (if (port s l).task.isSome then taskFail l E.noAerial { port := l } s else s))
      else s
    raise Ev.aerialChanged p [b8 old, b8 new] s

/-- The ID sense of every port (R75). It runs once CAL has made its first measurement. -/
def idSenseRun (ohms : List Nat) (s : State) : State :=
  if !(s.mod.st == .service || s.mod.st == .doze) then s
  else ((List.range 64).zip ohms).foldl (fun s e => aerialOne e.1 e.2 s) s

/-! ### The transaction boundary (R58, R70, R107, R126, R325, R328) -/

/-- The most codes of the TN converter that lie within 100 mV (R103, R107). -/
def trackCodes : Int := 34

/-- Tuning follows the coil phase of one port of the set that `p` leads (R107). The phase that counts when TN reaches an end of its range is the one
read before the move. DESIGN CHOICE, unsafe: log entry 73. -/
def trackOne (p q : Nat) (phase : Int) (s : State) : State :=
  let s := modRadio q (fun r => { r with tunePhase := clampPhase phase }) s
  if mag phase ≤ 300 then s
  else
    let move := max (-trackCodes) (min trackCodes (Config.tuneMove s.free q))
    let mv := tnLevel (min 4095 ((tnCode (port s q).radio.tnMv : Int) + move).toNat)
    let s := modRadio q (fun r => { r with tnMv := mv }) (drawn s)
    if (mv == 0 || mv == 12000) && mag phase > 1000 then
      raise Ev.tuneDrift q (driftArgs s q) (modRadio p (fun r => { r with tuneDue := true }) s)
    else s

/-- Tuning follows the coil phase at the end of a transaction; every member of a set follows its own, which for the members beside the lead is a
free value (R107, R323). -/
def track (p : Nat) (phase : Int) (s : State) : State :=
  if pAttr s A.tnAutotune p != 2 || (port s p).radio.phase != .on then s
  else
    prismTnCheck p ((group s p).foldl (fun s q =>
      if q == p then trackOne p q phase s
      else let (x, s) := probe q (port s q).radio.tnMv s; trackOne p q x s) s)

/-- What takes place on a port at its transaction boundary, before its next command: the commit, the vector, the measurements and holds that
wait for it, the released set's adaptation (R57, R58, R126, R140, R146, R325, R546). -/
def crossBoundary (p : Nat) (s : State) : State :=
  if !atBoundary s p then s
  else
    let s := crossCore p s
    let s := (group s p).foldl (fun s q => holdMirror q (noiseAt q s)) s
    holdSwap p (holdFw p s)

/-- The port goes on at its boundary: a command that has waited by R278, a downlink that waits, or the pass (R278, R304). -/
def resumePort (p : Nat) (s : State) : State :=
  let s := resumeParked p s
  let s := match (port s p).pass with
    | some q => if q.stage == .yielding && (port s p).task.isNone && mayRound s p then modPass p (fun x => { x with stage := .start }) s else s
    | none => s
  goOn p (kick p s)

/-- TRANSACTION_BOUNDARY (R58). `phase` is the coil phase at the end of the transaction. -/
def boundaryRun (p : Nat) (phase : Int) (s : State) : State :=
  if s.mod.st == .doze then s
  else if !atBoundary s p then resumePort p s
  else resumePort p (crossBoundary p (prismTrack p (track p phase s)))

/-! ### Prism commands (R325, R327, R346) -/

/-- PRISM_CALIBRATE (R71, R327, R328). -/
def prismCalRun (h : Hdr) (p : Nat) (s : State) : State :=
  if (members s p).isEmpty then fail h 0x88 E.resourceNotOwned { port := p } s
  else if !interlocked s && !reserveWithheld s && notReady s p then pendTask h 0x88 p s
  else
    let (code, body, s) := prismCalWork p s
    respond h 0x88 code body s

/-- PRISM_VECTOR (R325): it is answered at once, and the set moves at its next boundary. DEDUCED, safe: log entry 34. -/
def prismVectorRun (h : Hdr) (p vector : Nat) (s : State) : State :=
  if (members s p).isEmpty then fail h 0x89 E.resourceNotOwned { port := p } s
  else if vector ≥ pAttrN s A.prismVectorCount p then failRange h 0x89 8 s
  else
    let s := modPort p (fun x => { x with prism := { x.prism with next := some vector } }) s
    ok h 0x89 [] (if atBoundary s p then applyVector p s else s)

end Sys2Proof.Machine
end

