-- ==== Sys2Proof/Machine/ModOps.lean ====
section
/-!
DEFINITION. The module as a whole: its states and EV_STATE, the availability ledger, the maps that the fault map leaves, entering HALTED, reset
and release, DOZE, and the entry to SERVICE (R342, R344, R526, R540 to R542, R548, R549, R563 to R571).
-/

namespace Sys2Proof.Machine

/-- Change the module record. -/
def modMod (f : Mod → Mod) (s : State) : State := { s with mod := f s.mod }

/-- Change what NVM keeps. -/
def modNvm (f : Nvm → Nvm) (s : State) : State := { s with nvm := f s.nvm }

/-- Change the power side. -/
def modPower (f : Power → Power) (s : State) : State := { s with power := f s.power }

/-- Change one rail. -/
def modRail (i : Nat) (f : Rail → Rail) (s : State) : State := modPower (fun w => { w with rails := upd w.rails i f }) s

/-- One rail. -/
def rail (s : State) (i : Nat) : Rail := nth s.power.rails i {}

/-! ### The ledger (R549) -/

/-- Time since the ledger was last charged that counts as powered. -/
def ledgerDue (s : State) : Nat := if s.mod.st == .powerUp then 0 else s.now - s.mod.ledgerAt

/-- Whether that time counts as unavailable: HALTED, or BOOT after R548. DEDUCED, unsafe: log entry 56. -/
def ledgerHalts (s : State) : Bool := s.mod.st == .halted || (s.mod.st == .boot && s.mod.noImage)

/-- Charge the ledger up to now. DEDUCED, unsafe: log entry 56. -/
def charge (s : State) : State :=
  let d := ledgerDue s
  let halted := if ledgerHalts s then d else 0
  modMod (fun m => { m with ledgerAt := s.now })
    (modNvm (fun n => { n with poweredTicks := n.poweredTicks + d, haltedTicks := n.haltedTicks + halted }) s)

/-! ### Images (R420, R520, R522) -/

/-- Write a chunk over the bytes received so far. -/
def putBytes (off : Nat) (data : Bytes) (xs : List (Option Byte)) : List (Option Byte) :=
  xs.take off ++ data.map some ++ xs.drop (off + data.length)

/-- The bytes of an image as received: none where a byte is missing (R420). -/
def Image.cells (x : Image) : List (Option Byte) :=
  x.chunks.foldr (fun e acc => putBytes e.1 e.2 acc) (List.replicate x.size none)

/-- The image, once every byte has come. -/
def Image.bytes (x : Image) : Option Bytes := x.cells.mapM id

/-- SVN and FLOOR of an image (Table 10-7). An image whose bytes the module does not hold reads 0. -/
def Image.svn (x : Image) : Nat := num (x.bytes.getD []) 6 2
def Image.floor (x : Image) : Bool := bit (num (x.bytes.getD []) 9 1) 0

/-- The security floor after an image has become active (R522). -/
def Nvm.raiseFloor (i : Nat) (n : Nvm) : Nvm :=
  let x := nth n.images i {}
  if x.floor then { n with sec := { n.sec with svnFloor := max n.sec.svnFloor x.svn } } else n

/-! ### States (Table 8-20, EV_STATE) -/

/-- The module moves to another state and reports it. DEDUCED, safe: log entry 22. -/
def moveTo (new : ModState) (cause : Nat) (s : State) : State :=
  let old := s.mod.st
  let s := charge s
  let s := modMod (fun m => { m with st := new, entered := ts s }) s
  raise Ev.state 0xFF ([b8 old.code, b8 new.code] ++ le 2 cause) s

/-! ### Spares and the maps (R21, R22, R525, R526) -/

/-- The spares of each kind (Table 1-1, Table 11-1). SRAM has ten macros: queue SRAM, inventory table, eight capture buffers. -/
def sparesOf (kind : Nat) : Nat := nth [0, 8, 4, 1, 1, 16, 160, 512] kind 0

/-- Whether the fault map retires an instance. -/
def isRetired (n : Nvm) (kind inst : Nat) : Bool := n.faultMap.any fun e => e.1 == kind && e.2.1 == inst

/-- How many instances of a kind are retired. -/
def retiredOf (n : Nvm) (kind : Nat) : Nat := (n.faultMap.filter fun e => e.1 == kind).length

/-- The free spares of a kind (R526). -/
def freeSpares (s : State) (kind : Nat) : Nat := sparesOf kind - retiredOf s.nvm kind

/-- The slice of each port as the fault map leaves it. -/
def slicesFrom (n : Nvm) : List Nat := (List.range 64).map fun p => if isRetired n 1 p then 64 + p / 8 else p

/-- The engines in the order in which they stand in for retired ones: each retired engine takes the first spare not yet used. -/
def enginesFrom (n : Nvm) : List Nat :=
  let gone := ((n.faultMap.filter fun e => e.1 == 2).map fun e => e.2.1).reverse
  gone.foldl (fun (st : List Nat × List Nat) e =>
    match st.1.contains e, st.2.filter (fun x => !gone.contains x) with
    | true, x :: rest => (st.1.map fun y => if y == e then x else y, rest)
    | _, rest => (st.1, rest)) (List.range 64, [64, 65, 66, 67]) |>.1

/-- The cores that do the work of SV0 to SV3. -/
def coresFrom (n : Nvm) : List Nat := (List.range 4).map fun i => if isRetired n 3 i then 4 else i

/-- A retired instance is left without a spare: a module that restarts enters HALTED again before SERVICE (R542). -/
def uncovered (n : Nvm) : Bool :=
  ((List.range 64).any fun p => isRetired n 1 p && isRetired n 1 (64 + p / 8))
    || ((List.range 8).any fun g => ((List.range 8).filter fun i => isRetired n 1 (8 * g + i)).length > 1)
    || retiredOf n 2 > 4 || retiredOf n 3 > 1 || retiredOf n 4 > 1

/-! ### HALTED (R372, R414, R540, R541) -/

/-- What HALTED does to one port: its work ends with E_MODULE_HALTED, its field is cut, QD is damped and TN at 0 V. -/
def haltPort (p : Nat) (s : State) : State :=
  let x := port s p
  let d : Detail := { port := p }
  let s := x.radio.offHdrs.foldl (fun s h => fail h 0x21 E.moduleHalted d s) s
  let s := ((x.pass.map (·.stops)).getD []).foldl (fun s h => fail h 0x81 E.moduleHalted d s) s
  let s := x.starts.foldl (fun s h => fail h 0x80 E.moduleHalted d s) s
  let s := endTone p E.moduleHalted d s
  let s := modPort p (fun x => { x with
    starts := [], gridDue := false, held := false, pass := x.pass.map (fun y => { y with stops := [] }),
    lens := { x.lens with confirming := false }, z8 := { x.z8 with present := false } })
    (modRadio p (fun r => { r with offHdrs := [] }) s)
  modRadio p (fun r => { r with qdDamped := true, tnMv := 0, dpdDue := false })
    (disarm (tC p) (cutField p (abortWork p E.moduleHalted d s)))

/-- The commands still in progress beside the ports end with E_MODULE_HALTED (R414). DEDUCED, safe: log entry 36. -/
def haltJobs (s : State) : State :=
  let end_ := fun (h : Option Hdr) (op : Nat) (s : State) => match h with | some h => fail h op E.moduleHalted {} s | none => s
  let s := end_ s.mod.dozeHdr 0x08 s
  let s := end_ (s.cfg.committing.bind (·.hdr)) 0x05 s
  let s := end_ (s.noiseJob.map (·.hdr)) 0x24 s
  let s := failMirror E.moduleHalted {} s
  let s := s.spares.swaps.foldl (fun s x => end_ x.hdr 0xE4 s) s
  let s := s.spares.telling.foldl (fun s x => end_ x.hdr 0xE4 s) s
  let s := match s.act with | some a => fail a.hdr (if a.rollback then 0x15 else 0x13) E.moduleHalted {} s | none => s
  let s := end_ (s.cluster.pending.map (·.2.2)) 0xA1 s
  let s := s.cluster.listens.foldl (fun s l => fail l.hdr 0xA4 E.moduleHalted {} s) s
  let s := s.diag.arms.foldl (fun s a => end_ (a.map (·.hdr)) 0xE1 s) s
  let s := match s.cellar.change with | some (some h, op, _) => fail h op E.moduleHalted {} s | _ => s
  { s with
    mod := { s.mod with dozeHdr := none }, cfg := { s.cfg with committing := none }, noiseJob := none, act := none,
    spares := { s.spares with swaps := [], telling := [] }, press := {}, diag := { s.diag with arms := s.diag.arms.map fun _ => none },
    cluster := { s.cluster with active := none, pending := none, listens := [] }, cellar := { s.cellar with change := none } }

/-- The module enters HALTED with a cause (R540, R541). -/
def enterHalted (code : Nat) (s : State) : State :=
  if s.mod.st == .halted || s.mod.st == .powerUp then s
  else
    let s := (List.range 64).foldl (fun s p => haltPort p s) (haltJobs s)
    let s := modPower (fun w => { w with rails := w.rails.take 4 ++ (w.rails.drop 4).map fun _ => { en := false, reg := false, enAt := 0 } }) s
    moveTo .halted code (modNvm (fun n => { n with haltCause := code }) s)

/-! ### Reset and release (R563 to R567) -/

/-- The rails after a reset: those of Table 12-4 stay; after a core rail fault the sequence starts again from VIO. -/
def railsAfter (cause : Nat) (old : List Rail) : List Rail :=
  let off : Rail := { en := false, reg := false, enAt := 0 }
  let keep := fun (i : Nat) => nth old i off
  (match cause with
    | 1 => [off, off, off]
    | 2 => [keep 0, { en := true, reg := false, enAt := 0 }, off]
    | _ => [keep 0, keep 1, keep 2]) ++ List.replicate 9 off

/-- The allocation that physical classification sets (R363, R566). -/
def classAlloc (c : Nat) : Nat := if c ≥ 8 then 71300 else 51000

/-- The image of a slot becomes the active one (Table 8-4, FW_STATUS). -/
def takeImage (i : Nat) (xs : List Image) : List Image :=
  xs.zipIdx.map fun (e : Image × Nat) =>
    if e.2 == i then { e.1 with state := 3 } else if e.1.state == 3 then { e.1 with state := 2 } else e.1

/-- NVM across a reset: the image marked for the next start becomes active and raises the floor (R522, R547), and a start whose image has run and has
not reached SERVICE counts (R548). DEDUCED, unsafe: log entry 28. -/
def nvmAfter (m : Mod) (n : Nvm) : Nvm :=
  let starts : Nat := if m.st == ModState.powerUp || m.st == ModState.boot then n.failedStarts else if m.served then 0 else n.failedStarts + 1
  match n.markNext with
  | none => { n with failedStarts := starts }
  | some i => Nvm.raiseFloor i { n with markNext := none, failedStarts := 0, active := i, images := takeImage i n.images }

/-- The firmware events still to raise after a reset: those of an image that has not yet served are kept, and a marked image brings its own (R548). -/
def newsAfter (m : Mod) (n : Nvm) : List (Nat × Nat) :=
  match n.markNext with
  | none => m.fwNews
  | some i => if m.fwNews == [(2, i)] then m.fwNews else [(1, i)]

/-- What a reset leaves: NVM, the pins, the supply and what waits outside the module; everything else is lost (R563 to R566).
Time runs from the reset on until the release. DEDUCED, unsafe: log entry 28. -/
def afterReset (cause : Nat) (s : State) : State :=
  let s := charge s
  let n := nvmAfter s.mod s.nvm
  let cause := if s.mod.st == .powerUp then min cause s.mod.resetCause else cause
  { now := 0, pending := s.pending, free := s.free, pins := s.pins, nvm := n, faults := s.faults, coupling := s.coupling, filters := s.filters, sent := s.sent,
    mod := { st := .powerUp, resetCause := cause, inReset := s.mod.inReset, crystalOk := cause != 1 && s.mod.crystalOk,
             strapsOk := false, preRelease := 0, fwNews := newsAfter s.mod s.nvm },
    power := { piMv := s.power.piMv, failed := cause == 1, physClass := s.power.physClass, allocMw := classAlloc s.power.physClass,
               rails := railsAfter cause s.power.rails,
               failedSeqs := if s.mod.st == .powerUp && cause != 1 then s.power.failedSeqs else 0 },
    spares := { portSlice := slicesFrom n, portEngine := enginesFrom n, supervisor := coresFrom n,
                secCore := if isRetired n 4 0 then 1 else 0 } }

/-- A reset source acts. In POWER_UP the lowest cause code decides (R565). -/
def resetBy (cause : Nat) (s : State) : State :=
  if s.mod.st == .powerUp && cause ≥ s.mod.resetCause then s else afterReset cause s

/-- Release from reset into BOOT, with the timing bank at tick 0 and VANA enabled (R564, Table 12-9). After a core rail fault the time since the fault
counts as unavailable (R549). DEDUCED, safe: log entry 6. DEDUCED, unsafe: log entry 56. -/
def release (s : State) : State :=
  let ran := s.now
  let lost := if s.mod.resetCause == 2 then ran else 0
  let s := { s with now := 0 }
  let s := modMod (fun m => { m with st := .boot, entered := 0, preRelease := ran, ledgerAt := 0 }) s
  let s := modNvm (fun n => { n with bootCount := (n.bootCount + 1) % 2 ^ 32, haltedTicks := n.haltedTicks + lost }) s
  modPower (fun w => { w with failedSeqs := 0, retryAt := none, vcoreMv := 850, rails := upd w.rails 3 fun _ => { en := true, reg := false, enAt := 0 } }) s

/-- Release as soon as the supply, the rails, the crystal, the straps and RESET_N allow it (R553, R559, R564, R577). -/
def tryRelease (s : State) : State :=
  let up := (rail s 0).reg && (rail s 1).reg && (rail s 2).reg
  if s.mod.st == .powerUp && up && !s.power.failed && s.power.piMv ≥ 42000 && s.mod.crystalOk && s.mod.strapsOk && !s.mod.inReset
  then release s else s

/-! ### SERVICE and DOZE (R342, R344, R351, R352, R571) -/

/-- The rates that a renegotiation advertises now, as link.speed codes: in DOZE with link.doze_speed at DROP, 100BASE-TX alone (R351, R352, R401). -/
def advertOf (s : State) : List Nat :=
  if s.mod.st == .doze && s.link.dropped then [1] else if s.link.only1000 || mAttr s A.linkSpeedMax == 2 then [2] else [3, 2]

/-- The firmware event of an image (Table 8-20). -/
def fwArgs (s : State) (action image : Nat) : Bytes := [b8 action, b8 image] ++ le 2 (nth s.nvm.images image {}).version

/-- The firmware events that wait for SERVICE (R548). -/
def tellFw (s : State) : State :=
  let news := s.mod.fwNews
  news.foldl (fun s e => raise Ev.firmware 0xFF (fwArgs s e.1 e.2) s) (modMod (fun m => { m with fwNews := [] }) s)

/-- CAL has ended and Cellar answers: the module enters SERVICE (R571, R575, R578), or HALTED again by R542. -/
def tryService (s : State) : State :=
  if s.mod.st != .cal || !s.mod.calDone || !s.mod.storeOk then s
  else if uncovered s.nvm || !s.faults.isEmpty then enterHalted s.nvm.haltCause s
  else
    let s := modMod (fun m => { m with served := true, bootTimeMs := min 65535 ((m.preRelease + s.now) / 27120) }) s
    let s := modNvm (fun n => { n with failedStarts := 0 }) s
    let s := tellFw (moveTo .service 0 s)
    (List.range 64).foldl (fun s p => settle p (armCadence p (modRadio p (fun r => { r with qdDamped := pAttr s A.qdMode p == 1 }) s))) s

/-- The link renegotiates: it goes down until LINK_UP (R352, R353). -/
def renegotiate (s : State) : State := modLink (fun l => { l with speed := 0 }) s

/-- The VPA rails are enabled, on entry to CAL and on leaving DOZE; each then comes into regulation by itself (R553, Table 12-2). -/
def enableVpa (s : State) : State :=
  let now := s.now
  modPower (fun w => { w with rails := w.rails.take 4 ++ (w.rails.drop 4).map fun r => if r.en then r else { en := true, reg := false, enAt := now } }) s

/-- The Harvest grid of a port goes on at its next tick, after a time in which no pass could start (R302). -/
def realignGrid (p : Nat) (s : State) : State :=
  let now := s.now
  modTimer (tC p) (fun t =>
    if t.armed && t.action == 0x08 && t.fire ≤ now then { t with fire := t.fire + ((now - t.fire) / max 1 t.period + 1) * t.period } else t) s

/-- A port as the module leaves DOZE: its grid, and QD as port.qd.mode has it between frames (R99, R302, R570). -/
def wakePort (p : Nat) (s : State) : State :=
  realignGrid p (modRadio p (fun r => { r with qdDamped := pAttr s A.qdMode p == 1 }) s)

/-- The module leaves DOZE for SERVICE (R344). DEDUCED, unsafe: log entry 40. -/
def dozeExit (s : State) : State :=
  if s.mod.st != .doze then s
  else
    let s := moveTo .service 0 s
    let s := modLink (fun l => { l with only1000 := false, trainFails := 0 }) s
    let s := modLink (fun l => { l with dropped := false }) (if s.link.dropped then renegotiate s else s)
    (List.range 64).foldl (fun s p => resumePort p (settle p (wakePort p s))) (enableVpa s)

/-- Nothing runs on any port, none is held for a noise measurement or a training, and every field is down. -/
def allQuiet (s : State) : Bool :=
  s.noiseJob.isNone && s.mirrorJob.isNone && s.ports.all fun x =>
    x.task.isNone && x.parked.isEmpty && x.pass.isNone && x.starts.isEmpty && x.radio.offHdrs.isEmpty && x.radio.phase == .off
      && x.radio.want.isNone && x.tone.isNone

/-- WAKE_N, read while VAUX is at 1.5 V or more, wakes the module from DOZE (R344, R572, R593). The wake takes the assertion with it. DEDUCED, unsafe:
log entry 24. -/
def takeWake (s : State) : State :=
  if s.pins.wakeN && s.pins.vauxMv ≥ 1500 && s.mod.st == .doze then dozeExit { s with pins := { s.pins with wakeN := false } } else s

/-- DOZE_ENTER (R342): passes end with E_CANCELLED, transactions run to their end, fields go down. DEDUCED, unsafe: log entry 40. -/
def dozeEnterRun (h : Hdr) (s : State) : State :=
  let s := modMod (fun m => { m with dozeHdr := some h }) s
  (List.range 64).foldl (fun s p =>
    let starts := (port s p).starts
    let s := modPort p (fun x => { x with starts := [] }) s
    let s := starts.foldl (fun s h => fail h 0x80 E.cancelled { port := p } s) s
    goOn p (if (port s p).pass.isSome then stopPass p E.cancelled s else s)) s

/-- Every port has come to rest: the module is in DOZE, and DOZE_ENTER is answered (R342, R343, R352, Table 12-2). -/
def dozeEnteredRun (s : State) : State :=
  match s.mod.dozeHdr with
  | none => s
  | some h =>
    if s.mod.st != .service || !allQuiet s then s
    else
      let s := moveTo .doze 0 (modMod (fun m => { m with dozeHdr := none }) s)
      let s := ok h 0x08 [] s
      let s := { s with slices := s.slices.map fun x => { x with st := .sleep, target := .sleep, locked := false, calSince := none } }
      let s := modPower (fun w => { w with rails := w.rails.take 4 ++ (w.rails.drop 4).map fun _ => { en := false, reg := false, enAt := 0 } }) s
      let s := (List.range 64).foldl (fun s p =>
        if pAttr s A.z8Enable p != 0 then modRadio p (fun r => { r with qdDamped := false }) s else s) s
      takeWake (if mAttr s A.linkDozeSpeed == 0 then renegotiate (modLink (fun l => { l with dropped := true }) s) else s)

/-- WAKE_N is asserted; below 1.5 V of VAUX it is treated as not asserted (R344, R572, R593). DEDUCED, unsafe: log entry 24. -/
def wakeRun (s : State) : State := takeWake { s with pins := { s.pins with wakeN := true } }

end Sys2Proof.Machine
end

