-- ==== Sys2Proof/Machine/LensRun.lean ====
section
/-!
DEFINITION. Lens and the Z8 wake mode (R332 to R341, R344, R346, R468), and the flags of pm.cal.skipped that clear as the skipped steps run (R576).
-/

namespace Sys2Proof.Machine

/-! ### Pulses (R332, R333, R335, R336) -/

/-- The conditions under which Lens skips a pulse (R73, R333, R468). DEDUCED, unsafe: log entry 43. -/
def lensSkips (s : State) (p : Nat) : Bool :=
  (port s p).radio.phase != .off || !atBoundary s p || interlocked s || reserveWithheld s || offRun s p || !canPulse (sliceAt s p)

/-- Count a skipped pulse. -/
def countSkip (p : Nat) (s : State) : State := modLens p (fun l => { l with skipped := inc32 l.skipped }) s

/-- The arguments of EV_LENS_DETECT and EV_LENS_CLEAR (Table 8-20). -/
def lensArgs (d : Nat) (m : Cpx) : Bytes := le 2 d ++ leI 2 m.1 ++ leI 2 m.2

/-- Arm the confirming pulse on T_C (R335). -/
def armConfirm (p : Nat) (s : State) : State :=
  setTimer (tC p) 0x09 (s.now + usT (pAttrN s A.lensConfirmUs p)) (modLens p (fun l => { l with confirming := true }) s)

/-- The baseline drifts towards a measurement by 1/track_div of the difference (R335). DEDUCED, unsafe: log entry 43. -/
def lensDrift (div : Int) (m b : Cpx) : Cpx :=
  let x := lensUnits m
  (b.1 + (x.1 - b.1) / div, b.2 + (x.2 - b.2) / div)

/-- The reference is taken anew without an event (R336, R337). -/
def lensAnew (p : Nat) (m : Cpx) (s : State) : State :=
  let tn := (port s p).radio.tnMv
  modLens p (fun l =>
    if l.present && !l.anew then { l with ref := lensUnits m, stale := true, tnMv := tn }
    else { l with present := false, base := lensUnits m, stale := false, anew := false, tnMv := tn }) s

/-- A pulse that is not skipped (R335 to R337). -/
def lensAct (p : Nat) (m : Cpx) (s : State) : State :=
  let l := (port s p).lens
  let n := s.free
  let t := pAttrN s A.lensThreshold p
  let moved := mag (((port s p).radio.tnMv : Int) - (l.tnMv : Int)) > 50
  let s := pulseTraces p (modLens p (fun l => { l with last := m }) (drawn s))
  if l.anew || moved then lensAnew p m s
  else if l.present then
    let leaving := if l.stale then detune2 n m l.ref ≥ 2 * t else detune2 n m l.base < t
    if leaving then armConfirm p s else s
  else
    let d := detune2 n m l.base
    if d ≥ 2 * t then armConfirm p s
    else if d < t then modLens p (fun l => { l with base := lensDrift (max 1 (pAttr s A.lensTrackDiv p)) m l.base }) s
    else s

/-- Whether Lens runs on a port: enabled, in SERVICE or DOZE (Table 6-9). -/
def lensRuns (s : State) (p : Nat) : Bool := pAttr s A.lensEnable p != 0 && (s.mod.st == .service || s.mod.st == .doze)

/-- LENS_PULSE: the pulse of the grid that T_C releases. The next one follows a period later. -/
def lensPulseRun (p : Nat) (m : Cpx) (s : State) : State :=
  let t := timer s (tC p)
  if !lensRuns s p || !timerDue s (tC p) || t.action != 0x09 || (port s p).lens.confirming then s
  else
    let s := modTimer (tC p) (fun t => { t with fire := t.fire + t.period }) s
    if lensSkips s p then countSkip p s else lensAct p m s

/-- The confirming pulse has measured: its event, or the count of an unconfirmed detection (R335, R338, R344). -/
def lensDecide (p : Nat) (m : Cpx) (s : State) : State :=
  let l := (port s p).lens
  let n := s.free
  let t := pAttrN s A.lensThreshold p
  let d2 := detune2 n m (if l.present && l.stale then l.ref else l.base)
  let args := lensArgs (detuneWord n d2) m
  let tn := (port s p).radio.tnMv
  let s := pulseTraces p (modLens p (fun l => { l with last := m }) (drawn s))
  if l.present then
    if (if l.stale then d2 ≥ 2 * t else d2 < t) then
      raise Ev.lensClear p args (modLens p (fun l => { l with present := false, base := lensUnits m, stale := false, tnMv := tn }) s)
    else s
  else if d2 ≥ 2 * t then
    let s := raise Ev.lensDetect p args (modLens p (fun l => { l with present := true, ref := lensUnits m, stale := false }) s)
    if pAttr s A.lensWake p == 1 then dozeExit s else s
  else modLens p (fun l => { l with unconfirmed := inc32 l.unconfirmed }) s

/-- LENS_CONFIRM: the confirming pulse, after which T_C goes back to the grid. A confirming pulse that is skipped confirms nothing (R333). -/
def lensConfirmRun (p : Nat) (m : Cpx) (s : State) : State :=
  if !lensRuns s p || !timerDue s (tC p) || !(port s p).lens.confirming then s
  else
    let s := armCadence p (modLens p (fun l => { l with confirming := false }) s)
    if lensSkips s p then countSkip p s else lensDecide p m s

/-! ### The commands (R337, R346, R415) -/

/-- LENS_BASELINE (R337). -/
def lensBaselineRun (h : Hdr) (p : Nat) (s : State) : State :=
  if pAttr s A.lensEnable p == 0 then fail h 0x90 E.resourceNotOwned { port := p } s
  else
    let s := if (port s p).lens.confirming then armCadence p s else s
    ok h 0x90 [] (modLens p lensEmpty s)

/-- LENS_MEASURE, which waits for the lock of a slice that is below LISTEN (R71, R73, R346). DEDUCED, unsafe: log entry 43. -/
def lensMeasureRun (h : Hdr) (p : Nat) (s : State) : State :=
  if pAttr s A.lensEnable p == 0 then fail h 0x91 E.resourceNotOwned { port := p } s
  else if (lensBar s p).isNone && notReady s p then pendTask h 0x91 p s
  else
    let (code, body, s) := lensMeasureWork p s
    respond h 0x91 code body s

/-! ### Z8 wake mode (R339, R340) -/

/-- The ports whose field or Lens pulse blanks the detector of a port. -/
def blankedBy (s : State) (p : Nat) : List Nat :=
  if pAttr s A.z8Blank p == 1 then (List.range 8).map fun i => p / 8 * 8 + i else [p]

/-- Whether a port has a field, its own or that of the set it belongs to. -/
def hasField (s : State) (p : Nat) : Bool :=
  let ph := (port s ((leadIn s s.cfg.running p).getD p)).radio.phase
  !(ph == .off || ph == .gap)

/-- The end of the blanking of a port; none while a field blanks it. DEDUCED, unsafe: log entry 43. -/
def blankEnd (s : State) (p : Nat) : Option Nat :=
  if (blankedBy s p).any (hasField s) then none else some (((blankedBy s p).map fun q => (port s q).z8.blankUntil).foldl max 0)

/-- Z8_FIELD_DETECTED: the envelope has stood at or above the threshold since `onset` (R339, R340, R344). -/
def z8DetectedRun (p levelMv onset : Nat) (s : State) : State :=
  let up := s.mod.st == .service || s.mod.st == .doze
  match blankEnd s p with
  | none => s
  | some e =>
    if !up || pAttr s A.z8Enable p == 0 || (port s p).z8.present || levelMv < pAttrN s A.z8ThresholdMv p
      || s.now < max onset e + usT (pAttrN s A.z8MinUs p) then s
    else
      let s := modPort p (fun x => { x with z8 := { x.z8 with present := true } }) s
      let s := raiseAt Ev.z8Field (tsAt s (max onset e)) p (le 2 levelMv) s
      if pAttr s A.z8Wake p == 1 then dozeExit s else s

/-- Z8_FIELD_GONE: the envelope has stood below 80 % of the threshold for 1 ms, which a detector that is blanked does not see (R339, R340). -/
def z8GoneRun (p : Nat) (s : State) : State :=
  let up := s.mod.st == .service || s.mod.st == .doze
  match blankEnd s p with
  | none => s
  | some e =>
    if !up || !(port s p).z8.present || s.now < e then s
    else raise Ev.z8FieldGone p [] (modPort p (fun x => { x with z8 := { x.z8 with present := false } }) s)

/-! ### pm.cal.skipped (R576) -/

/-- Clear a bit of pm.cal.skipped where the step it names has run wherever CAL skipped it. -/
def clearSkipped (b : Nat) (c : Bool) (s : State) : State :=
  if bit s.mod.calSkipped b && c then modMod (fun m => { m with calSkipped := m.calSkipped ^^^ 2 ^ b }) s else s

/-- The steps that CAL skipped and that have run since (R576). -/
def noteSkipped (s : State) : State :=
  if s.mod.calSkipped == 0 then s
  else
    let none_ := fun (f : Nat → Bool) => !(List.range 64).any f
    let s := clearSkipped 5 (none_ fun p => (port s p).radio.paDue) s
    let s := clearSkipped 6 (none_ fun p => (port s p).radio.tuneSkip) s
    let s := clearSkipped 7 (s.mod.trained == maskOf (List.range 64)) s
    let s := clearSkipped 8 (none_ fun p => (port s p).radio.dpdDue) s
    let s := clearSkipped 9 (none_ fun p => !(members s p).isEmpty && !(port s p).prism.calibrated) s
    clearSkipped 11 (none_ fun p => pAttr s A.lensEnable p != 0 && (port s p).lens.anew) s

end Sys2Proof.Machine
end

