-- ==== Sys2Proof/Machine/PortCmd.lean ====
section
/-!
DEFINITION. How the commands of a port begin: the checks on the port's protocol, on the handle and its state, on modes and casks, and the first step
of each ISO, Hymond and credential command (R188, R199, R233, R288, R291, R295, R415, R500 to R502).
-/

namespace Sys2Proof.Machine

/-- Start a command on a port. -/
def beginTask (h : Hdr) (op p : Nat) (proc : Proc) (s : State) : State :=
  modPort p (fun x => { x with task := some { hdr := h, op := op, proc := proc } }) s

/-! ### Hymond (R287 to R295) -/

/-- The code with which a handle's state turns a command away (R288). -/
def hyStateBar (op : Nat) (st : HySt) : Bool :=
  match st with
  | .heard | .active => false
  | .unknown => op != 0x69
  | .halted => true

/-- The first check that a tag command to a handle fails: handle, state, modes, descriptor (R288, R291). DEDUCED, unsafe: log entry 46. -/
def hyBar (s : State) (p op h dl ul : Nat) : Option Nat :=
  match hyHandle s p h with
  | none => some E.hyHandle
  | some x =>
    if hyStateBar op x.st then some E.hyState
    else if !modesOn s p dl ul then some E.hyMode
    else match x.desc with
    | some d => if descAllows d dl ul op then none else some E.hyMode
    | none => none

/-- Begin a Hymond command to a handle. A handle known from a header alone is confirmed by an ACK first, before
the command's own frames (R291). -/
def hyStart (h : Hdr) (op p : Nat) (c : HyCmd) (s : State) : State :=
  match hyBar s p op c.handle c.dl c.ul with
  | some code => fail h op code { port := p, handle := c.handle } s
  | none =>
    let x := hyHandle s p c.handle
    let known := (x.bind (·.ident)).isSome
    let c := { c with ident := (x.bind (·.ident)).getD [] }
    let c := if known then c else { c with after := c.stage, stage := .preAck }
    hyBegin p c none (beginTask h op p (.hy c) s)

/-- The command of a prefix (Table 8-12). -/
def ofPre (s : State) (p : Nat) (pre : HyPre) (stage : HyStage) : HyCmd :=
  { stage := stage, handle := pre.handle, dl := resolveDl s p pre.dl, ul := resolveUl s p pre.ul }

/-- HY_RAW_FRAME: a DL_CMD needs its handle held and in a state that accepts commands; every frame needs its modes. It sends one downlink, behind the
ACK of R291 where the handle is known from a header alone; REPLY and ALIVE wait in `count` and `gen` meanwhile (R288, R291, R295). DEDUCED, unsafe:
log entry 46. -/
def hyRawRun (h : Hdr) (p : Nat) (pre : HyPre) (type alive reply : Nat) (payload : Bytes) (s : State) : State :=
  let c := { ofPre s p pre .raw with type := type, alive := alive, reply := reply, data := payload }
  let bar := if type == 1 then hyBar s p 0x60 pre.handle c.dl c.ul else none
  let ul := if reply == 0 then c.ul else reply
  let no := fun (code : Nat) => fail h 0x60 code { port := p, handle := pre.handle } s
  let desc := (hyHandle s p pre.handle).bind (·.desc)
  match bar with
  | some code => no code
  | none =>
  if !modesOn s p c.dl ul || !modesOn s p c.dl c.ul then no E.hyMode
  else if type == 1 && (match desc with | some d => !descAllows d c.dl ul 0x60 | none => false) then no E.hyMode
  else
    let c := if type == 1 && desc.isNone then { c with ul := ul, count := reply, gen := alive, after := .raw, stage := .preAck } else c
    hyBegin p c none (beginTask h 0x60 p (.hy c) s)

/-- HY_ACTIVATE: a tag already held must be in a state that accepts it (R288, R291, R295). DEDUCED, unsafe: log entry 46. -/
def hyActivateRun (h : Hdr) (p : Nat) (ident : Bytes) (wake : Bool) (dl ul : Nat) (s : State) : State :=
  let c : HyCmd := { stage := .query, handle := 0, dl := resolveDl s p dl, ul := resolveUl s p ul, ident := fit 16 ident, wake := wake }
  let held := (port s p).hy.handles.find? fun x => x.ident == some (fit 16 ident)
  let bar := match held with
    | some x =>
      if x.st == .unknown || (x.st == .halted && !wake) then some E.hyState
      else if (match x.desc with | some d => descAllows d c.dl c.ul 0x61 | none => true) then none else some E.hyMode
    | none => none
  let handle := (held.map (·.h)).getD 0
  match bar with
  | some code => fail h 0x61 code { port := p, handle := handle } s
  | none =>
    if !modesOn s p c.dl c.ul then fail h 0x61 E.hyMode { port := p, handle := handle } s
    else hyBegin p c none (beginTask h 0x61 p (.hy c) s)

/-- HY_FORGET: it releases a handle, or every one, and sends nothing (R295). -/
def hyForgetRun (h : Hdr) (p handle : Nat) (s : State) : State :=
  if handle == 0xFFFF then ok h 0x6A [] (clearInv p (port s p).hy.handles (modHy p (fun y => { y with handles := [] }) s))
  else if (hyHandle s p handle).isNone then fail h 0x6A E.hyHandle { port := p, handle := handle } s
  else ok h 0x6A [] (dropHandle p handle s)

/-- HY_TREE_SEARCH (R293). -/
def hyTreeRun (h : Hdr) (p mlen maxTags : Nat) (wake : Bool) (mask : Bytes) (s : State) : State :=
  let c : HyCmd := { stage := .treeQuery, handle := 0, dl := resolveDl s p 0, ul := resolveUl s p 0, wake := wake, maxTags := maxTags,
                     stack := [(bitsOf (fit 16 mask)).take mlen] }
  if !modesOn s p c.dl c.ul then fail h 0x6B E.hyMode { port := p } s
  else treeNext p c none (beginTask h 0x6B p (.hy c) s)

/-- HY_SET_MAP: the map of the handle's next H4 exchange, behind the ACK of R291 where the handle is known from a header alone (R291, R295). -/
def hySetMapRun (h : Hdr) (p handle : Nat) (map : List Nat) (s : State) : State :=
  match hyHandle s p handle with
  | none => fail h 0x6C E.hyHandle { port := p, handle := handle } s
  | some x =>
    if hyStateBar 0x6C x.st then fail h 0x6C E.hyState { port := p, handle := handle } s
    else if x.desc.isSome then ok h 0x6C [] (modHandle p handle (fun x => { x with map := some map }) s)
    else
      let c : HyCmd := { stage := .preAck, handle := handle, dl := resolveDl s p 0, ul := resolveUl s p 0, map := some map }
      if !modesOn s p c.dl c.ul then fail h 0x6C E.hyMode { port := p, handle := handle } s
      else hyBegin p c none (beginTask h 0x6C p (.hy c) s)

/-! ### ISO (R188, R196 to R202, R208 to R234) -/

/-- Whether a port runs the type of an ISO command: 0 Type A, 1 Type B, 2 ISO/IEC 15693, 3 either type of ISO/IEC 14443 (R188, R415). -/
def isoRuns? (s : State) (p kind : Nat) : Bool :=
  match pAttr s A.protocol p with
  | 1 => if kind == 3 then true else kind < 2 && bit (pAttrN s A.isoTypes p) kind
  | 2 => kind == 2
  | _ => false

/-- Begin an ISO command: its stage's first frame. -/
def isoTask (h : Hdr) (op p : Nat) (c : IsoCmd) (go : Nat → IsoCmd → State → State) (s : State) : State :=
  go p c (beginTask h op p (.iso c) s)

/-- An ISO command that names a handle: the handle must be held, of the command's type, which the port must still run, and in a state that permits it
(R188, R199). -/
def isoOn (h : Hdr) (op p handle kind : Nat) (permits : IsoHandle → Bool) (s : State) (go : IsoHandle → State → State) : State :=
  if !isoRuns? s p kind then fail h op E.isoType { port := p, handle := handle } s
  else match isoHandle s p handle with
  | none => fail h op E.isoHandle { port := p, handle := handle } s
  | some x =>
    if kind == 3 && !isoRuns? s p x.kind then fail h op E.isoType { port := p, handle := handle } s
    else if (kind == 3 || x.kind == kind) && permits x then go x s else fail h op E.isoState { port := p, handle := handle } s

/-- ISO_RAW_FRAME (R188, R233, R234). DEDUCED, unsafe: log entry 44. -/
def isoRawRun (h : Hdr) (p bits rate : Nat) (parity check keep : Bool) (kind windowUs : Nat) (frame : Bytes) (s : State) : State :=
  if !isoRuns? s p kind then fail h 0x40 E.isoType { port := p } s
  else if rate > pAttrN s A.isoMaxRate p && kind != 2 then failRange h 0x40 10 s
  else
    let s := if keep then s else modIso p (fun i => { i with handles := i.handles.map fun x => { x with st := .unknown } }) s
    let c : IsoCmd := { stage := .raw, rate := rate, parity := parity, check := check, kind := kind, bits := bits, winUs := windowUs, data := frame }
    isoTask h 0x40 p c isoBegin s

/-- ISO_A_ANTICOLL (R203). -/
def isoAAnticollRun (h : Hdr) (p maxTags : Nat) (wakeAll : Bool) (s : State) : State :=
  if !isoRuns? s p 0 then fail h 0x41 E.isoType { port := p } s
  else isoTask h 0x41 p { stage := .aReq, maxTags := maxTags, wake := wakeAll, stack := [([], [])] } antiNext s

/-- ISO_A_ACTIVATE (R208). DEDUCED, unsafe: log entry 44. -/
def isoAActivateRun (h : Hdr) (p handle : Nat) (s : State) : State :=
  isoOn h 0x42 p handle 0 (fun x => x.st == .halt || x.st == .unknown) s fun _ s =>
    isoTask h 0x42 p { stage := .actReq, handle := handle } isoBegin s

/-- ISO_A_HALT. -/
def isoAHaltRun (h : Hdr) (p handle : Nat) (s : State) : State :=
  isoOn h 0x43 p handle 0 (fun x => x.st == .active) s fun _ s => isoTask h 0x43 p { stage := .hltA, handle := handle } isoBegin s

/-- ISO_A_RATS: without a free CID nothing is sent (R212, R213). -/
def isoARatsRun (h : Hdr) (p handle cid : Nat) (s : State) : State :=
  isoOn h 0x44 p handle 0 (fun x => x.st == .active) s fun _ s =>
    match pickCid s p cid with
    | none => fail h 0x44 E.isoCidFull { port := p, handle := handle } s
    | some c => isoTask h 0x44 p { stage := .rats, handle := handle, cid := c } isoBegin s

/-- ISO_PPS: once, before the first block (R215, Table 4-5). -/
def isoPpsRun (h : Hdr) (p handle dsMax drMax : Nat) (s : State) : State :=
  isoOn h 0x45 p handle 0 (fun x => x.st == .protocol && !x.used) s fun x s =>
    let (ds, dr) := divisors s p x.rates dsMax drMax
    isoTask h 0x45 p { stage := .pps, handle := handle, dsMax := ds, drMax := dr } isoBegin s

/-- ISO_B_REQUEST (R211). -/
def isoBRequestRun (h : Hdr) (p afi : Nat) (wake : Bool) (s : State) : State :=
  if !isoRuns? s p 1 then fail h 0x46 E.isoType { port := p } s
  else isoTask h 0x46 p { stage := .bReq, afi := afi, wake := wake } isoBegin s

/-- ISO_B_ANTICOLL (R209). -/
def isoBAnticollRun (h : Hdr) (p afi nStart maxTags : Nat) (wakeAll attrib : Bool) (s : State) : State :=
  if !isoRuns? s p 1 then fail h 0x47 E.isoType { port := p } s
  else isoTask h 0x47 p { stage := .bSlot, afi := afi, n := nStart, maxTags := maxTags, wake := wakeAll, attrib := attrib } bRound s

/-- ISO_B_ATTRIB (R213, R214, R216). -/
def isoBAttribRun (h : Hdr) (p handle cid dsMax drMax : Nat) (s : State) : State :=
  isoOn h 0x48 p handle 1 (fun x => x.st == .readyDeclared) s fun x s =>
    let other := (port s p).iso.handles.any fun y => y.st == .protocol && y.h != handle
    if x.cidOk then
      match pickCid s p cid with
      | none => fail h 0x48 E.isoCidFull { port := p, handle := handle } s
      | some c =>
        let (ds, dr) := divisors s p x.rates dsMax drMax
        isoTask h 0x48 p { stage := .attrib, handle := handle, cid := c, dsMax := ds, drMax := dr } isoBegin s
    else if (freeCid s p).isNone then fail h 0x48 E.isoCidFull { port := p, handle := handle } s
    else if other then fail h 0x48 E.isoActivation { port := p, handle := handle } s
    else
      let (ds, dr) := divisors s p x.rates dsMax drMax
      isoTask h 0x48 p { stage := .attrib, handle := handle, cid := 0, dsMax := ds, drMax := dr } isoBegin s

/-- ISO_B_HALT. -/
def isoBHaltRun (h : Hdr) (p handle : Nat) (s : State) : State :=
  isoOn h 0x49 p handle 1 (fun x => x.st == .readyDeclared) s fun _ s => isoTask h 0x49 p { stage := .hltB, handle := handle } isoBegin s

/-- ISO_APDU (R218). -/
def isoApduRun (h : Hdr) (p handle : Nat) (apdu : Bytes) (s : State) : State :=
  isoOn h 0x4A p handle 3 (fun x => x.st == .protocol) s fun _ s =>
    isoTask h 0x4A p { stage := .block, handle := handle, data := apdu } apduNext s

/-- ISO_DESELECT (R224). -/
def isoDeselectRun (h : Hdr) (p handle : Nat) (s : State) : State :=
  isoOn h 0x4B p handle 3 (fun x => x.st == .protocol) s fun x s =>
    isoTask h 0x4B p { stage := .deselect, handle := handle } (fun p c => blkBegin p c 2 (blkBytes x 0xC2 [])) s

/-- ISO_FORGET: it releases a handle, or every one, and sends nothing. -/
def isoForgetRun (h : Hdr) (p handle : Nat) (s : State) : State :=
  if !(pAttr s A.protocol p == 1 || pAttr s A.protocol p == 2) then fail h 0x4C E.isoType { port := p, handle := handle } s
  else if handle == 0xFFFF then ok h 0x4C [] (modIso p (fun i => { i with handles := [] }) s)
  else if (isoHandle s p handle).isNone then fail h 0x4C E.isoHandle { port := p, handle := handle } s
  else ok h 0x4C [] (modIso p (fun i => { i with handles := i.handles.filter fun x => x.h != handle }) s)

/-- ISO_V_INVENTORY (R227). -/
def isoVInventoryRun (h : Hdr) (p afi : Nat) (useAfi slots16 quiet : Bool) (maskLen maxTags mask : Nat) (s : State) : State :=
  if !isoRuns? s p 2 then fail h 0x50 E.isoType { port := p } s
  else isoTask h 0x50 p { stage := .vSlot, afi := afi, useAfi := useAfi, quiet := quiet, maxTags := maxTags,
                          queue := [(mask % 2 ^ maskLen, maskLen, slots16)] } vNext s

/-- The write-class codes of ISO/IEC 15693 (R230). -/
def vWriteCodes : List Nat := [0x21, 0x22, 0x24, 0x27, 0x28, 0x29, 0x2A]

/-- ISO_V_COMMAND: addressed, or to the SELECTED handle (R229 to R232). -/
def isoVCommandRun (h : Hdr) (p handle code : Nat) (option writeClass repeatable : Bool) (mfg : Nat) (params : Bytes) (s : State) : State :=
  let c : IsoCmd := { stage := .vCmd, handle := handle, code := code, opt := option, rep := repeatable, mfg := mfg, data := params,
                      write := vWriteCodes.contains code || (code ≥ 0xA0 && writeClass) }
  if handle == 0 then
    if !isoRuns? s p 2 then fail h 0x51 E.isoType { port := p } s
    else if !((port s p).iso.handles.any fun x => x.st == .selected) then fail h 0x51 E.isoState { port := p } s
    else isoTask h 0x51 p c isoBegin s
  else isoOn h 0x51 p handle 2 (fun x => x.st == .ready || x.st == .selected || x.st == .quiet) s fun _ s => isoTask h 0x51 p c isoBegin s

/-- ISO_V_SELECT (R201). -/
def isoVSelectRun (h : Hdr) (p handle : Nat) (s : State) : State :=
  isoOn h 0x52 p handle 2 (fun x => x.st == .ready || x.st == .quiet || x.st == .unknown) s fun _ s =>
    isoTask h 0x52 p { stage := .vSelect, handle := handle } isoBegin s

/-- ISO_V_QUIET. -/
def isoVQuietRun (h : Hdr) (p handle : Nat) (s : State) : State :=
  isoOn h 0x53 p handle 2 (fun x => x.st == .ready || x.st == .selected) s fun _ s =>
    isoTask h 0x53 p { stage := .vQuiet, handle := handle } isoBegin s

/-- ISO_V_RESET_READY. -/
def isoVResetRun (h : Hdr) (p handle : Nat) (s : State) : State :=
  isoOn h 0x54 p handle 2 (fun x => x.st == .selected || x.st == .quiet || x.st == .unknown) s fun _ s =>
    isoTask h 0x54 p { stage := .vReset, handle := handle } isoBegin s

/-! ### Credentials (R500 to R502) -/

/-- CRED_WRITE (R501): its checks, then the generation of the key page, while Cellar derives the credential. A handle known from a header alone is
asked by an ACK first, and what its descriptor decides is checked then (R291). -/
def credWriteRun (h : Hdr) (p handle cask slot format : Nat) (s : State) : State :=
  let dl := resolveDl s p 0
  let ul := resolveUl s p 0
  let no := fun (code : Nat) => fail h 0xCB code { port := p, handle := handle } s
  match hyHandle s p handle with
  | none => no E.hyHandle
  | some x =>
    if x.st != .active then no E.hyState
    else if !modesOn s p dl ul || (match x.desc with | some d => !descAllows d dl ul 0xCB | none => false) then no E.hyMode
    else if (match x.desc with | some d => decide (slot ≥ dKeys d) | none => false) then failRange h 0xCB 12 s
    else if wrappedFormat format && mAttrN s A.secCredTransportCask == 0xFFFF then failRange h 0xCB 13 s
    else match credCheck s 0xCB cask format with
    | some (code, n) => fail h 0xCB code { port := p, handle := handle, arg1 := (n : Int) } (countRefused s)
    | none =>
      let c : HyCmd := { stage := if x.ident.isSome then .credGen else .preAck, after := .credGen, handle := handle, dl := dl, ul := ul, page := 0xF0 + slot, ident := x.ident.getD [], cask := cask,
                         slot := slot, format := format, addr := incOf s cask, count := incOf s (mAttrN s A.secCredTransportCask), transport := mAttrN s A.secCredTransportCask }
      hyBegin p c none (beginTask h 0xCB p (.hy c) s)

/-- CRED_VERIFY (R502). DEDUCED, unsafe: log entry 46. -/
def credVerifyRun (h : Hdr) (p handle cask slot : Nat) (s : State) : State :=
  let dl := resolveDl s p 0
  let ul := resolveUl s p 0
  let no := fun (code : Nat) => fail h 0xCC code { port := p, handle := handle } s
  match hyBar s p 0xCC handle dl ul, hyHandle s p handle with
  | some code, _ => no code
  | none, none => no E.hyHandle
  | none, some x =>
    match credCheck s 0xCC cask 0 with
    | some (code, n) => fail h 0xCC code { port := p, handle := handle, arg1 := (n : Int) } (countRefused s)
    | none =>
      let c : HyCmd := { stage := if x.ident.isSome then .credChallenge else .preAck, after := .credChallenge, handle := handle, dl := dl, ul := ul, ident := x.ident.getD [], cask := cask, slot := slot,
                         addr := incOf s cask }
      let s := beginTask h 0xCC p (.hy c) s
      if x.ident.isSome then credChallenge p 0xCC c none s else hyBegin p c none s

end Sys2Proof.Machine
end

