-- ==== Sys2Proof/Machine/AttrRead.lean ====
section
/-!
DEFINITION. What attributes read: the ring status words, the timer descriptors, every RO attribute, and ATTR_GET (R397, R421, R423, R425, and the
attribute tables of every chapter).
-/

namespace Sys2Proof.Machine

/-- The ring status word (Table 7-11). -/
def statusWord (f : RingFlags) (level wm : Nat) : Nat :=
  f.peak % 4096 * 2 ^ 20 + level % 4096 * 2 ^ 8 + 8 * bnat f.pushWaited + 4 * bnat f.noCredit + 2 * bnat f.wmLatched + bnat (level > wm)

/-- The status words of the two rings of a queue byte. -/
def statusIn (s : State) (q : Nat) : Nat := statusWord (inRing s q).flags (inRing s q).level (wmIn s q)
def statusOut (s : State) (q : Nat) : Nat := statusWord (outRing s q).flags (outRing s q).level (wmOut s q)

/-- QUEUE_STATUS's clear: PUSH_WAITED, NO_CREDIT and WM_LATCHED go to 0 and PEAK to LEVEL (R398). -/
def clearFlags (level : Nat) : RingFlags := { peak := level }

/-- QUEUE_STATUS (R398). `mask` holds bit q for queue byte q. -/
def queueStatusRun (h : Hdr) (mask : Nat) (clear : Bool) (s : State) : State :=
  let qs := (List.range 72).filter (bit mask)
  let recs := qs.map fun q => [b8 q, 0, 0, 0] ++ le 4 (statusIn s q) ++ le 4 (statusOut s q)
  let s := if clear then qs.foldl (fun s q =>
      modIn q (fun r => { r with flags := clearFlags r.level }) (modOut q (fun r => { r with flags := clearFlags r.level }) s)) s
    else s
  respondList h 0x0A 12 recs s

/-- The two words of a timer descriptor (Tables 1-6, 1-7). -/
def timerWords (t : Timer) : List Int :=
  [((bnat t.armed * 2 ^ 63 + bnat t.late * 2 ^ 62 + t.mode % 4 * 2 ^ 60 + t.action % 256 * 2 ^ 48 + t.fire % 2 ^ 48 : Nat) : Int),
   ((t.gridBase % 2 ^ 32 * 2 ^ 24 + t.period % 2 ^ 24 : Nat) : Int)]

/-- The descriptors of the pool timers that are claimed, in the order of the feature codes of Table 1-11: Trellis times its frames with one and the
activation of a plan with the other, the SYNC chain its pulses, then the diagnostic triggers and the scheduled actions. DESIGN CHOICE, unsafe: log
entry 32. -/
def poolTimers (s : State) : List Timer :=
  let frame := tickOf s ((frameNo s + 1) * 1000000)
  (if mAttr s A.clusterTrellisEnable == 0 then []
    else [{ armed := true, action := 0x0B, fire := frame },
      match s.cluster.pending with | some (_, due, _) => { armed := true, action := 0x0B, fire := tickOf s due } | none => {}])
  ++ (if mAttr s A.clusterSyncMode == 0 then [] else [{ armed := true, action := 0x0A, fire := frame }])
  ++ ((List.range 8).filterMap fun n =>
    let mode := pAttr s A.diagTrigMode n
    let action := if mode == 2 then 0x0A else 0
    if mode == 0 then none
    else match nth s.diag.triggers n none with
      | some (ns, due) => some { armed := true, mode := if ns == 0 then 0 else 1, action := action, fire := tickOf s due, period := ns * 339 / 12500 }
      | none => some { action := action })
  ++ (List.range (mAttrN s A.moduleSchedCount)).map fun i =>
    match s.diag.scheds.find? fun x => x.action == i with
    | some x => { armed := true, fire := tickOf s x.due }
    | none => {}

/-- What the host reads of a timer: its descriptor; a pool timer that nothing claims reads as at reset (R37, Tables 1-6 and 1-7). -/
def timerRead (s : State) (i : Nat) : Timer := if 192 ≤ i && i < 240 then nth (poolTimers s) (i - 192) {} else timer s i

/-- Numbers as the values of an attribute. -/
def vals (xs : List Nat) : List Int := xs.map fun (n : Nat) => (n : Int)

/-- The present contents of the availability ledger: powered and halted ticks (R549). -/
def ledger (s : State) : Nat × Nat :=
  let d := ledgerDue s
  (s.nvm.poweredTicks + d, s.nvm.haltedTicks + (if ledgerHalts s then d else 0))

/-- svc.avail.unavailability: the halted time and one sixty-fourth of the port interruption, over the powered time, in parts per 10^9 (R549). -/
def unavailability (s : State) : Int :=
  let (powered, halted) := ledger s
  if powered == 0 then Config.reading s.free A.svcAvailUnavailability 0
  else (((halted * 1600 + s.nvm.portInterruptUs * 678) * 1000000000 / (powered * 1600) : Nat) : Int)

/-- The band in mV within which a rail in regulation reads, for the rails that are read (Table 12-1). -/
def railBand (s : State) (i : Nat) : Int × Int :=
  if i == 1 then (1710, 1890)
  else if i == 3 then (1746, 1854)
  else
    let v : Int := (nth s.power.vpaSet (i - 4) 6000 : Nat)
    ((98 * v + 99) / 100, 102 * v / 100)

/-- The measured voltage of a rail: 0 while it is off, within its band in regulation, else a free value (R552, Table 12-1). -/
def railMv (s : State) (id i : Nat) : Int :=
  let r := rail s i
  let x := Config.reading s.free id i
  if !r.en then 0 else if r.reg then max (railBand s i).1 (min (railBand s i).2 x) else x

/-- An RO attribute of the port radio and Press (Table 2-14). -/
def readRadio (s : State) (id p : Nat) : List Int :=
  let r := (port s p).radio
  if id == A.radioState then vals [(sliceAt s p).st.code]
  else if id == A.txVswr then vals [r.vswr]
  else if id == A.tnMv then vals [r.tnMv]
  else if id == A.tunePhase then [r.tunePhase]
  else if id == A.aerialClass then vals [r.aerial]
  else if id == A.moduleRegProfile then vals [s.nvm.profile]
  else if id == A.moduleRegChannelMask then vals [regChannelMask s]
  else if id == A.moduleRegPortCeilingCdbm then vals [regCeiling]
  else if id == A.moduleRegTotalMw then vals [regTotalMw]
  else if id == A.moduleRegDutyLimit then vals [regDuty]
  else if id == A.pressReserveMw then vals [pressReserve]
  else if id == A.pressAvailableMw then vals [pressAvailable s]
  else if id == A.pressGrantedMw then vals [pressGranted s]
  else if id == A.pressClass then vals [pressClass s] else []

/-- An RO attribute of the receive chain (Table 3-15). -/
def readRx (s : State) (id p : Nat) : List Int :=
  let r := (port s p).rx
  if id == A.rxNoiseCdbm then [r.noise.getD (-32768)]
  else if id == A.rxNoiseFieldCdbm then [r.noiseField.getD (-32768)]
  else if id == A.rxH4NoiseCdbm then r.profile.getD (List.replicate 16 (-32768))
  else if id == A.rxH4SnrCdb then r.snr
  else if id == A.rxH4Loading then vals r.loading
  else if id == A.rxMirrorAggressors then vals (r.aggressors ++ List.replicate (8 - r.aggressors.length) 0xFF)
  else if id == A.rxMirrorUncovered then vals [r.uncovered]
  else if id == A.rxCntFalseSync then vals [r.falseSync]
  else if id == A.rxCntCrcFail then vals [r.crcFail]
  else if id == A.rxCntPreempted then vals [r.preempted]
  else if id == A.rxCntClipped then vals [r.clipped]
  else if id == A.diagMirrorCoupling then (List.range 64).map fun a => if a == p then 0 else couplingOf s a p else []

/-- An RO attribute of the ISO and Hymond protocols, Harvest, Prism, Lens and Z8 (Tables 4-10, 5-17, 6-12). -/
def readTags (s : State) (id p : Nat) : List Int :=
  let x := port s p
  if id == A.isoTags then vals [x.iso.handles.length]
  else if id == A.hyGuardDeclaredUs then vals [x.hy.guardUs]
  else if id == A.hyHandles then vals [x.hy.handles.length]
  else if id == A.hyCntStale then vals [x.hy.stale]
  else if id == A.hyCntBusyWire then vals [x.hy.busyWire]
  else if id == A.hyCntRetries then vals [x.hy.retries]
  else if id == A.hvCntInserted then vals [x.inserted]
  else if id == A.hvCntLost then vals [x.lost]
  else if id == A.hvTableUsed then vals [s.inv.length]
  else if id == A.prismVector then vals [x.prism.vector]
  else if id == A.prismPhaseErr then x.prism.err
  else if id == A.lensBaseline then [x.lens.base.1 / 65536, x.lens.base.2 / 65536]
  else if id == A.lensLast then [x.lens.last.1, x.lens.last.2]
  else if id == A.lensCntUnconfirmed then vals [x.lens.unconfirmed]
  else if id == A.lensCntSkipped then vals [x.lens.skipped]
  else if id == A.z8LevelMv then vals [Config.z8Level p s.free % 2001] else []

/-- An RO attribute of the module, the link and the power over the cable (Tables 8-18, 7-13). -/
def readModule (s : State) (id q : Nat) : List Int :=
  let c := s.link.cnt
  if id == A.moduleState then vals [s.mod.st.code]
  else if id == A.moduleId then vals [s.moduleId]
  else if id == A.moduleSerial then vals [s.nvm.serial]
  else if id == A.moduleBootCount then vals [s.nvm.bootCount]
  else if id == A.moduleFwVersion then vals [fwVersion s]
  else if id == A.moduleLifeCycle then vals [lifeCycle s]
  else if id == A.moduleDebugOpen then vals [bnat s.nvm.sec.debugOpen]
  else if id == A.configCommitId then vals [s.cfg.commitId]
  else if id == A.configSavedId then vals [s.nvm.savedId]
  else if id == A.linkSpeed then vals [s.link.speed]
  else if id == A.linkCntRxForeign then vals [c.rxForeign]
  else if id == A.linkCntRxDropped then vals [c.rxDropped]
  else if id == A.linkCntRxCrc then vals [c.rxCrc]
  else if id == A.linkCntRxDup then vals [c.rxDup]
  else if id == A.linkCntRefused then vals [c.refused]
  else if id == A.linkCntNakSent then vals [c.nakSent]
  else if id == A.linkCntRetx then vals [c.retx]
  else if id == A.linkCntItemCheckFail then vals [c.itemCheckFail]
  else if id == A.linkQStatus then vals [statusIn s q, statusOut s q]
  else if id == A.modulePowerClass then vals [if s.power.physClass ≥ 8 then 8 else 6]
  else if id == A.modulePowerAllocMw then vals [s.power.allocMw]
  else if id == A.modulePowerInputMv then vals [s.power.piMv]
  else if id == A.modulePowerInputMw then vals [s.power.inputMw] else []

/-- A word of port.cl.xcoupling: coupling, module, port (Table 9-7). -/
def xcouplingWord (e : Int × Nat × Nat) : Nat := (e.1 % 65536).toNat * 65536 + e.2.1 % 256 * 256 + e.2.2 % 256

/-- An RO attribute of the cluster and of security (Tables 9-7, 10-8). -/
def readCluster (s : State) (id p : Nat) : List Int :=
  let x := nth s.nvm.xcoupling p []
  if id == A.clusterPtpPriority2 then vals [s.moduleId]
  else if id == A.clusterPtpRole then vals [s.time.role]
  else if id == A.clusterTimeLock then vals [s.time.lock]
  else if id == A.clusterTimeOffsetNs then [timeOffset s]
  else if id == A.clusterSyncHead then vals [bnat s.time.head]
  else if id == A.clusterPlanActive then vals [(s.cluster.active.map (·.1)).getD 0]
  else if id == A.clusterPlanPending then vals [(s.cluster.pending.map (·.1)).getD 0]
  else if id == A.clusterPlanFrame then vals [frameNo s]
  else if id == A.clXcoupling then vals (x.map xcouplingWord ++ List.replicate (16 - x.length) 0xFFFFFFFF)
  else if id == A.secRootKind then vals [bnat s.nvm.sec.debugOpen]
  else if id == A.secCasksLive then vals [(casksIn s .live).length]
  else if id == A.secStoreRecordsFree then vals [recordsFree s]
  else if id == A.secPufMargin then vals [s.cellar.margin]
  else if id == A.fwSvnFloor then vals [s.nvm.sec.svnFloor]
  else if id == A.secCntOperations then vals [s.cellar.operations]
  else if id == A.secCntRefused then vals [s.cellar.refused] else []

/-- An RO attribute of sparing, power domains and diagnostics (Tables 11-6, 12-10, 8-18). -/
def readService (s : State) (id i : Nat) : List Int :=
  if id == A.svcSparesFree then vals ((List.range 7).map fun k => freeSpares s (k + 1))
  else if id == A.svcEventsFolded then vals s.ev.total
  else if id == A.svcAvailPoweredS then vals [(ledger s).1 / 27120000]
  else if id == A.svcAvailHaltedS then vals [(ledger s).2 / 27120000]
  else if id == A.svcAvailPortInterruptUs then vals [s.nvm.portInterruptUs]
  else if id == A.svcAvailUnavailability then [unavailability s]
  else if id == A.pmVcoreMv then vals [s.power.vcoreMv]
  else if id == A.pmResetCause then vals [s.mod.resetCause]
  else if id == A.pmBootHoldCause then vals [s.mod.holdCause]
  else if id == A.pmBootTimeMs then vals [s.mod.bootTimeMs]
  else if id == A.pmBootConfigResult then vals [s.mod.configResult]
  else if id == A.pmCalSkipped then vals [s.mod.calSkipped]
  else if id == A.pmRailVioMv then [railMv s id 1]
  else if id == A.pmRailVanaMv then [railMv s id 3]
  else if id == A.pmRailVpaMv then (List.range 8).map fun g => railMv s id (4 + g)
  else if id == A.pmVauxMv then vals [s.pins.vauxMv]
  else if id == A.pmRailLog then vals (s.nvm.railLog ++ List.replicate (16 - s.nvm.railLog.length) 0)
  else if id == A.pmBaseplateMdegc then [Config.reading s.free id 0]
  else if id == A.diagMapPortSlice then vals s.spares.portSlice
  else if id == A.diagMapPortEngine then vals ((List.range 64).map fun p => if isFollower s p then 0xFF else nth s.spares.portEngine p p)
  else if id == A.diagPmPathNs then vals [s.power.paths.foldl max 0]
  else if id == A.diagTbankTimer then timerWords (timerRead s i) else []

/-- What an RO attribute reads on an index. -/
def readRo (s : State) (id i : Nat) : List Int :=
  readRadio s id i ++ readRx s id i ++ readTags s id i ++ readModule s id i ++ readCluster s id i ++ readService s id i

/-- The attributes of the link whose value in force changes only with the next session (R401). DEDUCED, unsafe: log entry 59. -/
def sessionValue (s : State) (id : Nat) : Option Int :=
  if id == A.linkUdpPort then some (s.link.udpPort : Int)
  else if id == A.linkIpv4Mode then some (s.link.ipv4Mode : Int)
  else if id == A.linkIpv4Addr then some (s.link.ipv4Addr : Int)
  else if id == A.linkIpv4Prefix then some (s.link.ipv4Len : Int) else none

/-- The values an attribute reads on an index (R425). -/
def readAttr (s : State) (staged : Bool) (a : AttrRow) (i : Nat) : List Int :=
  if !a.rw then readRo s a.id i
  else if staged then cfgVal s s.cfg.staged a.id i
  else match sessionValue s a.id with
  | some v => [v]
  | none => cfgVal s s.cfg.running a.id i

/-- A value record (Table 8-5). -/
def valueRecord (s : State) (staged : Bool) (a : AttrRow) (i : Nat) : Bytes :=
  let size := (typeSize a.typ).getD 1
  pad4 (le 2 a.id ++ le 2 i ++ [b8 a.typ, b8 a.n] ++ (((readAttr s staged a i) ++ List.replicate a.n 0).take a.n |>.map (leI size)).flatten)

/-- Whether an attribute is read by ATTR_GET on SQ4 only (R423): its name begins with diag. -/
def isDiag (id : Nat) : Bool := (0x2E00 ≤ id && id ≤ 0x2EFF) || id == A.diagMirrorCoupling

/-- The records of a request, or the code with which it fails. -/
def attrRequest (s : State) (q : Nat) (staged : Bool) (id index : Nat) : Nat ⊕ List Bytes :=
  match attrRow id with
  | none => .inl E.attrUnknown
  | some a =>
    if isDiag id && q != 0x44 then .inl E.wrongQueue
    else
      let is := expandIndex a.scope index
      if is.isEmpty then .inl E.range else .inr (is.map (valueRecord s staged a))

/-- The first request that fails, with its number. -/
def attrGetBad (s : State) (q : Nat) (staged : Bool) : Nat → List (Nat × Nat) → Option (Nat × Nat × Nat × Nat)
  | _, [] => none
  | n, r :: rs =>
    match attrRequest s q staged r.1 r.2 with
    | .inl e => some (n, r.1, r.2, e)
    | .inr _ => attrGetBad s q staged (n + 1) rs

/-- The failure detail of a request of ATTR_GET (Table 8-23). -/
def attrGetDetail (n id index code : Nat) : Detail :=
  if code == E.range then { record := n, arg2 := ((14 + 4 * n : Nat) : Int) }
  else if code == E.wrongQueue then { record := n }
  else { record := n, arg1 := (id : Int), arg2 := (index : Int) }

/-- ATTR_GET (R421, R423, R425). -/
def attrGetRun (h : Hdr) (staged : Bool) (reqs : List (Nat × Nat)) (s : State) : State :=
  match attrGetBad s h.q staged 0 reqs with
  | some (n, id, index, code) => fail h 0x03 code (attrGetDetail n id index code) s
  | none =>
    let recs := reqs.flatMap fun r => match attrRequest s h.q staged r.1 r.2 with | .inr xs => xs | .inl _ => []
    respondParts h 0x03 ((packRecs 1388 [] recs).map fun rs => [b8 rs.length, 0, 0, 0] ++ rs.flatten) (drawn s)

end Sys2Proof.Machine
end

