-- ==== Sys2Proof/Machine/FwRun.lean ====
section
/-!
DEFINITION. Firmware: loading and verifying an image, activation in service, at the next start and in HALTED, and rollback
(R420, R520 to R523, R546 to R548, R567).
-/

namespace Sys2Proof.Machine

/-- The largest image, 6 MiB (R520). -/
def imageMax : Nat := 6 * 1024 * 1024

/-- The layout of Table 10-7: MAGIC, a known KEY_INDEX, the reserved fields at 0, and BODY_SIZE. -/
def imageFormed (x : Bytes) : Bool :=
  num x 0 4 == 0x5A4AF1A6 && num x 8 1 ≤ 2 && num x 9 1 ≤ 1 && num x 10 2 == 0 && num x 48 16 == 0 && num x 12 4 + 128 == x.length

/-- A public key of the write-once area (R521). -/
def fwKey (index : Nat) : Nat × Nat :=
  let key := (List.range 64).map fun i => Config.fwKeyByte (64 * index + i)
  (ofBe (key.take 32), ofBe (key.drop 32))

/-- Whether an image verifies by R521: its key may be used, and body hash and signature hold. -/
def imageSigned (s : State) (b : Bytes) : Bool :=
  let key := num b 8 1
  (key != 2 || s.nvm.sec.debugOpen) && sha256 (slice b 64 (num b 12 4)) == slice b 16 32
    && ecdsaOk (fwKey key) (sha256 (b.take (64 + num b 12 4))) (b.drop (64 + num b 12 4))

/-- What FW_VERIFY finds of an image: none where it verifies (R420, R521, R522). -/
def verifyError (s : State) (x : Image) : Option Nat :=
  match x.bytes with
  | none => some E.fwImage
  | some b =>
    if !imageFormed b || num b 6 2 < s.nvm.sec.svnFloor then some E.fwImage
    else if !imageSigned s b then some E.fwSignature
    else none

/-- Whether the image of a slot verifies at a start (R521, R523): `read` says that what NVM yields of it is what was written. The bytes of the image
that the module was delivered with are not held, and `read` stands for its verification. A slot that is empty or has failed holds no image to run. -/
def imageRuns (s : State) (x : Image) (read : Bool) : Bool :=
  read && x.state != 0 && x.state != 4 &&
    if x.chunks.isEmpty then x.state != 1
    else match x.bytes with
    | some b => imageFormed b && imageSigned s b
    | none => false

/-- BOOT may start an image: VANA is in regulation, and no hold stands (R557, R569, Table 12-9). -/
def bootReady (s : State) : Bool := s.mod.st == .boot && s.mod.holdCause == 0 && s.power.retryAt.isNone && (rail s 3).reg

/-- The slot that is not active. -/
def otherSlot (s : State) : Nat := 1 - s.nvm.active

/-- Change an image slot. -/
def modImage (i : Nat) (f : Image → Image) (s : State) : State := modNvm (fun n => { n with images := upd n.images i f }) s

/-- FW_BEGIN: the inactive slot is opened for a load, and loses what it held. DEDUCED, unsafe: log entry 52. -/
def fwBeginRun (h : Hdr) (size : Nat) (s : State) : State :=
  let i := otherSlot s
  let s := modImage i (fun _ => { state := 1, size := size }) (modNvm (fun n => { n with markNext := none }) s)
  ok h 0x10 [b8 i, 0, 0, 0] { s with fwOpen := true }

/-- FW_DATA (R420). -/
def fwDataRun (h : Hdr) (off : Nat) (data : Bytes) (s : State) : State :=
  let i := otherSlot s
  if !s.fwOpen then fail h 0x11 E.fwSequence {} s
  else if off + data.length > (nth s.nvm.images i {}).size then failRange h 0x11 8 s
  else ok h 0x11 [] (modImage i (fun x => { x with state := 1, chunks := (off, data) :: x.chunks }) s)

/-- FW_VERIFY (R420, R521, R522). An image that verifies closes its load. DEDUCED, unsafe: log entry 52. -/
def fwVerifyRun (h : Hdr) (s : State) : State :=
  let i := otherSlot s
  let x := nth s.nvm.images i {}
  if x.state == 2 && x.svn < s.nvm.sec.svnFloor then fail h 0x12 E.fwImage {} s
  else if x.state == 2 then ok h 0x12 (le 2 x.version ++ [0, 0]) s
  else match verifyError s x with
  | some code =>
    fail h 0x12 code {} (if x.bytes.isNone then s else modImage i (fun x => { x with state := 4 }) s)
  | none =>
    let v := num (x.bytes.getD []) 4 2
    ok h 0x12 (le 2 v ++ [0, 0]) (modImage i (fun x => { x with state := 2, version := v }) { s with fwOpen := false })

/-- FW_STATUS. -/
def fwStatusRun (h : Hdr) (s : State) : State :=
  let one := fun (i : Nat) => let x := nth s.nvm.images i {}; le 2 x.version ++ [b8 x.state, 0] ++ le 4 x.size
  ok h 0x14 (one 0 ++ one 1) s

/-- The inactive image becomes the active one (R522, R567). -/
def activateImage (i : Nat) (s : State) : State :=
  let clear := fun (m : Option Nat) => if m == some i then none else m
  modNvm (fun n => Nvm.raiseFloor i { n with
    active := i, images := takeImage i n.images, failedStarts := 0, markNext := clear n.markNext }) { s with fwOpen := false }

/-- Every port is asked to hold at its next boundary; a port at one holds now (R546). -/
def askHolds (s : State) : State := (List.range 64).foldl (fun s p => if atBoundary s p then holdFw p s else s) s

/-- The ports that hold for the activation go on, and their interruption enters the ledger (R546, R549). DEDUCED, unsafe: log entry 52. -/
def releaseFw (s : State) : State :=
  match s.act with
  | none => s
  | some a =>
    let ps := portsOf a.held
    let us := usOf (ps.length * s.now - a.since)
    let s := modNvm (fun n => { n with portInterruptUs := n.portInterruptUs + us })
      { s with act := some { a with held := 0, since := 0, firstHold := none } }
    ps.foldl (fun s p => resumePort p (unhold p s)) s

/-- A verified image starts in BOOT: the supervisors and engines run, the VPA rails come up, and the module enters CAL (R523, R548, R553, Table 12-9).
DEDUCED, unsafe: log entry 21. -/
def startImage (s : State) : State :=
  moveTo .cal 0 (enableVpa (modMod (fun m => { m with imageOk := true, noImage := false }) s))

/-- Switch to the inactive image: in service by the steps of R546, in HALTED by a reset into it, and in BOOT, where no image runs, by
starting it, unless a hold stands, which only a reset ends (R541, R546 to R548, R557). DEDUCED, unsafe: log entry 21. -/
def switchImage (h : Hdr) (rollback : Bool) (s : State) : State :=
  let i := otherSlot s
  let op := if rollback then 0x15 else 0x13
  if s.mod.st == .boot then
    let s := modMod (fun m => { m with fwNews := [(if rollback then 2 else 1, i)], noImage := false }) (activateImage i s)
    let s := ok h op [] s
    if bootReady s then startImage s else s
  else if s.mod.st == .halted then
    ok h op [] (modNvm (fun n => { n with markNext := some i })
      (modMod (fun m => { m with resetDue := 5, resetQ := h.q, fwNews := [(if rollback then 2 else 1, i)] }) s))
  else askHolds { s with act := some { hdr := h, rollback := rollback, tries := 0, firstHold := none, held := 0, since := 0, retryAt := none } }

/-- FW_ACTIVATE (R420, R546, R547). -/
def fwActivateRun (h : Hdr) (atStart : Nat) (s : State) : State :=
  let i := otherSlot s
  if (nth s.nvm.images i {}).state != 2 then fail h 0x13 E.fwSequence {} s
  else if atStart == 1 then ok h 0x13 [] (modNvm (fun n => { n with markNext := some i }) s)
  else switchImage h false s

/-- FW_ROLLBACK (R522, R547). DEDUCED, unsafe: log entry 52. -/
def fwRollbackRun (h : Hdr) (s : State) : State :=
  let x := nth s.nvm.images (otherSlot s) {}
  if x.state != 2 then fail h 0x15 E.fwSequence {} s
  else if x.svn < s.nvm.sec.svnFloor then fail h 0x15 E.fwImage {} s
  else switchImage h true s

/-- The security core restarts: Cellar requests wait until the root is regenerated and the store scanned (R537, R546). -/
def restartCore (s : State) : State :=
  modMod (fun m => { m with rootOk := false, storeOk := false })
    { s with cellar := { s.cellar with tries := 0, root := [], drbg := {} } }

/-- Every port holds, and no change of the life cycle is in progress: the new image runs, with the state carried over, the security core restarts,
and the ports resume (R537, R546, R548, R567). -/
def portsHeldRun (s : State) : State :=
  match s.act with
  | none => s
  | some a =>
    if a.retryAt.isSome || (portsOf a.held).length != 64 || s.cellar.change.isSome then s
    else
      let i := otherSlot s
      let s := releaseFw (restartCore (activateImage i s))
      let s := ok a.hdr (if a.rollback then 0x15 else 0x13) [] { s with act := none }
      raise Ev.firmware 0xFF (fwArgs s (if a.rollback then 2 else 1) i) s

/-- Some port has not held in time: the held ports resume; after ten tries the command fails with the first port that did not hold
(R546). -/
def holdTimeoutRun (s : State) : State :=
  match s.act with
  | none => s
  | some a =>
    let late := match a.firstHold with | some f => s.now ≥ f + fwHoldTicks s | none => false
    if a.retryAt.isSome || (portsOf a.held).length == 64 || !late then s
    else
      let free := ((List.range 64).find? fun p => !bit a.held p).getD 0
      let due := some (s.now + msT 100)
      let s := releaseFw s
      if a.tries + 1 ≥ 10 then
        fail a.hdr (if a.rollback then 0x15 else 0x13) E.portBusy { port := free } { s with act := none }
      else
        { s with act := some { a with held := 0, since := 0, firstHold := none, tries := a.tries + 1, retryAt := due } }

/-- The activation is tried again (R546). -/
def activationRetryRun (s : State) : State :=
  match s.act with
  | none => s
  | some a =>
    match a.retryAt with
    | none => s
    | some u =>
      if s.now < u then s
      else askHolds { s with act := some { a with retryAt := none, held := 0, since := 0, firstHold := none } }

end Sys2Proof.Machine
end

