-- ==== Sys2Proof/Machine/SpareRun.lean ====
section
/-!
DEFINITION. Sparing: the spares and who may use them, the wear monitors, planned and emergency swaps, the tests of spares, the event log, and the
diagnostics commands that read them (R525 to R545, Tables 8-16 and 11-1 to 11-4).
-/

namespace Sys2Proof.Machine

/-! ### Who serves, and what may stand in (Table 11-1, R525 to R527) -/

/-- The instances of a kind that serve rather than stand in reserve. Timers, SRAM macros and NVM pages keep their own numbers (R36). DEDUCED, unsafe:
log entry 53. -/
def works (s : State) (kind inst : Nat) : Bool :=
  match kind with
  | 1 => s.spares.portSlice.contains inst
  | 2 => s.spares.portEngine.contains inst
  | 3 => s.spares.supervisor.contains inst
  | 4 => s.spares.secCore == inst
  | 5 => inst < 240
  | 6 => inst < 10
  | 7 => inst < 7680
  | _ => false

/-- The port a slice or an engine serves, or that owns a timer (R35). -/
def portServed (s : State) (kind inst : Nat) : Option Nat :=
  match kind with
  | 1 => s.spares.portSlice.findIdx? (· == inst)
  | 2 => s.spares.portEngine.findIdx? (· == inst)
  | 5 => if inst < 192 then some (inst / 3) else none
  | _ => none

/-- The spares of a numbered pool that are left: those not retired, behind the ones that already stand in for a retired instance. -/
def poolLeft (s : State) (kind base n : Nat) : List Nat :=
  let gone := (s.nvm.faultMap.filter fun e => e.1 == kind && e.2.1 < base).length
  (((List.range n).map (base + ·)).filter fun i => !isRetired s.nvm kind i).drop gone

/-- The spares that can serve an instance, next first (R22, R526). DEDUCED, unsafe: log entry 53. -/
def candidates (s : State) (kind inst : Nat) : List Nat :=
  let free := fun (used : List Nat) (xs : List Nat) => xs.filter fun i => !used.contains i && !isRetired s.nvm kind i
  match kind with
  | 1 => free s.spares.portSlice (match portServed s 1 inst with | some p => [64 + p / 8] | none => [])
  | 2 => free s.spares.portEngine [64, 65, 66, 67]
  | 3 => free s.spares.supervisor [4]
  | 4 => free [s.spares.secCore] [1]
  | 5 => poolLeft s 5 240 16
  | 6 => let r := (s.nvm.faultMap.filter fun e => e.1 == 6 && e.2.1 == inst).length; if r < 16 then [r] else []
  | 7 => poolLeft s 7 7680 512
  | _ => []

/-- Whether two swaps draw on the same spares: those of one group, one macro, or one pool. -/
def sharesSpares (s : State) (kind a z : Nat) : Bool :=
  match kind with
  | 1 => (portServed s 1 a).map (· / 8) == (portServed s 1 z).map (· / 8)
  | 6 => a == z
  | _ => true

/-- The swaps in progress that draw on the spares of an instance. -/
def rivals (s : State) (kind inst : Nat) : List Swap := s.spares.swaps.filter fun x => x.kind == kind && sharesSpares s kind x.inst inst

/-- A spare can serve an instance beside the swaps already planned (R529, R538). -/
def canServe (s : State) (kind inst : Nat) : Bool := works s kind inst && (candidates s kind inst).length > (rivals s kind inst).length

/-- Change the sparing record. -/
def modSpares (f : Spares → Spares) (s : State) : State := { s with spares := f s.spares }

/-- The fault map takes an instance, with the monitor or fault that retired it (R526). -/
def retire (kind inst why : Nat) (s : State) : State := modNvm (fun n => { n with faultMap := n.faultMap ++ [(kind, inst, why)] }) s

/-! ### Wear monitors (Table 11-2) -/

/-- The kind a monitor watches. -/
def kindOf (monitor : Nat) : Nat := nth [0, 1, 1, 1, 1, 1, 1, 2, 6, 7, 3, 4, 5] monitor 0

/-- The monitor under which a failed spare of a kind is reported (R539). -/
def monitorOf (kind : Nat) : Nat := nth [0, 1, 7, 10, 11, 12, 8, 9] kind 0

/-- The threshold of a monitor; for one without a trip, the value that is a fault. DEDUCED, unsafe: log entry 53. -/
def threshold (monitor : Nat) : Int := nth [0, 1500, 3, 800, 4, 60, 2, 10, 8, 90000, 1, 70, 1] monitor 0

/-- The instances a monitor watches. -/
def watched (monitor : Nat) : Nat := nth [0, 72, 72, 72, 72, 72, 72, 68, 10, 8192, 5, 2, 256] monitor 0

/-- Whether a value trips its monitor. -/
def trips (monitor : Nat) (value : Int) : Bool :=
  if monitor == 10 || monitor == 12 then false
  else if monitor == 4 then value ≤ threshold 4 else value ≥ threshold monitor

/-- Whether a value is the fault condition of its monitor (Table 11-2). -/
def wearFaults (monitor : Nat) (value : Int) : Bool := (monitor == 1 && value ≥ 3000) || ((monitor == 10 || monitor == 12) && value ≥ 1)

/-- The window in ticks of a monitor that counts. -/
def countWindow (monitor : Nat) : Nat := if monitor == 7 then msT 3600000 else msT 86400000

/-- The monitors that count events (Table 11-2). -/
def wearCounts (monitor : Nat) : Bool := monitor == 2 || monitor == 6 || monitor == 7

/-- The present value of a monitor: a count of what the model holds, a register of the slice or the security core, the value last reported,
or a free value where nothing has reported one. DEDUCED, unsafe: log entry 53. -/
def wearOf (s : State) (monitor inst : Nat) : Int :=
  if wearCounts monitor then
    (((s.spares.wearEvents.filter fun e => e.1 == monitor && e.2.1 == inst && s.now < e.2.2 + countWindow monitor).length : Nat) : Int)
  else if monitor == 4 then (nth s.slices inst {}).bandMargin
  else if monitor == 5 then ((nth s.slices inst {}).learnEvm : Int)
  else if monitor == 11 && inst == s.spares.secCore then (s.cellar.margin : Int)
  else match s.spares.wear.find? fun e => e.1 == monitor && e.2.1 == inst with
    | some e => e.2.2
    | none => if monitor == 10 || monitor == 12 then 0 else Config.wearValue s.free monitor inst

/-- The value of a monitor is kept where its present value is read: as events that now count, in the slice, in the security core; and as the value
last reported. DEDUCED, unsafe: log entry 53. -/
def noteWear (monitor inst : Nat) (value : Int) (s : State) : State :=
  let more := if wearCounts monitor then List.replicate (value - wearOf s monitor inst).toNat (monitor, inst, s.now) else []
  let s := modSpares (fun x => { x with
    wear := (monitor, inst, value) :: x.wear.filter fun e => !(e.1 == monitor && e.2.1 == inst), wearEvents := more ++ x.wearEvents }) s
  if monitor == 4 then { s with slices := upd s.slices inst fun x => { x with bandMargin := value } }
  else if monitor == 5 then { s with slices := upd s.slices inst fun x => { x with learnEvm := value.toNat } }
  else if monitor == 11 && inst == s.spares.secCore then { s with cellar := { s.cellar with margin := value.toNat } }
  else s

/-- EV_WEAR (Table 8-20). -/
def wearArgs (monitor inst : Nat) (value : Int) : Bytes :=
  [b8 monitor, 0] ++ le 2 inst ++ leI 4 value ++ leI 4 (threshold monitor)

/-- A planned swap begins with the preparation of its spare (R531). -/
def planSwap (kind inst : Nat) (h : Option Hdr) (s : State) : State :=
  modSpares (fun x => { x with swaps := x.swaps ++ [{ kind := kind, inst := inst, hdr := h }] }) s

/-- The swap planned for an instance. -/
def swapOf (s : State) (kind inst : Nat) : Option Swap := s.spares.swaps.find? fun x => x.kind == kind && x.inst == inst

/-- Timers, SRAM macros and NVM pages are watched under their own numbers, whatever stands in for them (R36, Table 11-1). -/
def logical (kind inst : Nat) : Bool := kind == 6 || ((kind == 5 || kind == 7) && inst < (if kind == 5 then 240 else 7680))

/-- Whether a monitor may report a value now: the module is past BOOT, the instance is watched and not retired, and no more has been counted. -/
def wearHeard (s : State) (monitor inst : Nat) (value : Int) : Bool :=
  s.mod.st != .powerUp && s.mod.st != .boot && monitor != 0 && inst < watched monitor
    && (logical (kindOf monitor) inst || !isRetired s.nvm (kindOf monitor) inst) && (!wearCounts monitor || wearOf s monitor inst ≤ value)

/-- A monitor trips (R528 to R530). DEDUCED, unsafe: log entry 53. -/
def wearRun (monitor inst : Nat) (value : Int) (s : State) : State :=
  let kind := kindOf monitor
  if !trips monitor value || !wearHeard s monitor inst value then s
  else
    let s := raise Ev.wear 0xFF (wearArgs monitor inst value) (noteWear monitor inst value s)
    if s.mod.st != .halted && mAttr s A.svcSwapAuto == 1 && (swapOf s kind inst).isNone && canServe s kind inst
    then planSwap kind inst none s else s

/-! ### Swaps (R531 to R538) -/

/-- A spare slice goes to SLEEP, unless it serves a port. -/
def sleepSpare (i : Nat) (s : State) : State :=
  if s.spares.portSlice.contains i then s
  else { s with slices := upd s.slices i fun x => { x with st := .sleep, target := .sleep, locked := false, calSince := none } }

/-- The spare slice of a slice's group (R21). -/
def groupSpare (s : State) (inst : Nat) : Option Nat := (portServed s 1 inst).map fun p => 64 + p / 8

/-- Drop a planned swap; a spare slice that was prepared for it goes back to SLEEP. -/
def dropSwap (kind inst : Nat) (s : State) : State :=
  let s := match kind, groupSpare s inst with | 1, some i => sleepSpare i s | _, _ => s
  modSpares (fun x => { x with swaps := x.swaps.filter fun y => !(y.kind == kind && y.inst == inst) }) s

/-- Planned swaps for which no spare is left end; a SWAP_REQUEST among them fails (R538). -/
def trimSwaps (s : State) : State :=
  s.spares.swaps.foldl (fun s x =>
    if (rivals s x.kind x.inst).length ≤ (candidates s x.kind x.inst).length then s
    else
      let s := dropSwap x.kind x.inst s
      match x.hdr with
      | some h => fail h 0xE4 E.noSpare { arg1 := (x.kind : Int), arg2 := (x.inst : Int) } s
      | none => s) s

/-- The fault of a block of a kind is not covered: HALTED with cause E_NO_SPARE and that KIND (R482, R538, R540). -/
def uncoveredFault (kind : Nat) (s : State) : State :=
  if s.mod.st == .halted || s.mod.st == .powerUp then s else enterHalted E.noSpare (modNvm (fun n => { n with haltKind := kind }) s)

/-- An instance has failed and nothing covers it: the fault stands at every later start (R20, R540, R542). DEDUCED, unsafe: log entry 53. -/
def standingFault (kind inst : Nat) (s : State) : State :=
  uncoveredFault kind { s with faults := if s.faults.contains (kind, inst) then s.faults else s.faults ++ [(kind, inst)] }

/-- The engine of a member of a Prism set other than the lead sits idle: it is a free engine (R24). -/
def engineFree (s : State) (inst : Nat) : Bool := match portServed s 2 inst with | some p => isFollower s p | none => false

/-- The residuals of a set after a member's swap: each within 3 degrees, since the swap ends only then (R330). Where nothing can probe, the set is
left uncalibrated, and the calibration that it needs before its next frame reports them. DEDUCED, unsafe: log entry 53. -/
def swapPrism (l q : Nat) (s : State) : State :=
  let m := members s l
  if m.isEmpty then s
  else if reserveWithheld s || interlocked s then
    modPort l (fun x => { x with prism := { x.prism with calibrated := false, recal := m.findIdx? (· == q) } }) s
  else
    let err := (prismErr s.free l m.length).map fun x => x % 601 - 300
    let err := err.zipIdx.map fun e => if e.2 == 0 || e.2 ≥ m.length then 0 else e.1
    let tn := m.map fun q => (port s q).radio.tnMv
    let s := modPort l (fun x => { x with prism := { x.prism with err := err, calibrated := true, failed := false, tn := tn } }) (drawn s)
    raise Ev.prismRecal l ([b8 ((m.findIdx? (· == q)).getD 0), 0] ++ (err.map (leI 2)).flatten) s

/-- A spare slice as it stands ready for a port: in LISTEN on the port's channel, calibrated into the internal load; in DOZE asleep (R343, R531). -/
def spareReady (asleep : Bool) (ch : Nat) : Slice :=
  let st : SliceSt := if asleep then .sleep else .listen
  { st := st, target := st, channel := ch, locked := !asleep, paCal := true }

/-- The spare slice takes over a port; the slice that served it goes to SLEEP (R531). -/
def mapSlice (p spare : Nat) (s : State) : State :=
  let ch := (sliceAt s p).channel
  let s := modSlice p (fun x => { x with st := .sleep, target := .sleep, locked := false, calSince := none }) s
  modSlice p (fun _ => spareReady (s.mod.st == .doze) ch)
    (modSpares (fun x => { x with portSlice := upd x.portSlice p fun _ => spare }) s)

/-- A slice is swapped: the field goes down with every handle and comes back on the spare; its grant is kept (R533). -/
def swapSlice (p spare : Nat) (s : State) : State :=
  let l := (leadIn s s.cfg.running p).getD p
  match (port s l).radio.phase with
  | .off =>
    let s := mapSlice p spare (disarm (tA l) s)
    let s := modRadio l (fun r => { r with want := r.want.map fun w => { w with armed := false } }) s
    settle l (tryArm l (swapPrism l p s))
  | .falling false => settle l (swapPrism l p (mapSlice p spare (fieldEnded l s)))
  | _ =>
    let s := mapSlice p spare (fieldDown l (modRadio l (fun r => { r with phase := .gap }) s))
    let s := swapPrism l p s
    match channelNow s l with
    | none => s
    | some ch => resumeField l (if (sliceAt s l).channel == ch then s else retune l ch s)

/-- An engine is swapped: the field stays on, the handles survive, the secure transmit buffer is zeroised (R534). -/
def swapEngine (p spare : Nat) (s : State) : State :=
  zeroiseBuf p (modSpares (fun x => { x with portEngine := upd x.portEngine p fun _ => spare }) s)

/-- The security core is swapped: the failed one's root is gone, and the other core regenerates it from its own array and scans the store (R481,
R537). DEDUCED, safe: log entry 60. -/
def swapCore (s : State) : State :=
  modMod (fun m => { m with rootOk := false, storeOk := false })
    { s with spares := { s.spares with secCore := 1 }, cellar := { s.cellar with tries := 0, root := [], drbg := {} } }

/-- The 16 ports of a supervisor's place (Table 1-3). -/
def rolePorts (role : Nat) : List Nat := (List.range 16).map (16 * role + ·)

/-- Whether a Cellar operation for a port is in flight: the key page of its CRED_WRITE has been asked for and not placed (R501, R537). -/
def cellarBusy (s : State) (p : Nat) : Bool :=
  match hyCmd s p with
  | some c => opOf s p == 0xCB && (c.stage == .credCellar || (c.stage == .credGen && (pageOf s p c).isNone))
  | none => false

/-- The boundary that a planned swap of a slice or an engine needs: one with the field off, or any once the swap has been deferred (R531). DEDUCED,
unsafe: log entry 53. -/
def swapMayTake (s : State) (x : Swap) (l : Nat) : Bool :=
  let ph := (port s l).radio.phase
  atBoundary s l && (ph == .off || (x.deferred && (ph == .on || ph == .gap))) && !s.spares.telling.any (·.lead == l)

/-- Whether a planned swap may take place now (R531, R536 to R538); that of a free engine waits for no boundary (R24). In DOZE it waits. -/
def swapReady (s : State) (x : Swap) : Bool :=
  x.prepared && s.mod.st == .service && works s x.kind x.inst &&
  match x.kind with
  | 1 | 2 => match portServed s x.kind x.inst with
    | some p => (x.kind == 2 && engineFree s x.inst) || swapMayTake s x (leadOf s p)
    | none => false
  | 3 => match roleOf s x.inst with | some r => (rolePorts r).all (bit x.held) | none => false
  | 4 => s.cellar.change.isNone && (List.range 64).all (fun p => !cellarBusy s p)
  | _ => true

/-- The bound of Table 11-1 on the interruption of a swap in µs: planned, emergency. -/
def swapBound (kind : Nat) (planned : Bool) : Nat :=
  match kind with
  | 1 | 2 | 3 => if planned then 1500 else 5000
  | 5 => if planned then 0 else 5000
  | 6 => 2
  | _ => 0

/-- The ports a swap interrupts: none for a free engine (R24). -/
def swapPorts (s : State) (kind inst : Nat) (planned : Bool) : List Nat :=
  match kind with
  | 1 | 2 => match portServed s kind inst with
    | some p => if kind == 2 && engineFree s inst then [] else group s (leadOf s p)
    | none => []
  | 3 => match roleOf s inst with | some r => rolePorts r | none => []
  | 5 => if planned then [] else (portServed s 5 inst).toList
  | _ => []

/-- An instance gives way to a spare: the maps, the fault map, and what the swap does to the ports. DEDUCED, unsafe: log entry 53. -/
def takeSpare (kind inst spare why : Nat) (s : State) : State :=
  let p := (portServed s kind inst).getD 0
  match kind with
  | 1 => retire 1 inst why (swapSlice p spare s)
  | 2 => retire 2 inst why (swapEngine p spare s)
  | 3 => retire 3 inst why (modSpares (fun x => { x with supervisor := x.supervisor.map fun c => if c == inst then spare else c }) s)
  | 4 => retire 4 inst why (swapCore s)
  | _ => retire kind inst why s

/-- The monitor or fault that retires an instance by a planned swap: the monitor of its kind that has tripped, or 0 for a swap the host asked
for. -/
def whyPlanned (s : State) (kind inst : Nat) : Nat :=
  ((s.spares.wear.find? fun e => kindOf e.1 == kind && e.2.1 == inst && trips e.1 e.2.2).map (·.1)).getD 0

/-- A spare has been drawn and the swap takes place. It is reported with its interruption: at once, or where it has ended a field or left a set
uncalibrated, once the port can start a transaction again (R330, R532). Of a swap that leaves the field as it is the model has no instant between
fault and transaction: its interruption is a free value within Table 11-1. DEDUCED, unsafe: log entry 53. -/
def finishSwap (planned : Bool) (kind inst spare why : Nat) (hdr : Option Hdr) (s : State) : State :=
  let ps := swapPorts s kind inst planned
  let asleep := s.mod.st == .doze
  let us := if asleep then 0 else Config.swapUs s.free % (swapBound kind planned + 1)
  let portNo := if kind == 1 || kind == 2 || kind == 5 then ps.headD 0xFF else 0xFF
  let l := leadOf s (ps.headD 0)
  let had := kind == 1 && (port s l).radio.phase != .gap
  let s := takeSpare kind inst spare why (dropSwap kind inst (drawn s))
  let since := s.now
  let x : SwapTell := { planned := planned, kind := kind, inst := inst, spare := spare, lead := l, ports := ps.length, portNo := portNo, hdr := hdr, since := since }
  let uncal := !(members s l).isEmpty && !(port s l).prism.calibrated
  if kind == 1 && !asleep && ((had && (port s l).radio.phase == .gap) || uncal) then trimSwaps (modSpares (fun y => { y with telling := y.telling ++ [x] }) s)
  else tellSwap planned kind inst spare us ps.length portNo hdr (trimSwaps s)

/-- The spare of a planned slice swap wakes to LISTEN on the port's channel and calibrates into the internal load (R531). -/
def wakeSpare (kind inst : Nat) (s : State) : State :=
  match kind, portServed s 1 inst, candidates s 1 inst with
  | 1, some p, i :: _ =>
    let ch := (sliceAt s p).channel
    { s with slices := upd s.slices i fun _ => spareReady (s.mod.st == .doze) ch }
  | _, _, _ => s

/-- SWAP_PREPARED: the spare of a planned swap is ready, and the wait for a boundary begins (R531). -/
def swapPreparedRun (kind inst : Nat) (s : State) : State :=
  match swapOf s kind inst with
  | none => s
  | some x =>
    if x.prepared then s
    else
      let due := s.now + msT (mAttrN s A.svcSwapDeferMs)
      let s := wakeSpare kind inst (modSpares (fun y => { y with swaps := y.swaps.map fun z =>
        if z.kind == kind && z.inst == inst then { z with prepared := true, deferAt := due } else z }) s)
      match kind, roleOf s inst with
      | 3, some r => (rolePorts r).foldl (fun s p => if atBoundary s p then holdSwap p s else s) s
      | _, _ => s

/-- SWAP_DEFER_EXPIRY: the swap takes the next boundary whatever the field (R531). -/
def swapDeferRun (kind inst : Nat) (s : State) : State :=
  modSpares (fun y => { y with swaps := y.swaps.map fun z =>
    if z.kind == kind && z.inst == inst && z.prepared && z.deferAt ≤ s.now then { z with deferred := true } else z }) s

/-- PLANNED_SWAP (R531 to R534, R536 to R538). A spare that fails its own calibration is retired; the swap draws on another, which is prepared
in its turn, or the module enters HALTED. DEDUCED, unsafe: log entry 53. -/
def plannedSwapRun (kind inst : Nat) (calOk : Bool) (s : State) : State :=
  match swapOf s kind inst with
  | none => s
  | some x =>
    match swapReady s x, candidates s kind inst with
    | true, spare :: rest =>
      let ports := swapPorts s kind inst true
      let held := portsOf x.held
      if calOk then
        let s := finishSwap true kind inst spare (whyPlanned s kind inst) x.hdr s
        let s := held.foldl (fun s p => unhold p s) s
        (ports ++ held).foldl (fun s p => resumePort p s) s
      else
        let s := retire kind spare 0 (if kind == 1 then sleepSpare spare s else s)
        if rest.isEmpty then
          match x.hdr with
          | some h => uncoveredFault kind (fail h 0xE4 E.noSpare { arg1 := (kind : Int), arg2 := (inst : Int) } (dropSwap kind inst s))
          | none => uncoveredFault kind (dropSwap kind inst s)
        else
          let s := modSpares (fun y => { y with swaps := y.swaps.map fun z =>
            if z.kind == kind && z.inst == inst then { z with prepared := false, deferred := false, held := 0 } else z }) s
          held.foldl (fun s p => unhold p s) s
    | _, _ => s

/-- What a fault ends on a port: the running transaction and what waits by R278. A pass that stands at a round boundary goes on, and a HARVEST_START
that waits is no transaction yet (R535). For an engine the spare starts from the supervisor's copy of the handle table where a transaction was
running, and that transaction's handle moves to UNKNOWN. -/
def endSwap (p : Nat) (engine : Bool) (s : State) : State :=
  let gone : List Nat := match (port s p).task with
    | some t => (match t.proc with | .hy c => [c.handle] | .iso c => [c.handle] | _ => [])
    | none => []
  let s := match (port s p).task with
    | some { proc := .fieldOn, ofPass := false, .. } => if (port s p).radio.phase == .off then dropWant p s else s
    | _ => s
  let between := match (port s p).pass with | some x => x.stage == .yielding || x.stage == .start | none => true
  let runs := (port s p).task.isSome || !between
  let s := if engine && runs then modPort p (fun x => { x with
      hy := { x.hy with handles := x.copy.1.map fun y => if gone.contains y.h then { y with st := .unknown } else y },
      iso := { x.iso with handles := x.copy.2.map fun y => if gone.contains y.h then { y with st := .unknown } else y } }) s
    else s
  let s := if between then endCmds p E.portSwap { port := p } s else abortWork p E.portSwap { port := p } s
  if (port s p).radio.phase == .off && (port s p).pass.isNone then dropWant p s else s

/-- What the fault of a supervisor core ends on a port: every command that it had taken from the port's queue and not answered (R536). -/
def endCore (p : Nat) (s : State) : State :=
  let s := abortWork p E.portSwap { port := p } (endSwap p false s)
  let s := (port s p).starts.foldl (fun s h => fail h 0x80 E.portSwap { port := p } s) s
  let s := (port s p).radio.offHdrs.foldl (fun s h => fail h 0x21 E.portSwap { port := p } s) s
  let s := modRadio p (fun r => { r with offHdrs := [] }) (modPort p (fun x => { x with starts := [] }) s)
  if (port s p).radio.phase == .off then dropWant p s else s

/-- The commands a failed supervisor core had taken from its system queues and not answered (R536, Table 1-3). A commit that has passed goes on
to its ports, and a life-cycle change whose bit is programmed to its event (R512): only their commands end. DEDUCED, unsafe: log entry 54. -/
def endRole (role : Nat) (s : State) : State :=
  let end_ := fun (h : Option Hdr) (op : Nat) (s : State) => match h with | some h => fail h op E.portSwap {} s | none => s
  match role with
  | 0 =>
    let s := end_ s.mod.dozeHdr 0x08 s
    let s := end_ (s.cfg.committing.bind (·.hdr)) 0x05 s
    let s := end_ (s.noiseJob.map (·.hdr)) 0x24 s
    let s := failMirror E.portSwap {} s
    let s := s.spares.swaps.foldl (fun s x => end_ x.hdr 0xE4 s) s
    let s := s.spares.telling.foldl (fun s x => end_ x.hdr 0xE4 s) s
    let s := s.diag.arms.foldl (fun s a => end_ (a.map (·.hdr)) 0xE1 s) s
    let s := s.cfg.held.foldl (fun s i => match i with
      | .configCommit _ h => fail h 0x05 E.portSwap {} s
      | .configDiscard _ h => fail h 0x06 E.portSwap {} s
      | .configSave _ h => fail h 0x07 E.portSwap {} s
      | _ => s) s
    { s with
      mod := { s.mod with dozeHdr := none },
      cfg := { s.cfg with committing := s.cfg.committing.map fun c => { c with hdr := none }, held := [] }, noiseJob := none,
      spares := { s.spares with
        swaps := s.spares.swaps.map fun x => { x with hdr := none }, telling := s.spares.telling.map fun x => { x with hdr := none } },
      diag := { s.diag with arms := s.diag.arms.map fun _ => none } }
  | 1 =>
    let s := match s.cellar.change with | some (some h, op, _) => fail h op E.portSwap {} s | _ => s
    let s := match s.act with
      | some a => let s := releaseFw s; fail a.hdr (if a.rollback then 0x15 else 0x13) E.portSwap {} { s with act := none }
      | none => s
    { s with cellar := { s.cellar with change := s.cellar.change.map fun c => (none, c.2) } }
  | 3 =>
    let s := end_ (s.cluster.pending.map (·.2.2)) 0xA1 s
    let s := s.cluster.listens.foldl (fun s l => fail l.hdr 0xA4 E.portSwap {} s) s
    let s := (List.range 64).foldl (fun s p => endTone p E.portSwap { port := p } s) s
    { s with cluster := { s.cluster with pending := none, listens := [] } }
  | _ => s

/-- The Cellar operations in flight on a failed security core end, and the buffers it had filled or was filling are zeroised (R537). A life-cycle
change in progress fails; the scan on the other core completes its erasure (R518). -/
def endCellar (s : State) : State :=
  let s := (List.range 64).foldl (fun s p =>
    let s := zeroiseBuf p s
    if cellarBusy s p then goOn p (taskFail p E.portSwap { port := p } s) else s) s
  let s := match s.cellar.change with | some (some h, op, _) => fail h op E.portSwap {} s | _ => s
  { s with cellar := { s.cellar with change := none } }

/-- What the fault ends at once (R535 to R537). -/
def endFault (kind inst : Nat) (s : State) : State :=
  let ps := swapPorts s kind inst false
  match kind with
  | 1 => ps.foldl (fun s p => endSwap p false s) s
  | 2 => ps.foldl (fun s p => endSwap p true s) s
  | 3 => ps.foldl (fun s p => endCore p s) (match roleOf s inst with | some r => endRole r s | none => s)
  | 4 => endCellar s
  | 5 => ps.foldl (fun s p => endSwap p false s) s
  | _ => s

/-- The first candidate, or after a failed one that is retired, the next (R538). A row whose content cannot be rebuilt has no use for a spare. -/
def drawSpare (kind inst : Nat) (calOk : Bool) (s : State) : Option Nat × State :=
  match candidates s kind inst, calOk with
  | x :: _, true => (some x, s)
  | x :: rest, false => if kind == 6 then (none, s) else (rest.head?, retire kind x 0 s)
  | [], _ => (none, s)

/-- A fault that no spare covers now. A row whose content could not be rebuilt is retired, so that a restart, whose content is new, finds a spare row
in its place; any other fault stands (R27, R540, R542). DEDUCED, unsafe: log entry 53. -/
def haltFault (kind inst : Nat) (s : State) : State :=
  if kind == 6 && !(candidates s 6 inst).isEmpty then uncoveredFault 6 (retire 6 inst 255 s) else standingFault kind inst s

/-- EMERGENCY_SWAP: a fault takes a working instance out of service at once (R20, R27, R535 to R538). A spare that fails is one spare fewer. A KIND
that Table 11-1 does not have names a block without a spare, whose fault is never covered (R20, R525).
For an SRAM macro, `calOk` says that the content of the row can be rebuilt (R27). DEDUCED, unsafe: log entry 53. -/
def emergencyRun (kind inst : Nat) (calOk : Bool) (s : State) : State :=
  if s.mod.st == .powerUp || s.mod.st == .halted then s
  else if kind == 0 || kind > 7 then standingFault kind inst s
  else if !works s kind inst then
    let spare : Bool := match kind with
      | 1 => 64 ≤ inst && inst < 72
      | 2 => 64 ≤ inst && inst < 68
      | 3 => inst == 4
      | 4 => inst == 1
      | 5 => 240 ≤ inst && inst < 256
      | 7 => 7680 ≤ inst && inst < 8192
      | _ => false
    if spare && !isRetired s.nvm kind inst then trimSwaps (retire kind inst 255 s) else s
  else
    let hdr := (swapOf s kind inst).bind (·.hdr)
    let held := portsOf (((swapOf s kind inst).map (·.held)).getD 0)
    let ports := swapPorts s kind inst false
    let s := endFault kind inst s
    match drawSpare kind inst calOk s with
    | (some spare, s) =>
      let hdr := if (swapOf s kind inst).isSome && ((swapOf s kind inst).bind (·.hdr)).isSome then hdr else none
      let s := finishSwap false kind inst spare 255 hdr s
      (ports ++ held).foldl (fun s p => resumePort p (unhold p s)) s
    | (none, s) => haltFault kind inst s

/-- A monitor reports a value: a trip, and at a fault condition an emergency swap at once; whether the first spare calibrates is then a free value
(R528). DEDUCED, unsafe: log entry 53. -/
def wearTripRun (monitor inst : Nat) (value : Int) (s : State) : State :=
  let v := wearRun monitor inst value s
  let v := if !trips monitor value && wearFaults monitor value && wearHeard s monitor inst value then noteWear monitor inst value v else v
  if wearFaults monitor value && wearHeard s monitor inst value then
    emergencyRun (kindOf monitor) inst (Config.testPasses v.free inst) (drawn v)
  else v

/-- SWAP_REQUEST (R436, R530). -/
def swapRequestRun (h : Hdr) (kind inst : Nat) (s : State) : State :=
  match swapOf s kind inst with
  | some x =>
    if x.hdr.isSome then fail h 0xE4 E.noSpare { arg1 := (kind : Int), arg2 := (inst : Int) } s
    else modSpares (fun y => { y with swaps := y.swaps.map fun z =>
      if z.kind == kind && z.inst == inst then { z with hdr := some h } else z }) s
  | none =>
    if canServe s kind inst then planSwap kind inst (some h) s
    else fail h 0xE4 E.noSpare { arg1 := (kind : Int), arg2 := (inst : Int) } s

/-! ### Tests of spares (R539, Table 11-4) -/

/-- A free spare has failed its test: it is retired, and reported with VALUE equal to THRESHOLD (R526, R539). -/
def spareFails (s : State) (e : Nat × Nat) : State :=
  let m := monitorOf e.1
  let free := match e.1 with
    | 6 => e.2 < 10 && !(candidates s 6 e.2).isEmpty
    | 1 => 64 ≤ e.2 && e.2 < 72 && !s.spares.portSlice.contains e.2 && !isRetired s.nvm 1 e.2
    | _ => (candidates s e.1 0).contains e.2
  if free then trimSwaps (raise Ev.wear 0xFF (wearArgs m e.2 (threshold m)) (retire e.1 e.2 m s)) else s

/-- DAILY_SELF_TEST: the free spares are tested at CAL and every 24 h in SERVICE. -/
def dailyRun (failed : List (Nat × Nat)) (s : State) : State :=
  if !(s.mod.st == .cal || s.mod.st == .service) || s.now < s.spares.testAt then s
  else failed.foldl spareFails (modSpares (fun x => { x with testAt := s.now + msT 86400000 }) s)

/-- The spares a self-test group tests, first free one first. -/
def groupSpares (s : State) (g : Nat) : List (Nat × Nat) :=
  let slices := ((List.range 8).map (64 + ·)).filter fun i => !s.spares.portSlice.contains i && !isRetired s.nvm 1 i
  match g with
  | 0 | 7 => slices.map (1, ·)
  | 1 => (candidates s 2 0).map (2, ·)
  | 2 => (List.range 10).map (6, ·)
  | 3 => (candidates s 7 0).map (7, ·)
  | 4 => (candidates s 5 0).map (5, ·)
  | 5 => (candidates s 3 0).map (3, ·)
  | _ => (candidates s 4 0).map (4, ·)

/-- SELF_TEST (R539). Whether a group passes is a free value; a group that fails retires the first spare it tests. A group without a free
spare has nothing to fail. -/
def selfTestRun (h : Hdr) (groups : Nat) (s : State) : State :=
  let n := s.free
  let bad := (List.range 8).filter fun g => bit groups g && !Config.testPasses n g && !(groupSpares s g).isEmpty
  let s := drawn s
  let s := bad.foldl (fun s g => match groupSpares s g with | x :: _ => spareFails s x | [] => s) s
  let failed := maskOf bad
  let body := le 4 (groups ^^^ failed) ++ le 4 failed
  if failed == 0 then ok h 0xE0 body s else respond h 0xE0 E.selfTest (body ++ ({} : Detail).bytes h.q) s

/-! ### What the diagnostics commands read -/

/-- SPARE_STATUS. -/
def spareStatusRun (h : Hdr) (s : State) : State :=
  respondList h 0xE5 4 ((List.range 7).map fun k => [b8 (k + 1), 0] ++ le 2 (freeSpares s (k + 1))) s

/-- WEAR_READ. -/
def wearReadRun (h : Hdr) (monitor start count : Nat) (s : State) : State :=
  let is := ((List.range count).map (start + ·)).filter (· < watched monitor)
  respondList h 0xE6 12 (is.map fun i => le 2 i ++ [0, 0] ++ leI 4 (wearOf s monitor i) ++ leI 4 (threshold monitor)) (drawn s)

/-- The events EVENT_LOG_READ returns, oldest first (R545). -/
def logFrom (log : List EvRec) (start count : Nat) : List EvRec :=
  match log with
  | [] => []
  | x :: _ =>
    let ahead := (start + 65536 - x.seq) % 65536
    let back := (x.seq + 65536 - start) % 65536
    if 1 ≤ ahead && ahead ≤ 32767 then []
    else if back < log.length then ((log.take (back + 1)).reverse).take count
    else log.reverse.take count

/-- EVENT_LOG_READ (R545). -/
def eventLogRun (h : Hdr) (start count : Nat) (s : State) : State :=
  respondList h 0xE7 56 ((logFrom s.ev.log start count).map fun e => le 2 e.code ++ le 2 e.body.length ++ fit 52 e.body) s

/-- EV_LOST: once SQ2 has drained, one event carries the counts, and recording resumes (R544). -/
def evLostRun (s : State) : State :=
  if !s.ev.folding || (outRing s sq2).level > 192 then s
  else
    let e := s.ev
    let args := (e.counts.map (le 2)).flatten ++ leI 8 e.first ++ leI 8 e.last
    raise Ev.lost 0xFF args { s with ev := { e with folding := false, counts := List.replicate 7 0 } }

/-- The counters of a port go to 0 (COUNTERS_CLEAR). -/
def clearPort (p : Nat) (s : State) : State :=
  modPort p (fun x => { x with
    rx := { x.rx with falseSync := 0, crcFail := 0, preempted := 0, clipped := 0 },
    hy := { x.hy with stale := 0, busyWire := 0, retries := 0 },
    inserted := 0, lost := 0, lens := { x.lens with unconfirmed := 0, skipped := 0 } }) s

/-- COUNTERS_CLEAR. -/
def countersRun (h : Hdr) (ports : Nat) (links : Bool) (s : State) : State :=
  let s := (portsOf ports).foldl (fun s p => clearPort p s) s
  ok h 0xE8 [] (if links then modLink (fun l => { l with cnt := {} }) s else s)

end Sys2Proof.Machine
end

