-- ==== Sys2Proof/Machine/ClusterRun.lean ====
section
/-!
DEFINITION. The cluster: the time unit with IEEE 1588 and the SYNC chain, plans and their activation, run boundaries, cluster calibration, and
DEDUP_IMPORT (R446, R448 to R475).
-/

namespace Sys2Proof.Machine

/-- Change the cluster record. -/
def modCluster (f : Cluster → Cluster) (s : State) : State := { s with cluster := f s.cluster }

/-! ### Best master clock (R448, R449) -/

/-- The announce receipt timeout, 3 s, and the intervals of Announce and Sync in ticks. -/
def announceTimeout : Nat := msT 3000
def announceTicks : Nat := msT 1000
def syncTicks : Nat := usT 62500

/-- What the module presents: priority1, clockClass 248, priority2, identity. -/
def ownClock (s : State) : Foreign :=
  { src := s.nvm.mac, prio1 := mAttrN s A.clusterPtpPriority1, cls := 248, prio2 := s.moduleId, at_ := s.now }

/-- Whether one data set is better than another: the lower priority1, clockClass, priority2, identity, in this order. -/
def clockBetter (a z : Foreign) : Bool :=
  if a.prio1 != z.prio1 then a.prio1 < z.prio1
  else if a.cls != z.cls then a.cls < z.cls
  else if a.prio2 != z.prio2 then a.prio2 < z.prio2
  else a.src < z.src

/-- The best of the clocks heard within the receipt timeout. -/
def bestForeign (s : State) : Option Foreign :=
  (s.time.foreign.filter fun f => s.now < f.at_ + announceTimeout).foldl (fun best f => match best with
    | none => some f
    | some b => if clockBetter f b then some f else some b) none

/-- The role that the algorithm gives: a slave of the best clock heard, or master where the module's own is better or no other has been
heard for the receipt timeout. A clock of class 248 is never passive. -/
def electRole (s : State) : Nat :=
  match bestForeign s with
  | some f => if clockBetter (ownClock s) f then 1 else 2
  | none => if s.time.role == 0 && s.now < s.time.since + announceTimeout then 0 else 1

/-- The role is decided anew; a new master or slave starts without the measurements of the old one. -/
def decideRole (s : State) : State :=
  let r := electRole s
  if r == s.time.role then s else modTime (fun t => { t with role := r, sync := none, delayReq := none }) s

/-- The master a slave follows. -/
def master (s : State) : Option Nat := if s.time.role == 2 then (bestForeign s).map (·.src) else none

/-- The servo corrects an error by slewing, in the direction that lessens it and at no more than 50 ppm of the time since the last
correction; how far it goes within that is a free value (R451). -/
def slew (err : Int) (elapsedNs : Nat) (s : State) : State :=
  let room := min (mag err) (elapsedNs / 20000)
  let c : Int := ((Config.slewNs s.free % (room + 1) : Nat) : Int)
  drawn { s with timeOff := if err > 0 then s.timeOff - c else s.timeOff + c }

/-- When an offset last lay outside ±25 ns: of zero once the module has locked, before that of the step that the lock will make (R450, R451). -/
def noteOut (offset : Int) (now : Nat) (t : Time) : Time :=
  if t.everLocked then { t with outAt := if mag offset > 25 then some now else t.outAt }
  else match t.base with
  | some b => if mag (offset - b) > 25 then { t with base := some offset, outAt := some now } else t
  | none => { t with base := some offset, outAt := some now }

/-- A new offset from the master (R450, R451): kept, and slewed away once the module has locked, unless it is to be stepped. DEDUCED, unsafe: log
entry 49. -/
def newOffset (offset : Int) (elapsedNs : Nat) (s : State) : State :=
  let now := s.now
  let s := modTime (fun t => noteOut offset now { t with offsetNs := offset, nearAt := if mag offset ≤ 100 then some now else t.nearAt }) s
  if s.time.everLocked && s.time.lock != 2 && mag offset ≤ 1000000 then slew offset elapsedNs s else s

/-- The origin time of a Sync is known: the offset follows from the mean path delay. -/
def syncKnown (src seq : Nat) (localNs origin : Int) (s : State) : State :=
  let elapsed : Nat := match s.time.sync with | some (_, _, l, some _) => (localNs - l).toNat | _ => 62500000
  let s := modTime (fun t => { t with sync := some (src, seq, localNs, some origin) }) s
  newOffset (localNs - origin - s.time.delayNs) elapsed s

/-- An IEEE 1588 message leaves over UDP and IPv6, and over IPv4 where the module holds an IPv4 address (R448). -/
def sendPtp (msg : PtpMsg) (s : State) : State :=
  let more := if (ipv4Of s).isSome then [Sent.ptp true msg] else []
  { s with sent := more ++ .ptp false msg :: s.sent }

/-- IEEE1588_MESSAGE: timestamped and fed to the servo and to the best master clock algorithm; a message of another domain is ignored
(R448, R449). DEDUCED, unsafe: log entry 49. -/
def ptpRun (msg : PtpMsg) (s : State) : State :=
  let mine := fun (d : Nat) => d == mAttrN s A.clusterPtpDomain && s.mod.st != .powerUp && s.mod.resetDue == 0
  match msg with
  | .announce d src p1 cls p2 =>
    if !mine d || src == s.nvm.mac then s
    else
      let f : Foreign := { src := src, prio1 := p1, cls := cls, prio2 := p2, at_ := s.now }
      decideRole (modTime (fun t => { t with foreign := f :: (t.foreign.filter fun g => g.src != src) }) s)
  | .sync d src seq twoStep origin =>
    if !mine d || master s != some src then s
    else if twoStep then
      let l := ts s
      modTime (fun t => { t with sync := some (src, seq, l, none) }) s
    else syncKnown src seq (ts s) origin s
  | .followUp d src seq origin =>
    if !mine d || master s != some src then s
    else match s.time.sync with
    | some (a, b, l, none) => if a == src && b == seq then syncKnown src seq l origin s else s
    | _ => s
  | .delayReq d src seq =>
    if !mine d || s.time.role != 1 then s
    else sendPtp (.delayResp d src seq (ts s)) s
  | .delayResp d src seq received =>
    if !mine d || src != s.nvm.mac then s
    else match s.time.delayReq, s.time.sync with
    | some (n, sentNs), some (_, _, l, some origin) =>
      if n == seq then modTime (fun t => { t with delayReq := none, delayNs := ((l - origin) + (received - sentNs)) / 2 }) s else s
    | _, _ => s

/-- Whether the interval of Sync or of Delay_Req is over. -/
def syncDue (s : State) : Bool := match s.time.syncAt with | none => true | some a => s.now ≥ a + syncTicks

/-- SYNC_INTERVAL: as master the module sends Sync with its Follow_Up, and Announce every second; as slave it sends Delay_Req; neither sooner than
2⁻⁴ s after the last, nor once its reset has been answered (R416, R448). DEDUCED, unsafe: log entry 49. -/
def syncIntervalRun (s : State) : State :=
  if s.mod.st == .powerUp || s.link.speed == 0 || s.mod.resetDue != 0 || !syncDue s then s
  else
    let s := decideRole s
    let d := mAttrN s A.clusterPtpDomain
    let now := s.now
    match s.time.role with
    | 1 =>
      let n := s.time.syncSeq
      let due := match s.time.annAt with | none => true | some a => s.now ≥ a + announceTicks
      let s := sendPtp (.followUp d s.nvm.mac n (ts s)) (sendPtp (.sync d s.nvm.mac n true (ts s)) s)
      let s := modTime (fun t => { t with syncSeq := (n + 1) % 65536, syncAt := some now }) s
      if due then
        let own := ownClock s
        sendPtp (.announce d own.src own.prio1 own.cls own.prio2) (modTime (fun t => { t with annAt := some now }) s)
      else s
    | 2 =>
      let n := s.time.delaySeq
      let l := ts s
      sendPtp (.delayReq d s.nvm.mac n) (modTime (fun t => { t with delaySeq := (n + 1) % 65536, syncAt := some now, delayReq := some (n, l) }) s)
    | _ => s

/-! ### Lock (R450 to R457) -/

/-- A given time has passed since a tick; it has where there is none. -/
def passed (s : State) (since : Option Nat) (ticks : Nat) : Bool := match since with | some a => s.now ≥ a + ticks | none => true

/-- LOCK 1 may be declared: the offset lies within ±25 ns, and none measured in the last 10 s lay beyond (R450). DEDUCED, unsafe: log entry 49. -/
def mayLock (s : State) (offsetNs : Int) : Bool := mag offsetNs ≤ 25 && passed s s.time.outAt (msT 10000)

/-- LOCK 1 may be left: the offset lies beyond ±100 ns, and none measured in the last second lay within, or no Announce has come within the receipt
timeout (R450). DEDUCED, unsafe: log entry 49. -/
def mayUnlock (s : State) (offsetNs : Int) : Bool := (mag offsetNs > 100 && passed s s.time.nearAt (msT 1000)) || (bestForeign s).isNone

/-- TIME_LOCK_CHANGE: the IEEE 1588 lock is gained or lost; at the first lock the time steps to the master's, and later by errors of more than 1 ms
(R450, R451). LOCK 2 comes and goes by the edges on SYNC_IN alone. EV_TIME_LOCK carries the measured offset, at a step too. DEDUCED, unsafe: log entry
49. -/
def lockChangeRun (lock : Nat) (offsetNs stepNs : Int) (s : State) : State :=
  let first := !s.time.everLocked && lock == 1 && mayLock s offsetNs
  let steps := (first && stepNs != 0) || (s.time.everLocked && mag stepNs > 1000000)
  let changes := (lock == 1 && s.time.lock == 0 && mayLock s offsetNs) || (lock == 0 && s.time.lock != 0 && mayUnlock s offsetNs)
  if lock == 2 || s.mod.st == .powerUp || (!steps && !changes) then s
  else
    let s := modTime (fun t => { t with offsetNs := offsetNs }) s
    let s := if steps then { s with timeOff := s.timeOff + stepNs } else s
    tellLock (if changes then setLock lock s else s)

/-- Whether the SYNC chain is in use (R452). -/
def chained (s : State) : Bool := mAttr s A.clusterSyncMode == 1

/-- The module at the head watches its SYNC_IN: edges at every frame start and within 100 ns for 1 s make it follow (R452). -/
def headEdge (chainPs : Int) (gap : Nat) (s : State) : State :=
  if mag chainPs > 100000 || gap > usT 1500 then modTime (fun t => { t with goodSince := none }) s
  else
    let since := s.time.goodSince.getD s.now
    if s.now ≥ since + msT 1000 then modTime (fun t => { t with head := false, goodSince := none, chainSince := none, apart := 0 }) s
    else modTime (fun t => { t with goodSince := some since }) s

/-- A module that follows its SYNC_IN: phase, LOCK 2, and its loss by disagreement (R454, R456). -/
def followEdge (chainPs : Int) (s : State) : State :=
  let chainNs := chainPs / 1000
  let differ := mag (chainNs - s.time.offsetNs) > 100
  let s := modTime (fun t => { t with chainNs := chainNs }) s
  if s.time.lock == 0 then modTime (fun t => { t with chainSince := none }) s
  else
    let since := if mag chainPs ≤ 1000 then some (s.time.chainSince.getD s.now) else none
    let apart := if differ then s.time.apart + 1 else 0
    let s := slew chainNs 1000000 (modTime (fun t => { t with chainSince := since, apart := apart }) s)
    if s.time.lock == 2 then (if apart ≥ 10 then tellLock (setLock 1 s) else s)
    else match since with
    | some a => if s.now ≥ a + msT 1000 && !differ then tellLock (setLock 2 s) else s
    | none => s

/-- SYNC_IN_EDGE: the edge is timestamped with a resolution of 10 ps, less cluster.sync.in_delay (R452, R454). DEDUCED, unsafe: log entry 49. -/
def edgeRun (offsetPs : Int) (s : State) : State :=
  if !chained s || s.mod.st == .powerUp then s
  else
    let gap := s.now - s.time.edgeAt.getD s.time.chainFrom
    let chainPs := offsetPs / 10 * 10 - mAttr s A.clusterSyncInDelay
    let s := if s.time.head then headEdge chainPs gap s else followEdge chainPs s
    modTime (fun t => { t with edgeAt := some s.now }) s

/-- SYNC_IN_LOSS: without an edge for 3 ms the module leaves LOCK 2, and after 10 ms it heads its chain (R452, R456). -/
def syncLossRun (s : State) : State :=
  if !chained s || s.mod.st == .powerUp then s
  else
    let gap := s.now - s.time.edgeAt.getD s.time.chainFrom
    let s := if s.time.lock == 2 && gap ≥ msT 3 then tellLock (setLock 1 s) else s
    if gap ≥ msT 10 && !s.time.head then modTime (fun t => { t with head := true, goodSince := none }) s else s

/-- HOLDOVER_EXPIRY: holdover ends without lock, and the stepped ports behave as in an OFF run (R457, R469). -/
def holdoverRun (s : State) : State :=
  match s.time.holdUntil with
  | none => s
  | some u =>
    if s.time.lock != 0 || s.now < u then s
    else
      let s := modTime (fun t => { t with holdUntil := none, lostTime := true }) s
      (List.range 64).foldl (fun s p => if stepped s p && atBoundary s p then followRun p s else s) s

/-! ### Run boundaries (R466 to R469) -/

/-- The field of a run comes back: not before 1 µs after the frame start (R466). -/
def resumeRun (p : Nat) (s : State) : State :=
  let earliest := frameTick s + runGap
  let s := resumeField p ((group s p).foldl (fun s q => aim q .listen s) s)
  if (timer s (tA p)).armed && (timer s (tA p)).action == 0x01 && (timer s (tA p)).fire < earliest then setTimer (tA p) 0x01 earliest s else s

/-- A FIELD_ON, or a pass, that has waited through an OFF run asks for its field (R468). -/
def askWaiting (p : Nat) (s : State) : State :=
  match (port s p).radio.want with
  | some w =>
    if w.granted || s.press.waiting.any (fun r => r.port == p && r.kind == .field) then s
    else
      match askField p (modRadio p (fun r => { r with want := none }) s) with
      | (none, s) => s
      | (some (code, d), s) => goOn p (settle p (if (port s p).task.isSome then taskFail p code d s else endPass p code (d.bytes p) s))
  | none => s

/-- One stepped port at a frame start. A field on its ramp up for a channel that is no longer in force goes down again. -/
def runStart (p : Nat) (s : State) : State :=
  match channelNow s p with
  | none => enterOff p s
  | some ch =>
    let tuned := (sliceAt s p).channel == ch
    let there := if tuned then s else retune p ch s
    match (port s p).radio.phase with
    | .off => armRunEnd p (tryArm p (askWaiting p there))
    | .gap => if (port s p).radio.want.isSome then tryArm p there else resumeRun p there
    | .on => armRunEnd p (if tuned then s else changeChannel p ch s)
    | .rising => if tuned then armRunEnd p s else interruptField p (modRadio p (fun r => { r with newChannel := some ch }) s)
    | .falling _ => s

/-- TRELLIS_FRAME_START: the runs that begin; Mirror selects anew where a port's channel changes (R142, R458, R466, R469). -/
def frameStartRun (s : State) : State :=
  if s.mod.st != .service || mAttr s A.clusterTrellisEnable == 0 || (planOf s).isNone || frameTick s != s.now then s
  else
    let ps := (List.range 64).filter fun p => stepped s p && !isFollower s p
    let s := if s.time.lock > 0 then modTime (fun t => { t with lostTime := false }) s else s
    if ps.isEmpty then s
    else
      let s := reselect (ps.foldl (fun s p => runStart p s) s)
      ps.foldl (fun s p => resumePort p s) s

/-! ### Plans (R459 to R465) -/

/-- The staged plan's bytes, once complete (R461). -/
def Staged.bytes (x : Staged) : Option Bytes :=
  (x.chunks.foldr (fun e acc => putBytes e.1 e.2 acc) (List.replicate x.total none)).mapM fun c => c

/-- PLAN_LOAD (R461). DEDUCED, unsafe: log entry 50. -/
def planLoadRun (h : Hdr) (planId total off : Nat) (data : Bytes) (s : State) : State :=
  if total > 82204 then failRange h 0xA0 12 s
  else if off + data.length > total then failRange h 0xA0 16 s
  else
    let same := match s.cluster.staged with | some x => x.id == planId | none => false
    let s := if same then s else
      let s := match s.cluster.pending, s.cluster.staged with
        | some (_, _, k), some _ => fail k 0xA1 E.cancelled {} (modCluster (fun c => { c with pending := none }) s)
        | _, _ => s
      modCluster (fun c => { c with staged := none }) s
    let old := match s.cluster.staged with | some x => x.chunks | none => []
    ok h 0xA0 [] (modCluster (fun c => { c with staged := some { id := planId, total := total, chunks := (off, data) :: old } }) s)

/-- The length of a plan by its MODULES field (Table 9-1). -/
def planLength (b : Bytes) : Nat := 28 + 1284 * num b 5 1

/-- The CRC-32C over all the bytes before it (R459). -/
def planCrcOk (b : Bytes) : Bool := b.length ≥ 4 && crc32c (b.take (b.length - 4)) == num b (b.length - 4) 4

/-- The entry of a port in a section: RUNS, its reserved bytes, and the four runs (Tables 9-2, 9-3); their channels are check 4. -/
def entryOk (b : Bytes) (o cycle : Nat) : Bool :=
  let n := num b o 1
  let run := fun (i : Nat) => o + 4 + 4 * i
  let first := fun (i : Nat) => num b (run i) 2
  1 ≤ n && n ≤ 4 && num b (o + 1) 3 == 0 && first 0 == 0
    && (List.range n).all (fun i => first i < cycle && (i == 0 || first (i - 1) < first i) && num b (run i + 3) 1 == 0)
    && (List.range 4).all fun i => i < n || num b (run i) 4 == 0

/-- Check 3 of Table 9-4: none where the plan is well formed, else the first own port concerned, or 0xFF. Of the sections only the module's own is
checked within (R464). -/
def planMalformed (s : State) (b : Bytes) : Option Nat :=
  let n := num b 5 1
  let cycle := num b 6 2
  let ids := (List.range n).map fun i => num b (24 + 1284 * i) 1
  if num b 4 1 != 1 || n == 0 || n > 64 || cycle == 0 || b.length != planLength b || num b 16 8 != 0 then some 0xFF
  else if !(List.range n).all (fun i => i == 0 || nth ids (i - 1) 0 < nth ids i 0) || !ids.all (· ≤ 63) then some 0xFF
  else match sectionAt b s.moduleId with
  | none => some 0xFF
  | some o =>
    if num b (o + 1) 3 != 0 then some 0xFF
    else match (List.range 64).find? fun p => !entryOk b (o + 4 + 20 * p) cycle with
    | some p => some p
    | none => if s.cluster.clashes.isEmpty then none else some 0xFF

/-- The runs of a port as spans: first cycle position, the one after the last, and the channel. -/
def spansOf (b : Bytes) (id p : Nat) : List (Nat × Nat × Nat) :=
  let runs := runsOf b id p
  runs.zipIdx.map fun (r, i) => (r.1, (match runs[i + 1]? with | some z => z.1 | none => cycleOf b), r.2)

/-- Whether two ports of a plan ever share a channel. -/
def shareChannel (xs ys : List (Nat × Nat × Nat)) : Bool :=
  xs.any fun x => ys.any fun y => x.2.2 != 0xFF && x.2.2 == y.2.2 && x.1 < y.2.1 && y.1 < x.2.1

/-- Check 5: a pair of own ports too strongly coupled for one channel (R144, R462). -/
def planCoupled (s : State) (b : Bytes) : Option (Nat × Nat) :=
  let on := fun (p : Nat) => pAttr s A.rxMirrorEnable p != 0
  leastKey (s.coupling.filterMap fun (a, z, k) =>
    let (lo, hi) := (min a z, max a z)
    let oneSet := match leadIn s s.cfg.running lo with | some l => leadIn s s.cfg.running hi == some l | none => false
    if lo != hi && k > -1000 && on lo && on hi && !oneSet && shareChannel (spansOf b s.moduleId lo) (spansOf b s.moduleId hi)
    then some (lo, hi) else none)

/-- Check 6: a Prism set whose members do not keep to one channel. -/
def planSplits (s : State) (b : Bytes) : Option Nat :=
  (List.range 64).find? fun p =>
    let m := members s p
    let firsts := (m.map fun q => (runsOf b s.moduleId q).map (·.1)).flatten
    m.any fun q => firsts.any fun c =>
      let at_ := fun (q : Nat) => (nth (runsOf b s.moduleId q) (runIndex (runsOf b s.moduleId q) c) (0, 0xFF)).2
      at_ q != at_ p

/-- Check 7: an own port that would share a channel with a strongly coupled port of another module, or whose neighbour's module has no
section. -/
def planCrosses (s : State) (b : Bytes) : Option Nat :=
  (List.range 64).find? fun p => (nth s.nvm.xcoupling p []).any fun e =>
    (sectionAt b e.2.1).isNone || shareChannel (spansOf b s.moduleId p) (spansOf b e.2.1 e.2.2)

/-- Check 4: an own port with a channel outside module.tx.channel_mask. -/
def planOutside (s : State) (b : Bytes) : Option Nat :=
  (List.range 64).find? fun p => (runsOf b s.moduleId p).any fun r => r.2 != 0xFF && !bit (mAttrN s A.moduleTxChannelMask) r.2

/-- The checks of Table 9-4: the code and the detail of the first that fails. -/
def planError (s : State) (planId due : Nat) : Option (Nat × Bytes) :=
  let d := fun (p : Nat) => ({ port := p } : Detail).bytes 0x43
  match s.cluster.staged.bind fun x => if x.id == planId then x.bytes else none with
  | none => if mAttr s A.clusterTrellisEnable == 0 then some (E.resourceNotOwned, d 0xFF) else some (E.planUnknown, d 0xFF)
  | some b =>
    if mAttr s A.clusterTrellisEnable == 0 then some (E.resourceNotOwned, d 0xFF)
    else if num b 0 4 != planId || !planCrcOk b then some (E.planUnknown, d 0xFF)
    else match planMalformed s b, planOutside s b, planCoupled s b, planSplits s b, planCrosses s b with
    | some p, _, _, _, _ => some (E.planInvalid, d p)
    | _, some p, _, _, _ => some (E.aboveRegLimit, d p)
    | _, _, some (lo, hi), _, _ => some (E.couplingLimit, conflict 0x06 lo 1 lo 1 hi)
    | _, _, _, some p, _ => some (E.planInvalid, d p)
    | _, _, _, _, some p => some (E.planInvalid, d p)
    | _, _, _, _, _ =>
      if s.time.lock == 0 then some (E.timeUnlocked, d 0xFF)
      else if due % 1000000 != 0 then some (E.range, ({ arg2 := 16 } : Detail).bytes 0x43)
      else if (due : Int) < ts s + 2000000 then some (E.planLate, d 0xFF)
      else none

/-- PLAN_ACTIVATE (R462, R463). -/
def planActivateRun (h : Hdr) (planId due : Nat) (s : State) : State :=
  match planError s planId due with
  | some (code, d) => respond h 0xA1 code d s
  | none =>
    let s := match s.cluster.pending with | some (_, _, k) => fail k 0xA1 E.cancelled {} s | none => s
    modCluster (fun c => { c with pending := some (planId, due, h) }) s

/-- PLAN_TAKES_FORCE: at the frame starting at AT the staged plan becomes active; with the time lost beyond holdover it does not (R463). -/
def planForceRun (s : State) : State :=
  match s.cluster.pending with
  | none => s
  | some (planId, due, h) =>
    if s.now < tickOf s due then s
    else
      let lost := s.time.lock == 0 && (match s.time.holdUntil with | some u => s.now ≥ u | none => true)
      let s := modCluster (fun c => { c with pending := none }) s
      match lost, s.cluster.staged.bind Staged.bytes with
      | true, _ => fail h 0xA1 E.timeUnlocked {} s
      | _, none => fail h 0xA1 E.planUnknown {} s
      | _, some b =>
        let s := modCluster (fun c => { c with active := some (planId, b), staged := none }) s
        let n := frameNo s
        let s := raise Ev.planActive 0xFF (le 4 planId ++ le 8 n) (ok h 0xA1 (le 8 n) s)
        let s := (List.range 64).foldl (fun s p =>
          if stepped s p && !isFollower s p then runStart p s else if atBoundary s p then followRun p s else s) s
        reselect s

/-- CLUSTER_STATUS. -/
def clusterStatusRun (h : Hdr) (s : State) : State :=
  let act := (s.cluster.active.map (·.1)).getD 0
  let pen := (s.cluster.pending.map (·.1)).getD 0
  ok h 0xA2 ([b8 s.time.lock, 0, 0, 0] ++ leI 4 (timeOffset s) ++ le 4 act ++ le 4 pen ++ le 8 (frameNo s)) s

/-! ### Cluster calibration (R470 to R472) -/

/-- Whether an active plan assigns a channel to a port in every frame that an interval touches (R470). -/
def planGives (s : State) (p channel due durUs : Nat) : Bool :=
  match planOf s with
  | none => true
  | some _ =>
    let n := due / 1000000
    (List.range ((due + 1000 * durUs - 1) / 1000000 + 1 - n)).all fun i => channelIn s p (n + i) == some channel

/-- CAL_TONE (R446, R470): it asks Press for 10 mW at priority 7 with the command; the sequence is set by the module ID and the port number. DEDUCED,
unsafe: log entry 50. -/
def calToneRun (h : Hdr) (p channel due durUs : Nat) (s : State) : State :=
  if (due : Int) < ts s + 1000000 then failRange h 0xA3 16 s
  else if s.time.lock == 0 then fail h 0xA3 E.timeUnlocked { port := p } s
  else if hasField s p || (port s p).tone.isSome then fail h 0xA3 E.portBusy { port := p } s
  else if !bit (mAttrN s A.moduleTxChannelMask) channel then fail h 0xA3 E.aboveRegLimit { port := p } s
  else if !planGives s p channel due durUs || !s.cluster.clashes.isEmpty then fail h 0xA3 E.planInvalid { port := p } s
  else if interlocked s then fail h 0xA3 E.interlock { port := p } s
  else
    let tone : Tone := { hdr := h, channel := channel, due := due, durUs := durUs, seq := (s.moduleId, p) }
    match pressAskAt 7 p 10 .tone (modPort p (fun x => { x with tone := some tone }) s) with
    | (false, s) => s
    | (true, s) => endTone p E.pressTimeout (pressDetail s p 10) s

/-- CAL_TONE_END: the tone's duration is over; a port that has got a field meanwhile, or no grant, has sent no tone. DEDUCED, unsafe: log entry 50. -/
def calToneEndRun (p : Nat) (s : State) : State :=
  match (port s p).tone with
  | none => s
  | some t =>
    if s.now < tickOf s (t.due + 1000 * t.durUs) then s
    else if !t.granted then endTone p E.pressTimeout (pressDetail s p 10) s
    else endTone p (if hasField s p then E.portBusy else 0) { port := p } s

/-- CAL_LISTEN (R446, R471). -/
def calListenRun (h : Hdr) (ports due durUs srcModule srcPort : Nat) (s : State) : State :=
  if (due : Int) < ts s + 1000000 then failRange h 0xA4 16 s
  else if s.time.lock == 0 then fail h 0xA4 E.timeUnlocked {} s
  else match (portsOf ports).find? fun p => hasField s p with
  | some p => fail h 0xA4 E.portBusy { port := p } s
  | none =>
    if !s.cluster.clashes.isEmpty then fail h 0xA4 E.planInvalid {} s
    else modCluster (fun c => { c with listens := c.listens ++
      [{ hdr := h, ports := ports, due := due, durUs := durUs, module := srcModule, port := srcPort }] }) s

/-- Put an entry into a coupling table, strongest first. -/
def insertCoupling (x : Int × Nat × Nat) : List (Int × Nat × Nat) → List (Int × Nat × Nat)
  | [] => [x]
  | y :: ys => if x.1 > y.1 then x :: y :: ys else y :: insertCoupling x ys

/-- A result replaces the entry of its source in a port's table, or removes it when it is no stronger than the threshold (R472). -/
def noteCoupling (threshold k : Int) (module src : Nat) (t : List (Int × Nat × Nat)) : List (Int × Nat × Nat) :=
  let t := t.filter fun e => !(e.2.1 == module && e.2.2 == src)
  if k > threshold then (insertCoupling (k, module, src) t).take 16 else t

/-- CAL_LISTEN_END: the couplings are reported, within the bounds of R471, and enter the tables (R471, R472). DEDUCED, unsafe: log entry 50. -/
def calListenEndRun (couplings : List Int) (s : State) : State :=
  match s.cluster.listens.find? fun l => tickOf s (l.due + 1000 * l.durUs) ≤ s.now with
  | none => s
  | some l =>
    let ps := portsOf l.ports
    if couplings.length != ps.length then s
    else
      let ks := couplings.map fun k => max (-9000) (min (-1000) k)
      let limit := mAttr s A.clusterAdjacentCdb
      let s := (ps.zip ks).foldl (fun s e =>
        modNvm (fun n => { n with xcoupling := upd n.xcoupling e.1 (noteCoupling limit e.2 l.module l.port) }) s) s
      let s := modCluster (fun c => { c with listens := c.listens.erase l }) s
      respondList l.hdr 0xA4 2 (ks.map (leI 2)) s

/-- DEDUP_IMPORT (R446, R475). -/
def dedupImportRun (h : Hdr) (recs : List DedupRec) (s : State) : State :=
  if !s.cluster.clashes.isEmpty then fail h 0xA5 E.planInvalid {} s else importRun h recs s

end Sys2Proof.Machine
end

