-- ==== Sys2Proof/Machine/Layout.lean ====
section
/-!
DEFINITION. The layouts of the command bodies: lengths, reserved fields, parsing, and the fixed ranges of the fields
(R411 with Tables 8-4, 8-5 and 8-10 to 8-16).
-/

namespace Sys2Proof.Machine

/-- The opcode and the header of a host command; none for an event of the environment. -/
def cmdHead : Instr → Option (Nat × Hdr)
  | .nop _ h _ => some (0x00, h)
  | .moduleInfo _ h => some (0x01, h)
  | .moduleState _ h => some (0x02, h)
  | .attrGet _ h _ _ => some (0x03, h)
  | .attrSet _ h _ => some (0x04, h)
  | .configCommit _ h => some (0x05, h)
  | .configDiscard _ h => some (0x06, h)
  | .configSave _ h => some (0x07, h)
  | .dozeEnter _ h => some (0x08, h)
  | .queueStatus _ h _ _ => some (0x0A, h)
  | .moduleReset _ h _ => some (0x0B, h)
  | .timeRead _ h => some (0x0C, h)
  | .schedule _ h _ _ _ _ => some (0x0D, h)
  | .portFlush _ h _ => some (0x0E, h)
  | .fwBegin _ h _ => some (0x10, h)
  | .fwData _ h _ _ => some (0x11, h)
  | .fwVerify _ h => some (0x12, h)
  | .fwActivate _ h _ => some (0x13, h)
  | .fwStatus _ h => some (0x14, h)
  | .fwRollback _ h => some (0x15, h)
  | .fieldOn _ h => some (0x20, h)
  | .fieldOff _ h => some (0x21, h)
  | .autotune _ h => some (0x22, h)
  | .calibrateRadio _ h _ => some (0x23, h)
  | .measureNoise _ h _ => some (0x24, h)
  | .mirrorTrain _ h _ _ => some (0x25, h)
  | .isoRawFrame _ h _ _ _ _ _ _ _ _ => some (0x40, h)
  | .isoAAnticoll _ h _ _ => some (0x41, h)
  | .isoAActivate _ h _ => some (0x42, h)
  | .isoAHalt _ h _ => some (0x43, h)
  | .isoARats _ h _ _ => some (0x44, h)
  | .isoPps _ h _ _ _ => some (0x45, h)
  | .isoBRequest _ h _ _ => some (0x46, h)
  | .isoBAnticoll _ h _ _ _ _ _ => some (0x47, h)
  | .isoBAttrib _ h _ _ _ _ => some (0x48, h)
  | .isoBHalt _ h _ => some (0x49, h)
  | .isoApdu _ h _ _ => some (0x4A, h)
  | .isoDeselect _ h _ => some (0x4B, h)
  | .isoForget _ h _ => some (0x4C, h)
  | .isoVInventory _ h _ _ _ _ _ _ _ => some (0x50, h)
  | .isoVCommand _ h _ _ _ _ _ _ _ => some (0x51, h)
  | .isoVSelect _ h _ => some (0x52, h)
  | .isoVQuiet _ h _ => some (0x53, h)
  | .isoVResetReady _ h _ => some (0x54, h)
  | .hyRawFrame _ h _ _ _ _ _ => some (0x60, h)
  | .hyActivate _ h _ _ _ _ => some (0x61, h)
  | .hyRead _ h _ _ _ => some (0x62, h)
  | .hyWrite _ h _ _ _ => some (0x63, h)
  | .hySealedWrite _ h _ _ _ _ => some (0x64, h)
  | .hyPageStatus _ h _ _ => some (0x65, h)
  | .hyChallenge _ h _ _ _ => some (0x66, h)
  | .hyHalt _ h _ => some (0x67, h)
  | .hyRelease _ h _ => some (0x68, h)
  | .hyResync _ h _ => some (0x69, h)
  | .hyForget _ h _ => some (0x6A, h)
  | .hyTreeSearch _ h _ _ _ _ => some (0x6B, h)
  | .hySetMap _ h _ _ => some (0x6C, h)
  | .harvestStart _ h => some (0x80, h)
  | .harvestStop _ h => some (0x81, h)
  | .harvestClear _ h _ => some (0x82, h)
  | .harvestReadTable _ h _ _ => some (0x83, h)
  | .prismCalibrate _ h => some (0x88, h)
  | .prismVector _ h _ => some (0x89, h)
  | .lensBaseline _ h => some (0x90, h)
  | .lensMeasure _ h => some (0x91, h)
  | .planLoad _ h _ _ _ _ => some (0xA0, h)
  | .planActivate _ h _ _ => some (0xA1, h)
  | .clusterStatus _ h => some (0xA2, h)
  | .calTone _ h _ _ _ _ _ => some (0xA3, h)
  | .calListen _ h _ _ _ _ _ => some (0xA4, h)
  | .dedupImport _ h _ => some (0xA5, h)
  | .caskInfo _ h _ => some (0xC0, h)
  | .caskImport _ h _ _ _ _ => some (0xC1, h)
  | .caskGenerate _ h _ _ _ => some (0xC2, h)
  | .caskDerive _ h _ _ _ _ _ => some (0xC3, h)
  | .caskDestroy _ h _ => some (0xC4, h)
  | .caskEncrypt _ h _ _ _ _ => some (0xC5, h)
  | .caskDecrypt _ h _ _ _ _ => some (0xC6, h)
  | .caskWrap _ h _ _ => some (0xC7, h)
  | .attest _ h _ _ => some (0xC8, h)
  | .lifecycleSet _ h _ _ => some (0xC9, h)
  | .debugOpenSet _ h _ => some (0xCA, h)
  | .credWrite _ h _ _ _ _ => some (0xCB, h)
  | .credVerify _ h _ _ _ => some (0xCC, h)
  | .caskList _ h => some (0xCD, h)
  | .selfTest _ h _ => some (0xE0, h)
  | .captureArm _ h _ _ _ _ _ _ => some (0xE1, h)
  | .captureRead _ h _ _ _ => some (0xE2, h)
  | .triggerArm _ h _ _ _ => some (0xE3, h)
  | .swapRequest _ h _ _ => some (0xE4, h)
  | .spareStatus _ h => some (0xE5, h)
  | .wearRead _ h _ _ _ => some (0xE6, h)
  | .eventLogRead _ h _ _ => some (0xE7, h)
  | .countersClear _ h _ _ => some (0xE8, h)
  | _ => none

/-! ### Body lengths (R411, check 4) -/

/-- The opcodes whose body is empty. -/
def emptyBody : List Nat :=
  [0x01, 0x02, 0x05, 0x06, 0x07, 0x08, 0x0C, 0x12, 0x14, 0x15, 0x20, 0x21, 0x22, 0x80, 0x81, 0x88, 0x90, 0x91, 0xA2, 0xCD, 0xE5]

/-- The opcodes whose body is four bytes. -/
def wordBody : List Nat :=
  [0x0B, 0x13, 0x23, 0x41, 0x42, 0x43, 0x44, 0x45, 0x46, 0x47, 0x49, 0x4B, 0x4C, 0x52, 0x53, 0x54, 0x67, 0x68, 0x69, 0x6A,
   0x83, 0x89, 0xC0, 0xC4, 0xC7, 0xCA, 0xE0, 0xE4, 0xE7]

/-- The length of a body by the layout of its opcode, counts included, before padding. None for an opcode that is not defined, and for
ATTR_SET, whose layout is walked. A body too short to hold its counts reads them as 0. -/
def bodyLen (op : Nat) (b : Bytes) : Option Nat :=
  if emptyBody.contains op then some 0
  else if wordBody.contains op then some 4
  else match op with
  | 0x00 => some (min b.length 1392)
  | 0x03 => some (4 + 4 * num b 0 1)
  | 0x0A => some 12
  | 0x0D => some (12 + num b 12 2)
  | 0x0E | 0x10 | 0x24 | 0x48 | 0x62 | 0x65 | 0x82 | 0xC9 | 0xCB | 0xCC | 0xE6 => some 8
  | 0x11 => some (8 + num b 4 2)
  | 0x25 | 0x50 | 0x6C | 0xC2 | 0xE1 | 0xE2 | 0xE8 => some 12
  | 0x40 => some (8 + ceilDiv (num b 0 2) 8)
  | 0x4A => some (4 + num b 2 2)
  | 0x51 => some (8 + num b 6 2)
  | 0x60 => some (12 + num b 8 2)
  | 0x61 | 0x6B | 0xA3 | 0xC8 => some 20
  | 0x63 => some (8 + num b 6 2)
  | 0x64 => some 264
  | 0x66 | 0xA4 => some 24
  | 0xA0 => some (16 + num b 12 2)
  | 0xA1 | 0xE3 => some 16
  | 0xA5 => some (4 + 32 * num b 0 1)
  | 0xC1 => some (16 + num b 12 2)
  | 0xC3 => some (16 + num b 12 1 + num b 13 1)
  | 0xC5 | 0xC6 => some (24 + num b 20 2)
  | _ => none

/-- Whether an opcode is defined for commands (Table 8-3). -/
def opDefined (op : Nat) : Bool := op == 0x04 || (bodyLen op []).isSome

/-- The size of one element of a type code (Table 8-6). -/
def elemSize (t : Nat) : Nat := (typeSize t).getD 0

/-- One element of a type: even codes are signed. -/
def typeVal (t : Nat) (x : Bytes) : Int := if t % 2 == 0 then signed (8 * elemSize t) (ofLe x) else ((ofLe x : Nat) : Int)

/-- What walking ATTR_SET's records gives. -/
inductive Walk where
  /-- The records, and the bytes they take. -/
  | records (rs : List AttrRec) (size : Nat)
  /-- The number, ID and INDEX of a record whose TYPE or N leaves the length unknown. -/
  | badType (n id index : Nat)
  /-- The body ends before its records do. -/
  | short
  deriving DecidableEq, Repr

/-- Walk `k` value records from byte `off` of the body (R411, Table 8-5). -/
def walkRecs (b : Bytes) : Nat → Nat → Nat → List AttrRec → Walk
  | 0, off, _, acc => .records acc.reverse off
  | k + 1, off, n, acc =>
    if b.length < off + 6 then .short
    else
      let t := num b (off + 4) 1
      let m := num b (off + 5) 1
      if t == 0 || t > 7 || m == 0 || m > 64 then .badType n (num b off 2) (num b (off + 2) 2)
      else
        let size := elemSize t
        let full := ceilDiv (6 + size * m) 4 * 4
        if b.length < off + full then .short
        else
          let vs := (List.range m).map fun i => typeVal t (slice b (off + 6 + size * i) size)
          walkRecs b k (off + full) (n + 1) ({ id := num b off 2, index := num b (off + 2) 2, type := t, vals := vs } :: acc)

/-- The records of an ATTR_SET body. -/
def walkSet (b : Bytes) : Walk := walkRecs b (num b 0 1) 4 0 []

/-- The bytes a value record takes. -/
def recSize (r : AttrRec) : Nat := ceilDiv (6 + elemSize r.type * r.vals.length) 4 * 4

/-- The bytes that the counted part of a command's body takes. -/
def varLen : Instr → Nat
  | .nop _ _ x => x.length
  | .attrGet _ _ _ rs => 4 * rs.length
  | .attrSet _ _ rs => 4 + (rs.map recSize).sum
  | .schedule _ _ _ _ _ x => x.length
  | .fwData _ _ _ x => x.length
  | .isoRawFrame _ _ _ _ _ _ _ _ _ x => x.length
  | .isoApdu _ _ _ x => x.length
  | .isoVCommand _ _ _ _ _ _ _ _ x => x.length
  | .hyRawFrame _ _ _ _ _ _ x => x.length
  | .hyWrite _ _ _ _ x => x.length
  | .planLoad _ _ _ _ _ x => x.length
  | .dedupImport _ _ rs => 32 * rs.length
  | .caskImport _ _ _ _ _ x => x.length
  | .caskDerive _ _ _ _ _ x y => x.length + y.length
  | .caskEncrypt _ _ _ _ _ x => x.length
  | .caskDecrypt _ _ _ _ _ x => x.length
  | _ => 0

/-- The cells a command's item takes, sent without an item check (R381). -/
def cmdCells (i : Instr) : Nat :=
  match cmdHead i with
  | none => 0
  | some (op, _) => cellsOf (ceilDiv (8 + (bodyLen op []).getD 0 + varLen i) 4 * 4)

/-! ### Reserved fields (R17, R411, check 5) -/

/-- The reserved fields of a body: offset and size. DEDUCED, unsafe: log entry 55. -/
def reservedOf (op : Nat) (b : Bytes) : List (Nat × Nat) :=
  match op with
  | 0x03 => [(2, 2)]
  | 0x04 => [(1, 3)]
  | 0x0A => [(10, 2)]
  | 0x0D => [(2, 2)]
  | 0x10 => [(4, 4)]
  | 0x11 => [(6, 2)]
  | 0x13 | 0x23 | 0x89 | 0xC9 | 0xE0 | 0xE2 | 0xE3 => [(1, 3)]
  | 0x25 => [(10, 2)]
  | 0x40 => [(6, 2)]
  | 0x41 | 0x42 | 0x43 | 0x46 | 0x49 | 0x4B | 0x4C | 0x52 | 0x53 | 0x54 | 0x6A | 0x6C | 0xC0 | 0xC4 | 0xC8 => [(2, 2)]
  | 0x44 | 0x83 | 0xE7 | 0x6B => [(3, 1)]
  | 0x48 => [(3, 1), (6, 2)]
  | 0x51 => [(5, 1)]
  | 0x60 => [(7, 1), (10, 2)]
  | 0x61 => [(19, 1)]
  | 0x64 => [(5, 1)]
  | 0x65 | 0x66 | 0xCC => [(5, 3)]
  | 0xA0 => [(14, 2)]
  | 0xA1 | 0xA3 => [(4, 4)]
  | 0xA4 => [(22, 2)]
  | 0xA5 => (1, 3) :: (List.range (num b 0 1)).flatMap fun i => [(4 + 32 * i + 19, 1), (4 + 32 * i + 22, 2)]
  | 0xC1 | 0xC3 => [(14, 2)]
  | 0xC5 | 0xC6 => [(3, 1), (22, 2)]
  | 0xCB => [(6, 2)]
  | 0xE4 => [(1, 1)]
  | 0xE6 => [(1, 1), (5, 3)]
  | 0xE8 => [(9, 3)]
  | _ => []

/-- The bytes of CASK_ATTR that hold reserved bits, by their offset in the body of a creating command, and their other bits
(Table 10-1). -/
def attrFields : List (Nat × Nat) := [(4, 0x03), (5, 0x0F), (6, 0xF3), (7, 0x13)]

/-- The item offset of the first byte of a new CASK_ATTR with a reserved bit set (R17, R411). DEDUCED, safe: log entry 69. -/
def attrReserved : Instr → Option Nat
  | .caskImport _ _ _ _ a _ | .caskGenerate _ _ _ _ a | .caskDerive _ _ _ _ a _ _ =>
    (attrFields.find? fun (o, m) => (a >>> (8 * (o - 4))) % 256 &&& m != (a >>> (8 * (o - 4))) % 256).map fun x => 8 + x.1
  | _ => none

/-- The flag bytes of a body: offset and the bits in use. -/
def flagsOf (op : Nat) : List (Nat × Nat) :=
  match op with
  | 0x03 | 0x41 | 0x46 => [(1, 1)]
  | 0x0A => [(9, 1)]
  | 0x23 => [(0, 15)]
  | 0x40 => [(3, 31)]
  | 0x47 => [(3, 3)]
  | 0x50 => [(1, 7)]
  | 0x51 => [(3, 7)]
  | 0x61 => [(16, 1)]
  | 0x6B => [(2, 1)]
  | 0xC1 | 0xC2 | 0xC3 => attrFields
  | 0xE8 => [(8, 1)]
  | _ => []

/-- The item offset of the first reserved field that is not 0 (R411, Table 8-23): IFLAGS, STATUS, then the body. -/
def reservedError (op iflags status : Nat) (b : Bytes) : Option Nat :=
  let fields := (reservedOf op b).filterMap fun (o, n) => if num b o n == 0 then none else some (8 + o)
  let flags := (flagsOf op).filterMap fun (o, m) => if num b o 1 &&& m == num b o 1 then none else some (8 + o)
  ((if iflags ≤ 1 then [] else [3]) ++ (if status == 0 then [] else [6]) ++ fields ++ flags).min?

/-! ### Parsing -/

/-- The prefix of a Hymond command (Table 8-12). -/
def preOf (b : Bytes) : HyPre := { handle := num b 0 2, dl := num b 2 1, ul := num b 3 1 }

/-- A deduplication record (Table 9-6). -/
def dedupOf (b : Bytes) (o : Nat) : DedupRec :=
  { ident := slice b o 16, proto := num b (o + 16) 1, modul := num b (o + 17) 1, port := num b (o + 18) 1,
    strength := signed 16 (num b (o + 20) 2), ts := num b (o + 24) 8 }

/-- The loading map of HY_SET_MAP: sixteen nibbles, the low one of a byte first (R252). -/
def mapOf (b : Bytes) (o : Nat) : List Nat :=
  (List.range 16).map fun i => num b (o + i / 2) 1 / (if i % 2 == 0 then 1 else 16) % 16

/-- The command that a body of the right length spells, but for ATTR_SET. -/
def parseBody (t op : Nat) (h : Hdr) (b : Bytes) : Option Instr :=
  let n := fun (o k : Nat) => num b o k
  let f := fun (o i : Nat) => bit (num b o 1) i
  let rest := fun (o k : Nat) => slice b o k
  match op with
  | 0x00 => some (.nop t h b)
  | 0x01 => some (.moduleInfo t h)
  | 0x02 => some (.moduleState t h)
  | 0x03 => some (.attrGet t h (f 1 0) ((List.range (n 0 1)).map fun i => (n (4 + 4 * i) 2, n (6 + 4 * i) 2)))
  | 0x05 => some (.configCommit t h)
  | 0x06 => some (.configDiscard t h)
  | 0x07 => some (.configSave t h)
  | 0x08 => some (.dozeEnter t h)
  | 0x0A => some (.queueStatus t h (n 0 9) (f 9 0))
  | 0x0B => some (.moduleReset t h (n 0 4))
  | 0x0C => some (.timeRead t h)
  | 0x0D => some (.schedule t h (n 0 1) (n 1 1) (n 4 8) (rest 12 (n 12 2)))
  | 0x0E => some (.portFlush t h (n 0 8))
  | 0x10 => some (.fwBegin t h (n 0 4))
  | 0x11 => some (.fwData t h (n 0 4) (rest 8 (n 4 2)))
  | 0x12 => some (.fwVerify t h)
  | 0x13 => some (.fwActivate t h (n 0 1))
  | 0x14 => some (.fwStatus t h)
  | 0x15 => some (.fwRollback t h)
  | 0x20 => some (.fieldOn t h)
  | 0x21 => some (.fieldOff t h)
  | 0x22 => some (.autotune t h)
  | 0x23 => some (.calibrateRadio t h (n 0 1))
  | 0x24 => some (.measureNoise t h (n 0 8))
  | 0x25 => some (.mirrorTrain t h (n 0 8) (n 8 2))
  | 0x40 => some (.isoRawFrame t h (n 0 2) (n 2 1) (f 3 0) (f 3 1) (f 3 2) (n 3 1 / 8 % 4) (n 4 2) (rest 8 (ceilDiv (n 0 2) 8)))
  | 0x41 => some (.isoAAnticoll t h (n 0 1) (f 1 0))
  | 0x42 => some (.isoAActivate t h (n 0 2))
  | 0x43 => some (.isoAHalt t h (n 0 2))
  | 0x44 => some (.isoARats t h (n 0 2) (n 2 1))
  | 0x45 => some (.isoPps t h (n 0 2) (n 2 1) (n 3 1))
  | 0x46 => some (.isoBRequest t h (n 0 1) (f 1 0))
  | 0x47 => some (.isoBAnticoll t h (n 0 1) (n 1 1) (n 2 1) (f 3 0) (f 3 1))
  | 0x48 => some (.isoBAttrib t h (n 0 2) (n 2 1) (n 4 1) (n 5 1))
  | 0x49 => some (.isoBHalt t h (n 0 2))
  | 0x4A => some (.isoApdu t h (n 0 2) (rest 4 (n 2 2)))
  | 0x4B => some (.isoDeselect t h (n 0 2))
  | 0x4C => some (.isoForget t h (n 0 2))
  | 0x50 => some (.isoVInventory t h (n 0 1) (f 1 0) (f 1 1) (f 1 2) (n 2 1) (n 3 1) (n 4 8))
  | 0x51 => some (.isoVCommand t h (n 0 2) (n 2 1) (f 3 0) (f 3 1) (f 3 2) (n 4 1) (rest 8 (n 6 2)))
  | 0x52 => some (.isoVSelect t h (n 0 2))
  | 0x53 => some (.isoVQuiet t h (n 0 2))
  | 0x54 => some (.isoVResetReady t h (n 0 2))
  | 0x60 => some (.hyRawFrame t h (preOf b) (n 4 1) (n 5 1) (n 6 1) (rest 12 (n 8 2)))
  | 0x61 => some (.hyActivate t h (rest 0 16) (f 16 0) (n 17 1) (n 18 1))
  | 0x62 => some (.hyRead t h (preOf b) (n 4 2) (n 6 2))
  | 0x63 => some (.hyWrite t h (preOf b) (n 4 2) (rest 8 (n 6 2)))
  | 0x64 => some (.hySealedWrite t h (preOf b) (n 4 1) (n 6 2) (rest 8 256))
  | 0x65 => some (.hyPageStatus t h (preOf b) (n 4 1))
  | 0x66 => some (.hyChallenge t h (preOf b) (n 4 1) (rest 8 16))
  | 0x67 => some (.hyHalt t h (preOf b))
  | 0x68 => some (.hyRelease t h (preOf b))
  | 0x69 => some (.hyResync t h (preOf b))
  | 0x6A => some (.hyForget t h (n 0 2))
  | 0x6B => some (.hyTreeSearch t h (n 0 1) (n 1 1) (f 2 0) (rest 4 16))
  | 0x6C => some (.hySetMap t h (n 0 2) (mapOf b 4))
  | 0x80 => some (.harvestStart t h)
  | 0x81 => some (.harvestStop t h)
  | 0x82 => some (.harvestClear t h (n 0 8))
  | 0x83 => some (.harvestReadTable t h (n 0 2) (n 2 1))
  | 0x88 => some (.prismCalibrate t h)
  | 0x89 => some (.prismVector t h (n 0 1))
  | 0x90 => some (.lensBaseline t h)
  | 0x91 => some (.lensMeasure t h)
  | 0xA0 => some (.planLoad t h (n 0 4) (n 4 4) (n 8 4) (rest 16 (n 12 2)))
  | 0xA1 => some (.planActivate t h (n 0 4) (n 8 8))
  | 0xA2 => some (.clusterStatus t h)
  | 0xA3 => some (.calTone t h (n 0 1) (n 1 1) (signed 16 (n 2 2)) (n 8 8) (n 16 4))
  | 0xA4 => some (.calListen t h (n 0 8) (n 8 8) (n 16 4) (n 20 1) (n 21 1))
  | 0xA5 => some (.dedupImport t h ((List.range (n 0 1)).map fun i => dedupOf b (4 + 32 * i)))
  | 0xC0 => some (.caskInfo t h (n 0 2))
  | 0xC1 => some (.caskImport t h (n 0 2) (n 2 2) (n 4 8) (rest 16 (n 12 2)))
  | 0xC2 => some (.caskGenerate t h (n 0 2) (n 2 2) (n 4 8))
  | 0xC3 => some (.caskDerive t h (n 0 2) (n 2 2) (n 4 8) (rest 16 (n 12 1)) (rest (16 + n 12 1) (n 13 1)))
  | 0xC4 => some (.caskDestroy t h (n 0 2))
  | 0xC5 => some (.caskEncrypt t h (n 0 2) (n 2 1) (rest 4 16) (rest 24 (n 20 2)))
  | 0xC6 => some (.caskDecrypt t h (n 0 2) (n 2 1) (rest 4 16) (rest 24 (n 20 2)))
  | 0xC7 => some (.caskWrap t h (n 0 2) (n 2 2))
  | 0xC8 => some (.attest t h (n 0 2) (rest 4 16))
  | 0xC9 => some (.lifecycleSet t h (n 0 1) (n 4 4))
  | 0xCA => some (.debugOpenSet t h (n 0 4))
  | 0xCB => some (.credWrite t h (n 0 2) (n 2 2) (n 4 1) (n 5 1))
  | 0xCC => some (.credVerify t h (n 0 2) (n 2 2) (n 4 1))
  | 0xCD => some (.caskList t h)
  | 0xE0 => some (.selfTest t h (n 0 4))
  | 0xE1 => some (.captureArm t h (n 0 1) (n 1 1) (n 2 1) (n 3 1) (n 4 4) (n 8 4))
  | 0xE2 => some (.captureRead t h (n 0 1) (n 4 4) (n 8 4))
  | 0xE3 => some (.triggerArm t h (n 0 1) (n 4 8) (n 12 4))
  | 0xE4 => some (.swapRequest t h (n 0 1) (n 2 2))
  | 0xE5 => some (.spareStatus t h)
  | 0xE6 => some (.wearRead t h (n 0 1) (n 2 2) (n 4 1))
  | 0xE7 => some (.eventLogRead t h (n 0 2) (n 2 1))
  | 0xE8 => some (.countersClear t h (n 0 8) (f 8 0))
  | _ => none

/-! ### Fixed ranges (R411, check 6) -/

/-- The item offset of the first of some checks that fails: offset and whether the field is good. -/
def firstBad (cs : List (Nat × Bool)) : Option Nat := (cs.find? fun c => !c.2).map (·.1)

/-- Whether a number lies in a range. -/
def within (lo n hi : Nat) : Bool := lo ≤ n && n ≤ hi

/-- A CID to be assigned: 0 to 14, or 0xFF. -/
def cidGood (n : Nat) : Bool := n ≤ 14 || n == 0xFF

/-- The trigger codes of CAPTURE_ARM (Table 8-16). -/
def trigGood (n : Nat) : Bool := n ≤ 2 || within 0x10 n 0x17

/-- The item offset of the first field of a command that lies outside its fixed range (R411, Tables 8-4, 8-5, 8-10 to 8-16). -/
def rangeError : Instr → Option Nat
  | .attrGet _ _ _ rs => firstBad [(8, within 1 rs.length 32)]
  | .attrSet _ _ rs => firstBad [(8, within 1 rs.length 32)]
  | .schedule _ _ _ p _ _ => firstBad [(9, p ≤ 63)]
  | .fwBegin _ _ n => firstBad [(8, within 128 n imageMax)]
  | .fwData _ _ _ x => firstBad [(12, within 4 x.length 1388)]
  | .fwActivate _ _ w => firstBad [(8, w ≤ 1)]
  | .isoRawFrame _ _ n r _ _ _ k _ _ => firstBad [(8, within 1 n 2048), (10, r ≤ 3), (11, k ≤ 2)]
  | .isoAAnticoll _ _ m _ => firstBad [(8, within 1 m 16)]
  | .isoARats _ _ _ c => firstBad [(10, cidGood c)]
  | .isoPps _ _ _ a z => firstBad [(10, a ≤ 3), (11, z ≤ 3)]
  | .isoBAnticoll _ _ _ n m _ _ => firstBad [(9, [1, 2, 4, 8, 16].contains n), (10, within 1 m 16)]
  | .isoBAttrib _ _ _ c a z => firstBad [(10, cidGood c), (12, a ≤ 3), (13, z ≤ 3)]
  | .isoApdu _ _ _ x => firstBad [(10, within 1 x.length 1344)]
  | .isoVInventory _ _ _ _ _ _ l m _ => firstBad [(10, l ≤ 60), (11, within 1 m 16)]
  | .isoVCommand _ _ _ c _ _ _ _ x => firstBad [(10, within 0x20 c 0x2C || within 0xA0 c 0xFF), (14, x.length ≤ 256)]
  | .hyRawFrame _ _ _ k a r x => firstBad [(12, k ≤ 15), (13, a ≤ 15), (14, r ≤ 4), (16, x.length ≤ 1376)]
  | .hyRead _ _ _ _ n => firstBad [(14, within 1 n 2047)]
  | .hyWrite _ _ _ _ x => firstBad [(14, within 1 x.length 1388)]
  | .hyTreeSearch _ _ l m _ _ => firstBad [(8, l ≤ 127), (9, within 1 m 255)]
  | .hySetMap _ _ _ m => firstBad [(12, m.all (· ≤ 6))]
  | .harvestReadTable _ _ a n => firstBad [(8, a ≤ 4095), (10, within 1 n 20)]
  | .planLoad _ _ _ _ _ x => firstBad [(20, within 4 x.length 1380)]
  | .calTone _ _ p c w _ d => firstBad [(8, p ≤ 63), (9, c ≤ 6), (10, w == 1000), (24, within 100 d 10000)]
  | .calListen _ _ _ _ _ m p => firstBad [(28, m ≤ 63), (29, p ≤ 63)]
  | .dedupImport _ _ rs => firstBad [(8, within 1 rs.length 40)]
  | .caskInfo _ _ c => firstBad [(8, c ≤ 1023)]
  | .caskImport _ _ c k _ x => firstBad [(8, c ≤ 1023), (10, k ≤ 1023), (20, x.length == 24 || x.length == 40)]
  | .caskGenerate _ _ c n _ => firstBad [(8, c ≤ 1023), (10, n == 128 || n == 256)]
  | .caskDerive _ _ c p _ l x => firstBad [(8, c ≤ 1023), (10, p ≤ 1023), (20, l.length ≤ 64), (21, x.length ≤ 64)]
  | .caskDestroy _ _ c => firstBad [(8, c ≤ 1023)]
  | .caskEncrypt _ _ c m _ x =>
    firstBad [(8, c ≤ 1023), (10, within 1 m 3), (28, within 1 x.length 1024 && (m != 1 || x.length % 16 == 0))]
  | .caskDecrypt _ _ c m _ x =>
    firstBad [(8, c ≤ 1023), (10, within 1 m 2), (28, within 1 x.length 1024 && (m != 1 || x.length % 16 == 0))]
  | .caskWrap _ _ c k => firstBad [(8, c ≤ 1023), (10, k ≤ 1023)]
  | .attest _ _ c _ => firstBad [(8, c ≤ 1023)]
  | .lifecycleSet _ _ c _ => firstBad [(8, c ≤ 3)]
  | .credWrite _ _ _ c k f => firstBad [(10, c ≤ 1023), (12, within 1 k 14), (13, [0x01, 0x02, 0x11, 0x12].contains f)]
  | .credVerify _ _ _ c k => firstBad [(10, c ≤ 1023), (12, within 1 k 14)]
  | .captureArm _ _ b p k t n z =>
    firstBad [(8, b ≤ 7), (9, p ≤ 63), (10, within 4 k 6), (11, trigGood t), (12, within 16 n 16384), (16, z ≤ n)]
  | .captureRead _ _ b _ _ => firstBad [(8, b ≤ 7)]
  | .triggerArm _ _ n _ _ => firstBad [(8, n ≤ 7)]
  | .swapRequest _ _ k _ => firstBad [(8, within 1 k 7)]
  | .wearRead _ _ m _ n => firstBad [(8, within 1 m 12), (12, within 1 n 64)]
  | .eventLogRead _ _ _ n => firstBad [(10, within 1 n 20)]
  | _ => none

/-- What the checks of a body give: the command, or a code with its detail. -/
abbrev Parsed := Except (Nat × Detail) Instr

/-- Checks 4 and 5 of R411 on the body of a defined opcode, and the command it spells. `port` is the port the detail names. DEDUCED, unsafe: log entry
55. -/
def parseItem (t op iflags status : Nat) (h : Hdr) (b : Bytes) : Parsed :=
  let done := fun (i : Option Instr) => match reservedError op iflags status b, i with
    | some o, _ => Except.error (E.reservedField, { arg1 := (o : Int) })
    | none, some i => .ok i
    | none, none => .error (E.opcode, {})
  if op == 0x04 then
    match walkSet b with
    | .badType n id index =>
      .error (E.attrType, { port := attrPort id index, record := n, arg1 := (id : Int), arg2 := (index : Int) })
    | .short => .error (E.bodyLength, {})
    | .records rs size => if b.length ≥ size && b.length < size + 4 then done (some (.attrSet t h rs)) else .error (E.bodyLength, {})
  else match bodyLen op b with
  | none => .error (E.opcode, {})
  | some l => if b.length ≥ l && b.length < l + 4 then done (parseBody t op h b) else .error (E.bodyLength, {})

end Sys2Proof.Machine
end

