-- ==== Sys2Proof/Machine/DiagRun.lean ====
section
/-!
DEFINITION. Captures and diagnostic triggers (R436, Table 8-16), and the commands of Table 8-4 that only read or answer: MODULE_INFO, MODULE_STATE,
TIME_READ, MODULE_RESET.
-/

namespace Sys2Proof.Machine

/-- Change the diagnostics record. -/
def modDiag (f : Diag → Diag) (s : State) : State := { s with diag := f s.diag }

/-- Whether the running configuration enables a capture buffer, a diagnostic trigger (R436, R438). -/
def capEnabled (s : State) (n : Nat) : Bool := pAttr s A.diagCapEnable n == 1
def trigEnabled (s : State) (n : Nat) : Bool := pAttr s A.diagTrigMode n != 0

/-- CAPTURE_ARM (R436). -/
def captureArmRun (h : Hdr) (buffer port point trigger samples before : Nat) (s : State) : State :=
  if !capEnabled s buffer || (trigger ≥ 0x10 && !trigEnabled s (trigger - 0x10)) then fail h 0xE1 E.resourceNotOwned {} s
  else if (nth s.diag.arms buffer none).isSome then fail h 0xE1 E.captureBusy {} s
  else modDiag (fun d => { d with
    arms := upd d.arms buffer fun _ => some { hdr := h, port := port, point := point, trigger := trigger, samples := samples, before := before },
    samples := upd d.samples buffer fun _ => [] }) s

/-- CAPTURE_BUFFER_FULL: CAPTURE_ARM is answered with the timestamp of its trigger sample. -/
def captureFullRun (buffer trigTick : Nat) (samples : List Cpx) (s : State) : State :=
  match nth s.diag.arms buffer none with
  | none => s
  | some a =>
    if samples.length != a.samples || trigTick > s.now then s
    else
      let s := modDiag (fun d => { d with
        arms := upd d.arms buffer fun _ => none, samples := upd d.samples buffer fun _ => samples }) s
      ok a.hdr 0xE1 (leI 8 (tsAt s trigTick)) s

/-- The bytes of captured samples: I then Q, 16 bits each. -/
def sampleBytes (xs : List Cpx) : Bytes := xs.flatMap fun x => leI 2 x.1 ++ leI 2 x.2

/-- CAPTURE_READ (R436). DEDUCED, unsafe: log entry 55. -/
def captureReadRun (h : Hdr) (buffer off len : Nat) (s : State) : State :=
  if !capEnabled s buffer then fail h 0xE2 E.resourceNotOwned {} s
  else respondParts h 0xE2 (byteParts (slice (sampleBytes (nth s.diag.samples buffer [])) off len)) s

/-- TRIGGER_ARM (R436). -/
def triggerArmRun (h : Hdr) (n due periodNs : Nat) (s : State) : State :=
  if !trigEnabled s n then fail h 0xE3 E.resourceNotOwned {} s
  else ok h 0xE3 [] (modDiag (fun d => { d with triggers := upd d.triggers n fun _ => some (periodNs, due) }) s)

/-- MODULE_INFO (Table 8-4, R602). -/
def moduleInfoRun (h : Hdr) (s : State) : State :=
  ok h 0x01 (le 8 s.nvm.serial ++ le 6 s.nvm.mac ++ [b8 s.moduleId, b8 s.mod.st.code, b8 (lifeCycle s), b8 (bnat s.nvm.sec.debugOpen),
    b8 s.nvm.profile, b8 s.nvm.active] ++ le 2 (fwVersion s) ++ le 2 s.nvm.hwRevision ++ le 4 s.nvm.bootCount ++ zeros 4) s

/-- MODULE_STATE (Table 8-4, R541). -/
def moduleStateRun (h : Hdr) (s : State) : State :=
  ok h 0x02 ([b8 s.mod.st.code, 0] ++ le 2 s.nvm.haltCause ++ leI 8 s.mod.entered) s

/-- TIME_READ (Table 8-4). -/
def timeReadRun (h : Hdr) (s : State) : State :=
  ok h 0x0C (leI 8 (ts s) ++ le 8 (s.now % 2 ^ 48) ++ [b8 s.time.lock, 0, 0, 0]) s

/-- MODULE_RESET: answered, and the reset follows (R416). -/
def moduleResetRun (h : Hdr) (confirm : Nat) (s : State) : State :=
  if confirm != 0x5A4A0B0B then fail h 0x0B E.confirm {} s
  else ok h 0x0B [] (modMod (fun m => { m with resetDue := 4, resetQ := h.q }) s)

/-- The answer to the command that asked for a reset has not yet left the module. -/
def answerWaits (s : State) : Bool :=
  let r := outRing s s.mod.resetQ
  !(r.items.isEmpty && r.waiting.isEmpty)

/-- MODULE_RESET_EXECUTE: the reset that has been answered takes place once its response frame has left (R416, R541). DEDUCED, safe: log entry 19. -/
def resetExecuteRun (s : State) : State := if s.mod.resetDue == 0 || answerWaits s then s else resetBy s.mod.resetDue s

end Sys2Proof.Machine
end

