-- ==== Sys2Proof/Machine/Admit.lean ====
section
/-!
DEFINITION. How a command comes to run: the queue and the module state it needs, its turn in its queue, the checks of R411, the look-ahead of R603,
SCHEDULE and PORT_FLUSH (R59, R411 to R419, R467, R603).
-/

namespace Sys2Proof.Machine

/-! ### Where and when an opcode runs (R413, R414, Tables 8-3, 8-4, 8-15, 8-16) -/

/-- Whether a queue carries an opcode. -/
def queueTakes (op q : Nat) : Bool :=
  let cq := q < 64
  if op == 0x00 || op == 0x03 then cq || q == 0x40 || q == 0x44
  else if op == 0x01 || op == 0x02 || op == 0x0A then q == 0x40 || q == 0x44
  else if op == 0x0C then q == 0x40 || q == 0x43 || q == 0x44
  else if op < 0x10 then q == 0x40
  else if op < 0x20 then q == 0x45
  else if op == 0x24 || op == 0x25 then q == 0x40
  else if op == 0x82 || op == 0x83 then cq || q == 0x40
  else if op < 0xA0 then cq
  else if op < 0xC0 then q == 0x43
  else if op == 0xC0 || op == 0xC5 || op == 0xC6 then cq || q == 0x41
  else if op == 0xCB || op == 0xCC then cq
  else if op < 0xE0 then q == 0x41
  else q == 0x44

/-- An opcode that runs in any state. -/
def runsAny (op : Nat) : Bool := [0x00, 0x01, 0x02, 0x03, 0x0A, 0x0B, 0x0C, 0x0E, 0x14].contains op

/-- An opcode that runs in SERVICE and in HALTED. -/
def runsHalted (op : Nat) : Bool := [0x10, 0x11, 0x12, 0x13, 0x15, 0xE0, 0xE2, 0xE5, 0xE6, 0xE7, 0xE8].contains op

/-- A ring that is served in the present state: in HALTED those of SQ0, SQ4 and SQ5, and SQ5 alone in BOOT without an image (R372, R548). -/
def queueOpen (s : State) (q : Nat) : Bool :=
  if s.mod.st == .halted then q == 0x40 || q == 0x44 || q == 0x45
  else if s.mod.st == .boot && s.mod.noImage then q == 0x45 else true

/-- What the module state makes of an opcode (R414). -/
inductive StateVerdict where
  | runs | waits | fails
  deriving DecidableEq, Repr

/-- R414, and R548 for the firmware commands of a module without an image. -/
def stateVerdict (s : State) (op : Nat) : StateVerdict :=
  match s.mod.st with
  | .service => .runs
  | .halted => if runsAny op || runsHalted op then .runs else .fails
  | .boot => if runsAny op || (s.mod.noImage && within 0x10 op 0x15) then .runs else .waits
  | .powerUp => .waits
  | _ => if runsAny op then .runs else .waits

/-! ### Waiting for a turn (R278, R412, R603) -/

/-- The handle a Hymond command names; none for a command that names none or every one. -/
def handleNamed : Instr → Option Nat
  | .hyRawFrame _ _ x _ _ _ _ => some x.handle
  | .hyRead _ _ x _ _ => some x.handle
  | .hyWrite _ _ x _ _ => some x.handle
  | .hySealedWrite _ _ x _ _ _ => some x.handle
  | .hyPageStatus _ _ x _ => some x.handle
  | .hyChallenge _ _ x _ _ => some x.handle
  | .hyHalt _ _ x => some x.handle
  | .hyRelease _ _ x => some x.handle
  | .hyResync _ _ x => some x.handle
  | .hyForget _ _ n => if n == 0xFFFF then none else some n
  | .hySetMap _ _ n _ => some n
  | .credWrite _ _ n _ _ _ => some n
  | .credVerify _ _ n _ _ => some n
  | _ => none

/-- The handle a waiting Hymond command is for. -/
def parkedHandle (k : Parked) : Option Nat := match k.task.proc with | .hy c => some c.handle | _ => none

/-- The port cannot take a command now, whatever the command. -/
def portBusy (s : State) (p : Nat) : Bool :=
  let x := port s p
  x.task.isSome || x.held || paused s p || raising s p || !x.radio.offHdrs.isEmpty || s.mod.dozeHdr.isSome
    || (match x.pass with | some q => q.stage != .yielding | none => false)

/-- While commands wait by R278, only a command that names another handle may run (R278). -/
def parkedBars (s : State) (p : Nat) (i : Option Instr) : Bool :=
  let ks := (port s p).parked
  !ks.isEmpty && (match i.bind handleNamed with | some n => ks.any fun k => parkedHandle k == some n | none => true)

/-- The commands that ask Cellar. -/
def asksCellar (op : Nat) : Bool := within 0xC0 op 0xCD

/-- The commands of the system queues that run and have no answer yet, by their headers. A CAPTURE_ARM and a PLAN_ACTIVATE are not among them
(R436, R463). DEDUCED, unsafe: log entry 10. -/
def unanswered (s : State) : List Hdr :=
  (s.noiseJob.map (·.hdr)).toList ++ (s.mirrorJob.map (·.hdr)).toList ++ s.mod.dozeHdr.toList
    ++ s.spares.swaps.filterMap (·.hdr) ++ s.spares.telling.filterMap (·.hdr)
    ++ s.ports.filterMap (fun x => x.tone.map (·.hdr)) ++ s.cluster.listens.map (·.hdr)
    ++ (s.cellar.change.bind (·.1)).toList

/-- A command of a system queue waits for an earlier one of its queue that runs (R412). -/
def sysWaits (s : State) (q : Nat) : Bool := (q == 0x45 && s.act.isSome) || (unanswered s).any (·.q == q)

/-- The supervisor's place that serves a queue (Table 1-3); in DOZE, SV0 serves every one (Table 6-9). -/
def placeOf (s : State) (q : Nat) : Nat := if s.mod.st == .doze then 0 else if q < 64 then q / 16 else q % 4

/-- The supervisor that serves a queue stalls in the push of an item that does not fit into one of its system rings, and takes no command meanwhile
(R392). DEDUCED, unsafe: log entry 10. -/
def stalled (s : State) (q : Nat) : Bool :=
  ((List.range 8).map (0x40 + ·)).any fun r => placeOf s r == placeOf s q && !(outRing s r).waiting.isEmpty

/-- Cellar does not answer now. -/
def cellarWaits (s : State) (op : Nat) : Bool := asksCellar op && (s.cellar.change.isSome || !s.mod.storeOk)

/-- The opcodes that a stepped port starts only when they fit its run (R467). -/
def fitChecked (op : Nat) : Bool :=
  op == 0x22 || op == 0x23 || within 0x40 op 0x4B || within 0x50 op 0x54 || within 0x60 op 0x69 || op == 0x6B || op == 0x88 || op == 0x91
    || op == 0xCB || op == 0xCC

/-! ### Running (R59, R411, R415) -/

/-- The port commands that fail on a port that does not run them: the code (R59, R415). -/
def portBar (s : State) (op p : Nat) : Option Nat :=
  let cred := op == 0xCB || op == 0xCC
  let proto := pAttr s A.protocol p
  if !(within 0x20 op 0x91 || cred) then none
  else if isFollower s p then some E.resourceNotOwned
  else if within 0x40 op 0x54 && (proto == 0 || proto == 3) then some E.isoType
  else if (within 0x60 op 0x6C || cred) && proto != 3 then some E.hyMode
  else if within 0x80 op 0x89 && proto == 0 then some E.resourceNotOwned
  else none

/-- A command does its work: every check of R411 and the protocol checks have passed. -/
def cmdGo (i : Instr) (s : State) : State :=
  match i with
  | .nop _ h x => ok h 0x00 x s
  | .moduleInfo _ h => moduleInfoRun h s
  | .moduleState _ h => moduleStateRun h s
  | .attrGet _ h staged reqs => attrGetRun h staged reqs s
  | .attrSet _ h recs => attrSetRun h recs s
  | .configCommit _ h => commitRun h s
  | .configDiscard _ h => discardRun h s
  | .configSave _ h => saveRun h s
  | .dozeEnter _ h => dozeEnterRun h s
  | .queueStatus _ h mask clear => queueStatusRun h mask clear s
  | .moduleReset _ h confirm => moduleResetRun h confirm s
  | .timeRead _ h => timeReadRun h s
  | .fwBegin _ h size => fwBeginRun h size s
  | .fwData _ h off data => fwDataRun h off data s
  | .fwVerify _ h => fwVerifyRun h s
  | .fwActivate _ h w => fwActivateRun h w s
  | .fwStatus _ h => fwStatusRun h s
  | .fwRollback _ h => fwRollbackRun h s
  | .fieldOn _ h => fieldOnRun h h.q s
  | .fieldOff _ h => fieldOffRun h h.q s
  | .autotune _ h => noteSkipped (autotuneRun h h.q s)
  | .calibrateRadio _ h mask => noteSkipped (calibrateRun h h.q mask s)
  | .measureNoise _ h ports => measureNoiseRun h ports s
  | .mirrorTrain _ h ports us => mirrorTrainRun h ports us s
  | .isoRawFrame _ h bits rate parity check keep kind us frame => isoRawRun h h.q bits rate parity check keep kind us frame s
  | .isoAAnticoll _ h m w => isoAAnticollRun h h.q m w s
  | .isoAActivate _ h n => isoAActivateRun h h.q n s
  | .isoAHalt _ h n => isoAHaltRun h h.q n s
  | .isoARats _ h n c => isoARatsRun h h.q n c s
  | .isoPps _ h n ds dr => isoPpsRun h h.q n ds dr s
  | .isoBRequest _ h afi w => isoBRequestRun h h.q afi w s
  | .isoBAnticoll _ h afi n m w a => isoBAnticollRun h h.q afi n m w a s
  | .isoBAttrib _ h n c ds dr => isoBAttribRun h h.q n c ds dr s
  | .isoBHalt _ h n => isoBHaltRun h h.q n s
  | .isoApdu _ h n x => isoApduRun h h.q n x s
  | .isoDeselect _ h n => isoDeselectRun h h.q n s
  | .isoForget _ h n => isoForgetRun h h.q n s
  | .isoVInventory _ h afi u sl qu l m k => isoVInventoryRun h h.q afi u sl qu l m k s
  | .isoVCommand _ h n c o w r m x => isoVCommandRun h h.q n c o w r m x s
  | .isoVSelect _ h n => isoVSelectRun h h.q n s
  | .isoVQuiet _ h n => isoVQuietRun h h.q n s
  | .isoVResetReady _ h n => isoVResetRun h h.q n s
  | .hyRawFrame _ h pre type alive reply x => hyRawRun h h.q pre type alive reply x s
  | .hyActivate _ h ident wake dl ul => hyActivateRun h h.q ident wake dl ul s
  | .hyRead _ h pre a n => hyStart h 0x62 h.q { ofPre s h.q pre .single with addr := a, count := n } s
  | .hyWrite _ h pre a x => hyStart h 0x63 h.q { ofPre s h.q pre .single with addr := a, count := x.length, data := x } s
  | .hySealedWrite _ h pre page gen x =>
    hyStart h 0x64 h.q { ofPre s h.q pre (if gen == 0xFFFF then .sealGen else .sealShadow) with page := page, gen := gen, data := x } s
  | .hyPageStatus _ h pre page => hyStart h 0x65 h.q { ofPre s h.q pre .single with page := page } s
  | .hyChallenge _ h pre slot nonce => hyStart h 0x66 h.q { ofPre s h.q pre .single with slot := slot, data := nonce } s
  | .hyHalt _ h pre => hyStart h 0x67 h.q (ofPre s h.q pre .single) s
  | .hyRelease _ h pre => hyStart h 0x68 h.q (ofPre s h.q pre .single) s
  | .hyResync _ h pre => hyStart h 0x69 h.q (ofPre s h.q pre .single) s
  | .hyForget _ h n => hyForgetRun h h.q n s
  | .hyTreeSearch _ h l m w mask => hyTreeRun h h.q l m w mask s
  | .hySetMap _ h n m => hySetMapRun h h.q n m s
  | .harvestStart _ h => harvestStart h h.q s
  | .harvestStop _ h => harvestStop h h.q s
  | .harvestClear _ h ports => clearRun h ports s
  | .harvestReadTable _ h a n => readTableRun h a n s
  | .prismCalibrate _ h => noteSkipped (prismCalRun h h.q s)
  | .prismVector _ h v => prismVectorRun h h.q v s
  | .lensBaseline _ h => lensBaselineRun h h.q s
  | .lensMeasure _ h => lensMeasureRun h h.q s
  | .planLoad _ h id total off x => planLoadRun h id total off x s
  | .planActivate _ h id due => planActivateRun h id due s
  | .clusterStatus _ h => clusterStatusRun h s
  | .calTone _ h p ch _ due us => calToneRun h p ch due us s
  | .calListen _ h ports due us m p => calListenRun h ports due us m p s
  | .dedupImport _ h recs => dedupImportRun h recs s
  | .caskInfo _ h n => infoRun h n s
  | .caskImport _ h n k a x => importCask h n k a x s
  | .caskGenerate _ h n bits a => generateCask h n bits a s
  | .caskDerive _ h n p a l x => deriveCask h n p a l x s
  | .caskDestroy _ h n => destroyCask h n s
  | .caskEncrypt _ h n m iv x => encryptRun h n m iv x s
  | .caskDecrypt _ h n m iv x => decryptRun h n m iv x s
  | .caskWrap _ h n k => wrapRun h n k s
  | .attest _ h n x => attestRun h n x s
  | .lifecycleSet _ h l c => lifecycleRun h l c s
  | .debugOpenSet _ h c => debugOpenRun h c s
  | .credWrite _ h n c k f => credWriteRun h h.q n c k f s
  | .credVerify _ h n c k => credVerifyRun h h.q n c k s
  | .caskList _ h => listRun h s
  | .selfTest _ h g => selfTestRun h g s
  | .captureArm _ h b p k t n z => captureArmRun h b p k t n z s
  | .captureRead _ h b o n => captureReadRun h b o n s
  | .triggerArm _ h n due ns => triggerArmRun h n due ns s
  | .swapRequest _ h k n => swapRequestRun h k n s
  | .spareStatus _ h => spareStatusRun h s
  | .wearRead _ h m a n => wearReadRun h m a n s
  | .eventLogRead _ h a n => eventLogRun h a n s
  | .countersClear _ h ports l => countersRun h ports l s
  | _ => s

/-- The port and queue a command concerns. -/
def qOf (h : Hdr) : Option Nat := if h.q < 64 then some h.q else none

/-- Check 5 on a new CASK_ATTR, check 6 of R411, and the protocol checks on a command whose turn it is. DEDUCED, safe: log
entries 11 and 69. -/
def cmdFault (i : Instr) (op : Nat) (h : Hdr) (s : State) : Option (Nat × Detail) :=
  match attrReserved i, rangeError i with
  | some o, _ => some (E.reservedField, { arg1 := (o : Int) })
  | none, some o => some (E.range, { arg2 := (o : Int) })
  | none, none =>
    match qOf h with
    | none => none
    | some p => (portBar s op p).map fun c => (c, { port := p, handle := (handleNamed i).getD 0 })

/-! ### SCHEDULE (R417, R418) -/

/-- The embedded item of a SCHEDULE, checked by R411 when it is accepted; offsets count from the start of the outer item. -/
def embedded (t portNo : Nat) (x : Bytes) (s : State) : Parsed :=
  let op := num x 2 1
  let h : Hdr := { q := portNo, tag := num x 4 2, quiet := bit (num x 3 1) 0 }
  let shift := fun (d : Nat × Detail) =>
    if d.1 == E.reservedField then (d.1, { d.2 with arg1 := d.2.arg1 + 20 })
    else if d.1 == E.range then (d.1, { d.2 with arg2 := d.2.arg2 + 20 }) else d
  if x.length < 8 || num x 0 2 != x.length then .error (E.bodyLength, {})
  else if !opDefined op then .error (E.opcode, {})
  else if !within 0x20 op 0x9F then .error (E.range, { arg2 := 22 })
  else if !queueTakes op portNo then .error (E.wrongQueue, {})
  else match parseItem t op (num x 3 1) (num x 6 2) h (x.drop 8) with
  | .error e => .error (shift e)
  | .ok i =>
    match rangeError i with
    | some o => .error (shift (E.range, { arg2 := (o : Int) }))
    | none => let _ := s; .ok i

/-- SCHEDULE (R417, R418). -/
def scheduleRun (t : Nat) (h : Hdr) (action portNo due : Nat) (item : Bytes) (s : State) : State :=
  let others := s.diag.scheds.filter fun x => x.action != action
  if action ≥ mAttrN s A.moduleSchedCount then fail h 0x0D E.resourceNotOwned {} s
  else if due == 0 then ok h 0x0D [] (modDiag (fun d => { d with scheds := others }) s)
  else match embedded t portNo item s with
  | .error e => fail h 0x0D e.1 e.2 s
  | .ok _ =>
    if (due : Int) < ts s + 100000 then failRange h 0x0D 12 s
    else ok h 0x0D [] (modDiag (fun d => { d with scheds := others ++ [{ action := action, port := portNo, due := due, item := item }] }) s)

/-! ### PORT_FLUSH (R419) -/

/-- Remove the first item of an inbound ring; the cells of an item that came in a frame are credited (R383). DESIGN CHOICE, unsafe: log entry 5. -/
def popIn (q : Nat) (s : State) : State :=
  match (inRing s q).items with
  | [] => s
  | e :: rest =>
    let s := modIn q (fun r => { r with items := rest }) s
    match e with
    | .bytes _ _ _ => raiseLimit q e.cells s
    | .cmd .. => s

/-- The header an item carries, as received. -/
def itemHdr (q : Nat) (x : Bytes) : Hdr := { q := q, tag := num x 4 2, quiet := bit (num x 3 1) 0 }

/-- Whether the check of an item holds (R387). -/
def checkHolds (sel : Nat) (x : Bytes) : Bool :=
  let c := checkSize sel
  x.length ≥ 8 + c && checkOf sel (x.take (x.length - c)) == x.drop (x.length - c)

/-- An item whose check fails is discarded, counted and answered (R387). -/
def badCheck (q : Nat) (x : Bytes) (s : State) : State :=
  fail (itemHdr q x) (num x 2 1) E.itemCheck {} (modCnt (fun c => { c with itemCheckFail := inc32 c.itemCheckFail }) s)

/-- A waiting entry is answered with a code without being run. DEDUCED, safe: log entry 12. -/
def answerEntry (q code : Nat) (e : RingEntry) (s : State) : State :=
  match e with
  | .bytes _ _ true => s
  | .cmd _ _ true => s
  | .bytes sel x false => if checkHolds sel x then fail (itemHdr q x) (num x 2 1) code { port := if q < 64 then q else 0xFF } s else badCheck q x s
  | .cmd i _ false => match cmdHead i with | some (op, h) => fail h op code { port := if q < 64 then q else 0xFF } s | none => s

/-- Every waiting entry of a ring is answered with a code, and the ring is emptied. -/
def flushRing (q code : Nat) (s : State) : State :=
  let es := (inRing s q).items
  es.foldl (fun s e => answerEntry q code e (popIn q s)) s

/-- The HARVEST_STARTs that wait on a port end with a code. -/
def flushStarts (p code : Nat) (s : State) : State :=
  let hs := (port s p).starts
  hs.foldl (fun s h => fail h 0x80 code { port := p } s) (modPort p (fun x => { x with starts := [] }) s)

/-- The commands that wait on a port. -/
def waitingOn (s : State) (p : Nat) : Nat := ((inRing s p).items.filter fun e => !e.isDone).length + (port s p).starts.length

/-- PORT_FLUSH (R419). -/
def portFlushRun (h : Hdr) (mask : Nat) (s : State) : State :=
  let ps := portsOf mask
  let n := (ps.map (waitingOn s)).sum
  let s := ps.foldl (fun s p => flushStarts p E.cancelled (flushRing p E.cancelled s)) s
  ok h 0x0E (le 2 n ++ [0, 0]) s

/-! ### The turn of a command -/

/-- The work of a command that every check has let through. -/
def cmdWork (i : Instr) (s : State) : State :=
  match i with
  | .schedule t h a p due x => scheduleRun t h a p due x s
  | .portFlush _ h mask => portFlushRun h mask s
  | _ => cmdGo i s

/-- A command runs: check 6 of R411 and the protocol checks, then its work. DEDUCED, safe: log entry 11. -/
def cmdRun (i : Instr) (s : State) : State :=
  match cmdHead i with
  | none => s
  | some (op, h) =>
    match cmdFault i op h s with
    | some (code, d) => fail h op code d s
    | none => cmdWork i s

/-- What becomes of the command at the head of its queue. -/
inductive Turn where
  | run
  | wait
  /-- It fails without being run. -/
  | fail (code : Nat) (d : Detail)
  /-- It waits beside its queue for the commit in progress (R427). -/
  | hold
  deriving DecidableEq, Repr

/-- Checks 2 and 3 of R411 and the waits of a command at the head of its queue, by its opcode, its queue and, once it is known, itself. DEDUCED,
unsafe: log entry 10. DEDUCED, safe: log entry 11. -/
def turnOf (s : State) (op q : Nat) (i : Option Instr) : Turn :=
  let cq := q < 64
  if !queueOpen s q || stalled s q then .wait
  else if cq && (portBusy s q || parkedBars s q i) then .wait
  else if !cq && sysWaits s q then .wait
  else if !opDefined op then .fail E.opcode {}
  else if !queueTakes op q then .fail E.wrongQueue {}
  else match stateVerdict s op with
  | .waits => .wait
  | .fails => .fail E.moduleState { arg1 := (s.mod.st.code : Int) }
  | .runs =>
    if cq && s.link.hostLost then .fail E.hostLost { port := q }
    else if cellarWaits s op then .wait
    else if s.cfg.committing.isSome && within 0x05 op 0x07 then .hold
    else match cq && fitChecked op, i with
    | true, some c =>
      if (cmdFault c op { q := q, tag := 0, quiet := false } s).isSome then .run
      else match fitsRun s q op (varLen c) with
      | .fits => .run
      | .waits => .wait
      | .never => .fail E.planInvalid { port := q }
    | _, _ => .run

/-- Before a port starts a command it crosses its transaction boundary (R57, R120, R466). -/
def beforeTurn (q : Nat) (s : State) : State := if q < 64 && s.mod.st == .service && atBoundary s q then crossBoundary q s else s

/-- The effect of a turn. -/
def takeTurn (i : Instr) (op : Nat) (h : Hdr) (turn : Turn) (s : State) : State :=
  match turn with
  | .run => cmdRun i s
  | .wait => s
  | .fail code d => fail h op code d s
  | .hold => { s with cfg := { s.cfg with held := s.cfg.held ++ [i] } }

/-- Commands that waited for a commit are next of SQ0's commands once it has ended (R427). DEDUCED, safe: log entry 36. -/
def heldReady (s : State) (q : Nat) : Bool := q == 0x40 && s.cfg.committing.isNone && !s.cfg.held.isEmpty

/-- The first command that waited for a commit takes its turn (R427). -/
def heldTurn (s : State) : State :=
  match s.cfg.held with
  | [] => s
  | i :: rest =>
    let s' := { s with cfg := { s.cfg with held := rest } }
    match cmdHead i with
    | none => s'
    | some (op, h) => match turnOf s op 0x40 (some i) with | .wait => s | turn => takeTurn i op h turn s'

/-- The commands that overtake (R603). -/
def overtakes (op : Nat) : Bool := op == 0x21 || op == 0x81

/-- Whether an overtaking command can act on a port now. -/
def canOvertake (s : State) (q : Nat) : Bool := q < 64 && s.mod.st == .service && !s.link.hostLost

/-- The opcode of a waiting entry. -/
def entryOp : RingEntry → Nat
  | .bytes _ x _ => num x 2 1
  | .cmd i _ _ => ((cmdHead i).map (·.1)).getD 0x100

/-- A waiting entry that would overtake and has not yet acted. -/
def overtaker (e : RingEntry) : Bool := !e.isDone && overtakes (entryOp e)

/-- Whether the module takes anything from the cable: not in reset, not once its reset has been answered, and not on a strap fault
(R416, R569). DEDUCED, safe: log entry 19. -/
def takesFrames (s : State) : Bool := s.mod.st != .powerUp && s.mod.resetDue == 0 && s.moduleId != 0xFF

/-- A command of the host arrives in DOZE and wakes the module, unless it runs in any state (R344, R414). -/
def wakeFor (op : Nat) (s : State) : State := if s.mod.st == .doze && opDefined op && !runsAny op then dozeExit s else s

/-- A command joins its queue through its inbound ring, if that has room: it acts at once where it overtakes, or where its turn has come; else it
waits in the ring (R396, R412, R414, R603). DESIGN CHOICE, unsafe: log entry 5. -/
def arrive (i : Instr) (op : Nat) (h : Hdr) (s : State) : State :=
  let q := h.q
  if (inRing s q).level + cmdCells i > inCap q then s
  else
    let s := passIn q (cmdCells i) s
    if overtakes op && canOvertake s q && !stalled s q && !((inRing s q).items.any overtaker) then cmdRun i s
    else
      let first := (inRing s q).items.all RingEntry.isDone && !heldReady s q
      let s1 := if first then beforeTurn q s else s
      let turn := if first then turnOf s1 op q (some i) else .wait
      if turn != .wait then takeTurn i op h turn s1
      else modIn q (fun r => { r with items := r.items ++ [.cmd i (cmdCells i) false] }) s1

/-- A host command as a row of its own: an item of a frame that the link has accepted (R366 to R384). Where the link would refuse the frame
it is not taken. DESIGN CHOICE, unsafe: log entry 5. -/
def hostCmd (i : Instr) (s : State) : State :=
  match cmdHead i with
  | none => s
  | some (op, h) =>
    if !takesFrames s || h.q ≥ 72 || !queueOpen s h.q then s
    else
      let s := if s.link.session.isSome then heard s else s
      arrive i op h (wakeFor op s)

/-! ### ITEM_POP -/

/-- An entry that has acted before its ring's head reached it is marked done (R603). -/
def markDone (q n : Nat) (s : State) : State :=
  let mark := fun (x : RingEntry) => match x with
    | .bytes sel b _ => RingEntry.bytes sel b true
    | .cmd i c _ => RingEntry.cmd i c true
  modIn q (fun r => { r with items := upd r.items n mark }) s

/-- An overtaking command in a ring acts, and is marked done (R603). DEDUCED, safe: log entry 12. -/
def actAhead (q n : Nat) (e : RingEntry) (s : State) : State :=
  let s := markDone q n s
  match e with
  | .cmd i _ _ => cmdRun i s
  | .bytes sel x _ =>
    if !checkHolds sel x then badCheck q x s
    else
      let op := num x 2 1
      let h := itemHdr q x
      match parseItem s.now op (num x 3 1) (num x 6 2) h ((x.take (x.length - checkSize sel)).drop 8) with
      | .error (code, d) => fail h op code d s
      | .ok i => cmdRun i s

/-- Entries at the head that have been marked done leave the ring (R603). DEDUCED, safe: log entry 12. -/
def dropDone (q : Nat) : Nat → State → State
  | 0, s => s
  | k + 1, s =>
    match (inRing s q).items with
    | e :: _ => if e.isDone then dropDone q k (popIn q s) else s
    | [] => s

/-- The head of a ring takes its turn (R387, R411). -/
def popHead (q : Nat) (s : State) : State :=
  match (inRing s q).items with
  | [] => s
  | .cmd i _ _ :: _ =>
    match cmdHead i with
    | none => popIn q s
    | some (op, h) =>
      let s := beforeTurn q s
      match turnOf s op q (some i) with
      | .wait => s
      | turn => takeTurn i op h turn (popIn q s)
  | .bytes sel x _ :: _ =>
    let op := num x 2 1
    let h := itemHdr q x
    let free := queueOpen s q && !(q < 64 && (portBusy s q || s.mod.st == .halted))
    if !checkHolds sel x then (if free then badCheck q x (popIn q s) else s)
    else
      let parsed := parseItem s.now op (num x 3 1) (num x 6 2) h ((x.take (x.length - checkSize sel)).drop 8)
      let s := beforeTurn q s
      match turnOf s op q (match parsed with | .ok i => some i | .error _ => none), parsed with
      | .wait, _ => s
      | .fail code d, _ => fail h op code d (popIn q s)
      | _, .error (code, d) => fail h op code d (popIn q s)
      | turn, .ok i => takeTurn i op h turn (popIn q s)

/-- The command an entry holds, when its check holds and it parses. -/
def entryCmd (now q : Nat) : RingEntry → Option Instr
  | .cmd i _ _ => some i
  | .bytes sel x _ =>
    if !checkHolds sel x then none
    else (parseItem now (num x 2 1) (num x 3 1) (num x 6 2) (itemHdr q x) ((x.take (x.length - checkSize sel)).drop 8)).toOption

/-- While commands of a port wait by R278, the first command of its ring that names another handle takes its turn, wherever it stands; those
before it wait behind the busy one. Its entry is marked done in place. DEDUCED, safe: log entry 12. -/
def popPast (q : Nat) (s : State) : State :=
  match (inRing s q).items.findIdx? fun e => !e.isDone && !parkedBars s q (entryCmd s.now q e) with
  | none => s
  | some 0 => popHead q s
  | some (n + 1) =>
    match ((inRing s q).items[n + 1]?).bind (entryCmd s.now q) with
    | none => s
    | some i =>
      match cmdHead i with
      | none => s
      | some (op, h) =>
        let s := beforeTurn q s
        match turnOf s op q (some i) with
        | .wait => s
        | turn => takeTurn i op h turn (markDone q (n + 1) s)

/-- ITEM_POP: the consumer of an inbound ring looks for a command that overtakes, and then takes the item at the head (R387, R603); while
commands of the port wait by R278, the first item that names another handle. -/
def itemPopRun (q : Nat) (s : State) : State :=
  if s.mod.st == .powerUp || s.mod.resetDue != 0 || stalled s q then s
  else
    let s := dropDone q ((inRing s q).items.length) s
    match if canOvertake s q then (inRing s q).items.findIdx? overtaker else none with
    | some n =>
      match (inRing s q).items[n]? with
      | some e => dropDone q ((inRing s q).items.length) (actAhead q n e s)
      | none => s
    | none => if heldReady s q then heldTurn s else if q ≥ 64 then popHead q s else settleIn q (if (port s q).parked.isEmpty then popHead q s else popPast q s)

/-- SCHEDULED_ACTION_DUE: the embedded command joins its port's order as though it had arrived then (R418); with the host lost it is answered
without running (R399). -/
def scheduledRun (action : Nat) (s : State) : State :=
  match s.diag.scheds.find? fun x => x.action == action with
  | none => s
  | some x =>
    if s.mod.st == .halted || s.mod.resetDue != 0 || s.now < tickOf s x.due then s
    else match embedded s.now x.port x.item s with
    | .error _ => modDiag (fun d => { d with scheds := d.scheds.filter fun y => y.action != action }) s
    | .ok i =>
      match cmdHead i with
      | none => s
      | some (op, h) =>
        if (inRing s x.port).level + cmdCells i > inCap x.port then s
        else
          let s := modDiag (fun d => { d with scheds := d.scheds.filter fun y => y.action != action }) s
          if s.link.hostLost then fail h op E.hostLost { port := x.port } s else arrive i op h s

end Sys2Proof.Machine
end

