-- ==== Sys2Proof/Machine/LinkRun.lean ====
section
/-!
DEFINITION. What happens on the host link: the checks of a host frame, its control records, the announcements, the link's timers, the response
rings, the loss of the host, and the link itself (07, R446).
-/

namespace Sys2Proof.Machine

/-- The cable carries frames to and from the module: the link is up, and the module is neither in reset nor about to reset (R353, R416). -/
def cableOpen (s : State) : Bool := s.link.speed != 0 && s.mod.st != .powerUp && s.mod.resetDue == 0

/-! ### Addresses (R356) -/

/-- The IPv6 link-local address: fe80::/64 with the modified EUI-64 of the MAC address (R356). PRESUMED, unsafe: log entry 17. -/
def linkLocal (s : State) : Nat :=
  let mac := s.nvm.mac
  0xFE80 * 2 ^ 112 + ((mac / 2 ^ 24) ^^^ 0x020000) * 2 ^ 40 + 0xFFFE * 2 ^ 24 + mac % 2 ^ 24

/-- Whether an address is one of the module's own (R356, R357). -/
def ownAddr (s : State) (a : Nat) : Bool := a == linkLocal s || (ipv4Of s).map (·.1) == some a

/-! ### Receiving (R355, R370 to R377) -/

/-- The fields of the header of a mailbox frame (Table 7-3). -/
structure Head where
  version : Nat
  flags : Nat
  queue : Nat
  alive : Nat
  seq : Nat
  limit : Nat
  len : Nat
  moduleId : Nat
  sel : Nat
  reserved : Nat
  deriving DecidableEq, Repr

/-- Read the header of a mailbox frame. -/
def readHead (x : Bytes) : Head :=
  { version := num x 2 1, flags := num x 3 1, queue := num x 4 1, alive := num x 5 1, seq := num x 6 2, limit := num x 8 2,
    len := num x 10 2, moduleId := num x 12 1, sel := num x 13 1, reserved := num x 14 2 }

/-- Check 6 of Table 7-5. -/
def formatBad (h : Head) : Bool :=
  h.flags ≥ 4 || h.reserved != 0 || h.sel > 3
    || (h.queue == 0xFF && (h.alive != 0 || h.seq != 0 || h.limit != 0 || h.sel != 0))

/-- Checks 4 to 7 of Table 7-5: the error of the first that fails. On a strap fault every frame fails check 5 (R569). -/
def headError (s : State) (h : Head) : Option Nat :=
  if h.version != 1 then some E.linkVersion
  else if h.moduleId != s.moduleId || s.moduleId == 0xFF then some E.moduleId
  else if formatBad h then some E.linkFormat
  else if h.queue > 0x47 && h.queue != 0xFF then some E.queue
  else none

/-- Whether the sequence lies in the window of R376 and has not been accepted. -/
def newSeq (seq : Nat) (l : Link) : Bool :=
  let off := (seq + 65536 - l.rxNext) % 65536
  off < 256 && !l.rxSeen.contains off

/-- A refused data frame counts as accepted for numbering: it is marked and, the first time, counted for the ACK (R371, R375).
DEDUCED, safe: log entry 14. -/
def numberRefused (h : Head) (s : State) : State :=
  let v := markRefused h.queue h.seq h.alive s
  if newSeq h.seq s.link then countForAck (bit h.flags 1) v else v

/-- A frame is refused; a data frame of the session's host counts as accepted for numbering (R371). DEDUCED, safe: log entry 14. -/
def refuseFrame (src : Src) (h : Head) (code : Nat) (s : State) : State :=
  if h.queue == 0xFF then refuse src 0 code s
  else
    let s := refuse src h.seq code s
    if fromSession s src then numberRefused h s else s

/-- A frame passes every check: it is numbered and counted, its items enter the ring of its queue, and in DOZE a command among them that
does not run there wakes the module, if the item's check holds (R344, R370, R375, R376, R387). -/
def acceptFrame (h : Head) (items : List Bytes) (s : State) : State :=
  let s := modLink (fun l =>
    let l := markSeq h.seq l
    { l with rxAlive := upd l.rxAlive h.queue fun a => (a + 1) % 256,
             rxCells := upd l.rxCells h.queue fun c => c + frameCells items }) s
  let s := items.foldl (fun s x =>
    pushIn h.queue (.bytes h.sel x false) (if checkHolds h.sel x then wakeFor (num x 2 1) s else s)) s
  countForAck (bit h.flags 1) (trackGap s)

/-- Checks 10 to 14 of Table 7-5 on a data frame of the session's host. DEDUCED, safe: log entry 14. DEDUCED, safe: log entry 15. -/
def dataFrame (src : Src) (h : Head) (payload : Bytes) (s : State) : State :=
  if !queueOpen s h.queue then refuseFrame src h E.queueClosed s
  else match seqVerdict s.link h.queue h.seq h.alive with
  | .duplicate => sendAck (modCnt (fun c => { c with rxDup := inc32 c.rxDup }) s)
  | .outside => sendNak (modCnt (fun c => { c with rxDup := inc32 c.rxDup }) s)
  | .ahead => sendNak (modCnt (fun c => { c with rxDropped := inc32 c.rxDropped }) s)
  | .behind =>
    numberRefused h (sendCtl src [.refuse h.seq E.linkAlive] (modCnt (fun c => { c with rxDropped := inc32 c.rxDropped }) s))
  | .fresh =>
    match splitItems (payload.length + 1) payload with
    | none => refuseFrame src h E.itemFormat s
    | some items =>
      let cost := frameCells items
      if creditAllows (nth s.link.rxLimit h.queue 0) (nth s.link.rxCells h.queue 0) cost && cost ≤ freeIn s h.queue
      then acceptFrame h items s else refuse src h.seq E.noCredit s

/-- A control frame: its records act in their order (R373). DEDUCED, unsafe: log entry 13. -/
def controlFrame (src : Src) (payload : Bytes) (s : State) : State :=
  match parseRecs (payload.length + 1) payload with
  | none => refuse src 0 E.linkFormat s
  | some recs => recs.foldl (fun s r => onRec src s r) (if fromSession s src then heard s else s)

/-- A datagram reaches the cable; at link.udp_port of one of the module's addresses, the checks of Table 7-5 in their order (R355, R357, R370).
DEDUCED, unsafe: log entry 13. -/
def hostFrameRun (src dst : Src) (vid : Nat) (x : Bytes) (s : State) : State :=
  let h := readHead x
  let payload := slice x 16 h.len
  if !cableOpen s || vid != 0 || dst.port != s.link.udpPort || !ownAddr s dst.addr then s
  else if x.length < 20 || num x 0 2 != 0x5A4A then modCnt (fun c => { c with rxForeign := inc32 c.rxForeign }) s
  else if x.length != 20 + h.len || h.len > 1408 then sendNak (modCnt (fun c => { c with rxDropped := inc32 c.rxDropped }) s)
  else if crc32c (x.take (16 + h.len)) != BitVec.ofNat 32 (num x (16 + h.len) 4) then
    sendNak (modCnt (fun c => { c with rxCrc := inc32 c.rxCrc }) s)
  else match headError s h with
  | some code => refuseFrame src h code s
  | none =>
    if h.queue == 0xFF then controlFrame src payload s
    else if !fromSession s src then refuse src h.seq E.noSession s
    else dataFrame src h payload (heard (takeCredit h.queue h.limit s))

/-- One control record of the host as a row of its own: a control frame that holds it alone. -/
def recordRun (src : Src) (r : HostRec) (s : State) : State :=
  if !cableOpen s then s
  else if s.moduleId == 0xFF then refuse src 0 E.moduleId s
  else onRec src (if fromSession s src then heard s else s) r

/-! ### Announcements and what the addresses answer (R356, R358, R446) -/

/-- The all-nodes multicast address ff02::1. -/
def allNodes : Nat := 0xFF02 * 2 ^ 112 + 1

/-- The ANNOUNCE record of the module (Table 7-7). PRESUMED, unsafe: log entry 17. -/
def announceRec (s : State) : CtlRec :=
  .announce s.moduleId s.mod.st.code s.nvm.mac s.nvm.serial (fwVersion s) (lifeCycle s)

/-- Send an ANNOUNCE to every node of the link (R358, R446). -/
def announce (s : State) : State := sendCtl ⟨allNodes, s.link.udpPort⟩ [announceRec s] s

/-- ANNOUNCE_TIMER (R358). -/
def announceRun (s : State) : State :=
  if !cableOpen s || s.link.session.isSome || s.now < s.link.announceAt then s
  else
    let s := modLink (fun l => { l with announceAt := s.now + msT 1000 }) (announce s)
    match ipv4Of s with
    | none => s
    | some (a, n) => sendCtl ⟨a ||| (2 ^ (32 - n) - 1), s.link.udpPort⟩ [announceRec s] s

/-- ANNOUNCE_RECEIVED: another module has the same module ID. It is reported once for its MAC address, and every such ANNOUNCE is answered (R446). -/
def announceHeard (id mac : Nat) (s : State) : State :=
  if !cableOpen s || id != s.moduleId || s.moduleId == 0xFF || mac == s.nvm.mac then s
  else if s.cluster.clashes.contains mac then announce s
  else
    let s := { s with cluster := { s.cluster with clashes := mac :: s.cluster.clashes } }
    announce (raise Ev.idClash 0xFF (le 6 mac) s)

/-- An echo request is answered; a packet that would exceed 1500 bytes would have come in fragments, which are dropped (R355, R356). PRESUMED, unsafe:
log entry 17. -/
def echoRun (v6 : Bool) (addr : Nat) (data : Bytes) (s : State) : State :=
  let room := if v6 then 1452 else 1472
  if !cableOpen s || (!v6 && (ipv4Of s).isNone) || data.length > room then s
  else { s with sent := .echoReply v6 addr data :: s.sent }

/-- A Neighbor Discovery or ARP request for one of the module's addresses is answered (R356). PRESUMED, unsafe: log entry 17. -/
def neighborRun (v6 : Bool) (addr target : Nat) (s : State) : State :=
  let mine := if v6 then target == linkLocal s else (ipv4Of s).map (·.1) == some target
  if !cableOpen s || !mine then s else { s with sent := .neighbor v6 addr target s.nvm.mac :: s.sent }

/-! ### The timers of the link (R375, R377, R379, R395) -/

/-- ACK_DELAY_EXPIRY (R375). DESIGN CHOICE, safe: log entry 4. -/
def ackDelayRun (s : State) : State :=
  match s.link.ackDue with
  | some t => if t ≤ s.now then sendAck s else s
  | none => s

/-- NAK_REPEAT_EXPIRY (R377). -/
def nakRepeatRun (s : State) : State :=
  match s.link.nakDue with
  | some t => if t ≤ s.now then sendNak s else s
  | none => s

/-- RETX_TIMEOUT: the oldest frame without an ACK goes again (R379). -/
def retxRun (s : State) : State :=
  match s.link.replay with
  | [] => s
  | f :: _ =>
    if s.now < f.sentAt + usT (mAttrN s A.linkRetxTimeoutUs) then s
    else modLink (fun l => { l with
      resend := (l.replay.map (·.seq)).filter fun n => n == f.seq || l.resend.contains n }) s

/-- STALE_TIMER: the items of an outbound ring make a frame (R395). DESIGN CHOICE, safe: log entry 4. -/
def staleRun (q : Nat) (s : State) : State :=
  match (outRing s q).staleAt with
  | some t => if t ≤ s.now && !(outRing s q).items.isEmpty then modOut q (fun r => { r with staleFired := true }) s else s
  | none => s

/-- LINK_TRANSMIT (R601). Once a reset has been answered, only the frames up to that answer still leave (R416). DEDUCED, safe: log entry 19. -/
def transmitRun (s : State) : State :=
  let due := s.mod.resetDue == 0 || answerWaits s
  if s.link.speed == 0 || s.mod.st == .powerUp || !due then s else transmitOne s

/-! ### The response rings (R392, R394) -/

/-- Staged results enter the response ring while its cells allow, then those that waited outside take their places in the buffer. -/
def pushStaged (p : Nat) : Nat → State → State
  | 0, s => s
  | k + 1, s =>
    let r := outRing s p
    match r.staging with
    | it :: rest =>
      if fitsOut s p it then pushStaged p k (pushOut p it (modOut p (fun r => { r with staging := rest }) s))
      else modOut p (fun r => { r with flags := { r.flags with pushWaited := true } }) s
    | [] =>
      match r.waiting with
      | it :: rest => pushStaged p k (modOut p (fun r => { r with staging := [it], waiting := rest }) s)
      | [] => s

/-- Results that waited outside the staging buffer enter it while it has room (R394). -/
def refill (p : Nat) : Nat → State → State
  | 0, s => s
  | k + 1, s =>
    let r := outRing s p
    match r.waiting with
    | it :: rest =>
      if (r.staging.map Item.size).sum + it.size ≤ 4096
      then refill p k (modOut p (fun r => { r with staging := r.staging ++ [it], waiting := rest }) s) else s
    | [] => s

/-- RESULT_PUSH: the engine pushes what fits, and the port resumes once nothing of it waits (R394). -/
def resultPushRun (p : Nat) (s : State) : State :=
  let r := outRing s p
  let n := 2 * (r.staging.length + r.waiting.length) + 1
  let s := refill p n (pushStaged p n s)
  if s.mod.st == .powerUp then s else resumePort p s

/-! ### Losing the host (R399) -/

/-- Whether a waiting entry of a ring is a command: not one answered already, and not an item whose check fails (R387). -/
def RingEntry.isCmd (e : RingEntry) : Bool :=
  !e.isDone && match e with | .bytes sel x _ => checkHolds sel x | .cmd _ _ _ => true

/-- The commands in progress on a port, a Harvest pass among them, that end with the host lost (R399). -/
def runningOn (x : Port) : Nat :=
  (x.task.toList.filter fun t => !t.ofPass).length + (x.parked.filter fun k => !k.task.ofPass).length
    + (x.pass.toList.filter fun y => y.hdr.isSome && y.stop.isNone).length

/-- How many commands the loss of the host answers: those waiting in the inbound rings and on the ports, and those in progress on the ports
(R399, R402). DEDUCED, unsafe: log entry 18. -/
def waitingAll (s : State) : Nat :=
  ((List.range 72).map fun q => ((inRing s q).items.filter RingEntry.isCmd).length).sum
    + (s.ports.map fun x => x.starts.length + runningOn x).sum + s.cfg.held.length

/-- The work of one port ends with the host lost: the running command, the commands that wait by R278, the pass, and then the field. -/
def loseOn (p : Nat) (s : State) : State :=
  let parked := (port s p).parked.filter fun k => !k.task.ofPass
  let s := parked.foldl (fun s k => failParked p E.hostLost { port := p } k s) s
  let s := modPort p (fun x => { x with parked := x.parked.filter (·.task.ofPass) }) s
  let s := modRadio p (fun r => { r with fallDue := r.phase != .off || r.want.isSome }) s
  let s := match (port s p).task with
    | some { proc := .fieldOn, ofPass := false, .. } =>
      taskFail p E.hostLost { port := p } (if (port s p).radio.phase == .off then dropWant p s else s)
    | some _ => endRunning p E.hostLost s
    | none => s
  goOn p (stopPass p E.hostLost s)

/-- HOST_TIMEOUT (R399, R402). DEDUCED, unsafe: log entry 18. -/
def hostTimeoutRun (s : State) : State :=
  let ms := mAttrN s A.linkHostTimeoutMs
  if ms == 0 || s.link.session.isNone || s.link.hostLost || s.now < s.link.lastValid + msT ms || s.mod.st == .powerUp then s
  else
    let n := waitingAll s
    let s := modLink (fun l => { l with hostLost := true }) s
    let s := (List.range 72).foldl (fun s q => flushRing q E.hostLost s) s
    let held := s.cfg.held
    let s := held.foldl (fun s i => match cmdHead i with | some (op, h) => fail h op E.hostLost {} s | none => s)
      { s with cfg := { s.cfg with held := [] } }
    let s := (List.range 64).foldl (fun s p => loseOn p (flushStarts p E.hostLost s)) s
    raise Ev.hostLost 0xFF (leI 8 s.link.lastValidTs ++ le 2 n) s

/-! ### The link (R351 to R353) -/

/-- LINK_UP at a rate the module advertises (R351, R402). DEDUCED, unsafe: log entry 16. -/
def linkUpRun (speed : Nat) (s : State) : State :=
  let old := s.link.speed
  if s.mod.st == .powerUp || !(advertOf s).contains speed || speed == old then s
  else
    let s := modLink (fun l => { l with speed := speed, trainFails := 0, announceAt := s.now }) s
    let s := if old == 0 then startDhcp (requestPower s) else s
    raise Ev.linkSpeed 0xFF [b8 old, b8 speed] s

/-- LINK_DOWN (R353): the session, the rings and the replay store stay. -/
def linkDownRun (s : State) : State := renegotiate s

/-- LINK_TRAINING_FAIL: after three failures in a row the module advertises only 1000BASE-T (R351). DEDUCED, unsafe: log entry 16. -/
def trainingFailRun (s : State) : State :=
  if s.mod.st == .powerUp || !(advertOf s).contains 3 then s
  else if s.link.trainFails < 2 then modLink (fun l => { l with trainFails := l.trainFails + 1 }) s
  else
    let s := modLink (fun l => { l with trainFails := 0, only1000 := true }) s
    raise Ev.linkSpeed 0xFF [3, 2] s

end Sys2Proof.Machine
end

