-- ==== Sys2Proof/Machine/PowerRun.lean ====
section
/-!
DEFINITION. Power, reset and start-up: the allocation, the PI, the rails, the straps, the pins of the auxiliary connector, the VCORE loop, the
image, the root, CAL, and the outputs by state (07, 12, R31 to R33, R83, R84, R482, R518, R523, R548).
-/

namespace Sys2Proof.Machine

/-! ### The allocation (R363 to R365, Table 7-1) -/

/-- The class budget of an allocation in mW (Table 7-1). -/
def classBudget (mw : Nat) : Nat := if mw ≥ 71300 then 32000 else if mw ≥ 51000 then 20000 else 0

/-- The arguments of EV_POWER_ALLOC (Table 8-20). -/
def allocArgs (old new : Nat) : Bytes := le 4 old ++ le 4 new ++ le 4 (classBudget new)

/-- LLDPDUs reach the module: the link is up, outside reset. -/
def lldpReaches (s : State) : Bool := s.link.speed != 0 && s.mod.st != .powerUp

/-- Press grants what fits, head after head (R114, R365). -/
def grantAll : Nat → State → State
  | 0, s => s
  | k + 1, s => match s.press.waiting with
    | [] => s
    | r :: _ => if pressFits s r.mw then grantAll k (grantRun s) else s

/-- Prism sets that wait for the reserve calibrate, but not in DOZE (R327, R343, R365). -/
def prismAll (s : State) : State :=
  if s.mod.st == .doze then s else (List.range 64).foldl (fun s p => if (port s p).prism.calibrated then s else prismCal p s) s

/-- POWER_ALLOC_LOWER (R364). DEDUCED, safe: log entry 27. -/
def allocLowerRun (mw : Nat) (s : State) : State :=
  if !lldpReaches s || mw ≥ s.power.allocMw then s
  else
    let old := allocNow s
    let s := modPower (fun w => { w with allocPending := some mw }) { s with press := { s.press with stopped := true } }
    raise Ev.powerAlloc 0xFF (allocArgs old mw) (shedRun s)

/-- POWER_ALLOC_ACK: the input power has been measured; below the new allocation, the acknowledging LLDPDU leaves (R364, R416). DEDUCED, safe: log
entry 27. -/
def allocAckRun (inputMw : Nat) (s : State) : State :=
  let s := modPower (fun w => { w with inputMw := inputMw }) s
  match s.power.allocPending with
  | none => s
  | some new =>
    if inputMw ≥ new || s.mod.st == .powerUp || s.mod.resetDue != 0 then s
    else
      let s := modPower (fun w => { w with allocMw := new, allocPending := none })
        { s with press := { s.press with stopped := false }, sent := .lldp new new :: s.sent }
      grantAll s.press.waiting.length s

/-- POWER_ALLOC_HIGHER: acknowledged at once; the new class budget applies (R365). A module about to reset takes and sends no frame (R416). DEDUCED,
safe: log entry 27. -/
def allocHigherRun (mw : Nat) (s : State) : State :=
  if !lldpReaches s || s.mod.resetDue != 0 || !(mw > s.power.allocMw || (s.power.allocPending.isSome && mw == s.power.allocMw)) then s
  else
    let old := allocNow s
    let s := modPower (fun w => { w with allocMw := mw, allocPending := none })
      { s with press := { s.press with stopped := false }, sent := .lldp mw mw :: s.sent }
    let s := raise Ev.powerAlloc 0xFF (allocArgs old mw) s
    prismAll (grantAll s.press.waiting.length s)

/-! ### The PI (R559, R563, R587) -/

/-- PI_VOLTAGE_FAIL within the absolute maximum: the power-fail path acts (R559, R565). -/
def piFailRun (mv : Nat) (s : State) : State :=
  if 40000 ≤ mv && mv ≤ 60000 then s
  else
    let s := modPower (fun w => { w with piMv := mv }) s
    if s.power.failed then s else afterReset 1 s

/-- PI_VOLTAGE_RETURN: physical classification, and the start from POWER_UP; the input converter brings VSTBY up (R362, R363, R559,
Table 12-9). -/
def piReturnRun (mv powerClass : Nat) (s : State) : State :=
  if mv < 42000 || mv > 60000 || !s.power.failed then s
  else
    let cls := if powerClass ≥ 8 then 8 else 6
    modPower (fun w => { w with
      piMv := mv, failed := false, physClass := cls, allocMw := classAlloc cls,
      rails := upd w.rails 0 fun _ => { en := true, reg := false, enAt := 0 } }) { s with now := 0 }

/-! ### The rails (R553 to R558) -/

/-- Enable a rail. -/
def enableRail (i : Nat) (s : State) : State :=
  let now := s.now
  modRail i (fun r => if r.en then r else { en := true, reg := false, enAt := now }) s

/-- Disable the rails from one on, in the order of R554. -/
def disableFrom (i : Nat) (s : State) : State :=
  modPower (fun w => { w with rails := w.rails.take i ++ (w.rails.drop i).map fun _ => { en := false, reg := false, enAt := 0 } }) s

/-- RAIL_IN_REGULATION: the next rail in order is enabled (R553, Table 12-9). VANA and the VPA rails come up in BOOT and CAL. -/
def railUpRun (i : Nat) (s : State) : State :=
  let r := rail s i
  if !r.en || r.reg then s
  else
    let s := modRail i (fun r => { r with reg := true }) s
    if s.mod.st != .powerUp then s
    else match i with
    | 0 => if s.mod.crystalOk then enableRail 1 s else s
    | 1 => enableRail 2 s
    | _ => tryRelease s

/-- Whether a violation is what the rail shows: late, early, or dropped while a later rail is enabled (R555). The VPA rails come last. -/
def violates (s : State) (i kind : Nat) : Bool :=
  let r := rail s i
  match kind with
  | 1 => r.en && !r.reg && s.now ≥ r.enAt + msT 1
  | 2 => !r.en
  | 3 => r.en && r.reg && i < 4 && (s.power.rails.drop (i + 1)).any (·.en)
  | _ => false

/-- A rail leaves regulation, whether or not that violates the order (R558). -/
def leaves (s : State) (i kind : Nat) : Bool := kind == 3 && (rail s i).en && (rail s i).reg

/-- pm.rail.log takes a violation (R555, R579). DEDUCED, unsafe: log entry 20. -/
def logRail (i kind : Nat) (s : State) : State :=
  let since := if s.mod.st == .powerUp then s.now else s.mod.preRelease + s.now
  let word := i * 2 ^ 28 + kind * 2 ^ 26 + min (2 ^ 26 - 1) (usOf since / 10)
  modNvm (fun n => { n with railLog := (word :: n.railLog).take 16 }) s

/-- A fault on VANA or a VPA rail puts the module in HALTED with cause E_RAIL_FAULT, and a halted one takes that cause (R558). -/
def railHalts (s : State) : State :=
  if s.mod.st == .halted then modNvm (fun n => { n with haltCause := E.railFault }) s else enterHalted E.railFault s

/-- RAIL_VIOLATION: a violation is logged; it, or a rail that leaves regulation, is handled according to the state (R555 to R558). DEDUCED, unsafe:
log entry 20. -/
def railFailRun (i kind : Nat) (s : State) : State :=
  let viol := violates s i kind
  if !viol && !leaves s i kind then s
  else
    let s := if viol then logRail i kind s else s
    let s := if kind == 3 then modRail i (fun r => { r with reg := false }) s else s
    match s.mod.st with
    | .powerUp =>
      if i > 2 || !viol then s
      else
        let n := s.power.failedSeqs + 1
        let due := s.now + msT (if n ≥ 3 then 1000 else 100)
        modPower (fun w => { w with failedSeqs := n, retryAt := some due }) (disableFrom 1 s)
    | .boot =>
      if i ≤ 2 then resetBy 2 s
      else if !viol then s
      else
        let s := disableFrom 3 s
        if s.power.bootRetried then modMod (fun m => { m with holdCause := E.railOrder }) s
        else
          let due := s.now + msT 100
          modPower (fun w => { w with retryAt := w.retryAt.or (some due) }) s
    | _ => if i ≤ 2 then resetBy 2 s else railHalts s

/-- RAIL_RETRY_TIMER: the sequence starts again from VIO, or in BOOT from VANA (R556, R557). -/
def railRetryRun (s : State) : State :=
  match s.power.retryAt with
  | none => s
  | some t =>
    if s.now < t then s
    else
      let s := modPower (fun w => { w with retryAt := none }) s
      match s.mod.st with
      | .powerUp => enableRail 1 s
      | .boot => enableRail 3 (modPower (fun w => { w with bootRetried := true }) s)
      | _ => s

/-- CRYSTAL_STABLE: after the cold start, VIO is enabled (R577, Table 12-9). -/
def crystalRun (s : State) : State :=
  if s.mod.st != .powerUp || s.mod.crystalOk || !(rail s 0).reg then s
  else tryRelease (enableRail 1 (modMod (fun m => { m with crystalOk := true }) s))

/-- The level of a strap's pin voltage (Table 12-5). -/
def strapLevel (mv : Nat) : Option Nat :=
  [(0, 40), (110, 190), (261, 341), (413, 493), (564, 644), (710, 790), (869, 949), (1010, 1090)].findIdx?
    fun (w : Nat × Nat) => w.1 ≤ mv && mv ≤ w.2

/-- STRAP_READ (R444, R568, R569). -/
def strapRun (mvA mvB : Nat) (s : State) : State :=
  if s.mod.st != .powerUp || s.mod.inReset || !(rail s 1).reg then s
  else match strapLevel mvA, strapLevel mvB with
  | some a, some b => tryRelease (modMod (fun m => { m with strapsOk := true, holdCause := 0 }) { s with moduleId := 8 * a + b })
  | _, _ => tryRelease (modMod (fun m => { m with strapsOk := true, holdCause := E.strap }) { s with moduleId := 0xFF })

/-! ### The auxiliary connector (R83, R84, R563, R564, R572, R592, R593) -/

/-- A field stands on a port. -/
def fieldStands (s : State) (p : Nat) : Bool :=
  match (port s p).radio.phase with
  | .off | .gap => false
  | _ => true

/-- Every field is cut, and every transaction and waiting FIELD_ON fails with E_INTERLOCK (R83, R84). DEDUCED, unsafe: log entry 25. -/
def cutAll (s : State) : State :=
  let n := ((List.range 64).filter (fieldStands s)).length
  let s := failMirror E.interlock {} s
  let s := (List.range 64).foldl (fun s p =>
    goOn p (cutField p (endTone p E.interlock { port := p } (abortWork p E.interlock { port := p } s)))) s
  raise Ev.interlock 0xFF [1, b8 n] s

/-- The cut begins to act where it did not act before. -/
def cutFrom (was : Bool) (s : State) : State := if was || s.mod.st == .powerUp then s else cutAll s

/-- The cut ends: no field returns by itself (R84). -/
def cutEnds (was : Bool) (s : State) : State :=
  if !was || interlocked s || s.mod.st == .powerUp then s else raise Ev.interlock 0xFF [0, 0] s

/-- INTLK_N_ASSERTED (R83, R84, R592): `widthNs` is the width of a pulse; none where the pin stays asserted. -/
def intlkRun (widthNs : Option Nat) (s : State) : State :=
  let was := interlocked s
  let (acts, s) : Bool × State := match widthNs with
    | none => (true, s)
    | some w => if w < 200 then (false, s) else if w < 1000 then (Config.pulseActs s.free, drawn s) else (true, s)
  if !acts then s else cutFrom was { s with pins := { s.pins with intlk := true, intlkActs := true } }

/-- INTLK_N_RELEASED (R84). -/
def intlkReleasedRun (s : State) : State :=
  let was := interlocked s
  cutEnds was { s with pins := { s.pins with intlk := false, intlkActs := false } }

/-- The module is in reset for as long as RESET_N is asserted, and its straps will be read anew (R564, R568). -/
def holdReset (s : State) : State := modMod (fun m => { m with inReset := true, strapsOk := false }) s

/-- The reset by RESET_N ends: the sequence goes on at the enable of the first rail that is down (R564, R577). -/
def leaveReset (s : State) : State :=
  let s := modMod (fun m => { m with inReset := false }) s
  if s.mod.st != .powerUp || !s.mod.crystalOk || !(rail s 0).reg || s.power.retryAt.isSome then tryRelease s
  else if !(rail s 1).en then enableRail 1 s
  else if (rail s 1).reg && !(rail s 2).en then enableRail 2 s
  else tryRelease s

/-- RESET_N_ASSERTED for 1 µs or longer (R563, R564); below 1.5 V of VAUX it is treated as not asserted (R572). -/
def resetNRun (s : State) : State :=
  let s := { s with pins := { s.pins with resetN := true } }
  if s.pins.vauxMv < 1500 then s else holdReset (resetBy 3 s)

/-- RESET_N_RELEASED (R564). -/
def resetNReleasedRun (s : State) : State :=
  let s := { s with pins := { s.pins with resetN := false } }
  if s.mod.inReset then leaveReset s else s

/-- VAUX_LOW: INTLK_N counts as asserted, RESET_N and WAKE_N as not asserted (R572, R593). DEDUCED, unsafe: log entry 25. -/
def vauxLowRun (mv : Nat) (s : State) : State :=
  if mv ≥ 1500 then s
  else
    let was := interlocked s
    let s := cutFrom was { s with pins := { s.pins with vauxMv := mv } }
    if s.mod.inReset then leaveReset s else s

/-- VAUX_RETURN: the pins are read again (R572). -/
def vauxReturnRun (mv : Nat) (s : State) : State :=
  if mv < 1500 then s
  else
    let was := interlocked s
    let low := s.pins.vauxMv < 1500
    let s := cutEnds was { s with pins := { s.pins with vauxMv := mv } }
    if low && s.pins.resetN then holdReset (resetBy 3 s) else takeWake s

/-! ### VCORE (R31 to R33) -/

/-- The slowest reading and its monitor. -/
def slowest (xs : List Nat) : Nat × Nat :=
  xs.zipIdx.foldl (fun (b : Nat × Nat) (e : Nat × Nat) => if e.1 > b.1 then e else b) (0, 0)

/-- PATH_MONITOR_MEASUREMENT (R31 to R33). Each monitor's own crossing of 810 ns is reported. After VCORE has come down a step the 1 ms begins anew,
so that one step follows another no sooner. DEDUCED, unsafe: log entry 23. -/
def pathRun (readings : List Nat) (s : State) : State :=
  if readings.length != 8 || s.mod.st == .powerUp then s
  else
    let (m, _) := slowest readings
    let top := s.power.vcoreMv == 850
    let high := if top then (List.range 8).filter fun k => nth readings k 0 > 810 else []
    let news := high.filter fun k => !bit s.power.above810 k
    let s := modPower (fun w => { w with paths := readings, above810 := maskOf high }) s
    let s := news.foldl (fun s k => raise Ev.vcoreCeiling 0xFF (le 2 (nth readings k 0) ++ [b8 k, 0]) s) s
    if m > 720 then
      let s := modPower (fun w => { w with vcoreMv := min 850 (w.vcoreMv + 10), lowSince := none }) s
      if m > 900 then enterHalted 0 s else s
    else if m ≥ 650 then modPower (fun w => { w with lowSince := none }) s
    else
      let now := s.now
      match s.power.lowSince with
      | none => modPower (fun w => { w with lowSince := some now }) s
      | some t => if now < t + msT 1 then s else modPower (fun w => { w with vcoreMv := max 700 (w.vcoreMv - 5), lowSince := some now }) s

/-! ### The image, the root and the store (R482, R483, R518, R523, R537, R548) -/

/-- BOOT_IMAGE_VERIFIED (R521, R523, R548). DEDUCED, unsafe: log entry 21. -/
def bootImageRun (okA okB : Bool) (s : State) : State :=
  if !bootReady s || s.mod.noImage then s
  else
    let good := fun (i : Nat) => imageRuns s (nth s.nvm.images i {}) (if i == 0 then okA else okB)
    let a := s.nvm.active
    let o := otherSlot s
    if good a && s.nvm.failedStarts < 2 then startImage s
    else if good o then
      let s := raise Ev.firmware 0xFF (fwArgs s 3 a) s
      let s := modImage a (fun x => { x with state := 4 }) (activateImage o s)
      startImage (modMod (fun m => { m with fwNews := [(2, o)] }) s)
    else modMod (fun m => { m with noImage := true }) s

/-- The value that a PUF reading gives on a security core: the reading XOR its helper data, corrected (R480, R481). -/
def rootFrom (s : State) (core : Nat) (reading : Bytes) : Bytes := Config.corrected (xorB reading (nth s.nvm.sec.helper core []))

/-- The root is in force (R480, R483, R524). -/
def takeRoot (root : Bytes) (margin : Nat) (s : State) : State :=
  modMod (fun m => { m with rootOk := true })
    { s with cellar := { s.cellar with root := root, margin := min 100 margin, tries := 0 } }

/-- ROOT_RECONSTRUCTED: the reading is corrected and the value checked against the root check; three failed attempts on one core swap it, and failing
on both cores is HALTED (R480 to R483, R537). With DEBUG_OPEN set the PUF is not read. A retired module reconstructs no root (R511). DEDUCED, unsafe:
log entry 51. DEDUCED, safe: log entry 60. -/
def rootRun (reading : Bytes) (margin : Nat) (s : State) : State :=
  let x := s.nvm.sec
  if s.mod.rootOk || !(s.mod.st == .cal || s.mod.st == .service) then s
  else if x.debugOpen then takeRoot (rootOf true) s.cellar.margin s
  else if x.retired then s
  else
    let root := rootFrom s s.spares.secCore reading
    if rootCheckOf root == x.rootCheck then takeRoot root margin s
    else
      let tries := s.cellar.tries + 1
      let s := { s with cellar := { s.cellar with tries := tries } }
      if tries < 3 then s
      else
        let core := s.spares.secCore
        match candidates s 4 core with
        | spare :: _ => finishSwap false 4 core spare 255 none s
        | [] => uncoveredFault 4 (retire 4 core 255 s)

/-- CASK_STORE_RECOVERY (R518): Cellar answers from then on, and the module enters SERVICE once CAL has ended as well. -/
def storeRun (torn : Option Nat) (s : State) : State := tryService (recoverRun torn s)

/-! ### CAL (R574 to R576, Table 12-8) -/

/-- The steps that CAL skips: 5 to 9 and 11 (R576). -/
def skipMask : Nat := 0xBE0

/-- Step 1: every port's aerial class (R75). -/
def calClasses (cal : CalInput) (s : State) : State :=
  ((List.range 64).zip cal.idOhm).foldl (fun s e => modRadio e.1 (fun r => { r with aerial := classOf e.2 }) s) s

/-- Step 2: the saved configuration, checked against those classes (R574); the values that a session would take apply (R401). DEDUCED, unsafe: log
entry 26. -/
def calConfig (s : State) : State :=
  let saved := s.nvm.saved
  let s := if s.nvm.savedId == 0 then modMod (fun m => { m with configResult := 0xFFFF }) s
    else match commitError s saved with
    | some (code, _) => modMod (fun m => { m with configResult := code }) s
    | none => modMod (fun m => { m with configResult := 0 }) { s with cfg := { s.cfg with running := saved, staged := saved, commitId := 0 } }
  let s := setVpa s
  let s := modPower (fun w => { w with rails := w.rails.take 4 ++ (w.rails.drop 4).map fun r => { r with reg := r.en } }) s
  let s := requestPower s
  if s.link.session.isSome then s else takeLinkCfg s

/-- Steps 3 to 5 on one port: the slice in LISTEN on its channel, the cancellers, the PA gain tables; and the tuning that is fixed. DEDUCED, unsafe:
log entry 26. -/
def calSlice (skip : Bool) (p : Nat) (s : State) : State :=
  let ch := (channelNow s p).getD (pAttrN s A.radioChannel p)
  let s := modSlice p (fun x => { x with
    st := .listen, target := .listen, channel := ch, locked := true, calSince := none, paCal := x.paCal || !skip }) s
  let s := adaptSet true p (adaptSet false p s)
  let fixed := pAttr s A.tnFixedMv (leadOf s p)
  let s := if fixed != 0xFFFF then let (x, s) := probe p fixed.toNat s; setTn p fixed.toNat x s else s
  modRadio p (fun r => { r with paDue := skip }) s

/-- Step 6 on one port: the auto-tune of a port set to ON_REQUEST or TRACKING, a member of a set by its lead's setting (R323); without a sign change
TN stays at the point of smallest phase error (R106, R108). DEDUCED, unsafe: log entry 26. -/
def calTune (skip : Bool) (p : Nat) (s : State) : State :=
  if pAttr s A.tnAutotune (leadOf s p) == 0 then s
  else if skip then modRadio p (fun r => { r with tuneSkip := true }) s
  else
    (tuneOne p s).2

/-- Step 8 on one port with D3 or D4, a member of a set by its lead's modes (R323): the tables that the learning finds are free values (R96). DEDUCED,
unsafe: log entry 26. -/
def calDpd (cal : CalInput) (skip : Bool) (p : Nat) (s : State) : State :=
  if hyModesIn s s.cfg.running (leadOf s p) &&& 0x0C == 0 then s
  else if skip then modRadio p (fun r => { r with dpdDue := true }) s
  else
    let n := s.free
    let power := pAttr s A.txPowerCdbm p
    drawn (modSlice p (fun x => { x with
      dpdAmp := (List.range 64).map fun i => Config.dpdEntry n i,
      dpdPhase := (List.range 64).map fun i => Config.dpdEntry n (64 + i),
      dpdTaps := (List.range 3).map fun i => Config.dpdEntry n (128 + i),
      dpdPower := some power, evm := nth cal.evm p 0, learnEvm := nth cal.evm p 0, evmRun := 0 }) s)

/-- Step 10 on one port: the field-off floor and the H4 profile (R137, R168). -/
def calNoise (cal : CalInput) (p : Nat) (s : State) : State :=
  let now := s.now
  let profile := match cal.profile[p]? with
    | some x => if x.length == 16 then some x else none
    | none => none
  match cal.noise[p]? with
  | none => s
  | some v => modRx p (fun r => { r with noise := some v, noiseAt := some now, profile := profile }) s

/-- Step 11 on one port with Lens enabled (R337). -/
def calLens (cal : CalInput) (skip : Bool) (p : Nat) (s : State) : State :=
  if pAttr s A.lensEnable p == 0 then s
  else match skip, cal.lens[p]? with
  | false, some m =>
    let tn := (port s p).radio.tnMv
    modLens p (fun l => { l with base := lensUnits m, stale := false, anew := false, tnMv := tn, last := m }) s
  | _, _ => modLens p (fun l => { l with anew := true }) s

/-- CAL_COMPLETE: the steps of Table 12-8 have ended (R575, R576). DEDUCED, unsafe: log entry 26. -/
def calRun (cal : CalInput) (s : State) : State :=
  if s.mod.st != .cal || s.mod.calDone then s
  else
    let all := fun (f : Nat → State → State) (s : State) => (List.range 64).foldl (fun s p => f p s) s
    let s := calConfig (calClasses cal s)
    let skip := interlocked s || reserveWithheld s
    let s := all (calTune skip) (all (calSlice skip) s)
    let s := if skip then s else trainFilters cal.coupling { s with coupling := cal.coupling, filters := [] }
    let s := all (calDpd cal skip) s
    let s := all prismCal s
    let s := all (calLens cal skip) (all (calNoise cal) s)
    let s := selectAll (modMod (fun m => { m with calDone := true, calSkipped := if skip then skipMask else 0, trained := 0 }) s)
    tryService (noteSkipped s)

/-! ### The outputs (Table 12-6, R453, R570 to R572) -/

/-- The level of an output. -/
inductive Level where
  | undriven | low | high
  deriving DecidableEq, Repr

/-- The module drives the pins of the auxiliary connector (R570, R572). -/
def auxDriven (s : State) : Bool := s.mod.st != .powerUp && s.pins.vauxMv ≥ 1500

/-- READY (R571, Table 12-6). DEDUCED, safe: log entry 29. -/
def readyPin (s : State) : Level :=
  if !auxDriven s then .undriven else if s.mod.st == .service || s.mod.st == .doze then .high else .low

/-- FAULT_N: asserted is low (R540, R548, R556, R557, R569, Table 12-6). DEDUCED, safe: log entry 29. -/
def faultPin (s : State) : Level :=
  if s.pins.vauxMv < 1500 then .undriven
  else match s.mod.st with
  | .powerUp => if s.power.failedSeqs ≥ 3 && !s.power.failed then .low else .undriven
  | .boot => if s.mod.holdCause != 0 || s.mod.noImage then .low else .undriven
  | .halted => .low
  | _ => .undriven

/-- SYNC_OUT: high for 100 µs from each Trellis frame start while the module drives its chain (R453). DEDUCED, safe: log entry 29. -/
def syncPin (s : State) : Level :=
  let runs := s.mod.st == .service || s.mod.st == .doze || s.mod.st == .halted
  let head := s.time.head && s.time.lock ≥ 1
  let drives := mAttr s A.clusterSyncMode == 1 && (head || (!s.time.head && s.time.lock == 2))
  if !auxDriven s then .undriven
  else if runs && drives && (ts s) % 1000000 < 100000 then .high else .low

/-- SVC_TX rests high (Table 12-6). DEDUCED, safe: log entry 29. -/
def svcPin (s : State) : Level := if auxDriven s then .high else .undriven

/-- QD of a port; damped is low (R99 to R102, R570). DEDUCED, safe: log entry 29. -/
def qdPin (s : State) (p : Nat) : Level :=
  if s.mod.st == .powerUp then .undriven else if (port s p).radio.qdDamped then .low else .high

/-- TN of a port in mV; none where it is undriven (Table 12-6). DEDUCED, safe: log entry 29. -/
def tnPin (s : State) (p : Nat) : Option Nat := if s.mod.st == .powerUp then none else some (port s p).radio.tnMv

end Sys2Proof.Machine
end

