-- ==== Sys2Proof/Machine/ClusterCommands.lean ====
section
/-!
DEFINITION. The cluster commands and what ends them (Table 8-14): one meaning for each command, over the shared operations.
-/

namespace Sys2Proof.Machine

/-- PLAN_LOAD (R461). -/
def execPlanLoad (t : Nat) (h : Hdr) (planId : Nat) (total : Nat) (off : Nat) (data : Bytes) (s : State) : Host.Outcome State Fault Refusal :=
  .next (hostCmd (.planLoad t h planId total off data) (advance t s))

/-- PLAN_ACTIVATE (R462). -/
def execPlanActivate (t : Nat) (h : Hdr) (planId : Nat) (due : Nat) (s : State) : Host.Outcome State Fault Refusal :=
  .next (hostCmd (.planActivate t h planId due) (advance t s))

/-- PLAN_TAKES_FORCE (R463). -/
def execPlanTakesForce (t : Nat) (s : State) : Host.Outcome State Fault Refusal :=
  .next (planForceRun (advance t s))

/-- CLUSTER_STATUS (R413). -/
def execClusterStatus (t : Nat) (h : Hdr) (s : State) : Host.Outcome State Fault Refusal :=
  .next (hostCmd (.clusterStatus t h) (advance t s))

/-- CAL_TONE (R470). -/
def execCalTone (t : Nat) (h : Hdr) (port : Nat) (channel : Nat) (power : Int) (due : Nat) (durUs : Nat) (s : State) : Host.Outcome State Fault Refusal :=
  .next (hostCmd (.calTone t h port channel power due durUs) (advance t s))

/-- CAL_TONE_END (R470). -/
def execCalToneEnd (t : Nat) (p : PortNo) (s : State) : Host.Outcome State Fault Refusal :=
  .next (calToneEndRun p (advance t s))

/-- CAL_LISTEN (R471). -/
def execCalListen (t : Nat) (h : Hdr) (ports : Nat) (due : Nat) (durUs : Nat) (srcModule : Nat) (srcPort : Nat) (s : State) : Host.Outcome State Fault Refusal :=
  .next (hostCmd (.calListen t h ports due durUs srcModule srcPort) (advance t s))

/-- CAL_LISTEN_END (R472). -/
def execCalListenEnd (t : Nat) (couplings : List Int) (s : State) : Host.Outcome State Fault Refusal :=
  .next (calListenEndRun couplings (advance t s))

/-- DEDUP_IMPORT (R475). -/
def execDedupImport (t : Nat) (h : Hdr) (recs : List DedupRec) (s : State) : Host.Outcome State Fault Refusal :=
  .next (hostCmd (.dedupImport t h recs) (advance t s))

end Sys2Proof.Machine
end

