-- ==== Sys2Proof/Machine/DetectEvents.lean ====
section
/-!
DEFINITION. Inventory and detection (06): one meaning for each command, over the shared operations.
-/

namespace Sys2Proof.Machine

/-- HARVEST_GRID_TICK (R302). -/
def execHarvestGridTick (t : Nat) (p : PortNo) (s : State) : Host.Outcome State Fault Refusal :=
  .next (gridRun p (advance t s))

/-- TABLE_AGE_EXPIRY (R320). -/
def execTableAgeExpiry (t : Nat) (idx : Fin 4096) (s : State) : Host.Outcome State Fault Refusal :=
  .next (ageRun idx (advance t s))

/-- LENS_PULSE (R335). -/
def execLensPulse (t : Nat) (p : PortNo) (m : Cpx) (s : State) : Host.Outcome State Fault Refusal :=
  .next (noteSkipped (lensPulseRun p m (advance t s)))

/-- LENS_CONFIRM (R335). -/
def execLensConfirm (t : Nat) (p : PortNo) (m : Cpx) (s : State) : Host.Outcome State Fault Refusal :=
  .next (noteSkipped (lensConfirmRun p m (advance t s)))

/-- Z8_FIELD_DETECTED (R339). -/
def execZ8FieldDetected (t : Nat) (p : PortNo) (levelMv : Nat) (onset : Nat) (s : State) : Host.Outcome State Fault Refusal :=
  .next (z8DetectedRun p levelMv onset (advance t s))

/-- Z8_FIELD_GONE (R339). -/
def execZ8FieldGone (t : Nat) (p : PortNo) (s : State) : Host.Outcome State Fault Refusal :=
  .next (z8GoneRun p (advance t s))

end Sys2Proof.Machine
end

