-- ==== Sys2Proof/Machine/DiagCommands.lean ====
section
/-!
DEFINITION. The diagnostic and sparing commands (Table 8-16): one meaning for each command, over the shared operations.
-/

namespace Sys2Proof.Machine

/-- SELF_TEST (R539). -/
def execSelfTest (t : Nat) (h : Hdr) (groups : Nat) (s : State) : Host.Outcome State Fault Refusal :=
  .next (hostCmd (.selfTest t h groups) (advance t s))

/-- CAPTURE_ARM (R436). -/
def execCaptureArm (t : Nat) (h : Hdr) (buffer : Nat) (port : Nat) (point : Nat) (trigger : Nat) (samples : Nat) (before : Nat) (s : State) : Host.Outcome State Fault Refusal :=
  .next (hostCmd (.captureArm t h buffer port point trigger samples before) (advance t s))

/-- CAPTURE_BUFFER_FULL (R436). -/
def execCaptureBufferFull (t : Nat) (buffer : Fin 8) (trigTick : Nat) (samples : List Cpx) (s : State) : Host.Outcome State Fault Refusal :=
  .next (captureFullRun buffer trigTick samples (advance t s))

/-- CAPTURE_READ (R436). -/
def execCaptureRead (t : Nat) (h : Hdr) (buffer : Nat) (off : Nat) (len : Nat) (s : State) : Host.Outcome State Fault Refusal :=
  .next (hostCmd (.captureRead t h buffer off len) (advance t s))

/-- TRIGGER_ARM (R436). -/
def execTriggerArm (t : Nat) (h : Hdr) (trigger : Nat) (due : Nat) (periodNs : Nat) (s : State) : Host.Outcome State Fault Refusal :=
  .next (hostCmd (.triggerArm t h trigger due periodNs) (advance t s))

/-- SWAP_REQUEST (R530). -/
def execSwapRequest (t : Nat) (h : Hdr) (kind : Nat) (inst : Nat) (s : State) : Host.Outcome State Fault Refusal :=
  .next (hostCmd (.swapRequest t h kind inst) (advance t s))

/-- SPARE_STATUS (R526). -/
def execSpareStatus (t : Nat) (h : Hdr) (s : State) : Host.Outcome State Fault Refusal :=
  .next (hostCmd (.spareStatus t h) (advance t s))

/-- WEAR_READ (R528). -/
def execWearRead (t : Nat) (h : Hdr) (monitor : Nat) (start : Nat) (count : Nat) (s : State) : Host.Outcome State Fault Refusal :=
  .next (hostCmd (.wearRead t h monitor start count) (advance t s))

/-- EVENT_LOG_READ (R545). -/
def execEventLogRead (t : Nat) (h : Hdr) (start : Nat) (count : Nat) (s : State) : Host.Outcome State Fault Refusal :=
  .next (hostCmd (.eventLogRead t h start count) (advance t s))

/-- COUNTERS_CLEAR (R413). -/
def execCountersClear (t : Nat) (h : Hdr) (ports : Nat) (links : Bool) (s : State) : Host.Outcome State Fault Refusal :=
  .next (hostCmd (.countersClear t h ports links) (advance t s))

end Sys2Proof.Machine
end

