-- ==== Sys2Proof/Machine/HarvestCommands.lean ====
section
/-!
DEFINITION. The Harvest, Prism and Lens commands (Table 8-13): one meaning for each command, over the shared operations.
-/

namespace Sys2Proof.Machine

/-- HARVEST_START (R302). -/
def execHarvestStart (t : Nat) (h : Hdr) (s : State) : Host.Outcome State Fault Refusal :=
  .next (hostCmd (.harvestStart t h) (advance t s))

/-- HARVEST_STOP (R304). -/
def execHarvestStop (t : Nat) (h : Hdr) (s : State) : Host.Outcome State Fault Refusal :=
  .next (hostCmd (.harvestStop t h) (advance t s))

/-- HARVEST_CLEAR (R320). -/
def execHarvestClear (t : Nat) (h : Hdr) (ports : Nat) (s : State) : Host.Outcome State Fault Refusal :=
  .next (hostCmd (.harvestClear t h ports) (advance t s))

/-- HARVEST_READ_TABLE (R432). -/
def execHarvestReadTable (t : Nat) (h : Hdr) (start : Nat) (count : Nat) (s : State) : Host.Outcome State Fault Refusal :=
  .next (hostCmd (.harvestReadTable t h start count) (advance t s))

/-- PRISM_CALIBRATE (R327). -/
def execPrismCalibrate (t : Nat) (h : Hdr) (s : State) : Host.Outcome State Fault Refusal :=
  .next (hostCmd (.prismCalibrate t h) (advance t s))

/-- PRISM_VECTOR (R325). -/
def execPrismVector (t : Nat) (h : Hdr) (vector : Nat) (s : State) : Host.Outcome State Fault Refusal :=
  .next (hostCmd (.prismVector t h vector) (advance t s))

/-- LENS_BASELINE (R337). -/
def execLensBaseline (t : Nat) (h : Hdr) (s : State) : Host.Outcome State Fault Refusal :=
  .next (hostCmd (.lensBaseline t h) (advance t s))

/-- LENS_MEASURE (R346). -/
def execLensMeasure (t : Nat) (h : Hdr) (s : State) : Host.Outcome State Fault Refusal :=
  .next (hostCmd (.lensMeasure t h) (advance t s))

end Sys2Proof.Machine
end

