-- ==== Sys2Proof/Machine/HymondCommands.lean ====
section
/-!
DEFINITION. The Hymond commands (Table 8-12): one meaning for each command, over the shared operations.
-/

namespace Sys2Proof.Machine

/-- HY_RAW_FRAME (R295). -/
def execHyRawFrame (t : Nat) (h : Hdr) (pre : HyPre) (type : Nat) (alive : Nat) (reply : Nat) (payload : Bytes) (s : State) : Host.Outcome State Fault Refusal :=
  .next (hostCmd (.hyRawFrame t h pre type alive reply payload) (advance t s))

/-- HY_ACTIVATE (R295). -/
def execHyActivate (t : Nat) (h : Hdr) (ident : Bytes) (wake : Bool) (dl : Nat) (ul : Nat) (s : State) : Host.Outcome State Fault Refusal :=
  .next (hostCmd (.hyActivate t h ident wake dl ul) (advance t s))

/-- HY_READ (R295). -/
def execHyRead (t : Nat) (h : Hdr) (pre : HyPre) (addr : Nat) (count : Nat) (s : State) : Host.Outcome State Fault Refusal :=
  .next (hostCmd (.hyRead t h pre addr count) (advance t s))

/-- HY_WRITE (R262). -/
def execHyWrite (t : Nat) (h : Hdr) (pre : HyPre) (addr : Nat) (data : Bytes) (s : State) : Host.Outcome State Fault Refusal :=
  .next (hostCmd (.hyWrite t h pre addr data) (advance t s))

/-- HY_SEALED_WRITE (R284). -/
def execHySealedWrite (t : Nat) (h : Hdr) (pre : HyPre) (page : Nat) (genBase : Nat) (data : Bytes) (s : State) : Host.Outcome State Fault Refusal :=
  .next (hostCmd (.hySealedWrite t h pre page genBase data) (advance t s))

/-- HY_PAGE_STATUS (R295). -/
def execHyPageStatus (t : Nat) (h : Hdr) (pre : HyPre) (page : Nat) (s : State) : Host.Outcome State Fault Refusal :=
  .next (hostCmd (.hyPageStatus t h pre page) (advance t s))

/-- HY_CHALLENGE (R264). -/
def execHyChallenge (t : Nat) (h : Hdr) (pre : HyPre) (slot : Nat) (nonce : Bytes) (s : State) : Host.Outcome State Fault Refusal :=
  .next (hostCmd (.hyChallenge t h pre slot nonce) (advance t s))

/-- HY_HALT (R295). -/
def execHyHalt (t : Nat) (h : Hdr) (pre : HyPre) (s : State) : Host.Outcome State Fault Refusal :=
  .next (hostCmd (.hyHalt t h pre) (advance t s))

/-- HY_RELEASE (R295). -/
def execHyRelease (t : Nat) (h : Hdr) (pre : HyPre) (s : State) : Host.Outcome State Fault Refusal :=
  .next (hostCmd (.hyRelease t h pre) (advance t s))

/-- HY_RESYNC (R295). -/
def execHyResync (t : Nat) (h : Hdr) (pre : HyPre) (s : State) : Host.Outcome State Fault Refusal :=
  .next (hostCmd (.hyResync t h pre) (advance t s))

/-- HY_FORGET (R295). -/
def execHyForget (t : Nat) (h : Hdr) (handle : Nat) (s : State) : Host.Outcome State Fault Refusal :=
  .next (hostCmd (.hyForget t h handle) (advance t s))

/-- HY_TREE_SEARCH (R293). -/
def execHyTreeSearch (t : Nat) (h : Hdr) (mlen : Nat) (maxTags : Nat) (wake : Bool) (mask : Bytes) (s : State) : Host.Outcome State Fault Refusal :=
  .next (hostCmd (.hyTreeSearch t h mlen maxTags wake mask) (advance t s))

/-- HY_SET_MAP (R295). -/
def execHySetMap (t : Nat) (h : Hdr) (handle : Nat) (map : List Nat) (s : State) : Host.Outcome State Fault Refusal :=
  .next (hostCmd (.hySetMap t h handle map) (advance t s))

end Sys2Proof.Machine
end

