-- ==== Sys2Proof/Machine/IsoCommands.lean ====
section
/-!
DEFINITION. The ISO commands (Table 8-11): one meaning for each command, over the shared operations.
-/

namespace Sys2Proof.Machine

/-- ISO_RAW_FRAME (R233). -/
def execIsoRawFrame (t : Nat) (h : Hdr) (bits : Nat) (rate : Nat) (parity : Bool) (check : Bool) (keep : Bool) (kind : Nat) (windowUs : Nat) (frame : Bytes) (s : State) : Host.Outcome State Fault Refusal :=
  .next (hostCmd (.isoRawFrame t h bits rate parity check keep kind windowUs frame) (advance t s))

/-- ISO_A_ANTICOLL (R203). -/
def execIsoAAnticoll (t : Nat) (h : Hdr) (maxTags : Nat) (wakeAll : Bool) (s : State) : Host.Outcome State Fault Refusal :=
  .next (hostCmd (.isoAAnticoll t h maxTags wakeAll) (advance t s))

/-- ISO_A_ACTIVATE (R208). -/
def execIsoAActivate (t : Nat) (h : Hdr) (handle : Nat) (s : State) : Host.Outcome State Fault Refusal :=
  .next (hostCmd (.isoAActivate t h handle) (advance t s))

/-- ISO_A_HALT (R235). -/
def execIsoAHalt (t : Nat) (h : Hdr) (handle : Nat) (s : State) : Host.Outcome State Fault Refusal :=
  .next (hostCmd (.isoAHalt t h handle) (advance t s))

/-- ISO_A_RATS (R212). -/
def execIsoARats (t : Nat) (h : Hdr) (handle : Nat) (cid : Nat) (s : State) : Host.Outcome State Fault Refusal :=
  .next (hostCmd (.isoARats t h handle cid) (advance t s))

/-- ISO_PPS (R215). -/
def execIsoPps (t : Nat) (h : Hdr) (handle : Nat) (dsMax : Nat) (drMax : Nat) (s : State) : Host.Outcome State Fault Refusal :=
  .next (hostCmd (.isoPps t h handle dsMax drMax) (advance t s))

/-- ISO_B_REQUEST (R211). -/
def execIsoBRequest (t : Nat) (h : Hdr) (afi : Nat) (wake : Bool) (s : State) : Host.Outcome State Fault Refusal :=
  .next (hostCmd (.isoBRequest t h afi wake) (advance t s))

/-- ISO_B_ANTICOLL (R209). -/
def execIsoBAnticoll (t : Nat) (h : Hdr) (afi : Nat) (nStart : Nat) (maxTags : Nat) (wakeAll : Bool) (attrib : Bool) (s : State) : Host.Outcome State Fault Refusal :=
  .next (hostCmd (.isoBAnticoll t h afi nStart maxTags wakeAll attrib) (advance t s))

/-- ISO_B_ATTRIB (R216). -/
def execIsoBAttrib (t : Nat) (h : Hdr) (handle : Nat) (cid : Nat) (dsMax : Nat) (drMax : Nat) (s : State) : Host.Outcome State Fault Refusal :=
  .next (hostCmd (.isoBAttrib t h handle cid dsMax drMax) (advance t s))

/-- ISO_B_HALT (R235). -/
def execIsoBHalt (t : Nat) (h : Hdr) (handle : Nat) (s : State) : Host.Outcome State Fault Refusal :=
  .next (hostCmd (.isoBHalt t h handle) (advance t s))

/-- ISO_APDU (R218). -/
def execIsoApdu (t : Nat) (h : Hdr) (handle : Nat) (apdu : Bytes) (s : State) : Host.Outcome State Fault Refusal :=
  .next (hostCmd (.isoApdu t h handle apdu) (advance t s))

/-- ISO_DESELECT (R224). -/
def execIsoDeselect (t : Nat) (h : Hdr) (handle : Nat) (s : State) : Host.Outcome State Fault Refusal :=
  .next (hostCmd (.isoDeselect t h handle) (advance t s))

/-- ISO_FORGET (R235). -/
def execIsoForget (t : Nat) (h : Hdr) (handle : Nat) (s : State) : Host.Outcome State Fault Refusal :=
  .next (hostCmd (.isoForget t h handle) (advance t s))

/-- ISO_V_INVENTORY (R227). -/
def execIsoVInventory (t : Nat) (h : Hdr) (afi : Nat) (useAfi : Bool) (slots16 : Bool) (quiet : Bool) (maskLen : Nat) (maxTags : Nat) (mask : Nat) (s : State) : Host.Outcome State Fault Refusal :=
  .next (hostCmd (.isoVInventory t h afi useAfi slots16 quiet maskLen maxTags mask) (advance t s))

/-- ISO_V_COMMAND (R229). -/
def execIsoVCommand (t : Nat) (h : Hdr) (handle : Nat) (code : Nat) (option : Bool) (writeClass : Bool) (repeatable : Bool) (mfg : Nat) (params : Bytes) (s : State) : Host.Outcome State Fault Refusal :=
  .next (hostCmd (.isoVCommand t h handle code option writeClass repeatable mfg params) (advance t s))

/-- ISO_V_SELECT (R201). -/
def execIsoVSelect (t : Nat) (h : Hdr) (handle : Nat) (s : State) : Host.Outcome State Fault Refusal :=
  .next (hostCmd (.isoVSelect t h handle) (advance t s))

/-- ISO_V_QUIET (R235). -/
def execIsoVQuiet (t : Nat) (h : Hdr) (handle : Nat) (s : State) : Host.Outcome State Fault Refusal :=
  .next (hostCmd (.isoVQuiet t h handle) (advance t s))

/-- ISO_V_RESET_READY (R235). -/
def execIsoVResetReady (t : Nat) (h : Hdr) (handle : Nat) (s : State) : Host.Outcome State Fault Refusal :=
  .next (hostCmd (.isoVResetReady t h handle) (advance t s))

end Sys2Proof.Machine
end

