-- ==== Sys2Proof/Machine/LinkEvents.lean ====
section
/-!
DEFINITION. What the host link receives and its timers do (07): one meaning for each command, over the shared operations.
-/

namespace Sys2Proof.Machine

/-- HOST_DATA_FRAME (R370). -/
def execHostDataFrame (t : Nat) (src : Src) (vid : Nat) (datagram : Datagram) (s : State) : Host.Outcome State Fault Refusal :=
  .next (hostFrameRun src datagram.dst vid datagram.bytes (advance t s))

/-- HELLO (R359). -/
def execHello (t : Nat) (src : Src) (nonce : Nat) (grant : Nat) (s : State) : Host.Outcome State Fault Refusal :=
  .next (recordRun src (.hello nonce grant) (advance t s))

/-- ACK (R379). -/
def execAck (t : Nat) (src : Src) (seq : Nat) (s : State) : Host.Outcome State Fault Refusal :=
  .next (recordRun src (.ack seq) (advance t s))

/-- NAK (R379). -/
def execNak (t : Nat) (src : Src) (first : Nat) (count : Nat) (s : State) : Host.Outcome State Fault Refusal :=
  .next (recordRun src (.nak first count) (advance t s))

/-- CREDIT (R384). -/
def execCredit (t : Nat) (src : Src) (queue : Nat) (limit : Nat) (s : State) : Host.Outcome State Fault Refusal :=
  .next (recordRun src (.credit queue limit) (advance t s))

/-- ANNOUNCE_RECEIVED (R446). -/
def execAnnounceReceived (t : Nat) (id : Nat) (mac : Nat) (s : State) : Host.Outcome State Fault Refusal :=
  .next (announceHeard id mac (advance t s))

/-- ANNOUNCE_TIMER (R358). -/
def execAnnounceTimer (t : Nat) (s : State) : Host.Outcome State Fault Refusal :=
  .next (announceRun (advance t s))

/-- ACK_DELAY_EXPIRY (R375). -/
def execAckDelayExpiry (t : Nat) (s : State) : Host.Outcome State Fault Refusal :=
  .next (ackDelayRun (advance t s))

/-- NAK_REPEAT_EXPIRY (R377). -/
def execNakRepeatExpiry (t : Nat) (s : State) : Host.Outcome State Fault Refusal :=
  .next (nakRepeatRun (advance t s))

/-- RETX_TIMEOUT (R379). -/
def execRetxTimeout (t : Nat) (s : State) : Host.Outcome State Fault Refusal :=
  .next (retxRun (advance t s))

/-- STALE_TIMER (R395). -/
def execStaleTimer (t : Nat) (q : Fin 72) (s : State) : Host.Outcome State Fault Refusal :=
  .next (staleRun q (advance t s))

/-- LINK_TRANSMIT (R601). -/
def execLinkTransmit (t : Nat) (s : State) : Host.Outcome State Fault Refusal :=
  .next (transmitRun (advance t s))

/-- ITEM_POP (R387). -/
def execItemPop (t : Nat) (q : Fin 72) (s : State) : Host.Outcome State Fault Refusal :=
  .next (itemPopRun q (advance t s))

/-- RESULT_PUSH (R394). -/
def execResultPush (t : Nat) (p : PortNo) (s : State) : Host.Outcome State Fault Refusal :=
  .next (resultPushRun p (advance t s))

/-- HOST_TIMEOUT (R399). -/
def execHostTimeout (t : Nat) (s : State) : Host.Outcome State Fault Refusal :=
  .next (hostTimeoutRun (advance t s))

/-- LINK_UP (R351). -/
def execLinkUp (t : Nat) (speed : Nat) (s : State) : Host.Outcome State Fault Refusal :=
  .next (linkUpRun speed (advance t s))

/-- LINK_TRAINING_FAIL (R351). -/
def execLinkTrainingFail (t : Nat) (s : State) : Host.Outcome State Fault Refusal :=
  .next (trainingFailRun (advance t s))

end Sys2Proof.Machine
end

