-- ==== Sys2Proof/Machine/PowerEvents.lean ====
section
/-!
DEFINITION. Power, reset and start-up (07, 12): one meaning for each command, over the shared operations.
-/

namespace Sys2Proof.Machine

/-- POWER_ALLOC_LOWER (R364). -/
def execPowerAllocLower (t : Nat) (mw : Nat) (s : State) : Host.Outcome State Fault Refusal :=
  .next (allocLowerRun mw (advance t s))

/-- POWER_ALLOC_ACK (R364). -/
def execPowerAllocAck (t : Nat) (inputMw : Nat) (s : State) : Host.Outcome State Fault Refusal :=
  .next (allocAckRun inputMw (advance t s))

/-- POWER_ALLOC_HIGHER (R365). -/
def execPowerAllocHigher (t : Nat) (mw : Nat) (s : State) : Host.Outcome State Fault Refusal :=
  .next (noteSkipped (allocHigherRun mw (advance t s)))

/-- PI_VOLTAGE_FAIL (R559). DEDUCED, safe: log entry 9. -/
def execPiVoltageFail (t : Nat) (mv : Nat) (s : State) : Host.Outcome State Fault Refusal :=
  if mv > 72000 then .fault .beyondAbsoluteMaximum else .next (piFailRun mv (advance t s))

/-- PI_VOLTAGE_RETURN (R559). -/
def execPiVoltageReturn (t : Nat) (mv : Nat) (powerClass : Nat) (s : State) : Host.Outcome State Fault Refusal :=
  .next (piReturnRun mv powerClass (advance t s))

/-- RAIL_IN_REGULATION (R553). -/
def execRailInRegulation (t : Nat) (rail : Fin 12) (s : State) : Host.Outcome State Fault Refusal :=
  .next (railUpRun rail (advance t s))

/-- RAIL_VIOLATION (R555). -/
def execRailViolation (t : Nat) (rail : Fin 12) (kind : Nat) (s : State) : Host.Outcome State Fault Refusal :=
  .next (railFailRun rail kind (advance t s))

/-- RAIL_RETRY_TIMER (R556). -/
def execRailRetryTimer (t : Nat) (s : State) : Host.Outcome State Fault Refusal :=
  .next (railRetryRun (advance t s))

/-- STRAP_READ (R568). -/
def execStrapRead (t : Nat) (mvA : Nat) (mvB : Nat) (s : State) : Host.Outcome State Fault Refusal :=
  .next (strapRun mvA mvB (advance t s))

/-- RESET_N_ASSERTED (R563). -/
def execResetNAsserted (t : Nat) (s : State) : Host.Outcome State Fault Refusal :=
  .next (resetNRun (advance t s))

/-- RESET_N_RELEASED (R564). -/
def execResetNReleased (t : Nat) (s : State) : Host.Outcome State Fault Refusal :=
  .next (resetNReleasedRun (advance t s))

/-- BOOT_IMAGE_VERIFIED (R548). -/
def execBootImageVerified (t : Nat) (okA : Bool) (okB : Bool) (s : State) : Host.Outcome State Fault Refusal :=
  .next (bootImageRun okA okB (advance t s))

/-- ROOT_RECONSTRUCTED (R482). -/
def execRootReconstructed (t : Nat) (reading : Bytes) (margin : Nat) (s : State) : Host.Outcome State Fault Refusal :=
  .next (rootRun reading margin (advance t s))

/-- CASK_STORE_RECOVERY (R518). -/
def execCaskStoreRecovery (t : Nat) (torn : Option Nat) (s : State) : Host.Outcome State Fault Refusal :=
  .next (storeRun torn (advance t s))

/-- CAL_COMPLETE (R575). -/
def execCalComplete (t : Nat) (cal : CalInput) (s : State) : Host.Outcome State Fault Refusal :=
  .next (calRun cal (advance t s))

/-- INTLK_N_ASSERTED (R84). -/
def execIntlkNAsserted (t : Nat) (widthNs : Option Nat) (s : State) : Host.Outcome State Fault Refusal :=
  .next (intlkRun widthNs (advance t s))

/-- INTLK_N_RELEASED (R84). -/
def execIntlkNReleased (t : Nat) (s : State) : Host.Outcome State Fault Refusal :=
  .next (intlkReleasedRun (advance t s))

/-- VAUX_LOW (R572). -/
def execVauxLow (t : Nat) (mv : Nat) (s : State) : Host.Outcome State Fault Refusal :=
  .next (vauxLowRun mv (advance t s))

/-- WAKE_N_ASSERTED (R344). -/
def execWakeNAsserted (t : Nat) (s : State) : Host.Outcome State Fault Refusal :=
  .next (wakeRun (advance t s))

/-- PATH_MONITOR_MEASUREMENT (R32). -/
def execPathMonitorMeasurement (t : Nat) (readings : List Nat) (s : State) : Host.Outcome State Fault Refusal :=
  .next (pathRun readings (advance t s))

end Sys2Proof.Machine
end

