-- ==== Sys2Proof/Machine/RadioCommands.lean ====
section
/-!
DEFINITION. The port radio commands (Table 8-10, R145): one meaning for each command, over the shared operations.
-/

namespace Sys2Proof.Machine

/-- FIELD_ON (R78). -/
def execFieldOn (t : Nat) (h : Hdr) (s : State) : Host.Outcome State Fault Refusal :=
  .next (hostCmd (.fieldOn t h) (advance t s))

/-- FIELD_OFF (R603). -/
def execFieldOff (t : Nat) (h : Hdr) (s : State) : Host.Outcome State Fault Refusal :=
  .next (hostCmd (.fieldOff t h) (advance t s))

/-- AUTOTUNE (R108). -/
def execAutotune (t : Nat) (h : Hdr) (s : State) : Host.Outcome State Fault Refusal :=
  .next (hostCmd (.autotune t h) (advance t s))

/-- CALIBRATE_RADIO (R120). -/
def execCalibrateRadio (t : Nat) (h : Hdr) (mask : Nat) (s : State) : Host.Outcome State Fault Refusal :=
  .next (hostCmd (.calibrateRadio t h mask) (advance t s))

/-- MEASURE_NOISE (R140). -/
def execMeasureNoise (t : Nat) (h : Hdr) (ports : Nat) (s : State) : Host.Outcome State Fault Refusal :=
  .next (hostCmd (.measureNoise t h ports) (advance t s))

/-- MIRROR_TRAIN (R146). -/
def execMirrorTrain (t : Nat) (h : Hdr) (ports : Nat) (timeoutUs : Nat) (s : State) : Host.Outcome State Fault Refusal :=
  .next (hostCmd (.mirrorTrain t h ports timeoutUs) (advance t s))

/-- MIRROR_TRAINING_START (R145). -/
def execMirrorTrainingStart (t : Nat) (coupling : List (Nat × Nat × Int)) (s : State) : Host.Outcome State Fault Refusal :=
  .next (noteSkipped (trainingRun coupling (advance t s)))

end Sys2Proof.Machine
end

