-- ==== Sys2Proof/Machine/RadioEvents.lean ====
section
/-!
DEFINITION. The timing bank and the port radio (01, 02): one meaning for each command, over the shared operations.
-/

namespace Sys2Proof.Machine

/-- TIMER_FIRE (R38). -/
def execTimerFire (t : Nat) (n : Fin 256) (s : State) : Host.Outcome State Fault Refusal :=
  .next (noteSkipped (timerFireRun n (advance t s)))

/-- TX_UNDERRUN (R43). -/
def execTxUnderrun (t : Nat) (p : PortNo) (s : State) : Host.Outcome State Fault Refusal :=
  .next (underrunRun p (advance t s))

/-- RX_OVERRUN (R44). -/
def execRxOverrun (t : Nat) (p : PortNo) (s : State) : Host.Outcome State Fault Refusal :=
  .next (overrunRun p (advance t s))

/-- SLICE_TRANSITION_COMPLETE (R63). -/
def execSliceTransitionComplete (t : Nat) (p : PortNo) (s : State) : Host.Outcome State Fault Refusal :=
  .next (noteSkipped (sliceRun p (advance t s)))

/-- SYNTH_LOCKED (R69). -/
def execSynthLocked (t : Nat) (p : PortNo) (margin : Int) (s : State) : Host.Outcome State Fault Refusal :=
  .next (noteSkipped (lockRun p margin (advance t s)))

/-- A second lock loss, or a second lock failure, of the same slice within 1 s is a slice fault (R74, monitor 4 of Table 11-2): `mark` is the
tick of the last one, before in `u` and now in `v`. Whether the spare calibrates is a free value. DEDUCED, unsafe: log entry 37. -/
def faultAgain (inst : Nat) (mark : Slice → Option Nat) (u v : State) : State :=
  match mark (nth u.slices inst {}), mark (nth v.slices inst {}) with
  | some a, some b =>
    if a < b && b ≤ a + msT 1000 then emergencyRun 1 inst (Config.testPasses v.free inst) (drawn v) else v
  | _, _ => v

/-- SYNTH_LOCK_TIMEOUT (R72, Table 11-2). -/
def execSynthLockTimeout (t : Nat) (p : PortNo) (s : State) : Host.Outcome State Fault Refusal :=
  let u := advance t s
  .next (faultAgain (sliceOf u p) Slice.failAt u (lockTimeoutRun p u))

/-- SYNTH_LOCK_LOST (R73, R74). -/
def execSynthLockLost (t : Nat) (p : PortNo) (phaseErr : Int) (s : State) : Host.Outcome State Fault Refusal :=
  let u := advance t s
  .next (faultAgain (sliceOf u p) Slice.lossAt u (lockLostRun p phaseErr u))

/-- RAMP_UP_COMPLETE (R80). -/
def execRampUpComplete (t : Nat) (p : PortNo) (s : State) : Host.Outcome State Fault Refusal :=
  .next (noteSkipped (rampUpRun p (advance t s)))

/-- GUARD_TIME_EXPIRY (R80). -/
def execGuardTimeExpiry (t : Nat) (p : PortNo) (s : State) : Host.Outcome State Fault Refusal :=
  .next (guardOver p (advance t s))

/-- RAMP_DOWN_COMPLETE (R113). -/
def execRampDownComplete (t : Nat) (p : PortNo) (s : State) : Host.Outcome State Fault Refusal :=
  .next (noteSkipped (rampDownRun p (advance t s)))

/-- FIELD_OFF_MIN_EXPIRY (R81). -/
def execFieldOffMinExpiry (t : Nat) (p : PortNo) (s : State) : Host.Outcome State Fault Refusal :=
  .next (noteSkipped (offMinRun p (advance t s)))

/-- PRESS_GRANT (R114). -/
def execPressGrant (t : Nat) (s : State) : Host.Outcome State Fault Refusal :=
  .next (noteSkipped (grantRun (advance t s)))

/-- PRESS_TIMEOUT (R115). -/
def execPressTimeout (t : Nat) (p : PortNo) (s : State) : Host.Outcome State Fault Refusal :=
  .next (pressTimeoutRun p (advance t s))

/-- DUTY_LIMIT_REACHED (R85). -/
def execDutyLimitReached (t : Nat) (p : PortNo) (s : State) : Host.Outcome State Fault Refusal :=
  .next (dutyRun p (advance t s))

/-- PORT_MISMATCH (R90). -/
def execPortMismatch (t : Nat) (p : PortNo) (vswr : Nat) (s : State) : Host.Outcome State Fault Refusal :=
  .next (mismatchRun p vswr (advance t s))

/-- PA_LOOP_FAILURE (R91). -/
def execPaLoopFailure (t : Nat) (p : PortNo) (s : State) : Host.Outcome State Fault Refusal :=
  .next (paLoopRun p (advance t s))

/-- POWER_LOOP_MEASUREMENT (R87). -/
def execPowerLoopMeasurement (t : Nat) (p : PortNo) (err : Int) (s : State) : Host.Outcome State Fault Refusal :=
  .next (loopRun p err (advance t s))

/-- AERIAL_ID_SENSE (R75). -/
def execAerialIdSense (t : Nat) (ohms : List Nat) (s : State) : Host.Outcome State Fault Refusal :=
  .next (idSenseRun ohms (advance t s))

/-- TRANSACTION_BOUNDARY (R58). -/
def execTransactionBoundary (t : Nat) (p : PortNo) (phase : Int) (s : State) : Host.Outcome State Fault Refusal :=
  .next (noteSkipped (boundaryRun p phase (advance t s)))

/-- DPD_LEARNING (R96). -/
def execDpdLearning (t : Nat) (p : PortNo) (amp : List Int) (phase : List Int) (taps : List Int) (evm : Nat) (s : State) : Host.Outcome State Fault Refusal :=
  .next (noteSkipped (dpdRun p amp phase taps evm (advance t s)))

end Sys2Proof.Machine
end

