-- ==== Sys2Proof/Machine/ReceiveEvents.lean ====
section
/-!
DEFINITION. The receive chain (03): one meaning for each command, over the shared operations.
-/

namespace Sys2Proof.Machine

/-- SYNC_DETECTED (R152). -/
def execSyncDetected (t : Nat) (p : PortNo) (h4 : Bool) (errs : Nat) (corr : Nat) (strength : Int) (s : State) : Host.Outcome State Fault Refusal :=
  .next (syncRun p h4 errs corr strength (advance t s))

/-- HEADER_VERDICT (R154). -/
def execHeaderVerdict (t : Nat) (p : PortNo) (header : BitVec 48) (check : BitVec 16) (s : State) : Host.Outcome State Fault Refusal :=
  .next (headerRun p header.toNat check.toNat (advance t s))

/-- ISO_SOF_DETECTED (R159). -/
def execIsoSofDetected (t : Nat) (p : PortNo) (energy : Int) (strength : Int) (s : State) : Host.Outcome State Fault Refusal :=
  .next (sofRun p energy strength (advance t s))

/-- FAST_AGC_BLOCK (R135). -/
def execFastAgcBlock (t : Nat) (p : PortNo) (level : Int) (clipped : Bool) (s : State) : Host.Outcome State Fault Refusal :=
  .next (agcRun p level clipped (advance t s))

/-- FRAME_VERDICT (R173). -/
def execFrameVerdict (t : Nat) (p : PortNo) (frame : RxFrame) (m : RxMeas) (envEvm : Nat) (s : State) : Host.Outcome State Fault Refusal :=
  .next (verdictRun p frame m envEvm (advance t s))

/-- RECEIVE_WINDOW_CLOSE (R123). -/
def execReceiveWindowClose (t : Nat) (p : PortNo) (s : State) : Host.Outcome State Fault Refusal :=
  .next (windowCloseRun p (advance t s))

/-- BUSY_WAIT_EXPIRY (R278). -/
def execBusyWaitExpiry (t : Nat) (p : PortNo) (s : State) : Host.Outcome State Fault Refusal :=
  .next (busyRun p (advance t s))

/-- NOISE_MEASUREMENT (R137). -/
def execNoiseMeasurement (t : Nat) (p : PortNo) (fieldOn : Bool) (level : Int) (profile : Option (List Int)) (s : State) : Host.Outcome State Fault Refusal :=
  .next (noiseRun p fieldOn level profile (advance t s))

end Sys2Proof.Machine
end

