-- ==== Sys2Proof/Machine/SecurityCommands.lean ====
section
/-!
DEFINITION. The security commands and what ends them (Table 8-15): one meaning for each command, over the shared operations.
-/

namespace Sys2Proof.Machine

/-- CASK_INFO (R487). -/
def execCaskInfo (t : Nat) (h : Hdr) (cask : Nat) (s : State) : Host.Outcome State Fault Refusal :=
  .next (hostCmd (.caskInfo t h cask) (advance t s))

/-- CASK_IMPORT (R492). -/
def execCaskImport (t : Nat) (h : Hdr) (cask : Nat) (kek : Nat) (attr : Nat) (wrapped : Bytes) (s : State) : Host.Outcome State Fault Refusal :=
  .next (hostCmd (.caskImport t h cask kek attr wrapped) (advance t s))

/-- CASK_GENERATE (R493). -/
def execCaskGenerate (t : Nat) (h : Hdr) (cask : Nat) (bits : Nat) (attr : Nat) (s : State) : Host.Outcome State Fault Refusal :=
  .next (hostCmd (.caskGenerate t h cask bits attr) (advance t s))

/-- CASK_DERIVE (R494). -/
def execCaskDerive (t : Nat) (h : Hdr) (cask : Nat) (parent : Nat) (attr : Nat) (label : Bytes) (context : Bytes) (s : State) : Host.Outcome State Fault Refusal :=
  .next (hostCmd (.caskDerive t h cask parent attr label context) (advance t s))

/-- CASK_DESTROY (R496). -/
def execCaskDestroy (t : Nat) (h : Hdr) (cask : Nat) (s : State) : Host.Outcome State Fault Refusal :=
  .next (hostCmd (.caskDestroy t h cask) (advance t s))

/-- CASK_ENCRYPT (R497). -/
def execCaskEncrypt (t : Nat) (h : Hdr) (cask : Nat) (mode : Nat) (iv : Bytes) (data : Bytes) (s : State) : Host.Outcome State Fault Refusal :=
  .next (hostCmd (.caskEncrypt t h cask mode iv data) (advance t s))

/-- CASK_DECRYPT (R497). -/
def execCaskDecrypt (t : Nat) (h : Hdr) (cask : Nat) (mode : Nat) (iv : Bytes) (data : Bytes) (s : State) : Host.Outcome State Fault Refusal :=
  .next (hostCmd (.caskDecrypt t h cask mode iv data) (advance t s))

/-- CASK_WRAP (R495). -/
def execCaskWrap (t : Nat) (h : Hdr) (cask : Nat) (target : Nat) (s : State) : Host.Outcome State Fault Refusal :=
  .next (hostCmd (.caskWrap t h cask target) (advance t s))

/-- ATTEST (R504). -/
def execAttest (t : Nat) (h : Hdr) (cask : Nat) (nonce : Bytes) (s : State) : Host.Outcome State Fault Refusal :=
  .next (hostCmd (.attest t h cask nonce) (advance t s))

/-- LIFECYCLE_SET (R506). -/
def execLifecycleSet (t : Nat) (h : Hdr) (target : Nat) (confirm : Nat) (s : State) : Host.Outcome State Fault Refusal :=
  .next (hostCmd (.lifecycleSet t h target confirm) (advance t s))

/-- DEBUG_OPEN_SET (R508). -/
def execDebugOpenSet (t : Nat) (h : Hdr) (confirm : Nat) (s : State) : Host.Outcome State Fault Refusal :=
  .next (hostCmd (.debugOpenSet t h confirm) (advance t s))

/-- LIFE_CYCLE_CHANGE_COMPLETE (R507). -/
def execLifeCycleChangeComplete (t : Nat) (s : State) : Host.Outcome State Fault Refusal :=
  .next (changeDone (advance t s))

/-- CRED_WRITE (R501). -/
def execCredWrite (t : Nat) (h : Hdr) (handle : Nat) (cask : Nat) (slot : Nat) (format : Nat) (s : State) : Host.Outcome State Fault Refusal :=
  .next (hostCmd (.credWrite t h handle cask slot format) (advance t s))

/-- CRED_VERIFY (R502). -/
def execCredVerify (t : Nat) (h : Hdr) (handle : Nat) (cask : Nat) (slot : Nat) (s : State) : Host.Outcome State Fault Refusal :=
  .next (hostCmd (.credVerify t h handle cask slot) (advance t s))

/-- CASK_LIST (R487). -/
def execCaskList (t : Nat) (h : Hdr) (s : State) : Host.Outcome State Fault Refusal :=
  .next (hostCmd (.caskList t h) (advance t s))

/-- CELLAR_RESULT_PLACED (R501). -/
def execCellarResultPlaced (t : Nat) (p : PortNo) (s : State) : Host.Outcome State Fault Refusal :=
  .next (placeRun p (advance t s))

end Sys2Proof.Machine
end

