-- ==== Sys2Proof/Machine/SpareEvents.lean ====
section
/-!
DEFINITION. Wear and sparing, and the events of the link, the supply and the time unit that remain (07, 09, 11, 12): one meaning for each command, over the shared operations.
-/

namespace Sys2Proof.Machine

/-- WEAR_MONITOR_TRIP (R528). -/
def execWearMonitorTrip (t : Nat) (monitor : Nat) (inst : Nat) (value : Int) (s : State) : Host.Outcome State Fault Refusal :=
  .next (wearTripRun monitor inst value (advance t s))

/-- SWAP_PREPARED (R531). -/
def execSwapPrepared (t : Nat) (kind : Nat) (inst : Nat) (s : State) : Host.Outcome State Fault Refusal :=
  .next (swapPreparedRun kind inst (advance t s))

/-- PLANNED_SWAP (R531). -/
def execPlannedSwap (t : Nat) (kind : Nat) (inst : Nat) (calOk : Bool) (s : State) : Host.Outcome State Fault Refusal :=
  .next (plannedSwapRun kind inst calOk (advance t s))

/-- SWAP_DEFER_EXPIRY (R531). -/
def execSwapDeferExpiry (t : Nat) (kind : Nat) (inst : Nat) (s : State) : Host.Outcome State Fault Refusal :=
  .next (swapDeferRun kind inst (advance t s))

/-- EMERGENCY_SWAP (R535). -/
def execEmergencySwap (t : Nat) (kind : Nat) (inst : Nat) (calOk : Bool) (s : State) : Host.Outcome State Fault Refusal :=
  .next (emergencyRun kind inst calOk (advance t s))

/-- DAILY_SELF_TEST (R539). -/
def execDailySelfTest (t : Nat) (failed : List (Nat × Nat)) (s : State) : Host.Outcome State Fault Refusal :=
  .next (dailyRun failed (advance t s))

/-- EV_LOST (R544). -/
def execEvLost (t : Nat) (s : State) : Host.Outcome State Fault Refusal :=
  .next (evLostRun (advance t s))

/-- LINK_DOWN (R353). -/
def execLinkDown (t : Nat) (s : State) : Host.Outcome State Fault Refusal :=
  .next (linkDownRun (advance t s))

/-- VAUX_RETURN (R572). -/
def execVauxReturn (t : Nat) (mv : Nat) (s : State) : Host.Outcome State Fault Refusal :=
  .next (vauxReturnRun mv (advance t s))

/-- CRYSTAL_STABLE (R577). -/
def execCrystalStable (t : Nat) (s : State) : Host.Outcome State Fault Refusal :=
  .next (crystalRun (advance t s))

/-- FW_ACTIVATION_RETRY (R546). -/
def execFwActivationRetry (t : Nat) (s : State) : Host.Outcome State Fault Refusal :=
  .next (activationRetryRun (advance t s))

/-- ECHO_REQUEST (R356). -/
def execEchoRequest (t : Nat) (v6 : Bool) (addr : Nat) (data : Bytes) (s : State) : Host.Outcome State Fault Refusal :=
  .next (echoRun v6 addr data (advance t s))

/-- NEIGHBOR_DISCOVERY (R356). -/
def execNeighborDiscovery (t : Nat) (v6 : Bool) (addr : Nat) (target : Nat) (s : State) : Host.Outcome State Fault Refusal :=
  .next (neighborRun v6 addr target (advance t s))

/-- IEEE_1588_MESSAGE (R448). -/
def execIeee1588Message (t : Nat) (msg : PtpMsg) (s : State) : Host.Outcome State Fault Refusal :=
  .next (if s.link.speed == 0 then advance t s else ptpRun msg (advance t s))

/-- SYNC_INTERVAL (R448). -/
def execSyncInterval (t : Nat) (s : State) : Host.Outcome State Fault Refusal :=
  .next (if s.link.speed == 0 then advance t s else syncIntervalRun (advance t s))

end Sys2Proof.Machine
end

