-- ==== Sys2Proof/Machine/SystemCommands.lean ====
section
/-!
DEFINITION. The system and firmware commands and what follows them (Table 8-4, R342, R416, R418, R546): one meaning for each command, over the shared operations.
-/

namespace Sys2Proof.Machine

/-- NOP (R405). -/
def execNop (t : Nat) (h : Hdr) (body : Bytes) (s : State) : Host.Outcome State Fault Refusal :=
  .next (hostCmd (.nop t h body) (advance t s))

/-- MODULE_INFO (R413). -/
def execModuleInfo (t : Nat) (h : Hdr) (s : State) : Host.Outcome State Fault Refusal :=
  .next (hostCmd (.moduleInfo t h) (advance t s))

/-- MODULE_STATE (R541). -/
def execModuleState (t : Nat) (h : Hdr) (s : State) : Host.Outcome State Fault Refusal :=
  .next (hostCmd (.moduleState t h) (advance t s))

/-- ATTR_GET (R425). -/
def execAttrGet (t : Nat) (h : Hdr) (staged : Bool) (reqs : List (Nat × Nat)) (s : State) : Host.Outcome State Fault Refusal :=
  .next (hostCmd (.attrGet t h staged reqs) (advance t s))

/-- ATTR_SET (R422). -/
def execAttrSet (t : Nat) (h : Hdr) (recs : List AttrRec) (s : State) : Host.Outcome State Fault Refusal :=
  .next (hostCmd (.attrSet t h recs) (advance t s))

/-- CONFIG_COMMIT (R426). -/
def execConfigCommit (t : Nat) (h : Hdr) (s : State) : Host.Outcome State Fault Refusal :=
  .next (hostCmd (.configCommit t h) (advance t s))

/-- CONFIG_DISCARD (R424). -/
def execConfigDiscard (t : Nat) (h : Hdr) (s : State) : Host.Outcome State Fault Refusal :=
  .next (hostCmd (.configDiscard t h) (advance t s))

/-- CONFIG_SAVE (R428). -/
def execConfigSave (t : Nat) (h : Hdr) (s : State) : Host.Outcome State Fault Refusal :=
  .next (hostCmd (.configSave t h) (advance t s))

/-- DOZE_ENTER (R342). -/
def execDozeEnter (t : Nat) (h : Hdr) (s : State) : Host.Outcome State Fault Refusal :=
  .next (hostCmd (.dozeEnter t h) (advance t s))

/-- DOZE_ENTERED (R342). -/
def execDozeEntered (t : Nat) (s : State) : Host.Outcome State Fault Refusal :=
  .next (dozeEnteredRun (advance t s))

/-- QUEUE_STATUS (R398). -/
def execQueueStatus (t : Nat) (h : Hdr) (mask : Nat) (clear : Bool) (s : State) : Host.Outcome State Fault Refusal :=
  .next (hostCmd (.queueStatus t h mask clear) (advance t s))

/-- MODULE_RESET (R416). -/
def execModuleReset (t : Nat) (h : Hdr) (confirm : Nat) (s : State) : Host.Outcome State Fault Refusal :=
  .next (hostCmd (.moduleReset t h confirm) (advance t s))

/-- MODULE_RESET_EXECUTE (R416). -/
def execModuleResetExecute (t : Nat) (s : State) : Host.Outcome State Fault Refusal :=
  .next (resetExecuteRun (advance t s))

/-- TIME_READ (R14). -/
def execTimeRead (t : Nat) (h : Hdr) (s : State) : Host.Outcome State Fault Refusal :=
  .next (hostCmd (.timeRead t h) (advance t s))

/-- SCHEDULE (R417). -/
def execSchedule (t : Nat) (h : Hdr) (action : Nat) (port : Nat) (due : Nat) (item : Bytes) (s : State) : Host.Outcome State Fault Refusal :=
  .next (hostCmd (.schedule t h action port due item) (advance t s))

/-- SCHEDULED_ACTION_DUE (R418). -/
def execScheduledActionDue (t : Nat) (action : Nat) (s : State) : Host.Outcome State Fault Refusal :=
  .next (scheduledRun action (advance t s))

/-- PORT_FLUSH (R419). -/
def execPortFlush (t : Nat) (h : Hdr) (mask : Nat) (s : State) : Host.Outcome State Fault Refusal :=
  .next (hostCmd (.portFlush t h mask) (advance t s))

/-- FW_BEGIN (R420). -/
def execFwBegin (t : Nat) (h : Hdr) (size : Nat) (s : State) : Host.Outcome State Fault Refusal :=
  .next (hostCmd (.fwBegin t h size) (advance t s))

/-- FW_DATA (R420). -/
def execFwData (t : Nat) (h : Hdr) (off : Nat) (data : Bytes) (s : State) : Host.Outcome State Fault Refusal :=
  .next (hostCmd (.fwData t h off data) (advance t s))

/-- FW_VERIFY (R521). -/
def execFwVerify (t : Nat) (h : Hdr) (s : State) : Host.Outcome State Fault Refusal :=
  .next (hostCmd (.fwVerify t h) (advance t s))

/-- FW_ACTIVATE (R546). -/
def execFwActivate (t : Nat) (h : Hdr) (atStart : Nat) (s : State) : Host.Outcome State Fault Refusal :=
  .next (hostCmd (.fwActivate t h atStart) (advance t s))

/-- FW_STATUS (R420). -/
def execFwStatus (t : Nat) (h : Hdr) (s : State) : Host.Outcome State Fault Refusal :=
  .next (hostCmd (.fwStatus t h) (advance t s))

/-- FW_ROLLBACK (R547). -/
def execFwRollback (t : Nat) (h : Hdr) (s : State) : Host.Outcome State Fault Refusal :=
  .next (hostCmd (.fwRollback t h) (advance t s))

/-- FW_PORTS_HELD (R546). -/
def execFwPortsHeld (t : Nat) (s : State) : Host.Outcome State Fault Refusal :=
  .next (portsHeldRun (advance t s))

/-- FW_HOLD_TIMEOUT (R546). -/
def execFwHoldTimeout (t : Nat) (s : State) : Host.Outcome State Fault Refusal :=
  .next (holdTimeoutRun (advance t s))

end Sys2Proof.Machine
end

