-- ==== Sys2Proof/Machine/TimeEvents.lean ====
section
/-!
DEFINITION. Cluster time and the Trellis (09): one meaning for each command, over the shared operations.
-/

namespace Sys2Proof.Machine

/-- TRELLIS_FRAME_START (R466). -/
def execTrellisFrameStart (t : Nat) (s : State) : Host.Outcome State Fault Refusal :=
  .next (frameStartRun (advance t s))

/-- TIME_LOCK_CHANGE (R451). -/
def execTimeLockChange (t : Nat) (lock : Fin 3) (offsetNs : Int) (stepNs : Int) (s : State) : Host.Outcome State Fault Refusal :=
  .next (lockChangeRun lock offsetNs stepNs (advance t s))

/-- SYNC_IN_EDGE (R454). -/
def execSyncInEdge (t : Nat) (offsetPs : Int) (s : State) : Host.Outcome State Fault Refusal :=
  .next (edgeRun offsetPs (advance t s))

/-- SYNC_IN_LOSS (R456). -/
def execSyncInLoss (t : Nat) (s : State) : Host.Outcome State Fault Refusal :=
  .next (syncLossRun (advance t s))

/-- HOLDOVER_EXPIRY (R469). -/
def execHoldoverExpiry (t : Nat) (s : State) : Host.Outcome State Fault Refusal :=
  .next (holdoverRun (advance t s))

end Sys2Proof.Machine
end

