-- ==== Sys2Proof/Machine/Dispatch.lean ====
section
/-!
DEFINITION. One arm for each command of the table.
-/

namespace Sys2Proof.Machine

def exec (i : Instr) (s : State) : Host.Outcome State Fault Refusal :=
  match i with
  | .nop t h body => Sys2Proof.Machine.execNop t h body s
  | .moduleInfo t h => Sys2Proof.Machine.execModuleInfo t h s
  | .moduleState t h => Sys2Proof.Machine.execModuleState t h s
  | .attrGet t h staged reqs => Sys2Proof.Machine.execAttrGet t h staged reqs s
  | .attrSet t h recs => Sys2Proof.Machine.execAttrSet t h recs s
  | .configCommit t h => Sys2Proof.Machine.execConfigCommit t h s
  | .configDiscard t h => Sys2Proof.Machine.execConfigDiscard t h s
  | .configSave t h => Sys2Proof.Machine.execConfigSave t h s
  | .dozeEnter t h => Sys2Proof.Machine.execDozeEnter t h s
  | .dozeEntered t => Sys2Proof.Machine.execDozeEntered t s
  | .queueStatus t h mask clear => Sys2Proof.Machine.execQueueStatus t h mask clear s
  | .moduleReset t h confirm => Sys2Proof.Machine.execModuleReset t h confirm s
  | .moduleResetExecute t => Sys2Proof.Machine.execModuleResetExecute t s
  | .timeRead t h => Sys2Proof.Machine.execTimeRead t h s
  | .schedule t h action port due item => Sys2Proof.Machine.execSchedule t h action port due item s
  | .scheduledActionDue t action => Sys2Proof.Machine.execScheduledActionDue t action s
  | .portFlush t h mask => Sys2Proof.Machine.execPortFlush t h mask s
  | .fwBegin t h size => Sys2Proof.Machine.execFwBegin t h size s
  | .fwData t h off data => Sys2Proof.Machine.execFwData t h off data s
  | .fwVerify t h => Sys2Proof.Machine.execFwVerify t h s
  | .fwActivate t h atStart => Sys2Proof.Machine.execFwActivate t h atStart s
  | .fwStatus t h => Sys2Proof.Machine.execFwStatus t h s
  | .fwRollback t h => Sys2Proof.Machine.execFwRollback t h s
  | .fwPortsHeld t => Sys2Proof.Machine.execFwPortsHeld t s
  | .fwHoldTimeout t => Sys2Proof.Machine.execFwHoldTimeout t s
  | .fieldOn t h => Sys2Proof.Machine.execFieldOn t h s
  | .fieldOff t h => Sys2Proof.Machine.execFieldOff t h s
  | .autotune t h => Sys2Proof.Machine.execAutotune t h s
  | .calibrateRadio t h mask => Sys2Proof.Machine.execCalibrateRadio t h mask s
  | .measureNoise t h ports => Sys2Proof.Machine.execMeasureNoise t h ports s
  | .mirrorTrain t h ports timeoutUs => Sys2Proof.Machine.execMirrorTrain t h ports timeoutUs s
  | .mirrorTrainingStart t coupling => Sys2Proof.Machine.execMirrorTrainingStart t coupling s
  | .isoRawFrame t h bits rate parity check keep kind windowUs frame => Sys2Proof.Machine.execIsoRawFrame t h bits rate parity check keep kind windowUs frame s
  | .isoAAnticoll t h maxTags wakeAll => Sys2Proof.Machine.execIsoAAnticoll t h maxTags wakeAll s
  | .isoAActivate t h handle => Sys2Proof.Machine.execIsoAActivate t h handle s
  | .isoAHalt t h handle => Sys2Proof.Machine.execIsoAHalt t h handle s
  | .isoARats t h handle cid => Sys2Proof.Machine.execIsoARats t h handle cid s
  | .isoPps t h handle dsMax drMax => Sys2Proof.Machine.execIsoPps t h handle dsMax drMax s
  | .isoBRequest t h afi wake => Sys2Proof.Machine.execIsoBRequest t h afi wake s
  | .isoBAnticoll t h afi nStart maxTags wakeAll attrib => Sys2Proof.Machine.execIsoBAnticoll t h afi nStart maxTags wakeAll attrib s
  | .isoBAttrib t h handle cid dsMax drMax => Sys2Proof.Machine.execIsoBAttrib t h handle cid dsMax drMax s
  | .isoBHalt t h handle => Sys2Proof.Machine.execIsoBHalt t h handle s
  | .isoApdu t h handle apdu => Sys2Proof.Machine.execIsoApdu t h handle apdu s
  | .isoDeselect t h handle => Sys2Proof.Machine.execIsoDeselect t h handle s
  | .isoForget t h handle => Sys2Proof.Machine.execIsoForget t h handle s
  | .isoVInventory t h afi useAfi slots16 quiet maskLen maxTags mask => Sys2Proof.Machine.execIsoVInventory t h afi useAfi slots16 quiet maskLen maxTags mask s
  | .isoVCommand t h handle code option writeClass repeatable mfg params => Sys2Proof.Machine.execIsoVCommand t h handle code option writeClass repeatable mfg params s
  | .isoVSelect t h handle => Sys2Proof.Machine.execIsoVSelect t h handle s
  | .isoVQuiet t h handle => Sys2Proof.Machine.execIsoVQuiet t h handle s
  | .isoVResetReady t h handle => Sys2Proof.Machine.execIsoVResetReady t h handle s
  | .hyRawFrame t h pre type alive reply payload => Sys2Proof.Machine.execHyRawFrame t h pre type alive reply payload s
  | .hyActivate t h ident wake dl ul => Sys2Proof.Machine.execHyActivate t h ident wake dl ul s
  | .hyRead t h pre addr count => Sys2Proof.Machine.execHyRead t h pre addr count s
  | .hyWrite t h pre addr data => Sys2Proof.Machine.execHyWrite t h pre addr data s
  | .hySealedWrite t h pre page genBase data => Sys2Proof.Machine.execHySealedWrite t h pre page genBase data s
  | .hyPageStatus t h pre page => Sys2Proof.Machine.execHyPageStatus t h pre page s
  | .hyChallenge t h pre slot nonce => Sys2Proof.Machine.execHyChallenge t h pre slot nonce s
  | .hyHalt t h pre => Sys2Proof.Machine.execHyHalt t h pre s
  | .hyRelease t h pre => Sys2Proof.Machine.execHyRelease t h pre s
  | .hyResync t h pre => Sys2Proof.Machine.execHyResync t h pre s
  | .hyForget t h handle => Sys2Proof.Machine.execHyForget t h handle s
  | .hyTreeSearch t h mlen maxTags wake mask => Sys2Proof.Machine.execHyTreeSearch t h mlen maxTags wake mask s
  | .hySetMap t h handle map => Sys2Proof.Machine.execHySetMap t h handle map s
  | .harvestStart t h => Sys2Proof.Machine.execHarvestStart t h s
  | .harvestStop t h => Sys2Proof.Machine.execHarvestStop t h s
  | .harvestClear t h ports => Sys2Proof.Machine.execHarvestClear t h ports s
  | .harvestReadTable t h start count => Sys2Proof.Machine.execHarvestReadTable t h start count s
  | .prismCalibrate t h => Sys2Proof.Machine.execPrismCalibrate t h s
  | .prismVector t h vector => Sys2Proof.Machine.execPrismVector t h vector s
  | .lensBaseline t h => Sys2Proof.Machine.execLensBaseline t h s
  | .lensMeasure t h => Sys2Proof.Machine.execLensMeasure t h s
  | .planLoad t h planId total off data => Sys2Proof.Machine.execPlanLoad t h planId total off data s
  | .planActivate t h planId due => Sys2Proof.Machine.execPlanActivate t h planId due s
  | .planTakesForce t => Sys2Proof.Machine.execPlanTakesForce t s
  | .clusterStatus t h => Sys2Proof.Machine.execClusterStatus t h s
  | .calTone t h port channel power due durUs => Sys2Proof.Machine.execCalTone t h port channel power due durUs s
  | .calToneEnd t p => Sys2Proof.Machine.execCalToneEnd t p s
  | .calListen t h ports due durUs srcModule srcPort => Sys2Proof.Machine.execCalListen t h ports due durUs srcModule srcPort s
  | .calListenEnd t couplings => Sys2Proof.Machine.execCalListenEnd t couplings s
  | .dedupImport t h recs => Sys2Proof.Machine.execDedupImport t h recs s
  | .caskInfo t h cask => Sys2Proof.Machine.execCaskInfo t h cask s
  | .caskImport t h cask kek attr wrapped => Sys2Proof.Machine.execCaskImport t h cask kek attr wrapped s
  | .caskGenerate t h cask bits attr => Sys2Proof.Machine.execCaskGenerate t h cask bits attr s
  | .caskDerive t h cask parent attr label context => Sys2Proof.Machine.execCaskDerive t h cask parent attr label context s
  | .caskDestroy t h cask => Sys2Proof.Machine.execCaskDestroy t h cask s
  | .caskEncrypt t h cask mode iv data => Sys2Proof.Machine.execCaskEncrypt t h cask mode iv data s
  | .caskDecrypt t h cask mode iv data => Sys2Proof.Machine.execCaskDecrypt t h cask mode iv data s
  | .caskWrap t h cask target => Sys2Proof.Machine.execCaskWrap t h cask target s
  | .attest t h cask nonce => Sys2Proof.Machine.execAttest t h cask nonce s
  | .lifecycleSet t h target confirm => Sys2Proof.Machine.execLifecycleSet t h target confirm s
  | .debugOpenSet t h confirm => Sys2Proof.Machine.execDebugOpenSet t h confirm s
  | .lifeCycleChangeComplete t => Sys2Proof.Machine.execLifeCycleChangeComplete t s
  | .credWrite t h handle cask slot format => Sys2Proof.Machine.execCredWrite t h handle cask slot format s
  | .credVerify t h handle cask slot => Sys2Proof.Machine.execCredVerify t h handle cask slot s
  | .caskList t h => Sys2Proof.Machine.execCaskList t h s
  | .cellarResultPlaced t p => Sys2Proof.Machine.execCellarResultPlaced t p s
  | .selfTest t h groups => Sys2Proof.Machine.execSelfTest t h groups s
  | .captureArm t h buffer port point trigger samples before => Sys2Proof.Machine.execCaptureArm t h buffer port point trigger samples before s
  | .captureBufferFull t buffer trigTick samples => Sys2Proof.Machine.execCaptureBufferFull t buffer trigTick samples s
  | .captureRead t h buffer off len => Sys2Proof.Machine.execCaptureRead t h buffer off len s
  | .triggerArm t h trigger due periodNs => Sys2Proof.Machine.execTriggerArm t h trigger due periodNs s
  | .swapRequest t h kind inst => Sys2Proof.Machine.execSwapRequest t h kind inst s
  | .spareStatus t h => Sys2Proof.Machine.execSpareStatus t h s
  | .wearRead t h monitor start count => Sys2Proof.Machine.execWearRead t h monitor start count s
  | .eventLogRead t h start count => Sys2Proof.Machine.execEventLogRead t h start count s
  | .countersClear t h ports links => Sys2Proof.Machine.execCountersClear t h ports links s
  | .hostDataFrame t src vid datagram => Sys2Proof.Machine.execHostDataFrame t src vid datagram s
  | .hello t src nonce grant => Sys2Proof.Machine.execHello t src nonce grant s
  | .ack t src seq => Sys2Proof.Machine.execAck t src seq s
  | .nak t src first count => Sys2Proof.Machine.execNak t src first count s
  | .credit t src queue limit => Sys2Proof.Machine.execCredit t src queue limit s
  | .announceReceived t id mac => Sys2Proof.Machine.execAnnounceReceived t id mac s
  | .announceTimer t => Sys2Proof.Machine.execAnnounceTimer t s
  | .ackDelayExpiry t => Sys2Proof.Machine.execAckDelayExpiry t s
  | .nakRepeatExpiry t => Sys2Proof.Machine.execNakRepeatExpiry t s
  | .retxTimeout t => Sys2Proof.Machine.execRetxTimeout t s
  | .staleTimer t q => Sys2Proof.Machine.execStaleTimer t q s
  | .linkTransmit t => Sys2Proof.Machine.execLinkTransmit t s
  | .itemPop t q => Sys2Proof.Machine.execItemPop t q s
  | .resultPush t p => Sys2Proof.Machine.execResultPush t p s
  | .hostTimeout t => Sys2Proof.Machine.execHostTimeout t s
  | .linkUp t speed => Sys2Proof.Machine.execLinkUp t speed s
  | .linkTrainingFail t => Sys2Proof.Machine.execLinkTrainingFail t s
  | .powerAllocLower t mw => Sys2Proof.Machine.execPowerAllocLower t mw s
  | .powerAllocAck t inputMw => Sys2Proof.Machine.execPowerAllocAck t inputMw s
  | .powerAllocHigher t mw => Sys2Proof.Machine.execPowerAllocHigher t mw s
  | .piVoltageFail t mv => Sys2Proof.Machine.execPiVoltageFail t mv s
  | .piVoltageReturn t mv powerClass => Sys2Proof.Machine.execPiVoltageReturn t mv powerClass s
  | .railInRegulation t rail => Sys2Proof.Machine.execRailInRegulation t rail s
  | .railViolation t rail kind => Sys2Proof.Machine.execRailViolation t rail kind s
  | .railRetryTimer t => Sys2Proof.Machine.execRailRetryTimer t s
  | .strapRead t mvA mvB => Sys2Proof.Machine.execStrapRead t mvA mvB s
  | .resetNAsserted t => Sys2Proof.Machine.execResetNAsserted t s
  | .resetNReleased t => Sys2Proof.Machine.execResetNReleased t s
  | .bootImageVerified t okA okB => Sys2Proof.Machine.execBootImageVerified t okA okB s
  | .rootReconstructed t reading margin => Sys2Proof.Machine.execRootReconstructed t reading margin s
  | .caskStoreRecovery t torn => Sys2Proof.Machine.execCaskStoreRecovery t torn s
  | .calComplete t cal => Sys2Proof.Machine.execCalComplete t cal s
  | .intlkNAsserted t widthNs => Sys2Proof.Machine.execIntlkNAsserted t widthNs s
  | .intlkNReleased t => Sys2Proof.Machine.execIntlkNReleased t s
  | .vauxLow t mv => Sys2Proof.Machine.execVauxLow t mv s
  | .wakeNAsserted t => Sys2Proof.Machine.execWakeNAsserted t s
  | .pathMonitorMeasurement t readings => Sys2Proof.Machine.execPathMonitorMeasurement t readings s
  | .timerFire t n => Sys2Proof.Machine.execTimerFire t n s
  | .txUnderrun t p => Sys2Proof.Machine.execTxUnderrun t p s
  | .rxOverrun t p => Sys2Proof.Machine.execRxOverrun t p s
  | .sliceTransitionComplete t p => Sys2Proof.Machine.execSliceTransitionComplete t p s
  | .synthLocked t p margin => Sys2Proof.Machine.execSynthLocked t p margin s
  | .synthLockTimeout t p => Sys2Proof.Machine.execSynthLockTimeout t p s
  | .synthLockLost t p phaseErr => Sys2Proof.Machine.execSynthLockLost t p phaseErr s
  | .rampUpComplete t p => Sys2Proof.Machine.execRampUpComplete t p s
  | .guardTimeExpiry t p => Sys2Proof.Machine.execGuardTimeExpiry t p s
  | .rampDownComplete t p => Sys2Proof.Machine.execRampDownComplete t p s
  | .fieldOffMinExpiry t p => Sys2Proof.Machine.execFieldOffMinExpiry t p s
  | .pressGrant t => Sys2Proof.Machine.execPressGrant t s
  | .pressTimeout t p => Sys2Proof.Machine.execPressTimeout t p s
  | .dutyLimitReached t p => Sys2Proof.Machine.execDutyLimitReached t p s
  | .portMismatch t p vswr => Sys2Proof.Machine.execPortMismatch t p vswr s
  | .paLoopFailure t p => Sys2Proof.Machine.execPaLoopFailure t p s
  | .powerLoopMeasurement t p err => Sys2Proof.Machine.execPowerLoopMeasurement t p err s
  | .aerialIdSense t ohms => Sys2Proof.Machine.execAerialIdSense t ohms s
  | .transactionBoundary t p phase => Sys2Proof.Machine.execTransactionBoundary t p phase s
  | .dpdLearning t p amp phase taps evm => Sys2Proof.Machine.execDpdLearning t p amp phase taps evm s
  | .syncDetected t p h4 errs corr strength => Sys2Proof.Machine.execSyncDetected t p h4 errs corr strength s
  | .headerVerdict t p header check => Sys2Proof.Machine.execHeaderVerdict t p header check s
  | .isoSofDetected t p energy strength => Sys2Proof.Machine.execIsoSofDetected t p energy strength s
  | .fastAgcBlock t p level clipped => Sys2Proof.Machine.execFastAgcBlock t p level clipped s
  | .frameVerdict t p frame m envEvm => Sys2Proof.Machine.execFrameVerdict t p frame m envEvm s
  | .receiveWindowClose t p => Sys2Proof.Machine.execReceiveWindowClose t p s
  | .busyWaitExpiry t p => Sys2Proof.Machine.execBusyWaitExpiry t p s
  | .noiseMeasurement t p fieldOn level profile => Sys2Proof.Machine.execNoiseMeasurement t p fieldOn level profile s
  | .harvestGridTick t p => Sys2Proof.Machine.execHarvestGridTick t p s
  | .tableAgeExpiry t idx => Sys2Proof.Machine.execTableAgeExpiry t idx s
  | .lensPulse t p m => Sys2Proof.Machine.execLensPulse t p m s
  | .lensConfirm t p m => Sys2Proof.Machine.execLensConfirm t p m s
  | .z8FieldDetected t p levelMv onset => Sys2Proof.Machine.execZ8FieldDetected t p levelMv onset s
  | .z8FieldGone t p => Sys2Proof.Machine.execZ8FieldGone t p s
  | .trellisFrameStart t => Sys2Proof.Machine.execTrellisFrameStart t s
  | .timeLockChange t lock offsetNs stepNs => Sys2Proof.Machine.execTimeLockChange t lock offsetNs stepNs s
  | .syncInEdge t offsetPs => Sys2Proof.Machine.execSyncInEdge t offsetPs s
  | .syncInLoss t => Sys2Proof.Machine.execSyncInLoss t s
  | .holdoverExpiry t => Sys2Proof.Machine.execHoldoverExpiry t s
  | .wearMonitorTrip t monitor inst value => Sys2Proof.Machine.execWearMonitorTrip t monitor inst value s
  | .swapPrepared t kind inst => Sys2Proof.Machine.execSwapPrepared t kind inst s
  | .plannedSwap t kind inst calOk => Sys2Proof.Machine.execPlannedSwap t kind inst calOk s
  | .swapDeferExpiry t kind inst => Sys2Proof.Machine.execSwapDeferExpiry t kind inst s
  | .emergencySwap t kind inst calOk => Sys2Proof.Machine.execEmergencySwap t kind inst calOk s
  | .dailySelfTest t failed => Sys2Proof.Machine.execDailySelfTest t failed s
  | .evLost t => Sys2Proof.Machine.execEvLost t s
  | .linkDown t => Sys2Proof.Machine.execLinkDown t s
  | .vauxReturn t mv => Sys2Proof.Machine.execVauxReturn t mv s
  | .crystalStable t => Sys2Proof.Machine.execCrystalStable t s
  | .fwActivationRetry t => Sys2Proof.Machine.execFwActivationRetry t s
  | .echoRequest t v6 addr data => Sys2Proof.Machine.execEchoRequest t v6 addr data s
  | .neighborDiscovery t v6 addr target => Sys2Proof.Machine.execNeighborDiscovery t v6 addr target s
  | .ieee1588Message t msg => Sys2Proof.Machine.execIeee1588Message t msg s
  | .syncInterval t => Sys2Proof.Machine.execSyncInterval t s

end Sys2Proof.Machine
end

