-- ==== Sys2Proof/Machine/Step.lean ====
section
/-!
DEFINITION. One step of the block: the command at the front of the queue, or idling.
-/

namespace Sys2Proof.Machine

/-- One step: take the command at the front of `pending` and run it with the rest of the queue; on an empty queue the block idles. DESIGN CHOICE,
safe: log entry 2. -/
def step (s : State) : Host.Outcome State Fault Refusal :=
  match s.pending with
  | [] => .next s
  | c :: rest => exec c { s with pending := rest }

/-- `s` with the command that a word spells at the front of its queue; `s` itself where the word spells none. DEDUCED, safe: log entry 6. -/
def State.withFetchWord (s : State) (nbits w : Nat) : State :=
  match decodeTableWord nbits w with
  | some c => { s with pending := c :: s.pending }
  | none => s

end Sys2Proof.Machine
end

