-- ==== Sys2Proof/WellFormed.lean ====
section
/-!
DEFINITION. Well-formed commands: every operand fits the field that carries it (Tables 7-7, 7-9, 8-4, 8-5, 8-10 to 8-16),
and a list has the length that its measurement or field gives it.
-/

namespace Sys2Proof

/-- A number fits a field of one, two, four, eight bytes. -/
def fits1 (n : Nat) : Bool := n < 2 ^ 8
def fits2 (n : Nat) : Bool := n < 2 ^ 16
def fits4 (n : Nat) : Bool := n < 2 ^ 32
def fits8 (n : Nat) : Bool := n < 2 ^ 64

/-- A new CASK_ATTR has none of the reserved bits of Table 10-1 set, byte by byte (R17). -/
def attrPlain (a : Nat) : Bool :=
  [(0, 0x03), (1, 0x0F), (2, 0xF3), (3, 0x13)].all fun (o, m) => (a >>> (8 * o)) % 256 &&& m == (a >>> (8 * o)) % 256

/-- A signed number fits a field of `k` bytes. -/
def fitsInt (k : Nat) (z : Int) : Bool := -(2 ^ (8 * k - 1) : Nat) ≤ z && z < (2 ^ (8 * k - 1) : Nat)

/-- A header: a queue byte of Table 7-3 and a TAG of 16 bits. -/
def Hdr.wf (h : Hdr) : Bool := h.q < 72 && fits2 h.tag

/-- The prefix of a Hymond command. -/
def HyPre.wf (x : HyPre) : Bool := fits2 x.handle && fits1 x.dl && fits1 x.ul

/-- The size of one element of a type code, and whether it is signed (Table 8-6). -/
def typeForm (t : Nat) : Nat × Bool :=
  if t == 1 then (1, false) else if t == 2 then (1, true) else if t == 3 then (2, false) else if t == 4 then (2, true)
  else if t == 5 then (4, false) else if t == 6 then (4, true) else if t == 7 then (8, false) else (0, false)

/-- A value of a type. -/
def typeFits (t : Nat) (v : Int) : Bool :=
  let f := typeForm t
  if f.2 then fitsInt f.1 v else 0 ≤ v && v < (2 ^ (8 * f.1) : Nat)

/-- A value record (Table 8-5). -/
def AttrRec.wf (r : AttrRec) : Bool :=
  fits2 r.id && fits2 r.index && 1 ≤ r.type && r.type ≤ 7 && 1 ≤ r.vals.length && r.vals.length ≤ 64 && r.vals.all (typeFits r.type)

/-- A deduplication record (Table 9-6). -/
def DedupRec.wf (r : DedupRec) : Bool :=
  r.ident.length == 16 && fits1 r.proto && fits1 r.modul && fits1 r.port && fitsInt 2 r.strength && fits8 r.ts

/-- The measurements of a tag frame; the sum of the powers fits the strength of a receive status (R176). -/
def RxMeas.wf (m : RxMeas) : Bool := m.subPow.all (fun x => -32768 ≤ x && x ≤ 31562) && fitsInt 2 m.snr && fits2 m.evm && fitsInt 2 m.band && (!m.clipMany || m.clipAny)

/-- What CAL measures: one value for each port, sixteen for an H4 profile. -/
def CalInput.wf (c : CalInput) : Bool :=
  c.idOhm.length == 64 && c.noise.length == 64 && c.profile.length == 64 && c.profile.all (·.length == 16)
    && c.evm.length == 64 && c.lens.length == 64 && c.coupling.all fun e => e.1 < 64 && e.2.1 < 64

/-- A command is well-formed. -/
def Instr.wf : Instr → Bool
  | .nop _ h x => h.wf && x.length ≤ 1392
  | .moduleInfo _ h => h.wf
  | .moduleState _ h => h.wf
  | .attrGet _ h _ rs => h.wf && fits1 rs.length && rs.all fun r => fits2 r.1 && fits2 r.2
  | .attrSet _ h rs => h.wf && fits1 rs.length && rs.all AttrRec.wf
  | .configCommit _ h => h.wf
  | .configDiscard _ h => h.wf
  | .configSave _ h => h.wf
  | .dozeEnter _ h => h.wf
  | .dozeEntered _ => true
  | .queueStatus _ h m _ => h.wf && m < 2 ^ 72
  | .moduleReset _ h c => h.wf && fits4 c
  | .moduleResetExecute _ => true
  | .timeRead _ h => h.wf
  | .schedule _ h a p due x => h.wf && fits1 a && fits1 p && fits8 due && 2 ≤ x.length && x.length == num x 0 2
  | .scheduledActionDue _ _ => true
  | .portFlush _ h m => h.wf && fits8 m
  | .fwBegin _ h n => h.wf && fits4 n
  | .fwData _ h off x => h.wf && fits4 off && fits2 x.length
  | .fwVerify _ h => h.wf
  | .fwActivate _ h w => h.wf && fits1 w
  | .fwStatus _ h => h.wf
  | .fwRollback _ h => h.wf
  | .fwPortsHeld _ => true
  | .fwHoldTimeout _ => true
  | .fieldOn _ h => h.wf
  | .fieldOff _ h => h.wf
  | .autotune _ h => h.wf
  | .calibrateRadio _ h m => h.wf && m < 16
  | .measureNoise _ h m => h.wf && fits8 m
  | .mirrorTrain _ h m us => h.wf && fits8 m && fits2 us
  | .mirrorTrainingStart _ c => c.all fun e => e.1 < 64 && e.2.1 < 64
  | .isoRawFrame _ h n r _ _ _ k us x => h.wf && fits2 n && fits1 r && k < 4 && fits2 us && x.length == (n + 7) / 8
  | .isoAAnticoll _ h m _ => h.wf && fits1 m
  | .isoAActivate _ h n => h.wf && fits2 n
  | .isoAHalt _ h n => h.wf && fits2 n
  | .isoARats _ h n c => h.wf && fits2 n && fits1 c
  | .isoPps _ h n a z => h.wf && fits2 n && fits1 a && fits1 z
  | .isoBRequest _ h a _ => h.wf && fits1 a
  | .isoBAnticoll _ h a n m _ _ => h.wf && fits1 a && fits1 n && fits1 m
  | .isoBAttrib _ h n c a z => h.wf && fits2 n && fits1 c && fits1 a && fits1 z
  | .isoBHalt _ h n => h.wf && fits2 n
  | .isoApdu _ h n x => h.wf && fits2 n && fits2 x.length
  | .isoDeselect _ h n => h.wf && fits2 n
  | .isoForget _ h n => h.wf && fits2 n
  | .isoVInventory _ h a _ _ _ l m k => h.wf && fits1 a && fits1 l && fits1 m && fits8 k
  | .isoVCommand _ h n c _ _ _ g x => h.wf && fits2 n && fits1 c && fits1 g && fits2 x.length
  | .isoVSelect _ h n => h.wf && fits2 n
  | .isoVQuiet _ h n => h.wf && fits2 n
  | .isoVResetReady _ h n => h.wf && fits2 n
  | .hyRawFrame _ h p a b c x => h.wf && p.wf && fits1 a && fits1 b && fits1 c && fits2 x.length
  | .hyActivate _ h ident _ d u => h.wf && ident.length == 16 && fits1 d && fits1 u
  | .hyRead _ h p a n => h.wf && p.wf && fits2 a && fits2 n
  | .hyWrite _ h p a x => h.wf && p.wf && fits2 a && fits2 x.length
  | .hySealedWrite _ h p a g x => h.wf && p.wf && fits1 a && fits2 g && x.length == 256
  | .hyPageStatus _ h p a => h.wf && p.wf && fits1 a
  | .hyChallenge _ h p k x => h.wf && p.wf && fits1 k && x.length == 16
  | .hyHalt _ h p => h.wf && p.wf
  | .hyRelease _ h p => h.wf && p.wf
  | .hyResync _ h p => h.wf && p.wf
  | .hyForget _ h n => h.wf && fits2 n
  | .hyTreeSearch _ h l m _ x => h.wf && fits1 l && fits1 m && x.length == 16
  | .hySetMap _ h n m => h.wf && fits2 n && m.length == 16 && m.all (· < 16)
  | .harvestStart _ h => h.wf
  | .harvestStop _ h => h.wf
  | .harvestClear _ h m => h.wf && fits8 m
  | .harvestReadTable _ h a n => h.wf && fits2 a && fits1 n
  | .prismCalibrate _ h => h.wf
  | .prismVector _ h v => h.wf && fits1 v
  | .lensBaseline _ h => h.wf
  | .lensMeasure _ h => h.wf
  | .planLoad _ h a n off x => h.wf && fits4 a && fits4 n && fits4 off && fits2 x.length
  | .planActivate _ h a due => h.wf && fits4 a && fits8 due
  | .planTakesForce _ => true
  | .clusterStatus _ h => h.wf
  | .calTone _ h p c w due d => h.wf && fits1 p && fits1 c && fitsInt 2 w && fits8 due && fits4 d
  | .calToneEnd _ _ => true
  | .calListen _ h m due d a p => h.wf && fits8 m && fits8 due && fits4 d && fits1 a && fits1 p
  | .calListenEnd _ _ => true
  | .dedupImport _ h rs => h.wf && fits1 rs.length && rs.all DedupRec.wf
  | .caskInfo _ h n => h.wf && fits2 n
  | .caskImport _ h n k a x => h.wf && fits2 n && fits2 k && fits8 a && attrPlain a && fits2 x.length
  | .caskGenerate _ h n b a => h.wf && fits2 n && fits2 b && fits8 a && attrPlain a
  | .caskDerive _ h n p a l c => h.wf && fits2 n && fits2 p && fits8 a && attrPlain a && fits1 l.length && fits1 c.length
  | .caskDestroy _ h n => h.wf && fits2 n
  | .caskEncrypt _ h n m iv x => h.wf && fits2 n && fits1 m && iv.length == 16 && fits2 x.length
  | .caskDecrypt _ h n m iv x => h.wf && fits2 n && fits1 m && iv.length == 16 && fits2 x.length
  | .caskWrap _ h n k => h.wf && fits2 n && fits2 k
  | .attest _ h n x => h.wf && fits2 n && x.length == 16
  | .lifecycleSet _ h l c => h.wf && fits1 l && fits4 c
  | .debugOpenSet _ h c => h.wf && fits4 c
  | .lifeCycleChangeComplete _ => true
  | .credWrite _ h n c k f => h.wf && fits2 n && fits2 c && fits1 k && fits1 f
  | .credVerify _ h n c k => h.wf && fits2 n && fits2 c && fits1 k
  | .caskList _ h => h.wf
  | .cellarResultPlaced _ _ => true
  | .selfTest _ h g => h.wf && fits1 g
  | .captureArm _ h b p k x n z => h.wf && fits1 b && fits1 p && fits1 k && fits1 x && fits4 n && fits4 z
  | .captureBufferFull _ _ _ _ => true
  | .captureRead _ h b o n => h.wf && fits1 b && fits4 o && fits4 n
  | .triggerArm _ h n due ns => h.wf && fits1 n && fits8 due && fits4 ns
  | .swapRequest _ h k n => h.wf && fits1 k && fits2 n
  | .spareStatus _ h => h.wf
  | .wearRead _ h m a n => h.wf && fits1 m && fits2 a && fits1 n
  | .eventLogRead _ h a n => h.wf && fits2 a && fits1 n
  | .countersClear _ h m _ => h.wf && fits8 m
  | .hostDataFrame _ _ vid x => vid < 4096 && x.bytes.length ≤ 1472
  | .hello _ _ nonce grant => fits4 nonce && fits2 grant
  | .ack _ _ seq => fits2 seq
  | .nak _ _ a n => fits2 a && fits2 n
  | .credit _ _ q l => fits1 q && fits2 l
  | .announceReceived _ a m => fits1 a && m < 2 ^ 48
  | .announceTimer _ => true
  | .ackDelayExpiry _ => true
  | .nakRepeatExpiry _ => true
  | .retxTimeout _ => true
  | .staleTimer _ _ => true
  | .linkTransmit _ => true
  | .itemPop _ _ => true
  | .resultPush _ _ => true
  | .hostTimeout _ => true
  | .linkUp _ v => 1 ≤ v && v ≤ 3
  | .linkTrainingFail _ => true
  | .powerAllocLower _ mw => fits4 mw
  | .powerAllocAck _ mw => fits4 mw
  | .powerAllocHigher _ mw => fits4 mw
  | .piVoltageFail _ mv => mv ≤ 72000
  | .piVoltageReturn _ mv _ => mv ≤ 72000
  | .railInRegulation _ _ => true
  | .railViolation _ _ k => 1 ≤ k && k ≤ 3
  | .railRetryTimer _ => true
  | .strapRead _ _ _ => true
  | .resetNAsserted _ => true
  | .resetNReleased _ => true
  | .bootImageVerified _ _ _ => true
  | .rootReconstructed _ x m => x.length ≤ 8192 && m ≤ 100
  | .caskStoreRecovery _ _ => true
  | .calComplete _ c => c.wf
  | .intlkNAsserted _ _ => true
  | .intlkNReleased _ => true
  | .vauxLow _ mv => mv < 1500
  | .wakeNAsserted _ => true
  | .pathMonitorMeasurement _ x => x.length == 8
  | .timerFire _ _ => true
  | .txUnderrun _ _ => true
  | .rxOverrun _ _ => true
  | .sliceTransitionComplete _ _ => true
  | .synthLocked _ _ _ => true
  | .synthLockTimeout _ _ => true
  | .synthLockLost _ _ _ => true
  | .rampUpComplete _ _ => true
  | .guardTimeExpiry _ _ => true
  | .rampDownComplete _ _ => true
  | .fieldOffMinExpiry _ _ => true
  | .pressGrant _ => true
  | .pressTimeout _ _ => true
  | .dutyLimitReached _ _ => true
  | .portMismatch _ _ v => fits2 v
  | .paLoopFailure _ _ => true
  | .powerLoopMeasurement _ _ _ => true
  | .aerialIdSense _ x => x.length == 64
  | .transactionBoundary _ _ _ => true
  | .dpdLearning _ _ a p t e => a.length == 64 && p.length == 64 && t.length == 3 && fits2 e
  | .syncDetected _ _ _ _ _ x => fitsInt 2 x
  | .headerVerdict _ _ _ _ => true
  | .isoSofDetected _ _ _ x => fitsInt 2 x
  | .fastAgcBlock _ _ _ _ => true
  | .frameVerdict _ _ _ m e => m.wf && fits2 e
  | .receiveWindowClose _ _ => true
  | .busyWaitExpiry _ _ => true
  | .noiseMeasurement _ _ _ _ x => match x with | some l => l.length == 16 | none => true
  | .harvestGridTick _ _ => true
  | .tableAgeExpiry _ _ => true
  | .lensPulse _ _ _ => true
  | .lensConfirm _ _ _ => true
  | .z8FieldDetected t _ _ o => o ≤ t
  | .z8FieldGone _ _ => true
  | .trellisFrameStart _ => true
  | .timeLockChange _ _ _ _ => true
  | .syncInEdge _ _ => true
  | .syncInLoss _ => true
  | .holdoverExpiry _ => true
  | .wearMonitorTrip _ m _ _ => 1 ≤ m && m ≤ 12
  | .swapPrepared _ k _ => 1 ≤ k && k ≤ 7
  | .plannedSwap _ k _ _ => 1 ≤ k && k ≤ 7
  | .swapDeferExpiry _ k _ => 1 ≤ k && k ≤ 7
  | .emergencySwap _ k _ _ => k < 256
  | .dailySelfTest _ xs => xs.all fun e => 1 ≤ e.1 && e.1 ≤ 7
  | .evLost _ => true
  | .linkDown _ => true
  | .vauxReturn _ mv => 1500 ≤ mv
  | .crystalStable _ => true
  | .fwActivationRetry _ => true
  | .echoRequest _ _ _ _ => true
  | .neighborDiscovery _ _ _ _ => true
  | .ieee1588Message _ _ => true
  | .syncInterval _ => true

end Sys2Proof
end

