-- ==== Sys2Proof/Machine/Body.lean ====
section
/-!
DEFINITION. The body of a host command's item, written from the layouts of Tables 8-4, 8-5, 8-10 to 8-16 and 9-6: the other direction of
`parseItem`. The machine does not use it; statements and tests do.
-/

namespace Sys2Proof.Machine

/-- A flag byte from its bits, bit 0 first. -/
def flagByte (cs : List Bool) : Byte := b8 (natOfBits cs)

/-- A value record of ATTR_SET, filled to four bytes (Table 8-5). -/
def recBytes (r : AttrRec) : Bytes :=
  fit (recSize r) (le 2 r.id ++ le 2 r.index ++ [b8 r.type, b8 r.vals.length] ++ (r.vals.map (leI (elemSize r.type))).flatten)

/-- The prefix of a Hymond command (Table 8-12). -/
def preBytes (x : HyPre) : Bytes := le 2 x.handle ++ [b8 x.dl, b8 x.ul]

/-- A deduplication record (Table 9-6). -/
def dedupRecBytes (r : DedupRec) : Bytes :=
  r.ident ++ [b8 r.proto, b8 r.modul, b8 r.port, 0] ++ leI 2 r.strength ++ [0, 0] ++ le 8 r.ts

/-- The eight bytes of a loading map: sixteen nibbles, the low one of a byte first (R252). -/
def mapField (m : List Nat) : Bytes := (List.range 8).map fun i => b8 (nth m (2 * i) 0 + 16 * nth m (2 * i + 1) 0)

/-- The body of a host command, without the padding of its item. -/
def bodyOf : Instr → Bytes
  | .nop _ _ x => x
  | .attrGet _ _ st rs => [b8 rs.length, flagByte [st], 0, 0] ++ (rs.map fun r => le 2 r.1 ++ le 2 r.2).flatten
  | .attrSet _ _ rs => [b8 rs.length, 0, 0, 0] ++ (rs.map recBytes).flatten
  | .queueStatus _ _ m c => le 9 m ++ [flagByte [c], 0, 0]
  | .moduleReset _ _ c => le 4 c
  | .schedule _ _ a p due x => [b8 a, b8 p, 0, 0] ++ le 8 due ++ x
  | .portFlush _ _ m => le 8 m
  | .fwBegin _ _ n => le 4 n ++ zeros 4
  | .fwData _ _ off x => le 4 off ++ le 2 x.length ++ [0, 0] ++ x
  | .fwActivate _ _ w => [b8 w, 0, 0, 0]
  | .calibrateRadio _ _ m => [b8 m, 0, 0, 0]
  | .measureNoise _ _ m => le 8 m
  | .mirrorTrain _ _ m us => le 8 m ++ le 2 us ++ [0, 0]
  | .isoRawFrame _ _ n r a c k kind us x =>
    le 2 n ++ [b8 r, flagByte [a, c, k, kind % 2 == 1, kind / 2 % 2 == 1]] ++ le 2 us ++ [0, 0] ++ x
  | .isoAAnticoll _ _ m w => [b8 m, flagByte [w], 0, 0]
  | .isoAActivate _ _ n => le 2 n ++ [0, 0]
  | .isoAHalt _ _ n => le 2 n ++ [0, 0]
  | .isoARats _ _ n c => le 2 n ++ [b8 c, 0]
  | .isoPps _ _ n a z => le 2 n ++ [b8 a, b8 z]
  | .isoBRequest _ _ a w => [b8 a, flagByte [w], 0, 0]
  | .isoBAnticoll _ _ a n m w x => [b8 a, b8 n, b8 m, flagByte [w, x]]
  | .isoBAttrib _ _ n c a z => le 2 n ++ [b8 c, 0, b8 a, b8 z, 0, 0]
  | .isoBHalt _ _ n => le 2 n ++ [0, 0]
  | .isoApdu _ _ n x => le 2 n ++ le 2 x.length ++ x
  | .isoDeselect _ _ n => le 2 n ++ [0, 0]
  | .isoForget _ _ n => le 2 n ++ [0, 0]
  | .isoVInventory _ _ a u sl qu l m k => [b8 a, flagByte [u, sl, qu], b8 l, b8 m] ++ le 8 k
  | .isoVCommand _ _ n c o w r g x => le 2 n ++ [b8 c, flagByte [o, w, r], b8 g, 0] ++ le 2 x.length ++ x
  | .isoVSelect _ _ n => le 2 n ++ [0, 0]
  | .isoVQuiet _ _ n => le 2 n ++ [0, 0]
  | .isoVResetReady _ _ n => le 2 n ++ [0, 0]
  | .hyRawFrame _ _ p type alive reply x => preBytes p ++ [b8 type, b8 alive, b8 reply, 0] ++ le 2 x.length ++ [0, 0] ++ x
  | .hyActivate _ _ ident w d u => ident ++ [flagByte [w], b8 d, b8 u, 0]
  | .hyRead _ _ p a n => preBytes p ++ le 2 a ++ le 2 n
  | .hyWrite _ _ p a x => preBytes p ++ le 2 a ++ le 2 x.length ++ x
  | .hySealedWrite _ _ p page g x => preBytes p ++ [b8 page, 0] ++ le 2 g ++ x
  | .hyPageStatus _ _ p page => preBytes p ++ [b8 page, 0, 0, 0]
  | .hyChallenge _ _ p k x => preBytes p ++ [b8 k, 0, 0, 0] ++ x
  | .hyHalt _ _ p => preBytes p
  | .hyRelease _ _ p => preBytes p
  | .hyResync _ _ p => preBytes p
  | .hyForget _ _ n => le 2 n ++ [0, 0]
  | .hyTreeSearch _ _ l m w x => [b8 l, b8 m, flagByte [w], 0] ++ x
  | .hySetMap _ _ n m => le 2 n ++ [0, 0] ++ mapField m
  | .harvestClear _ _ m => le 8 m
  | .harvestReadTable _ _ a n => le 2 a ++ [b8 n, 0]
  | .prismVector _ _ v => [b8 v, 0, 0, 0]
  | .planLoad _ _ a n off x => le 4 a ++ le 4 n ++ le 4 off ++ le 2 x.length ++ [0, 0] ++ x
  | .planActivate _ _ a due => le 4 a ++ zeros 4 ++ le 8 due
  | .calTone _ _ p c w due d => [b8 p, b8 c] ++ leI 2 w ++ zeros 4 ++ le 8 due ++ le 4 d
  | .calListen _ _ m due d a p => le 8 m ++ le 8 due ++ le 4 d ++ [b8 a, b8 p, 0, 0]
  | .dedupImport _ _ rs => [b8 rs.length, 0, 0, 0] ++ (rs.map dedupRecBytes).flatten
  | .caskInfo _ _ n => le 2 n ++ [0, 0]
  | .caskImport _ _ n k a x => le 2 n ++ le 2 k ++ le 8 a ++ le 2 x.length ++ [0, 0] ++ x
  | .caskGenerate _ _ n b a => le 2 n ++ le 2 b ++ le 8 a
  | .caskDerive _ _ n p a l x => le 2 n ++ le 2 p ++ le 8 a ++ [b8 l.length, b8 x.length, 0, 0] ++ l ++ x
  | .caskDestroy _ _ n => le 2 n ++ [0, 0]
  | .caskEncrypt _ _ n m iv x => le 2 n ++ [b8 m, 0] ++ iv ++ le 2 x.length ++ [0, 0] ++ x
  | .caskDecrypt _ _ n m iv x => le 2 n ++ [b8 m, 0] ++ iv ++ le 2 x.length ++ [0, 0] ++ x
  | .caskWrap _ _ n k => le 2 n ++ le 2 k
  | .attest _ _ n x => le 2 n ++ [0, 0] ++ x
  | .lifecycleSet _ _ l c => [b8 l, 0, 0, 0] ++ le 4 c
  | .debugOpenSet _ _ c => le 4 c
  | .credWrite _ _ n c k f => le 2 n ++ le 2 c ++ [b8 k, b8 f, 0, 0]
  | .credVerify _ _ n c k => le 2 n ++ le 2 c ++ [b8 k, 0, 0, 0]
  | .selfTest _ _ g => [b8 g, 0, 0, 0]
  | .captureArm _ _ b p k x n z => [b8 b, b8 p, b8 k, b8 x] ++ le 4 n ++ le 4 z
  | .captureRead _ _ b o n => [b8 b, 0, 0, 0] ++ le 4 o ++ le 4 n
  | .triggerArm _ _ n due ns => [b8 n, 0, 0, 0] ++ le 8 due ++ le 4 ns
  | .swapRequest _ _ k n => [b8 k, 0] ++ le 2 n
  | .wearRead _ _ m a n => [b8 m, 0] ++ le 2 a ++ [b8 n, 0, 0, 0]
  | .eventLogRead _ _ a n => le 2 a ++ [b8 n, 0]
  | .countersClear _ _ m l => le 8 m ++ [flagByte [l], 0, 0, 0]
  | _ => []

/-- The item of a host command under a check selector (Table 7-9). -/
def itemOf (sel : Nat) (i : Instr) : Bytes :=
  match cmdHead i with
  | none => []
  | some (op, h) => itemBytes sel { op := op, flags := bnat h.quiet, tag := h.tag, status := 0, body := bodyOf i }

/-- Whether the body of a command parses to the command itself. -/
def givesBack (i : Instr) (t : Nat) : Bool :=
  match cmdHead i with
  | none => false
  | some (op, h) => match parseItem t op 0 0 h (bodyOf i) with
    | .ok j => j == i
    | .error _ => false

end Sys2Proof.Machine
end

