-- ==== Sys2Proof/Safety.lean ====
section
/-!
DEFINITION. The terms in which claims about the block are stated: when a host command's turn comes, what a step may leave unchanged,
and what is programmed once.
-/

namespace Sys2Proof.Machine

/-! ### The turn of a host command (R360, R387, R411 to R414, R603) -/

/-- A command has been taken from the cable at tick `t`: the clock stands there, and the session's host has been heard (R360). -/
def taken (t : Nat) (s : State) : State :=
  let s := advance t s
  if s.link.session.isSome then heard s else s

/-- A command of opcode `op` taken at tick `t` has passed into the inbound ring of queue `q` (R396): a module in DOZE has been woken where the command
needs it (R344). -/
def entered (i : Instr) (t op q : Nat) (s : State) : State := passIn q (cmdCells i) (wakeFor op (taken t s))

/-- The state in which a command of opcode `op` on queue `q`, taken at tick `t`, does its work: it has passed through its ring, and a port at its
transaction boundary has crossed it (R57). -/
def atTurn (i : Instr) (t op q : Nat) (s : State) : State := beforeTurn q (entered i t op q s)

/-- The inbound ring of a command's queue has room for it (R381). -/
def hasRoom (i : Instr) (op : Nat) (h : Hdr) (t : Nat) (s : State) : Bool :=
  (inRing (wakeFor op (taken t s)) h.q).level + cmdCells i ≤ inCap h.q

/-- The turn of a host command comes as soon as it is taken: the module takes frames, the ring has room for it, nothing waits before the command in
its ring or for a commit that has ended, and checks 2 to 6 of R411 and the waits of R392, R412 and R414 leave it to run. The commands that overtake
are another matter (`overtakesNow`). -/
def turnComes (i : Instr) (t op : Nat) (h : Hdr) (s : State) : Bool :=
  let s0 := advance t s
  let s1 := atTurn i t op h.q s
  takesFrames s0 && h.q < 72 && queueOpen s0 h.q && hasRoom i op h t s && !overtakes op
    && (inRing (entered i t op h.q s) h.q).items.all RingEntry.isDone && !heldReady (entered i t op h.q s) h.q
    && turnOf s1 op h.q (some i) == .run && (cmdFault i op h s1).isNone

/-- The state in which a command that overtakes does its work: it has been taken at tick `t` and has passed into the ring of queue `q`. -/
def ahead (i : Instr) (t q : Nat) (s : State) : State := passIn q (cmdCells i) (taken t s)

/-- A command that overtakes acts as soon as it is taken (R603): the module takes frames and is in SERVICE with the host heard, the supervisor of its
queue does not stall (R392), and no other overtaking command stands in the ring. -/
def overtakesNow (i : Instr) (t op : Nat) (h : Hdr) (s : State) : Bool :=
  let s1 := ahead i t h.q s
  takesFrames (advance t s) && hasRoom i op h t s && overtakes op && canOvertake s1 h.q && !stalled s1 h.q && !((inRing s1 h.q).items.any overtaker) && (cmdFault i op h s1).isNone

/-- Nothing waits on a port that it would do by itself: no pass, no HARVEST_START, no grid tick, no FIELD_OFF, no DOZE_ENTER, no field to let
fall, and no command whose wait by R278 has ended. -/
def waitsForNothing (s : State) (p : Nat) : Bool :=
  let x := port s p
  x.pass.isNone && x.starts.isEmpty && !x.gridDue && x.radio.offHdrs.isEmpty && s.mod.dozeHdr.isNone && !x.radio.fallDue
    && !(x.parked.any fun k => k.waited && !k.task.ofPass)

/-! ### Frames -/

/-- `t` differs from `s` at most in the outbound rings and the recorder: what sending items may change. -/
def OnlySent (s t : State) : Prop := { t with outRings := s.outRings, ev := s.ev } = s

/-- The opcodes whose body has a part of counted length (R411, check 4). -/
def counted (op : Nat) : Bool := [0x00, 0x03, 0x04, 0x0D, 0x11, 0x40, 0x4A, 0x51, 0x60, 0x63, 0xA0, 0xA5, 0xC1, 0xC3, 0xC5, 0xC6].contains op

/-! ### What every step keeps -/

/-- The parts of the module that are fixed in number are all there: 64 ports, 72 slices, 256 timers, 72 rings in each direction and 12 rails,
and the event log holds at most 1024 events (Table 1-1, R35, R389, R545, R552). -/
def WellShaped (s : State) : Prop :=
  s.ports.length = 64 ∧ s.slices.length = 72 ∧ s.timers.length = 256 ∧ s.inRings.length = 72 ∧ s.outRings.length = 72
    ∧ s.power.rails.length = 12 ∧ s.ev.log.length ≤ 1024

end Sys2Proof.Machine
end

