-- ==== Sys2Proof/Certificates/Slice0/Obligations.lean ====
section
/-!
DEFINITION. The statements about the block. `atTurn`, `turnComes` and `overtakesNow` (Sys2Proof/Safety.lean) say when a host command runs.
Where a statement rests on a choice of the model and not on the words of the spec, its text names the log entry (notes/assumptions).
-/

open Sys2Proof Sys2Proof.Machine

/-! ### Steps, reset, the turn of a command -/

/-- A step takes the command at the front of the queue and runs it with the rest of the queue; on an empty queue the block idles, which is the model's
choice (log entry 2). -/
def Obligations.StepRunsTheFrontCommand : Prop :=
  (∀ (c : Instr) (s : State), step { s with pending := c :: s.pending } = exec c s)
    ∧ ∀ s : State, s.pending = [] → step s = .next s

/-- What reset leaves where the spec gives the value: BOOT with the clock at 0, the timing bank unarmed, the link down without a session, an empty
running configuration (every attribute at its default), empty rings, no recorded event, every field off and no task. Choices of the model that it
rests on: log entry 6. -/
def Obligations.ResetLeavesTheStatedValues : Prop :=
  let s := State.reset
  s.now = 0 ∧ s.pending = [] ∧ s.timeOff = 0 ∧ s.mod.st = .boot
    ∧ (∀ n < 256, (timer s n).armed = false) ∧ (∀ p < 64, (port s p).radio.phase = .off ∧ (port s p).task = none ∧ (port s p).pass = none)
    ∧ (∀ q < 72, (inRing s q).items = [] ∧ (outRing s q).items = []) ∧ s.link.speed = 0 ∧ s.link.session = none
    ∧ s.cfg.running = [] ∧ s.cfg.staged = [] ∧ s.cfg.commitId = 0 ∧ s.ev.next = 0 ∧ s.ev.log = [] ∧ s.inv = []
    ∧ s.press.waiting = [] ∧ s.time.lock = 0 ∧ s.cluster.active = none ∧ s.nvm.sec.factory = true ∧ s.nvm.sec.retired = false
    ∧ s.nvm.sec.debugOpen = false

/-- The turn of a command of a system queue: it runs exactly when its queue is served by a supervisor that stalls in no push (R392), no earlier
command of the queue holds it back, its opcode is defined and carried by the queue, the module state runs it, Cellar answers where it is asked, and no
commit is in progress that it must wait for. Checks 2 and 3 of R411 come before every other: where the queue is served, its supervisor does not stall
and nothing holds the command back, an undefined opcode fails with E_OPCODE, and an opcode on a queue that does not carry it with E_WRONG_QUEUE. In
HALTED only the commands that R414 names for any state or for HALTED run; every other fails with E_MODULE_STATE and the state in ARG1. Choices of the
model that it rests on: log entries 5, 10, 11. -/
def Obligations.TurnOfACommand : Prop :=
  (
    ∀ (s : State) (op q : Nat) (i : Option Instr), 64 ≤ q →
      (turnOf s op q i = .run ↔
        queueOpen s q = true ∧ stalled s q = false ∧ sysWaits s q = false ∧ opDefined op = true ∧ queueTakes op q = true ∧ stateVerdict s op = .runs
          ∧ cellarWaits s op = false ∧ ¬ (s.cfg.committing.isSome = true ∧ 5 ≤ op ∧ op ≤ 7)))
  ∧ (
    ∀ (s : State) (op q : Nat) (i : Option Instr), queueOpen s q = true → stalled s q = false →
      (q < 64 → portBusy s q = false ∧ parkedBars s q i = false) → (64 ≤ q → sysWaits s q = false) →
      (opDefined op = false → turnOf s op q i = .fail E.opcode {})
        ∧ (opDefined op = true → queueTakes op q = false → turnOf s op q i = .fail E.wrongQueue {}))
  ∧ (
    ∀ (s : State) (op q : Nat) (i : Option Instr), s.mod.st = .halted → 64 ≤ q → queueOpen s q = true → stalled s q = false → sysWaits s q = false →
      opDefined op = true → queueTakes op q = true → runsAny op = false → runsHalted op = false →
      turnOf s op q i = .fail E.moduleState { arg1 := 5 })

/-- Sending a response changes the outbound rings and the recorder and nothing else; a ring other than the response's own and SQ2 keeps its items. A
command with QUIET that succeeds with an empty body is not answered; every other command is answered by one item on its own queue, which carries its
opcode, its TAG and its status. -/
def Obligations.ResponsesSendAndQuietIsSilent : Prop :=
  (
    ∀ (h : Hdr) (op status : Nat) (body : Bytes) (s : State),
      OnlySent s (respond h op status body s)
        ∧ ∀ q, q ≠ h.q → q ≠ sq2 → outRing (respond h op status body s) q = outRing s q)
  ∧ (
    ∀ (h : Hdr) (op status : Nat) (body : Bytes) (s : State),
      (h.quiet = true → status = 0 → body = [] → respond h op status body s = s)
        ∧ (¬ (h.quiet = true ∧ status = 0 ∧ body = []) →
            respond h op status body s = send h.q { op := op, flags := 0, tag := h.tag, status := status, body := body } s))

/-! ### System commands (Table 8-4, R405, R413 to R428) -/

/-- NOP answers with the body it came with; MODULE_INFO, MODULE_STATE, TIME_READ and FW_STATUS answer with the records of Table 8-4, from the state of
their turn. ATTR_GET whose every request can be answered answers with the value records, in order and packed into items (R423, R425). Choices of the
model that it rests on: log entries 5, 59. -/
def Obligations.ReportsAnswer : Prop :=
  (
    ∀ (t : Nat) (h : Hdr) (s : State),
      (∀ body, turnComes (.nop t h body) t 0x00 h s = true →
        exec (.nop t h body) s = .next (ok h 0x00 body (atTurn (.nop t h body) t 0x00 h.q s)))
      ∧ (turnComes (.moduleInfo t h) t 0x01 h s = true →
        let u := atTurn (.moduleInfo t h) t 0x01 h.q s
        exec (.moduleInfo t h) s = .next (ok h 0x01 (le 8 u.nvm.serial ++ le 6 u.nvm.mac
          ++ [b8 u.moduleId, b8 u.mod.st.code, b8 (lifeCycle u), b8 (bnat u.nvm.sec.debugOpen), b8 u.nvm.profile, b8 u.nvm.active]
          ++ le 2 (fwVersion u) ++ le 2 u.nvm.hwRevision ++ le 4 u.nvm.bootCount ++ zeros 4) u))
      ∧ (turnComes (.moduleState t h) t 0x02 h s = true →
        let u := atTurn (.moduleState t h) t 0x02 h.q s
        exec (.moduleState t h) s = .next (ok h 0x02 ([b8 u.mod.st.code, 0] ++ le 2 u.nvm.haltCause ++ leI 8 u.mod.entered) u))
      ∧ (turnComes (.timeRead t h) t 0x0C h s = true →
        let u := atTurn (.timeRead t h) t 0x0C h.q s
        exec (.timeRead t h) s = .next (ok h 0x0C (leI 8 (ts u) ++ le 8 (u.now % 2 ^ 48) ++ [b8 u.time.lock, 0, 0, 0]) u))
      ∧ (turnComes (.fwStatus t h) t 0x14 h s = true →
        let u := atTurn (.fwStatus t h) t 0x14 h.q s
        let one := fun (i : Nat) => le 2 (nth u.nvm.images i {}).version ++ [b8 (nth u.nvm.images i {}).state, 0] ++ le 4 (nth u.nvm.images i {}).size
        exec (.fwStatus t h) s = .next (ok h 0x14 (one 0 ++ one 1) u)))
  ∧ (
    ∀ (t : Nat) (h : Hdr) (staged : Bool) (reqs : List (Nat × Nat)) (s : State),
      let u := atTurn (.attrGet t h staged reqs) t 0x03 h.q s
      turnComes (.attrGet t h staged reqs) t 0x03 h s = true → attrGetBad u h.q staged 0 reqs = none →
      exec (.attrGet t h staged reqs) s = .next (respondParts h 0x03
        ((packRecs 1388 [] (reqs.flatMap fun r => match attrRequest u h.q staged r.1 r.2 with | .inr xs => xs | .inl _ => [])).map
          fun rs => [b8 rs.length, 0, 0, 0] ++ rs.flatten) { u with free := u.free + 1 }))

/-- QUEUE_STATUS answers with one record for each named ring, and with CLEAR leaves the latched flags of the named rings at 0 and PEAK at LEVEL, but
for the rings its own answer and an event may go to (R398). PORT_FLUSH leaves the rings of the named ports empty and no HARVEST_START waiting on them
(R419). Choices of the model that it rests on: log entries 5, 62. -/
def Obligations.QueuesAreReportedAndFlushed : Prop :=
  (
    ∀ (t : Nat) (h : Hdr) (mask : Nat) (s : State),
      (turnComes (.queueStatus t h mask false) t 0x0A h s = true →
        let u := atTurn (.queueStatus t h mask false) t 0x0A h.q s
        exec (.queueStatus t h mask false) s = .next (respondList h 0x0A 12
          (((List.range 72).filter (bit mask)).map fun q => [b8 q, 0, 0, 0] ++ le 4 (statusIn u q) ++ le 4 (statusOut u q)) u))
      ∧ (turnComes (.queueStatus t h mask true) t 0x0A h s = true →
        let u := atTurn (.queueStatus t h mask true) t 0x0A h.q s
        ∃ v, exec (.queueStatus t h mask true) s = .next v
          ∧ ∀ q < 72, bit mask q = true → (q < u.inRings.length → (inRing v q).flags = clearFlags (inRing u q).level)
            ∧ (q ≠ h.q → q ≠ sq2 → q < u.outRings.length → (outRing v q).flags = clearFlags (outRing u q).level)))
  ∧ (
    ∀ (t : Nat) (h : Hdr) (mask : Nat) (s : State), turnComes (.portFlush t h mask) t 0x0E h s = true →
      ∃ v, exec (.portFlush t h mask) s = .next v
        ∧ ∀ p < 64, bit mask p = true → (inRing v p).items = [] ∧ (port v p).starts = [])

/-- ATTR_SET stages every record or none: where every record passes, the staged configuration takes each value and an empty answer goes out; where one
fails, the failure is answered and nothing but the rings and the recorder changes. CONFIG_DISCARD sets the staged configuration to the running one;
CONFIG_SAVE copies the running configuration, defaults included, to NVM under the next saved ID, and answers the commit ID (R428). CONFIG_COMMIT of a
staged configuration that fails a check of Table 8-7 changes nothing but the rings and the recorder; one that passes and affects no port is in force
at once under the next commit ID. Choices of the model that it rests on: log entries 5, 34, 35, 36. -/
def Obligations.ConfigurationIsStagedAndCommitted : Prop :=
  (
    ∀ (t : Nat) (h : Hdr) (recs : List AttrRec) (s : State),
      let u := atTurn (.attrSet t h recs) t 0x04 h.q s
      turnComes (.attrSet t h recs) t 0x04 h s = true →
      (attrSetBad 0 recs = none →
        exec (.attrSet t h recs) s = .next (ok h 0x04 [] { u with cfg := { u.cfg with staged := recs.foldl stageRec u.cfg.staged } }))
      ∧ (attrSetBad 0 recs ≠ none → ∃ v, exec (.attrSet t h recs) s = .next v ∧ OnlySent u v))
  ∧ (
    ∀ (t : Nat) (h : Hdr) (s : State),
      (turnComes (.configDiscard t h) t 0x06 h s = true →
        let u := atTurn (.configDiscard t h) t 0x06 h.q s
        exec (.configDiscard t h) s = .next (ok h 0x06 [] { u with cfg := { u.cfg with staged := u.cfg.running } }))
      ∧ (turnComes (.configSave t h) t 0x07 h s = true →
        let u := atTurn (.configSave t h) t 0x07 h.q s
        exec (.configSave t h) s = .next (ok h 0x07 (le 4 u.cfg.commitId)
          { u with nvm := { u.nvm with saved := withDefaults u u.cfg.running, savedId := (u.nvm.savedId + 1) % 2 ^ 32 } })))
  ∧ (
    ∀ (t : Nat) (h : Hdr) (s : State),
      let u := atTurn (.configCommit t h) t 0x05 h.q s
      let new := roundCfg u.cfg.staged
      turnComes (.configCommit t h) t 0x05 h s = true → changedKeys u u.cfg.running new ≠ [] →
      ((commitError u new ≠ none → ∃ v, exec (.configCommit t h) s = .next v ∧ OnlySent u v)
      ∧ (commitError u new = none → affected u u.cfg.running new (changedKeys u u.cfg.running new) = [] →
          ∃ v, exec (.configCommit t h) s = .next v ∧ v.cfg.running = new ∧ v.cfg.staged = new ∧ v.cfg.committing = none
            ∧ v.cfg.commitId = (u.cfg.commitId + 1) % 2 ^ 32)))

/-- MODULE_RESET with its confirmation word is answered, and the reset is due with cause 4; with another word it fails and nothing else happens. The
reset that has been answered takes place once its answer has left: the module is in POWER_UP with the cause, the session, the rings, the
configuration, the ports and the events are gone, and NVM's security state (of which only the image floor may rise, where an image is marked for the
next start), its saved configuration and fault map and what waits outside stay. Choices of the model that it rests on: log entries 5, 19, 28. -/
def Obligations.ModuleResets : Prop :=
  (
    ∀ (t : Nat) (h : Hdr) (confirm : Nat) (s : State),
      let u := atTurn (.moduleReset t h confirm) t 0x0B h.q s
      turnComes (.moduleReset t h confirm) t 0x0B h s = true →
      (confirm = 0x5A4A0B0B →
        exec (.moduleReset t h confirm) s = .next (ok h 0x0B [] { u with mod := { u.mod with resetDue := 4, resetQ := h.q } }))
      ∧ (confirm ≠ 0x5A4A0B0B → ∃ v, exec (.moduleReset t h confirm) s = .next v ∧ OnlySent u v))
  ∧ (
    ∀ (t : Nat) (s : State), s.mod.resetDue ≠ 0 → answerWaits s = false → s.mod.st ≠ .powerUp →
      ∃ v, exec (.moduleResetExecute t) s = .next v ∧ v.mod.st = .powerUp ∧ v.mod.resetCause = s.mod.resetDue
        ∧ v.cfg = {} ∧ v.link = {} ∧ v.ev = {} ∧ v.inRings = List.replicate 72 {} ∧ v.outRings = List.replicate 72 {}
        ∧ v.ports = List.replicate 64 {} ∧ v.inv = [] ∧ v.nvm.sec = { s.nvm.sec with svnFloor := v.nvm.sec.svnFloor }
        ∧ s.nvm.sec.svnFloor ≤ v.nvm.sec.svnFloor ∧ (s.nvm.markNext = none → v.nvm.sec = s.nvm.sec) ∧ v.nvm.saved = s.nvm.saved
        ∧ v.nvm.faultMap = s.nvm.faultMap ∧ v.pending = s.pending ∧ v.pins = s.pins)

/-- SCHEDULE of an action that exists sets it to an embedded command that passes the checks, at a time at least 100 µs away, and DUE 0 clears it
(R417). A scheduled action whose time has come leaves the list, and, where its ring has room,
no host is lost and no reset is due, its command joins its port's order as though it had arrived then (R418). Choices
of the model that it rests on: log entries 1, 4. -/
def Obligations.ScheduledActions : Prop :=
  (
    ∀ (t : Nat) (h : Hdr) (action p due : Nat) (item : Bytes) (s : State),
      let u := atTurn (.schedule t h action p due item) t 0x0D h.q s
      let others := u.diag.scheds.filter fun x => x.action != action
      turnComes (.schedule t h action p due item) t 0x0D h s = true → action < mAttrN u A.moduleSchedCount →
      (due = 0 → exec (.schedule t h action p due item) s = .next (ok h 0x0D [] { u with diag := { u.diag with scheds := others } }))
      ∧ (due ≠ 0 → ts u + 100000 ≤ (due : Int) → (∃ i, embedded t p item u = .ok i) →
          exec (.schedule t h action p due item) s = .next (ok h 0x0D []
            { u with diag := { u.diag with scheds := others ++ [⟨action, p, due, item⟩] } })))
  ∧ (
    ∀ (t : Nat) (x : Sched) (i : Instr) (op : Nat) (h : Hdr) (s : State),
      let u := advance t s
      (s.diag.scheds.find? fun y => y.action == x.action) = some x → s.mod.st ≠ .halted → tickOf s x.due ≤ u.now →
      embedded u.now x.port x.item u = .ok i → cmdHead i = some (op, h) → (inRing s x.port).level + cmdCells i ≤ inCap x.port →
      s.link.hostLost = false → s.mod.resetDue = 0 →
      exec (.scheduledActionDue t x.action) s
        = .next (arrive i op h { u with diag := { u.diag with scheds := u.diag.scheds.filter fun y => y.action != x.action } }))

/-- DOZE_ENTER is noted, cancels the HARVEST_STARTs that wait and the passes, and lets each port go on. On a module at rest it is noted and nothing
but slices and Press changes. DOZE_ENTERED, once nothing runs on any port, leaves the module in DOZE with every slice in SLEEP and DOZE_ENTER answered
(R342); while something runs it changes nothing, and where a wake stands it leaves DOZE at once. WAKE_N with VAUX at 1.5 V or more brings the module
out of DOZE, and the wake takes the assertion; on ports at rest nothing runs after it, and of each such port only QD changes, to where port.qd.mode
has it. Elsewhere the assertion only stands (R344, R572). Choices of the model that it rests on: log entries 4, 24, 40. -/
def Obligations.DozeIsEnteredAndLeft : Prop :=
  (
    ∀ (t : Nat) (h : Hdr) (s : State), turnComes (.dozeEnter t h) t 0x08 h s = true →
      let u := atTurn (.dozeEnter t h) t 0x08 h.q s
      let noted : State := { u with mod := { u.mod with dozeHdr := some h } }
      exec (.dozeEnter t h) s = .next ((List.range 64).foldl (fun s p =>
          let v := flushStarts p E.cancelled s
          goOn p (if (port v p).pass.isSome then stopPass p E.cancelled v else v)) noted)
      ∧ ((∀ p < 64, waitsForNothing u p = true ∧ (port u p).task.isSome = true) → exec (.dozeEnter t h) s = .next noted)
      ∧ (u.cfg.committing = none → (∀ p < 64, waitsForNothing u p = true ∧ (port u p).task = none ∧ (port u p).parked = []
            ∧ (port u p).radio.phase = .off ∧ (port u p).radio.want = none ∧ (port u p).newCommit = false) →
          ∃ v, exec (.dozeEnter t h) s = .next v ∧ { v with slices := u.slices, press := u.press } = noted))
  ∧ (
    ∀ (t : Nat) (h : Hdr) (s : State), s.mod.dozeHdr = some h → s.mod.st = .service →
      let u := advance t s
      (allQuiet s = true → ¬ (s.pins.wakeN = true ∧ 1500 ≤ s.pins.vauxMv) →
        ∃ v, exec (.dozeEntered t) s = .next v ∧ v.mod.st = .doze ∧ v.mod.dozeHdr = none ∧ (∀ x ∈ v.slices, x.st = .sleep)
          ∧ v.outRings = (ok h 0x08 [] (moveTo .doze 0 { u with mod := { u.mod with dozeHdr := none } })).outRings)
      ∧ (allQuiet s = true → s.pins.wakeN = true → 1500 ≤ s.pins.vauxMv →
        ∃ v : State, v.mod.st = .doze ∧ v.mod.dozeHdr = none ∧ (∀ x ∈ v.slices, x.st = .sleep)
          ∧ exec (.dozeEntered t) s = .next (dozeExit { v with pins := { v.pins with wakeN := false } }))
      ∧ (allQuiet s = false → exec (.dozeEntered t) s = .next u))
  ∧ (
    ∀ (t : Nat) (s : State),
      let u := advance t s
      (s.mod.st = .doze → 1500 ≤ s.pins.vauxMv →
        exec (.wakeNAsserted t) s = .next (dozeExit { u with pins := { s.pins with wakeN := false } })
        ∧ (s.mod.dozeHdr = none →
            (∀ p < 64, waitsForNothing s p = true ∧ (port s p).task = none ∧ (port s p).parked = [] ∧ (port s p).air.tx = none) →
            ∃ v, exec (.wakeNAsserted t) s = .next v ∧ v.mod.st = .service ∧ v.pins.wakeN = false
              ∧ ∀ p < 64, p < s.ports.length → port v p = { port s p with radio := { (port s p).radio with qdDamped := pAttr s A.qdMode p == 1 } }))
      ∧ (¬ (s.mod.st = .doze ∧ 1500 ≤ s.pins.vauxMv) →
        exec (.wakeNAsserted t) s = .next { u with pins := { s.pins with wakeN := true } }))

/-- FW_BEGIN opens the slot that is not active; FW_DATA within an open load writes its chunk there, with no load open it fails with E_FW_SEQUENCE and
beyond the size with E_RANGE. FW_VERIFY of an image that verifies marks it and answers its version, one verified before whose SVN has since fallen
below the floor fails, and of another fails and marks it as failed where it is complete. FW_ACTIVATE with WHEN 1 marks a verified image for the next
start; with WHEN 0, and FW_ROLLBACK to an image at or above the floor, ask every port to hold in SERVICE, and in HALTED answer and reset into the
image; an image that is not verified fails with E_FW_SEQUENCE. Once all 64 ports hold and no life-cycle change runs, the other image becomes the
active one, the security core restarts, the ports resume, the command is answered and EV_FIRMWARE is raised. At the hold timeout the held ports
resume; before the tenth try the activation is tried again after 100 ms, and at the tenth the command fails with E_PORT_BUSY and the first port that
did not hold. The retry asks every port to hold anew (R546). Choices of the model that it rests on: log entries 5, 21, 52. -/
def Obligations.FirmwareIsLoadedAndActivated : Prop :=
  (
    ∀ (t : Nat) (h : Hdr) (s : State),
      (∀ size, turnComes (.fwBegin t h size) t 0x10 h s = true →
        let u := atTurn (.fwBegin t h size) t 0x10 h.q s
        exec (.fwBegin t h size) s = .next (ok h 0x10 [b8 (otherSlot u), 0, 0, 0] { u with
          nvm := { u.nvm with markNext := none, images := upd u.nvm.images (otherSlot u) fun _ => { state := 1, size := size } }, fwOpen := true }))
      ∧ (∀ off data, turnComes (.fwData t h off data) t 0x11 h s = true →
        let u := atTurn (.fwData t h off data) t 0x11 h.q s
        let size := (nth u.nvm.images (otherSlot u) {}).size
        (u.fwOpen = true → off + data.length ≤ size → exec (.fwData t h off data) s = .next (ok h 0x11 [] { u with
          nvm := { u.nvm with images := upd u.nvm.images (otherSlot u) fun x => { x with state := 1, chunks := (off, data) :: x.chunks } } }))
        ∧ (u.fwOpen = false → exec (.fwData t h off data) s = .next (fail h 0x11 E.fwSequence {} u))
        ∧ (u.fwOpen = true → size < off + data.length → exec (.fwData t h off data) s = .next (failRange h 0x11 8 u)))
      ∧ (turnComes (.fwVerify t h) t 0x12 h s = true →
        let u := atTurn (.fwVerify t h) t 0x12 h.q s
        let x := nth u.nvm.images (otherSlot u) {}
        let v := num (x.bytes.getD []) 4 2
        let marked := fun (f : Image → Image) => { u.nvm with images := upd u.nvm.images (otherSlot u) f }
        (x.state = 2 → u.nvm.sec.svnFloor ≤ x.svn → exec (.fwVerify t h) s = .next (ok h 0x12 (le 2 x.version ++ [0, 0]) u))
        ∧ (x.state = 2 → x.svn < u.nvm.sec.svnFloor → exec (.fwVerify t h) s = .next (fail h 0x12 E.fwImage {} u))
        ∧ (x.state ≠ 2 → exec (.fwVerify t h) s = .next (match verifyError u x with
          | none => ok h 0x12 (le 2 v ++ [0, 0]) { u with nvm := marked fun x => { x with state := 2, version := v }, fwOpen := false }
          | some code => fail h 0x12 code {} (if x.bytes.isNone then u else { u with nvm := marked fun x => { x with state := 4 } }))))
      ∧ (∀ w, turnComes (.fwActivate t h w) t 0x13 h s = true →
        let u := atTurn (.fwActivate t h w) t 0x13 h.q s
        let x := nth u.nvm.images (otherSlot u) {}
        (x.state ≠ 2 → exec (.fwActivate t h w) s = .next (fail h 0x13 E.fwSequence {} u))
        ∧ (x.state = 2 → w = 1 →
          exec (.fwActivate t h w) s = .next (ok h 0x13 [] { u with nvm := { u.nvm with markNext := some (otherSlot u) } }))
        ∧ (x.state = 2 → w = 0 → u.mod.st = .service →
          exec (.fwActivate t h w) s = .next (askHolds { u with act := some ⟨h, false, 0, none, 0, 0, none⟩ }))
        ∧ (x.state = 2 → w = 0 → u.mod.st = .halted → exec (.fwActivate t h w) s = .next (ok h 0x13 [] { u with
            mod := { u.mod with resetDue := 5, resetQ := h.q, fwNews := [(1, otherSlot u)] },
            nvm := { u.nvm with markNext := some (otherSlot u) } })))
      ∧ (turnComes (.fwRollback t h) t 0x15 h s = true →
        let u := atTurn (.fwRollback t h) t 0x15 h.q s
        let x := nth u.nvm.images (otherSlot u) {}
        (x.state ≠ 2 → exec (.fwRollback t h) s = .next (fail h 0x15 E.fwSequence {} u))
        ∧ (x.state = 2 → x.svn < u.nvm.sec.svnFloor → exec (.fwRollback t h) s = .next (fail h 0x15 E.fwImage {} u))
        ∧ (x.state = 2 → u.nvm.sec.svnFloor ≤ x.svn → u.mod.st = .service →
          exec (.fwRollback t h) s = .next (askHolds { u with act := some ⟨h, true, 0, none, 0, 0, none⟩ }))
        ∧ (x.state = 2 → u.nvm.sec.svnFloor ≤ x.svn → u.mod.st = .halted → exec (.fwRollback t h) s = .next (ok h 0x15 [] { u with
            mod := { u.mod with resetDue := 5, resetQ := h.q, fwNews := [(2, otherSlot u)] },
            nvm := { u.nvm with markNext := some (otherSlot u) } }))))
  ∧ (
    ∀ (t : Nat) (a : Activation) (s : State), s.act = some a →
      let u := advance t s
      let op := if a.rollback then 0x15 else 0x13
      (a.retryAt = none → (portsOf a.held).length = 64 → s.cellar.change = none →
        let v := ok a.hdr op [] { releaseFw (restartCore (activateImage (otherSlot u) u)) with act := none }
        exec (.fwPortsHeld t) s = .next (raise Ev.firmware 0xFF (fwArgs v (if a.rollback then 2 else 1) (otherSlot u)) v))
      ∧ (∀ f, a.firstHold = some f → a.retryAt = none → (portsOf a.held).length ≠ 64 → f + fwHoldTicks u ≤ u.now →
        (a.tries < 9 → exec (.fwHoldTimeout t) s = .next { releaseFw u with
          act := some { a with held := 0, since := 0, firstHold := none, tries := a.tries + 1, retryAt := some (u.now + 2712000) } })
        ∧ (9 ≤ a.tries → exec (.fwHoldTimeout t) s = .next (fail a.hdr op E.portBusy
          { port := ((List.range 64).find? fun p => !bit a.held p).getD 0 } { releaseFw u with act := none })))
      ∧ (∀ r, a.retryAt = some r → r ≤ u.now →
        exec (.fwActivationRetry t) s = .next (askHolds { u with act := some { a with retryAt := none, held := 0, since := 0, firstHold := none } })))

/-! ### Fields (R65, R78 to R81, R113, R603) -/

/-- FIELD_ON on a port whose field is on is answered at once. Where the field is off, the command runs and asks for it; it fails at once exactly where
the request does, and with its code. A port without a field whose request nothing bars: the request is noted with the tick of the command, the slices
of its group take their set powers and are sent to LISTEN, and Press is asked for the set power of the group (R78, R113). FIELD_OFF overtakes. On a
port that runs nothing and has no field it withdraws the port's request and is answered; on a port whose field is on and that runs nothing the field
starts its ramp down and the command waits for its end. Choices of the model that it rests on: log entries 5, 12, 39. -/
def Obligations.FieldsAreAskedFor : Prop :=
  (
    ∀ (t : Nat) (h : Hdr) (s : State), turnComes (.fieldOn t h) t 0x20 h s = true →
      let u := atTurn (.fieldOn t h) t 0x20 h.q s
      let w := modPort h.q (fun x => { x with task := some { hdr := h, op := 0x20, proc := .fieldOn } }) u
      ((port u h.q).radio.phase = .on → exec (.fieldOn t h) s = .next (ok h 0x20 [] u))
      ∧ ((port u h.q).radio.phase ≠ .on → (askField h.q w).1 = none → exec (.fieldOn t h) s = .next (askField h.q w).2)
      ∧ (∀ code d, (port u h.q).radio.phase ≠ .on → (askField h.q w).1 = some (code, d) →
        exec (.fieldOn t h) s = .next (settle h.q (taskFail h.q code d (askField h.q w).2))))
  ∧ (
    ∀ (p : Nat) (s : State), fieldBar s p = none → (port s p).radio.phase = .off → (port s p).radio.want = none → offRun s p = false →
      let v := modRadio p (fun r => { r with want := some ⟨false, false, s.now, true⟩ }) s
      let w := (group v p).foldl (fun s q => aim q .listen (modRadio q (fun r => { r with power := pAttr s A.txPowerCdbm q }) s)) v
      (pressAsk p (fieldMw w w.cfg.running p) .field w).1 = false →
      askField p s = (none, (pressAsk p (fieldMw w w.cfg.running p) .field w).2))
  ∧ (
    ∀ (t : Nat) (h : Hdr) (s : State), overtakesNow (.fieldOff t h) t 0x21 h s = true →
      let u := ahead (.fieldOff t h) t h.q s
      waitsForNothing u h.q = true → (port u h.q).task = none → (port u h.q).parked = [] → u.cfg.committing = none →
      (port u h.q).newCommit = false → h.q < u.ports.length →
      ((port u h.q).radio.phase = .off → (port u h.q).radio.want = none →
        exec (.fieldOff t h) s = .next (settleIn h.q (ok h 0x21 [] (settle h.q (pressDrop h.q u)))))
      ∧ ((port u h.q).radio.phase = .on →
        ∃ v, exec (.fieldOff t h) s = .next v ∧ (port v h.q).radio.phase = .falling false ∧ (port v h.q).radio.offHdrs = [h]
          ∧ v.outRings = u.outRings))

/-- Press grants a request, of the port's priority or of one given, at once exactly when it becomes the head of the order and fits; with a timeout of
0 it else fails at once, and with another it waits in the order (R114, R115). PRESS_GRANT grants the head of the order when it fits, and none other;
PRESS_TIMEOUT of a field's request takes it out and fails the command that waits (R114, R115). Choices of the model that it rests on: log entries 4,
38. -/
def Obligations.PressGrantsInOrder : Prop :=
  (
    ∀ (prio p mw : Nat) (kind : ReqKind) (s : State),
      let r : PressReq := ⟨p, mw, prio, s.now, s.now + usT (pAttrN s A.pressTimeoutUs p), kind⟩
      let q := reqInsert r s.press.waiting
      let asked : State := { s with press := { s.press with waiting := q } }
      pressAsk p mw kind s = pressAskAt (pAttrN s A.pressPriority p) p mw kind s
      ∧ (q.head? = some r → pressFits s mw = true → pressAskAt prio p mw kind s = (false, grant r asked))
      ∧ (¬ (q.head? = some r ∧ pressFits s mw = true) → pAttrN s A.pressTimeoutUs p = 0 → pressAskAt prio p mw kind s = (true, s))
      ∧ (¬ (q.head? = some r ∧ pressFits s mw = true) → pAttrN s A.pressTimeoutUs p ≠ 0 → pressAskAt prio p mw kind s = (false, asked)))
  ∧ (
    ∀ (t : Nat) (s : State) (r : PressReq) (rest : List PressReq),
      let u := advance t s
      (s.press.waiting = r :: rest → pressFits s r.mw = true → r.kind ≠ .raise → exec (.pressGrant t) s = .next (noteSkipped (grant r u)))
      ∧ (s.press.waiting = r :: rest → pressFits s r.mw = false → exec (.pressGrant t) s = .next (noteSkipped u))
      ∧ (∀ p : PortNo, (s.press.waiting.find? fun x => x.port == p.val && x.deadline ≤ u.now) = some r → r.kind = .field →
        let w := modRadio p (fun x => { x with want := none }) { u with press := { u.press with waiting := u.press.waiting.filter (· != r) } }
        (port w p).task.isSome = true →
        exec (.pressTimeout t p) s = .next (goOn p (settle p (taskFail p E.pressTimeout
          (pressDetail { u with press := { u.press with waiting := u.press.waiting.filter (· != r) } } p r.mw) w)))))

/-- RAMP_UP_COMPLETE on a rising field: every slice of its group is in FIELD and the guard time starts, and the command that asked for the field is
answered (R80). A field that has come up: on at the power it was asked for, with no request open and its duty span begun (R85), and the guard time of
R80 runs on T_A from now. The guard time
ends no earlier than its tick: then it is over, and a downlink that waits goes (R80). Choices of the model that it rests on: log entry 4. -/
def Obligations.FieldComesUp : Prop :=
  (
    ∀ (t : Nat) (p : PortNo) (s : State), (port s p).radio.phase = .rising →
      let u := advance t s
      let w := fieldUp p u
      let x := tellBack p (if (port w p).prism.calibrated then w else prismCal p w)
      exec (.rampUpComplete t p) s = .next (noteSkipped (goOn p (lateChannel p (calStepDone p 0 0
        (match (port x p).task with | some { proc := .fieldOn, .. } => taskOk p [] x | _ => x))))))
  ∧ (
    ∀ (p : Nat) (s : State), p < s.ports.length → members s p = [] → 3 * p < s.timers.length →
      let v := fieldUp p s
      (port v p).radio.phase = .on ∧ (port v p).radio.want = none ∧ (port v p).radio.power = (port s p).radio.power
        ∧ ((sliceAt s p).st ≠ .field → (port v p).radio.onSince = some s.now) ∧ (port v p).radio.guardUntil = some (s.now + guardTicks s p)
        ∧ timer v (tA p) = { timer s (tA p) with armed := true, mode := 0, action := 0, fire := s.now + guardTicks s p })
  ∧ (
    ∀ (t : Nat) (p : PortNo) (n : Nat) (s : State), (port s p).radio.guardUntil = some n →
      let u := advance t s
      (n ≤ u.now → exec (.guardTimeExpiry t p) s = .next (goOn p (kick p (modRadio p (fun r => { r with guardUntil := none }) u))))
      ∧ (u.now < n → exec (.guardTimeExpiry t p) s = .next u))

/-- RAMP_DOWN_COMPLETE of a field that comes back leaves the gap and begins it again on the channel that waits; of a field that does not, the field
has ended, and a port that runs nothing takes the commit that waits for it and goes on (R58, R65, R70). A field that has ended: no field, no grant, no
guard time, no handle, and the field-off minimum runs from now (R65, R81, R113, R197, R287). FIELD_OFF_MIN_EXPIRY lets a field that waits for it be
armed (R81). Choices of the model that it rests on: log entries 4, 34, 38. -/
def Obligations.FieldComesDown : Prop :=
  (
    ∀ (t : Nat) (p : PortNo) (s : State),
      let u := advance t s
      (∀ ch, (port s p).radio.phase = .falling true →
        let w := fieldDown p (modRadio p (fun r => { r with phase := .gap }) u)
        channelNow w p = some ch → runClosing w p = false →
        exec (.rampDownComplete t p) s = .next (noteSkipped (resumeField p (retune p ((port w p).radio.newChannel.getD ch)
          (modRadio p (fun r => { r with newChannel := none }) w)))))
      ∧ ((port s p).radio.phase = .falling false → (port (driveCommit [p.val] (fieldEnded p u)) p).task = none →
        exec (.rampDownComplete t p) s = .next (noteSkipped (goOn p (driveCommit [p.val] (fieldEnded p u))))))
  ∧ (
    ∀ (p : Nat) (s : State), p < s.ports.length → members s p = [] →
      let v := fieldEnded p s
      (port v p).radio.phase = .off ∧ (port v p).radio.grantMw = 0 ∧ (port v p).radio.guardUntil = none
        ∧ (port v p).radio.offUntil = some (s.now + usT (pAttrN s A.fieldOffMinUs p)) ∧ (port v p).radio.offHdrs = []
        ∧ (port v p).iso.handles = [] ∧ (port v p).hy.handles = [] ∧ (port v p).secBuf = none)
  ∧ (
    ∀ (t : Nat) (p : PortNo) (n : Nat) (s : State), (port s p).radio.offUntil = some n →
      let u := advance t s
      (n ≤ u.now → exec (.fieldOffMinExpiry t p) s = .next (noteSkipped (tryArm p (modRadio p (fun r => { r with offUntil := none }) u))))
      ∧ (u.now < n → exec (.fieldOffMinExpiry t p) s = .next (noteSkipped u)))

/-- What ends a field that is on, on a port that leads no set and is no member: a full duty window, a mismatch above 3.00 and a failed power loop
raise their event, where they have one, and fail the field with their code (R85, R90, R91). A measurement of the power loop on plain carrier moves the
drive against the error by at most 0.05 dB; during a downlink frame, a window, a Q-damping change or the
256 ticks after a change of the set's vector the loop is frozen (R87, R325). Choices of the model that it
rests on: log entries 4, 41. -/
def Obligations.FieldFailuresAndPower : Prop :=
  (
    ∀ (t : Nat) (p : PortNo) (s : State), (port s p).radio.phase = .on → leadIn s s.cfg.running p = none →
      let u := advance t s
      (∀ lim, dutyLimit u p = some lim → lim ≤ dutyTicks u p →
        exec (.dutyLimitReached t p) s = .next (goOn p (failField p E.dutyLimit { port := p }
          (raise Ev.dutyLimit p (le 2 (dutyTicks u p / 27120)) u))))
      ∧ (∀ vswr, 300 < vswr →
        exec (.portMismatch t p vswr) s = .next (goOn p (failField p E.portMismatch { port := p, arg1 := (vswr : Int) }
          (raise Ev.portMismatch p (le 2 vswr) (modRadio p (fun r => { r with vswr := vswr }) u)))))
      ∧ (∀ vswr, vswr ≤ 300 → exec (.portMismatch t p vswr) s = .next (modRadio p (fun r => { r with vswr := vswr }) u))
      ∧ ((port s p).radio.vswr ≤ 300 →
        exec (.paLoopFailure t p) s = .next (goOn p (failField p E.paLoop { port := p } (countWear 2 (sliceOf u p) u)))))
  ∧ (
    ∀ (t : Nat) (p : PortNo) (err : Int) (s : State), leadIn s s.cfg.running p = none → (port s p).radio.phase = .on →
      let moves := (∃ e, (port s p).air.txEnd = some e ∧ (advance t s).now < e) ∨ (port s p).air.win.isSome = true ∨ qdMoves (advance t s) p = true
        ∨ ∃ b, (port s p).prism.movedAt = some b ∧ (advance t s).now < b + 256
      (¬ moves → (port s p).radio.credit = none → sliceOf s p < s.slices.length →
        ∃ v, exec (.powerLoopMeasurement t p err) s = .next v
          ∧ (sliceAt v p).drive = (sliceAt s p).drive + max (-5) (min 5 (-err)) ∧ v.ports = s.ports)
      ∧ (moves → exec (.powerLoopMeasurement t p err) s = .next (advance t s)))

/-! ### Slices, synthesisers, aerials, tuning (R63 to R75, R96, R106 to R108, R120) -/

/-- A transition of a slice completes by one step of Table 2-2 towards its target, and a command that waits for it goes on (R71). SYNTH_LOCKED on a
calibration that runs locks the synthesiser, and a lock that fails to come sends the slice towards STANDBY and fails the FIELD_ON that waits (R63,
R69, R72). A loss of lock of more than 8 degrees on a field that is on cuts the field at once, fails the work of the port, starts the synthesiser
again and raises EV_SYNTH_LOCK_LOST; at 8 degrees or less nothing happens (R73). A second loss, or a second failure, of the same slice within 1 s is a
slice fault: an emergency swap of the slice follows in the same row, with a free outcome of the spare's calibration (R74, Table 11-2). Choices of the
model that it rests on: log entries 3, 4, 37. -/
def Obligations.SlicesStepLockAndLose : Prop :=
  (
    ∀ (t : Nat) (p : PortNo) (s : State), leadIn s s.cfg.running p = none →
      let u := advance t s
      (exec (.sliceTransitionComplete t p) s = .next (noteSkipped (tryArm p (runPending p (modSlice p (sliceStep u.now) u)))))
      ∧ (∀ margin, (sliceAt s p).calSince.isSome = true → sliceOf s p < s.slices.length →
        ∃ v, exec (.synthLocked t p margin) s = .next (noteSkipped (tryArm p v))
          ∧ (members s p = [] → (port s p).task = none → (sliceAt v p).locked = true ∧ (sliceAt v p).calSince = none
              ∧ (sliceAt v p).bandMargin = margin ∧ v.ports = s.ports))
      ∧ (∀ n w k, (sliceAt s p).calSince = some n → (port s p).radio.want = some w → max n w.since + usT 100 ≤ u.now →
        (port s p).radio.phase = .off →
        let x := pressDrop p (modSlice p (fun x => { x with target := .standby, calSince := none, locked := false, failAt := some u.now }) u)
        (port s p).task = some k → k.proc = .fieldOn →
        exec (.synthLockTimeout t p) s = .next (faultAgain (sliceOf u p) Slice.failAt u
          (goOn p (settle p (dropWant p (taskFail p E.synthUnlocked { port := p } x)))))))
  ∧ (
    ∀ (t : Nat) (p : PortNo) (phaseErr : Int) (s : State), leadIn s s.cfg.running p = none → (port s p).radio.phase = .on →
      let u := advance t s
      let w := cutField p (abortWork p E.synthUnlocked { port := p } u)
      (800 < phaseErr.natAbs → exec (.synthLockLost t p phaseErr) s = .next (faultAgain (sliceOf u p) Slice.lossAt u
          (goOn p (raise Ev.synthLockLost p (leI 2 phaseErr)
            (modSlice p (fun x => { x with locked := false, calSince := some w.now, lossAt := some w.now }) w)))))
      ∧ (phaseErr.natAbs ≤ 800 → exec (.synthLockLost t p phaseErr) s = .next u))
  ∧ (
    ∀ (inst a b : Nat) (mark : Slice → Option Nat) (u v : State),
      mark (nth u.slices inst {}) = some a → mark (nth v.slices inst {}) = some b →
      (a < b → b ≤ a + msT 1000 →
        faultAgain inst mark u v = emergencyRun 1 inst (Config.testPasses v.free inst) (drawn v))
      ∧ (a = b ∨ a + msT 1000 < b → faultAgain inst mark u v = v))

/-- The ID sense in SERVICE sets the aerial class of each port by Table 2-6, port after port; outside SERVICE and DOZE it is not taken. A resistance
between two ranges is class 6. AUTOTUNE on a port whose TN the feature does not own fails with E_RESOURCE_NOT_OWNED (R59); where the cut bars its
probes it fails with E_INTERLOCK; while a slice of the port cannot transmit it waits in the pending slot, and the slice goes to LISTEN (R71); and else
it is answered with the TN voltage and the phase, or fails with E_TUNE_RANGE where no resonance is found (R106). CALIBRATE_RADIO begins its first
step, but one that tunes a TN the feature does not own fails with E_RESOURCE_NOT_OWNED; a learning of the pre-distorter that is due at the boundary of
a port with the field on takes the tables it finds, and its bursts end the plain carrier (R98, R137). TRANSACTION_BOUNDARY of a port that stands at
its boundary: the set is tracked, the tuning follows the phase, and what waits for the boundary takes place before the port goes on; else the port
only goes on (R58, R107). Choices of the model that it rests on: log entries 3, 4, 34. -/
def Obligations.AerialsTuningAndBoundaries : Prop :=
  (
    (∀ (t : Nat) (ohms : List Nat) (s : State),
      (s.mod.st = .service → exec (.aerialIdSense t ohms) s
        = .next (((List.range 64).zip ohms).foldl (fun s e => aerialOne e.1 e.2 s) (advance t s)))
      ∧ (s.mod.st = .boot → exec (.aerialIdSense t ohms) s = .next (advance t s)))
    ∧ ∀ ohm, (classOf ohm = 0 ↔ ohm < 1000) ∧ (classOf ohm = 1 ↔ 9000 ≤ ohm ∧ ohm ≤ 11000) ∧ (classOf ohm = 2 ↔ 18000 ≤ ohm ∧ ohm ≤ 22000)
        ∧ (classOf ohm = 3 ↔ 42000 ≤ ohm ∧ ohm ≤ 52000) ∧ (classOf ohm = 4 ↔ 90000 ≤ ohm ∧ ohm ≤ 110000) ∧ (classOf ohm = 7 ↔ 200000 < ohm))
  ∧ (
    ∀ (t : Nat) (h : Hdr) (s : State),
      (turnComes (.autotune t h) t 0x22 h s = true →
        let u := atTurn (.autotune t h) t 0x22 h.q s
        let v := (tuneNow h.q u).2
        (pAttr u A.tnAutotune h.q = 0 → exec (.autotune t h) s = .next (noteSkipped (fail h 0x22 E.resourceNotOwned { port := h.q } u)))
        ∧ (pAttr u A.tnAutotune h.q ≠ 0 → (port u h.q).radio.phase = .off → interlocked u = true →
          exec (.autotune t h) s = .next (noteSkipped (respond h 0x22 E.interlock (({ port := h.q } : Detail).bytes h.q) (settle h.q u))))
        ∧ (pAttr u A.tnAutotune h.q ≠ 0 → probeBar u h.q = none → notReady u h.q = true →
          exec (.autotune t h) s = .next (noteSkipped (wakeSlices h.q (modPort h.q (fun x =>
            { x with task := some { hdr := h, op := 0x22, proc := .pending u.now } }) u))))
        ∧ (pAttr u A.tnAutotune h.q ≠ 0 → notReady u h.q = false →
          ¬ ((port u h.q).radio.phase = .off ∧ interlocked u = true) → reserveWithheld u = false →
          exec (.autotune t h) s = .next (noteSkipped (if (tuneNow h.q u).1 then ok h 0x22 (tuneBody v h.q) (settle h.q v)
            else respond h 0x22 E.tuneRange (({ port := h.q } : Detail).bytes h.q) (settle h.q v)))))
      ∧ (∀ mask, turnComes (.calibrateRadio t h mask) t 0x23 h s = true →
        let u := atTurn (.calibrateRadio t h mask) t 0x23 h.q s
        (¬ (bit mask 3 = true ∧ pAttr u A.tnAutotune h.q = 0) →
          exec (.calibrateRadio t h mask) s = .next (noteSkipped (calNext h.q
            (modPort h.q (fun x => { x with task := some { hdr := h, op := 0x23, proc := .calibrate mask 0 } }) u))))
        ∧ (bit mask 3 = true → pAttr u A.tnAutotune h.q = 0 →
          exec (.calibrateRadio t h mask) s = .next (noteSkipped (fail h 0x23 E.resourceNotOwned { port := h.q } u))))
      ∧ (∀ (p : PortNo) amp phase taps evm, leadIn s s.cfg.running p = none → (port s p).radio.dpdDue = true → (port s p).radio.phase = .on →
        atBoundary s p = true →
        let learnt := fun (y : Slice) => { y with
          dpdAmp := amp, dpdPhase := phase, dpdTaps := taps, dpdPower := some (port s p).radio.power, evm := evm, learnEvm := evm,
          evmRun := 0 }
        exec (.dpdLearning t p amp phase taps evm) s
          = .next (noteSkipped (modRadio p (fun r => { r with dpdDue := false }) (modSlice p learnt
            (modAir p (fun a => { a with idleSince := (advance t s).now }) (advance t s)))))))
  ∧ (
    ∀ (t : Nat) (p : PortNo) (phase : Int) (s : State), s.mod.st ≠ .doze →
      let u := advance t s
      (atBoundary s p = true →
        exec (.transactionBoundary t p phase) s = .next (noteSkipped (resumePort p (crossBoundary p (prismTrack p (track p phase u))))))
      ∧ (atBoundary s p = false → exec (.transactionBoundary t p phase) s = .next (noteSkipped (resumePort p u))))

/-! ### Noise, Mirror, the timing bank and the elastic buffers (R38 to R45, R137 to R146) -/

/-- MEASURE_NOISE measures at once on the named ports that stand at their boundary and waits for the others; a field-off measurement in SERVICE on a
port without field or work enters the floor with weight 1/8, the first one as it is, and a field-on measurement is taken only after 80 µs of
unmodulated carrier (R137, R140). MIRROR_TRAIN on ports without fields, outside the interlock, is noted, and takes the ports that stand at their
boundary; once Press has granted it, the training puts the couplings measured into the named ports, from each other and from the fields that stand
outside, in place of the old ones, trains their filters, and the command is answered with its mask (R141, R145, R146). Choices of the model that it
rests on: log entries 3, 4, 38, 42. -/
def Obligations.NoiseAndMirror : Prop :=
  (
    (∀ (t : Nat) (h : Hdr) (ports : Nat) (s : State), turnComes (.measureNoise t h ports) t 0x24 h s = true →
      let u := atTurn (.measureNoise t h ports) t 0x24 h.q s
      exec (.measureNoise t h ports) s = .next (endNoise
        ((portsOf ports).foldl (fun s p => noiseAt p s) { u with noiseJob := some ⟨h, ports, []⟩ })))
    ∧ ∀ (t : Nat) (p : PortNo) (level : Int) (prof : Option (List Int)) (s : State), s.mod.st = .service → listening s p = true →
        leadIn s s.cfg.running p = none → p < s.ports.length →
        let u := advance t s
        ((port s p).radio.phase = .off → (port s p).radio.want = none → (port s p).task = none →
          ((port s p).rx.noiseAt = none → (port s p).rx.noise = none → ∃ v, exec (.noiseMeasurement t p false level prof) s = .next v
            ∧ (port v p).rx.noise = some level ∧ (port v p).rx.noiseAt = some u.now)
          ∧ ∀ n old, (port s p).rx.noiseAt = some n → (port s p).rx.noise = some old → n + msT 100 ≤ u.now →
            ∃ v, exec (.noiseMeasurement t p false level prof) s = .next v
              ∧ (port v p).rx.noise = some ((7 * old + level) / 8) ∧ (port v p).rx.noiseAt = some u.now)
        ∧ ((port s p).radio.phase = .on → (port s p).air.txEnd = none → (port s p).air.win = none →
          ((port s p).air.idleSince + usT 80 ≤ u.now → (port s p).rx.noiseFieldAt = none → (port s p).rx.noiseField = none →
            level ≤ pAttr s A.rxNoiseAlarmCdbm p →
            ∃ v, exec (.noiseMeasurement t p true level prof) s = .next v
              ∧ (port v p).rx.noiseField = some level ∧ (port v p).rx.noiseFieldAt = some u.now ∧ (port v p).rx.noiseRun = 0)
          ∧ (u.now < (port s p).air.idleSince + usT 80 → exec (.noiseMeasurement t p true level prof) s = .next u)))
  ∧ (
    ∀ (t : Nat) (s : State),
      (∀ h ports us, turnComes (.mirrorTrain t h ports us) t 0x25 h s = true →
        let u := atTurn (.mirrorTrain t h ports us) t 0x25 h.q s
        interlocked u = false → (∀ p ∈ portsOf ports, portFielded u p = false) → ports ≠ 0 →
        exec (.mirrorTrain t h ports us) s = .next ((portsOf ports).foldl (fun s p => holdMirror p s)
          { u with mirrorJob := some { hdr := h, ports := ports, held := 0, timeout := usT us } }))
      ∧ (∀ j coupling, s.mirrorJob = some j → j.granted = true → s.mod.st ≠ .doze →
        let u := advance t s
        let live := fun (a : Nat) => bit j.ports a || (sliceAt u a).st == .field
        let mine := coupling.filter fun (e : Nat × Nat × Int) => e.1 != e.2.1 && live e.1 && bit j.ports e.2.1
        let keep := s.coupling.filter fun e => !(mine.any fun x => x.1 == e.1 && x.2.1 == e.2.1)
        let w := trainFilters mine u
        exec (.mirrorTrainingStart t coupling) s = .next (noteSkipped (endMirror (ok j.hdr 0x25 (le 8 j.ports)
          { w with coupling := keep ++ mine, mod := { w.mod with trained := w.mod.trained ||| j.ports } }))))
      ∧ ((s.mirrorJob.map (·.granted)).getD false = false → ∀ coupling, exec (.mirrorTrainingStart t coupling) s = .next (noteSkipped (advance t s))))

/-- TIMER_FIRE of T_B that is due, with T_A and T_C of the port not armed: the timer is disarmed, and a downlink starts by action 0x03 at the tick
armed; a timer that is not due, and one of the pool, which no command arms, changes only the clock (R38, R39). An underrun during a frame counts for
the engine and fails the running command with E_TX_UNDERRUN (in a SHADOW_DISCARD, with the code that called for it: R284); an overrun while a frame is
held in an open window counts for the engine and drops the frame, and the search goes on, but for a command that a FIELD_OFF is ending (R43 to R45,
R226). Choices of the model that it rests on: log entries 4, 32, 33, 41. -/
def Obligations.TimersAndElasticBuffers : Prop :=
  (
    ∀ (t : Nat) (s : State),
      let u := advance t s
      (∀ (p : PortNo) (n : Fin 256), n.val = tB p → (timer s n).armed = true → (timer s n).fire ≤ u.now → (timer s n).action = 0x03 →
        (timer s (tA p)).armed = false → (timer s (tC p)).armed = false →
        exec (.timerFire t n) s = .next (noteSkipped (startDownlink p (timer s n).fire (disarm n u))))
      ∧ (∀ n : Fin 256, 192 ≤ n.val ∨ (n.val % 3 ≠ 0 ∧ u.now < (timer s n).fire) → exec (.timerFire t n) s = .next (noteSkipped u)))
  ∧ (
    ∀ (t : Nat) (p : PortNo) (s : State),
      let u := advance t s
      ((port s p).air.txEnd.isSome = true → (port s p).task.isSome = true →
        exec (.txUnderrun t p) s = .next (goOn p (stepFail p E.txUnderrun { port := p } (countEngine p u))))
      ∧ (∀ w k, (port s p).air.win = some w → w.held = some k → u.now < w.closeAt →
        let r := loseFrame p E.rxOverrun w k none (countEngine p u)
        exec (.rxOverrun t p) s = .next (endQuiet p (modAir p (fun a => { a with win := some { w with held := none, bad := some r.1 } }) r.2))))

/-! ### ISO commands (Table 8-11, R188, R199, R203 to R235) -/

/-- An ISO command that names no handle, on a port that runs its type, becomes the port's running command and sends its first frame: the raw frame as
given, REQA or WUPA, REQB or WUPB, the first slot of an anticollision or of an inventory. ISO_RAW_FRAME without KEEP first moves every handle of the
port to UNKNOWN (R203, R209, R211, R227, R233, R234). Choices of the model that it rests on: log entries 5, 31, 44, 45. -/
def Obligations.IsoSearchesBegin : Prop :=
  ∀ (t : Nat) (h : Hdr) (s : State),
    (∀ bits rate parity check keep kind us frame, turnComes (.isoRawFrame t h bits rate parity check keep kind us frame) t 0x40 h s = true →
      let u := atTurn (.isoRawFrame t h bits rate parity check keep kind us frame) t 0x40 h.q s
      let w := if keep then u else modIso h.q (fun i => { i with handles := i.handles.map fun x => { x with st := .unknown } }) u
      let c : IsoCmd := { stage := .raw, rate := rate, parity := parity, check := check, kind := kind, bits := bits, winUs := us, data := frame }
      isoRuns? u h.q kind = true → (rate ≤ pAttrN u A.isoMaxRate h.q ∨ kind = 2) →
      exec (.isoRawFrame t h bits rate parity check keep kind us frame) s = .next (isoBegin h.q c (beginTask h 0x40 h.q (.iso c) w)))
    ∧ (∀ m w, turnComes (.isoAAnticoll t h m w) t 0x41 h s = true →
      let u := atTurn (.isoAAnticoll t h m w) t 0x41 h.q s
      let c : IsoCmd := { stage := .aReq, maxTags := m, wake := w, stack := [([], [])] }
      isoRuns? u h.q 0 = true → exec (.isoAAnticoll t h m w) s = .next (antiNext h.q c (beginTask h 0x41 h.q (.iso c) u)))
    ∧ (∀ afi w, turnComes (.isoBRequest t h afi w) t 0x46 h s = true →
      let u := atTurn (.isoBRequest t h afi w) t 0x46 h.q s
      let c : IsoCmd := { stage := .bReq, afi := afi, wake := w }
      isoRuns? u h.q 1 = true → exec (.isoBRequest t h afi w) s = .next (isoBegin h.q c (beginTask h 0x46 h.q (.iso c) u)))
    ∧ (∀ afi n m w a, turnComes (.isoBAnticoll t h afi n m w a) t 0x47 h s = true →
      let u := atTurn (.isoBAnticoll t h afi n m w a) t 0x47 h.q s
      let c : IsoCmd := { stage := .bSlot, afi := afi, n := n, maxTags := m, wake := w, attrib := a }
      isoRuns? u h.q 1 = true → exec (.isoBAnticoll t h afi n m w a) s = .next (bRound h.q c (beginTask h 0x47 h.q (.iso c) u)))
    ∧ (∀ afi ua sl qu l m k, turnComes (.isoVInventory t h afi ua sl qu l m k) t 0x50 h s = true →
      let u := atTurn (.isoVInventory t h afi ua sl qu l m k) t 0x50 h.q s
      let c : IsoCmd := { stage := .vSlot, afi := afi, useAfi := ua, quiet := qu, maxTags := m, queue := [(k % 2 ^ l, l, sl)] }
      isoRuns? u h.q 2 = true →
      exec (.isoVInventory t h afi ua sl qu l m k) s = .next (vNext h.q c (beginTask h 0x50 h.q (.iso c) u)))

/-- An ISO command that names a handle the port holds, of its type and in a state of Table 4-5 that permits it, becomes the port's running command and
sends its frame: ISO_A_RATS and ISO_B_ATTRIB with the CID they get, ISO_B_ATTRIB to a tag without CID support with CID 0 where one is free and no
other handle of the port is in PROTOCOL (R212 to R214). Where no CID is free, ISO_A_RATS and ISO_B_ATTRIB fail with E_ISO_CID_FULL before anything is
sent. ISO_FORGET releases the handle it names, or every one, and sends nothing. Choices of the model that it rests on: log entries 5, 31, 44, 45. -/
def Obligations.IsoTagCommandsBegin : Prop :=
  ∀ (t : Nat) (h : Hdr) (n : Nat) (x : IsoHandle) (s : State),
    (turnComes (.isoAActivate t h n) t 0x42 h s = true →
      let u := atTurn (.isoAActivate t h n) t 0x42 h.q s
      isoRuns? u h.q 0 = true → isoHandle u h.q n = some x → x.kind = 0 → (x.st = .halt ∨ x.st = .unknown) →
      let c : IsoCmd := { stage := .actReq, handle := n }
      exec (.isoAActivate t h n) s = .next (isoBegin h.q c (beginTask h 0x42 h.q (.iso c) u)))
    ∧ (turnComes (.isoAHalt t h n) t 0x43 h s = true →
      let u := atTurn (.isoAHalt t h n) t 0x43 h.q s
      isoRuns? u h.q 0 = true → isoHandle u h.q n = some x → x.kind = 0 → x.st = .active →
      let c : IsoCmd := { stage := .hltA, handle := n }
      exec (.isoAHalt t h n) s = .next (isoBegin h.q c (beginTask h 0x43 h.q (.iso c) u)))
    ∧ (∀ ask cid, turnComes (.isoARats t h n ask) t 0x44 h s = true →
      let u := atTurn (.isoARats t h n ask) t 0x44 h.q s
      isoRuns? u h.q 0 = true → isoHandle u h.q n = some x → x.kind = 0 → x.st = .active → pickCid u h.q ask = some cid →
      let c : IsoCmd := { stage := .rats, handle := n, cid := cid }
      exec (.isoARats t h n ask) s = .next (isoBegin h.q c (beginTask h 0x44 h.q (.iso c) u)))
    ∧ (∀ ask, turnComes (.isoARats t h n ask) t 0x44 h s = true →
      let u := atTurn (.isoARats t h n ask) t 0x44 h.q s
      isoRuns? u h.q 0 = true → isoHandle u h.q n = some x → x.kind = 0 → x.st = .active → pickCid u h.q ask = none →
      exec (.isoARats t h n ask) s = .next (fail h 0x44 E.isoCidFull { port := h.q, handle := n } u))
    ∧ (∀ ds dr, turnComes (.isoPps t h n ds dr) t 0x45 h s = true →
      let u := atTurn (.isoPps t h n ds dr) t 0x45 h.q s
      isoRuns? u h.q 0 = true → isoHandle u h.q n = some x → x.kind = 0 → x.st = .protocol → x.used = false →
      let c : IsoCmd := { stage := .pps, handle := n, dsMax := (divisors u h.q x.rates ds dr).1, drMax := (divisors u h.q x.rates ds dr).2 }
      exec (.isoPps t h n ds dr) s = .next (isoBegin h.q c (beginTask h 0x45 h.q (.iso c) u)))
    ∧ (∀ ask cid ds dr, turnComes (.isoBAttrib t h n ask ds dr) t 0x48 h s = true →
      let u := atTurn (.isoBAttrib t h n ask ds dr) t 0x48 h.q s
      isoRuns? u h.q 1 = true → isoHandle u h.q n = some x → x.kind = 1 → x.st = .readyDeclared → x.cidOk = true → pickCid u h.q ask = some cid →
      let c : IsoCmd := { stage := .attrib, handle := n, cid := cid,
                          dsMax := (divisors u h.q x.rates ds dr).1, drMax := (divisors u h.q x.rates ds dr).2 }
      exec (.isoBAttrib t h n ask ds dr) s = .next (isoBegin h.q c (beginTask h 0x48 h.q (.iso c) u)))
    ∧ (∀ ask ds dr, turnComes (.isoBAttrib t h n ask ds dr) t 0x48 h s = true →
      let u := atTurn (.isoBAttrib t h n ask ds dr) t 0x48 h.q s
      isoRuns? u h.q 1 = true → isoHandle u h.q n = some x → x.kind = 1 → x.st = .readyDeclared →
      let c : IsoCmd := { stage := .attrib, handle := n, cid := 0,
                          dsMax := (divisors u h.q x.rates ds dr).1, drMax := (divisors u h.q x.rates ds dr).2 }
      (x.cidOk = false → freeCid u h.q ≠ none → (∀ y ∈ (port u h.q).iso.handles, y.st = .protocol → y.h = n) →
        exec (.isoBAttrib t h n ask ds dr) s = .next (isoBegin h.q c (beginTask h 0x48 h.q (.iso c) u)))
      ∧ ((x.cidOk = true → pickCid u h.q ask = none) → (x.cidOk = false → freeCid u h.q = none) →
        exec (.isoBAttrib t h n ask ds dr) s = .next (fail h 0x48 E.isoCidFull { port := h.q, handle := n } u)))
    ∧ (turnComes (.isoBHalt t h n) t 0x49 h s = true →
      let u := atTurn (.isoBHalt t h n) t 0x49 h.q s
      isoRuns? u h.q 1 = true → isoHandle u h.q n = some x → x.kind = 1 → x.st = .readyDeclared →
      let c : IsoCmd := { stage := .hltB, handle := n }
      exec (.isoBHalt t h n) s = .next (isoBegin h.q c (beginTask h 0x49 h.q (.iso c) u)))
    ∧ (∀ apdu, turnComes (.isoApdu t h n apdu) t 0x4A h s = true →
      let u := atTurn (.isoApdu t h n apdu) t 0x4A h.q s
      isoRuns? u h.q 3 = true → isoHandle u h.q n = some x → isoRuns? u h.q x.kind = true → x.st = .protocol →
      let c : IsoCmd := { stage := .block, handle := n, data := apdu }
      exec (.isoApdu t h n apdu) s = .next (apduNext h.q c (beginTask h 0x4A h.q (.iso c) u)))
    ∧ (turnComes (.isoDeselect t h n) t 0x4B h s = true →
      let u := atTurn (.isoDeselect t h n) t 0x4B h.q s
      isoRuns? u h.q 3 = true → isoHandle u h.q n = some x → isoRuns? u h.q x.kind = true → x.st = .protocol →
      let c : IsoCmd := { stage := .deselect, handle := n }
      exec (.isoDeselect t h n) s = .next (blkBegin h.q c 2 (blkBytes x 0xC2 []) (beginTask h 0x4B h.q (.iso c) u)))
    ∧ (turnComes (.isoForget t h n) t 0x4C h s = true →
      let u := atTurn (.isoForget t h n) t 0x4C h.q s
      (pAttr u A.protocol h.q = 1 ∨ pAttr u A.protocol h.q = 2) →
      (n ≠ 0xFFFF → isoHandle u h.q n = some x →
        exec (.isoForget t h n) s = .next (ok h 0x4C [] (modIso h.q (fun i => { i with handles := i.handles.filter fun x => x.h != n }) u)))
      ∧ (n = 0xFFFF → exec (.isoForget t h n) s = .next (ok h 0x4C [] (modIso h.q (fun i => { i with handles := [] }) u))))
    ∧ (∀ code o w r m data, turnComes (.isoVCommand t h n code o w r m data) t 0x51 h s = true →
      let u := atTurn (.isoVCommand t h n code o w r m data) t 0x51 h.q s
      isoRuns? u h.q 2 = true → isoHandle u h.q n = some x → n ≠ 0 → x.kind = 2 → (x.st = .ready ∨ x.st = .selected ∨ x.st = .quiet) →
      let c : IsoCmd := { stage := .vCmd, handle := n, code := code, opt := o, rep := r, mfg := m, data := data,
                          write := vWriteCodes.contains code || (code ≥ 0xA0 && w) }
      exec (.isoVCommand t h n code o w r m data) s = .next (isoBegin h.q c (beginTask h 0x51 h.q (.iso c) u)))
    ∧ (turnComes (.isoVSelect t h n) t 0x52 h s = true →
      let u := atTurn (.isoVSelect t h n) t 0x52 h.q s
      isoRuns? u h.q 2 = true → isoHandle u h.q n = some x → x.kind = 2 → (x.st = .ready ∨ x.st = .quiet ∨ x.st = .unknown) →
      let c : IsoCmd := { stage := .vSelect, handle := n }
      exec (.isoVSelect t h n) s = .next (isoBegin h.q c (beginTask h 0x52 h.q (.iso c) u)))
    ∧ (turnComes (.isoVQuiet t h n) t 0x53 h s = true →
      let u := atTurn (.isoVQuiet t h n) t 0x53 h.q s
      isoRuns? u h.q 2 = true → isoHandle u h.q n = some x → x.kind = 2 → (x.st = .ready ∨ x.st = .selected) →
      let c : IsoCmd := { stage := .vQuiet, handle := n }
      exec (.isoVQuiet t h n) s = .next (isoBegin h.q c (beginTask h 0x53 h.q (.iso c) u)))
    ∧ (turnComes (.isoVResetReady t h n) t 0x54 h s = true →
      let u := atTurn (.isoVResetReady t h n) t 0x54 h.q s
      isoRuns? u h.q 2 = true → isoHandle u h.q n = some x → x.kind = 2 → (x.st = .selected ∨ x.st = .quiet ∨ x.st = .unknown) →
      let c : IsoCmd := { stage := .vReset, handle := n }
      exec (.isoVResetReady t h n) s = .next (isoBegin h.q c (beginTask h 0x54 h.q (.iso c) u)))

/-- HLTA, RATS, HLTB and the SELECT, STAY QUIET and RESET TO READY of ISO/IEC 15693 are put on their way on the port of the command: the port's next
downlink is the frame of the stage, the command goes on as given, no other port changes, and outside the port only the timers change. Choices of
the model that it rests on: log entries 31, 44, 45. -/
def Obligations.IsoFrameIsPrepared : Prop :=
  ∀ (p : Nat) (c : IsoCmd) (k : Task) (s : State), p < s.ports.length → (port s p).task = some k →
    (c.stage = .hltA ∨ c.stage = .rats ∨ c.stage = .hltB ∨ c.stage = .vSelect ∨ c.stage = .vQuiet ∨ c.stage = .vReset) →
    let v := isoBegin p c s
    (port v p).air.tx = some (isoFrame s p c).1 ∧ (port v p).task = some { k with proc := .iso c }
      ∧ (∀ q, q ≠ p → port v q = port s q) ∧ { v with ports := s.ports, timers := s.timers } = s

/-! ### Hymond commands (Table 8-12, R287 to R295) -/

/-- A Hymond command to a handle that the port holds in a state, with modes and a descriptor that permit it becomes the port's running command and
begins its exchange, with an ACK first where the handle is known from a header alone; any other is answered with the code of the first check it fails,
and nothing but the rings and the recorder changes (R288, R291). The checks: E_HY_HANDLE for a handle that is not held; E_HY_STATE for HALTED, and for
UNKNOWN but under HY_RESYNC; E_HY_MODE for modes that are not enabled or that the descriptor does not declare, or a feature it lacks. Choices of the
model that it rests on: log entries 5, 31, 46. -/
def Obligations.HymondTagCommandsBegin : Prop :=
  (
    ∀ (t : Nat) (h : Hdr) (pre : HyPre) (s : State),
      let start := fun (op : Nat) (c : HyCmd) (u : State) =>
        let x := hyHandle u h.q c.handle
        let d := { c with ident := (x.bind (·.ident)).getD [] }
        let e := if (x.bind (·.ident)).isSome then d else { d with after := d.stage, stage := .preAck }
        hyBegin h.q e none (beginTask h op h.q (.hy e) u)
      let bar := fun (op : Nat) (u : State) => hyBar u h.q op pre.handle (resolveDl u h.q pre.dl) (resolveUl u h.q pre.ul)
      let meant := fun (i : Instr) (op : Nat) (c : State → HyCmd) => turnComes i t op h s = true →
        let u := atTurn i t op h.q s
        (bar op u = none → exec i s = .next (start op (c u) u))
        ∧ ∀ code, bar op u = some code →
          exec i s = .next (fail h op code { port := h.q, handle := pre.handle } u) ∧ OnlySent u (fail h op code { port := h.q, handle := pre.handle } u)
      (∀ addr count, meant (.hyRead t h pre addr count) 0x62 fun u => { ofPre u h.q pre .single with addr := addr, count := count })
      ∧ (∀ addr data, meant (.hyWrite t h pre addr data) 0x63 fun u =>
          { ofPre u h.q pre .single with addr := addr, count := data.length, data := data })
      ∧ (∀ page gen data, meant (.hySealedWrite t h pre page gen data) 0x64 fun u =>
          { ofPre u h.q pre (if gen == 0xFFFF then .sealGen else .sealShadow) with page := page, gen := gen, data := data })
      ∧ (∀ page, meant (.hyPageStatus t h pre page) 0x65 fun u => { ofPre u h.q pre .single with page := page })
      ∧ (∀ slot nonce, meant (.hyChallenge t h pre slot nonce) 0x66 fun u => { ofPre u h.q pre .single with slot := slot, data := nonce })
      ∧ meant (.hyHalt t h pre) 0x67 (fun u => ofPre u h.q pre .single)
      ∧ meant (.hyRelease t h pre) 0x68 (fun u => ofPre u h.q pre .single)
      ∧ meant (.hyResync t h pre) 0x69 (fun u => ofPre u h.q pre .single))
  ∧ (
    ∀ (s : State) (p op n dl ul : Nat) (x : HyHandle),
      (hyHandle s p n = none → hyBar s p op n dl ul = some E.hyHandle)
      ∧ (hyHandle s p n = some x →
        let taken := x.st = .heard ∨ x.st = .active ∨ (x.st = .unknown ∧ op = 0x69)
        (¬ taken → hyBar s p op n dl ul = some E.hyState)
        ∧ (taken → modesOn s p dl ul = false → hyBar s p op n dl ul = some E.hyMode)
        ∧ (taken → ∀ d, x.desc = some d → descAllows d dl ul op = false → hyBar s p op n dl ul = some E.hyMode)
        ∧ (taken → modesOn s p dl ul = true → (∀ d, x.desc = some d → descAllows d dl ul op = true) → hyBar s p op n dl ul = none)))

/-- The Hymond commands that open no exchange on a held handle begin theirs in the modes they resolve to: HY_RAW_FRAME, HY_ACTIVATE and
HY_TREE_SEARCH. HY_RAW_FRAME of a DL_CMD needs its handle held and in a state that takes commands, with an ACK first where it is known from a header
alone, and HY_ACTIVATE of a tag already held needs a state that accepts it (R288, R291). HY_FORGET releases a handle or every one, and the inventory
table with it, and fails with E_HY_HANDLE for one that is not held; HY_SET_MAP sets the map of a handle whose descriptor is known, and of another
begins with an ACK; beyond that neither sends anything (R291, R293, R295, R314). Choices of the model that it rests on: log entries 5, 31, 46. -/
def Obligations.HymondSearchesAndLocalCommands : Prop :=
  ∀ (t : Nat) (h : Hdr) (s : State),
    (∀ pre type alive reply x, turnComes (.hyRawFrame t h pre type alive reply x) t 0x60 h s = true →
      let u := atTurn (.hyRawFrame t h pre type alive reply x) t 0x60 h.q s
      let c : HyCmd := { ofPre u h.q pre .raw with type := type, alive := alive, reply := reply, data := x }
      let ul := if reply == 0 then c.ul else reply
      let desc := (hyHandle u h.q pre.handle).bind (·.desc)
      let asked : HyCmd := { c with ul := ul, count := reply, gen := alive, after := .raw, stage := .preAck }
      modesOn u h.q c.dl ul = true → modesOn u h.q c.dl c.ul = true →
      (type ≠ 1 → exec (.hyRawFrame t h pre type alive reply x) s = .next (hyBegin h.q c none (beginTask h 0x60 h.q (.hy c) u)))
      ∧ (type = 1 → hyBar u h.q 0x60 pre.handle c.dl c.ul = none →
        (∀ d, desc = some d → descAllows d c.dl ul 0x60 = true →
          exec (.hyRawFrame t h pre type alive reply x) s = .next (hyBegin h.q c none (beginTask h 0x60 h.q (.hy c) u)))
        ∧ (desc = none →
          exec (.hyRawFrame t h pre type alive reply x) s = .next (hyBegin h.q asked none (beginTask h 0x60 h.q (.hy asked) u)))))
    ∧ (∀ ident wake dl ul, turnComes (.hyActivate t h ident wake dl ul) t 0x61 h s = true →
      let u := atTurn (.hyActivate t h ident wake dl ul) t 0x61 h.q s
      let c : HyCmd := { stage := .query, handle := 0, dl := resolveDl u h.q dl, ul := resolveUl u h.q ul, ident := fit 16 ident, wake := wake }
      (∀ x, ((port u h.q).hy.handles.find? fun x => x.ident == some (fit 16 ident)) = some x → x.st ≠ .unknown ∧ (x.st = .halted → wake = true)
        ∧ ∀ d, x.desc = some d → descAllows d c.dl c.ul 0x61 = true) →
      modesOn u h.q c.dl c.ul = true →
      exec (.hyActivate t h ident wake dl ul) s = .next (hyBegin h.q c none (beginTask h 0x61 h.q (.hy c) u)))
    ∧ (∀ l m wake mask, turnComes (.hyTreeSearch t h l m wake mask) t 0x6B h s = true →
      let u := atTurn (.hyTreeSearch t h l m wake mask) t 0x6B h.q s
      let c : HyCmd := { stage := .treeQuery, handle := 0, dl := resolveDl u h.q 0, ul := resolveUl u h.q 0, wake := wake, maxTags := m,
                         stack := [(bitsOf (fit 16 mask)).take l] }
      modesOn u h.q c.dl c.ul = true →
      exec (.hyTreeSearch t h l m wake mask) s = .next (treeNext h.q c none (beginTask h 0x6B h.q (.hy c) u)))
    ∧ (∀ n, turnComes (.hyForget t h n) t 0x6A h s = true →
      let u := atTurn (.hyForget t h n) t 0x6A h.q s
      (n = 0xFFFF → exec (.hyForget t h n) s
        = .next (ok h 0x6A [] (clearInv h.q (port u h.q).hy.handles (modHy h.q (fun y => { y with handles := [] }) u))))
      ∧ (n ≠ 0xFFFF → (hyHandle u h.q n).isSome = true → exec (.hyForget t h n) s = .next (ok h 0x6A [] (dropHandle h.q n u)))
      ∧ (n ≠ 0xFFFF → hyHandle u h.q n = none →
        exec (.hyForget t h n) s = .next (fail h 0x6A E.hyHandle { port := h.q, handle := n } u)))
    ∧ (∀ n m x, turnComes (.hySetMap t h n m) t 0x6C h s = true →
      let u := atTurn (.hySetMap t h n m) t 0x6C h.q s
      let c : HyCmd := { stage := .preAck, handle := n, dl := resolveDl u h.q 0, ul := resolveUl u h.q 0, map := some m }
      hyHandle u h.q n = some x → (x.st = .heard ∨ x.st = .active) →
      (x.desc.isSome = true → exec (.hySetMap t h n m) s = .next (ok h 0x6C [] (modHandle h.q n (fun x => { x with map := some m }) u)))
      ∧ (x.desc = none → modesOn u h.q c.dl c.ul = true →
        exec (.hySetMap t h n m) s = .next (hyBegin h.q c none (beginTask h 0x6C h.q (.hy c) u))))

/-! ### Harvest, Prism, Lens, Z8 and the receive chain -/

/-- HARVEST_START on a port whose claim is made starts its pass where one may begin and none waits, and is else put behind the HARVEST_STARTs that
wait, and the port goes on; without the claim it fails with E_RESOURCE_NOT_OWNED (R59, R302). A grid tick that is due on a STANDING port without a
pass moves T_C on by its period and asks for a pass of its own, and the port goes on: the pass begins at its boundary; HARVEST_STOP overtakes, is
answered at once where no pass runs, and else ends the pass at its next slot boundary (R302, R304). HARVEST_CLEAR removes the entries whose best port
is named, and answers how many; HARVEST_READ_TABLE answers at most COUNT entries from START on and where the next ones begin; an entry whose age has
been reached leaves the table, and no other entry does (R320, R432). Choices of the model that it rests on: log entries 4, 5, 33, 47. -/
def Obligations.HarvestAndItsTable : Prop :=
  (
    ∀ (t : Nat) (s : State),
      (∀ h, turnComes (.harvestStart t h) t 0x80 h s = true →
        let u := atTurn (.harvestStart t h) t 0x80 h.q s
        (hvAllowed u h.q = true → mayPass u h.q = true → (port u h.q).starts = [] →
          exec (.harvestStart t h) s = .next (goOn h.q (startPass h.q (some h) u)))
        ∧ (hvAllowed u h.q = true → ¬ (mayPass u h.q = true ∧ (port u h.q).starts = []) →
          exec (.harvestStart t h) s = .next (goOn h.q (modPort h.q (fun x => { x with starts := x.starts ++ [h] }) u)))
        ∧ (hvAllowed u h.q = false → exec (.harvestStart t h) s = .next (fail h 0x80 E.resourceNotOwned { port := h.q } u)))
      ∧ (∀ h, overtakesNow (.harvestStop t h) t 0x81 h s = true →
        let u := ahead (.harvestStop t h) t h.q s
        ((port u h.q).pass = none → exec (.harvestStop t h) s = .next (ok h 0x81 [] u))
        ∧ ((port u h.q).pass ≠ none → exec (.harvestStop t h) s
            = .next (goOn h.q (stopPass h.q E.hvStopped (modPass h.q (fun x => { x with stops := x.stops ++ [h] }) u)))))
      ∧ (∀ p : PortNo,
        let u := advance t s
        let c := timer s (tC p)
        pAttr s A.hvMode p = 2 → s.mod.st = .service → c.armed = true → c.action = 0x08 → c.fire ≤ u.now →
        (port s p).pass = none → (port s p).starts = [] → hvAllowed s p = true → s.link.hostLost = false → s.mod.dozeHdr = none →
        let w := modTimer (tC p) (fun c => { c with fire := c.fire + c.period }) u
        exec (.harvestGridTick t p) s = .next (goOn p (modPort p (fun x => { x with gridDue := true }) w))))
  ∧ (
    ∀ (t : Nat) (h : Hdr) (s : State),
      (∀ mask, turnComes (.harvestClear t h mask) t 0x82 h s = true →
        let u := atTurn (.harvestClear t h mask) t 0x82 h.q s
        exec (.harvestClear t h mask) s = .next (ok h 0x82 (le 2 (u.inv.filter fun e => bit mask e.2.best).length ++ [0, 0])
          { u with inv := u.inv.filter fun e => !bit mask e.2.best }))
      ∧ (∀ start count, turnComes (.harvestReadTable t h start count) t 0x83 h s = true →
        let u := atTurn (.harvestReadTable t h start count) t 0x83 h.q s
        let later := u.inv.filter fun e => e.1 ≥ start
        (later.length ≤ count → exec (.harvestReadTable t h start count) s
          = .next (ok h 0x83 (le 2 0xFFFF ++ [b8 later.length, 0] ++ (later.map fun e => e.2.bytes).flatten) u))
        ∧ (∀ e, count < later.length → (later.take count).getLast? = some e → exec (.harvestReadTable t h start count) s
          = .next (ok h 0x83 (le 2 (e.1 + 1) ++ [b8 count, 0] ++ ((later.take count).map fun e => e.2.bytes).flatten) u)))
      ∧ (∀ idx : Fin 4096, mAttrN s A.hvTableAgeMs ≠ 0 →
        ∃ v, exec (.tableAgeExpiry t idx) s = .next v ∧ { v with inv := s.inv } = advance t s
          ∧ ∀ e, e ∈ v.inv ↔ (e ∈ s.inv ∧ ¬ (e.1 = idx.val ∧ e.2.heardAt + msT (mAttrN s A.hvTableAgeMs) ≤ v.now))))

/-- PRISM_VECTOR below the vector count is answered, and on a port at its boundary the set has moved; PRISM_CALIBRATE waits in the pending slot while
a slice of the set cannot transmit (R71), and else answers the residual phases, or fails with E_PRISM_PHASE where one is too large; LENS_BASELINE
forgets the tag and takes the baseline at the next pulse; LENS_MEASURE on a port without a field that nothing bars waits in the same slot, and else
answers a measurement, which is a free value, and the last traces take it (R325, R327, R337, R346). A Lens pulse that is due acts with its
measurement, or is counted as skipped while the port is busy, has a field or is cut, and the next one follows a period later; a confirming pulse that
finds twice the threshold raises EV_LENS_DETECT (R332 to R335). The Z8 detector: in SERVICE, on an enabled port without a known field, a level at or
above the threshold that has stood for the time of port.z8.min_us since its onset and since the end of blanking is a field, and raises EV_Z8_FIELD
with that instant; a field that has gone raises EV_Z8_FIELD_GONE, unless the detector is blanked (R339, R340). Choices of the model that it rests on:
log entries 3, 4, 5, 34, 43. -/
def Obligations.PrismLensAndZ8 : Prop :=
  (
    ∀ (t : Nat) (h : Hdr) (s : State),
      (∀ v, turnComes (.prismVector t h v) t 0x89 h s = true →
        let u := atTurn (.prismVector t h v) t 0x89 h.q s
        members u h.q ≠ [] → v < pAttrN u A.prismVectorCount h.q → atBoundary u h.q = true → h.q < u.ports.length →
        ∃ w, exec (.prismVector t h v) s = .next (ok h 0x89 [] w) ∧ (port w h.q).prism.vector = v ∧ (port w h.q).prism.next = none
          ∧ { w with ports := u.ports, slices := u.slices } = u)
      ∧ (turnComes (.prismCalibrate t h) t 0x88 h s = true →
        let u := atTurn (.prismCalibrate t h) t 0x88 h.q s
        let w := prismCal h.q u
        members u h.q ≠ [] →
        interlocked u = false → reserveWithheld u = false →
        (notReady u h.q = true → exec (.prismCalibrate t h) s = .next (noteSkipped (wakeSlices h.q (modPort h.q (fun x =>
          { x with task := some { hdr := h, op := 0x88, proc := .pending u.now } }) u))))
        ∧ (notReady u h.q = false →
          exec (.prismCalibrate t h) s = .next (noteSkipped (if (port w h.q).prism.failed
            then respond h 0x88 E.prismPhase (({ port := h.q } : Detail).bytes h.q) w
            else ok h 0x88 (((port w h.q).prism.err.map (leI 2)).flatten) w))))
      ∧ (turnComes (.lensBaseline t h) t 0x90 h s = true →
        let u := atTurn (.lensBaseline t h) t 0x90 h.q s
        pAttr u A.lensEnable h.q ≠ 0 → (port u h.q).lens.confirming = false →
        exec (.lensBaseline t h) s = .next (ok h 0x90 [] (modLens h.q lensEmpty u)))
      ∧ (turnComes (.lensMeasure t h) t 0x91 h s = true →
        let u := atTurn (.lensMeasure t h) t 0x91 h.q s
        pAttr u A.lensEnable h.q ≠ 0 → (port u h.q).radio.phase = .off → interlocked u = false → reserveWithheld u = false →
        offRun u h.q = false →
        (notReady u h.q = true → exec (.lensMeasure t h) s = .next (wakeSlices h.q (modPort h.q (fun x =>
          { x with task := some { hdr := h, op := 0x91, proc := .pending u.now } }) u)))
        ∧ (notReady u h.q = false → ∃ m d, exec (.lensMeasure t h) s = .next (ok h 0x91 (leI 2 m.1 ++ leI 2 m.2 ++ le 2 d ++ [0, 0])
          (pulseTraces h.q (modLens h.q (fun l => { l with last := m }) { u with free := u.free + 1 }))))))
  ∧ (
    ∀ (t : Nat) (p : PortNo) (m : Cpx) (s : State), lensRuns s p = true →
      let u := advance t s
      timerDue u (tC p) = true →
      ((timer s (tC p)).action = 0x09 → (port s p).lens.confirming = false →
        let w := modTimer (tC p) (fun c => { c with fire := c.fire + c.period }) u
        exec (.lensPulse t p m) s = .next (noteSkipped (if lensSkips w p then countSkip p w else lensAct p m w)))
      ∧ ((port s p).lens.confirming = true →
        let w := armCadence p (modLens p (fun l => { l with confirming := false }) u)
        exec (.lensConfirm t p m) s = .next (noteSkipped (if lensSkips w p then countSkip p w else lensDecide p m w))))
  ∧ (
    ∀ (t : Nat) (p : PortNo) (s : State), s.mod.st = .service →
      let u := advance t s
      (∀ levelMv onset e, blankEnd u p = some e → pAttr s A.z8Enable p ≠ 0 → pAttr s A.z8Wake p = 0 → (port s p).z8.present = false →
        pAttrN s A.z8ThresholdMv p ≤ levelMv → max onset e + usT (pAttrN s A.z8MinUs p) ≤ u.now →
        exec (.z8FieldDetected t p levelMv onset) s = .next (raiseAt Ev.z8Field (tsAt u (max onset e)) p (le 2 levelMv)
          (modPort p (fun x => { x with z8 := { x.z8 with present := true } }) u)))
      ∧ (∀ levelMv onset, (port s p).z8.present = true → exec (.z8FieldDetected t p levelMv onset) s = .next u)
      ∧ (∀ e, blankEnd u p = some e → (port s p).z8.present = true →
        (e ≤ u.now → exec (.z8FieldGone t p) s
          = .next (raise Ev.z8FieldGone p [] (modPort p (fun x => { x with z8 := { x.z8 with present := false } }) u)))
        ∧ (u.now < e → exec (.z8FieldGone t p) s = .next u)))

/-- In a Hymond window that holds no frame, a sync of the window's kind within the limits of the port, on or before the tick of the close action, is
held with the window's gain and an equaliser trained on it; a header whose check passes and that names an enabled mode and an admissible length is
held with it, and the equaliser goes on in the mode it names; before the close, a header whose check fails counts a false sync and lets the frame go,
and the search goes on where nothing is ending the command (R124, R152 to R155, R162, R163). In an ISO window that holds no frame, on or before the
close, a start of frame whose energy stands 9 dB above the field-on floor, or any before that floor has been measured, is held; during the search of a
window on the fast AGC, a block that clips takes 3 gain steps off (R124, R135, R159). Choices of the model that it rests on: log entries 4, 41, 66. -/
def Obligations.FramesAreFound : Prop :=
  (
    ∀ (t : Nat) (p : PortNo) (w : Window) (s : State), (port s p).air.win = some w → 0x10 ≤ w.mode →
      let u := advance t s
      (∀ h4 errs corr strength, u.now ≤ w.closeAt → w.held = none → (h4 = true ↔ w.mode = 0x14) → errs ≤ pAttrN s A.rxSyncErrors p →
        pAttrN s A.rxSyncThreshold p ≤ corr →
        let k := { tick := u.now, errs := errs, corr := corr, strength := strength, gain := w.gain, fast := w.fast, header := none,
                   eq := trainEq u.free (w.mode - 0x10) u.now, paths := pathWeights u u.free p }
        exec (.syncDetected t p h4 errs corr strength) s
          = .next (modAir p (fun a => { a with win := a.win.map fun w => { w with held := some k } }) (drawn u)))
      ∧ (∀ k (header : BitVec 48) (check : BitVec 16), w.held = some k → k.header = none →
        (check.toNat = crc16 (le 6 header.toNat) → headerError u p header.toNat = none →
          let k' := { k with header := some header.toNat, eq := headerEq u.free (hMode header.toNat) k.eq }
          exec (.headerVerdict t p header check) s = .next (holdFrame p k' (dateQd p k' (drawn u))))
        ∧ (check.toNat ≠ crc16 (le 6 header.toNat) → p < s.ports.length → u.now < w.closeAt → (∀ x, (port s p).task = some x → x.ending = none) →
          ∃ v, exec (.headerVerdict t p header check) s = .next v
            ∧ (port v p).air.win = some { w with held := none, dropped := w.dropped + 1 }
            ∧ (port v p).rx.falseSync = ((port s p).rx.falseSync + 1) % 2 ^ 32)))
  ∧ (
    ∀ (t : Nat) (p : PortNo) (w : Window) (s : State), (port s p).air.win = some w → w.held = none →
      let u := advance t s
      u.now ≤ w.closeAt →
      (∀ energy strength, w.mode < 0x10 → (∀ f, (port s p).rx.noiseField = some f → f + 900 ≤ energy) →
        exec (.isoSofDetected t p energy strength) s = .next (holdFrame p
          { tick := u.now, errs := 0, corr := 0, strength := strength, gain := w.gain, fast := w.fast, header := some 0,
            paths := pathWeights u u.free p } (drawn u)))
      ∧ (∀ energy strength f, (port s p).rx.noiseField = some f → energy < f + 900 →
        exec (.isoSofDetected t p energy strength) s = .next u)
      ∧ (∀ level, w.fast = true → p < s.ports.length →
        ∃ v, exec (.fastAgcBlock t p level true) s = .next v ∧ (port v p).air.win = some { w with gain := w.gain - 3 }))

/-- FRAME_VERDICT on a Hymond frame that is held with its header: its payload is judged by its length and its check, and the result goes on with the
measurements of the frame; RECEIVE_WINDOW_CLOSE ends a window that holds no frame once its time has come; BUSY_WAIT_EXPIRY ends the waits of R278 that
are over (R123, R173, R174, R278). The verdict on a payload: the right length, the right CRC-32C over header and payload and a frame type 9 to 11
pass; a wrong length or check is E_RX_CRC, and another type E_HY_FRAME (R174, R245, R247). Choices of the model that it rests on: log entries 4, 41.
-/
def Obligations.FramesAreJudged : Prop :=
  (
    ∀ (t : Nat) (p : PortNo) (s : State),
      let u := advance t s
      (∀ w k hd f m evm code out, (port s p).air.win = some w → 0x10 ≤ w.mode → w.held = some k → k.header = some hd →
        hyVerdict hd f = some (code, out) →
        exec (.frameVerdict t p f m evm) s = .next (judge p w k m evm code out u))
      ∧ (∀ w, (port s p).air.win = some w → w.held = none → w.closeAt ≤ u.now →
        exec (.receiveWindowClose t p) s = .next (windowEnd p w.closeAt { w with closed := true } u))
      ∧ (∀ w, (port s p).air.win = some w → (u.now < w.closeAt ∨ w.held.isSome = true) → exec (.receiveWindowClose t p) s = .next u)
      ∧ exec (.busyWaitExpiry t p) s = .next (goOn p (resumeParked p
          (modPort p (fun x => { x with parked := x.parked.map fun k => if k.ready ≤ u.now then { k with waited := true } else k }) u))))
  ∧ (
    ∀ (hd : Nat) (payload : Bytes) (check : Nat),
      let good := payload.length = hLen hd ∧ check = crc32c (le 6 hd ++ payload)
      (good → 9 ≤ hType hd → hType hd ≤ 11 → check < 2 ^ 32 → hyVerdict hd (.hymond payload check) = some (0, .hymond hd payload 0))
      ∧ (good → (hType hd < 9 ∨ 11 < hType hd) → check < 2 ^ 32 → hyVerdict hd (.hymond payload check) = some (E.hyFrame, .rejected E.hyFrame hd))
      ∧ (¬ good → check < 2 ^ 32 → hyVerdict hd (.hymond payload check) = some (E.rxCrc, .rejected E.rxCrc hd)))

/-! ### The cluster (Table 8-14, R446, R461 to R475) -/

/-- PLAN_LOAD whose chunk lies within a plan of an admissible length adds its chunk to the plan staged under the same ID, or begins a new one.
PLAN_ACTIVATE, where none waits, of a plan that passes Table 9-4 waits for its frame, and of one that fails is answered with the first failing check;
CLUSTER_STATUS answers LOCK, the offset, the plans and the frame number (R461, R462). A plan whose frame has come becomes the active plan:
PLAN_ACTIVATE is answered with the frame number, EV_PLAN_ACTIVE is raised, and the stepped ports and the ports at their boundary take the run of the
frame; before that frame nothing happens, and with the time lost beyond holdover it fails with E_TIME_UNLOCKED (R463). Cluster calibration: CAL_TONE
that nothing bars asks Press for 10 mW at priority 7; once granted it holds them until its end, which is answered, and one that was not granted by
then fails with E_PRESS_TIMEOUT; CAL_LISTEN that nothing bars waits for its instant, and its end enters each coupling, held between -90.00 and -10.00
dB, and answers them. DEDUP_IMPORT takes every record and answers how many were taken (R446, R470 to R475). Choices of the model that it rests on: log
entries 4, 5, 50, 62. -/
def Obligations.PlansCalibrationAndImport : Prop :=
  (
    ∀ (t : Nat) (h : Hdr) (s : State),
      (∀ id total off data, turnComes (.planLoad t h id total off data) t 0xA0 h s = true →
        let u := atTurn (.planLoad t h id total off data) t 0xA0 h.q s
        let old := match u.cluster.staged with | some x => x.chunks | none => []
        total ≤ 82204 → off + data.length ≤ total → (∀ x, u.cluster.staged = some x → x.id = id) →
        exec (.planLoad t h id total off data) s = .next (ok h 0xA0 []
          { u with cluster := { u.cluster with staged := some ⟨id, total, (off, data) :: old⟩ } }))
      ∧ (∀ id total off data x, turnComes (.planLoad t h id total off data) t 0xA0 h s = true →
        let u := atTurn (.planLoad t h id total off data) t 0xA0 h.q s
        total ≤ 82204 → off + data.length ≤ total → u.cluster.staged = some x → x.id ≠ id → u.cluster.pending = none →
        exec (.planLoad t h id total off data) s = .next (ok h 0xA0 []
          { u with cluster := { u.cluster with staged := some ⟨id, total, [(off, data)]⟩ } }))
      ∧ (∀ id due, turnComes (.planActivate t h id due) t 0xA1 h s = true →
        let u := atTurn (.planActivate t h id due) t 0xA1 h.q s
        u.cluster.pending = none → exec (.planActivate t h id due) s = .next (match planError u id due with
          | none => { u with cluster := { u.cluster with pending := some (id, due, h) } }
          | some (code, d) => respond h 0xA1 code d u))
      ∧ (turnComes (.clusterStatus t h) t 0xA2 h s = true →
        let u := atTurn (.clusterStatus t h) t 0xA2 h.q s
        exec (.clusterStatus t h) s = .next (ok h 0xA2 ([b8 u.time.lock, 0, 0, 0] ++ leI 4 (timeOffset u)
          ++ le 4 ((u.cluster.active.map (·.1)).getD 0) ++ le 4 ((u.cluster.pending.map (·.1)).getD 0) ++ le 8 (frameNo u)) u)))
  ∧ (
    ∀ (t id due : Nat) (h : Hdr) (b : Bytes) (s : State), s.cluster.pending = some (id, due, h) →
      let u := advance t s
      (u.now < tickOf u due → exec (.planTakesForce t) s = .next u)
      ∧ (tickOf u due ≤ u.now → s.time.lock ≠ 0 → s.cluster.staged.bind Staged.bytes = some b →
        let w : State := { u with cluster := { u.cluster with active := some (id, b), staged := none, pending := none } }
        let v := raise Ev.planActive 0xFF (le 4 id ++ le 8 (frameNo w)) (ok h 0xA1 (le 8 (frameNo w)) w)
        exec (.planTakesForce t) s = .next (reselect ((List.range 64).foldl (fun s p =>
          if stepped s p && !isFollower s p then runStart p s else if atBoundary s p then followRun p s else s) v)))
      ∧ (tickOf u due ≤ u.now → s.time.lock = 0 → (∀ n, s.time.holdUntil = some n → n ≤ u.now) →
        exec (.planTakesForce t) s = .next (fail h 0xA1 E.timeUnlocked {} { u with cluster := { u.cluster with pending := none } })))
  ∧ (
    ∀ (t : Nat) (h : Hdr) (s : State),
      (∀ (p : Nat) ch power due us, turnComes (.calTone t h p ch power due us) t 0xA3 h s = true →
        let u := atTurn (.calTone t h p ch power due us) t 0xA3 h.q s
        ts u + 1000000 ≤ (due : Int) → u.time.lock ≠ 0 → hasField u p = false → (port u p).tone = none →
        bit (mAttrN u A.moduleTxChannelMask) ch = true → planGives u p ch due us = true → u.cluster.clashes = [] → interlocked u = false →
        let asked := pressAskAt 7 p 10 .tone (modPort p (fun x => { x with tone := some ⟨h, ch, due, us, false, (u.moduleId, p)⟩ }) u)
        (asked.1 = false → exec (.calTone t h p ch power due us) s = .next asked.2)
        ∧ (asked.1 = true → exec (.calTone t h p ch power due us) s = .next (endTone p E.pressTimeout (pressDetail asked.2 p 10) asked.2)))
      ∧ (∀ (p : PortNo) x, (port s p).tone = some x →
        let u := advance t s
        let w : State := { u with press := { u.press with waiting := u.press.waiting.filter fun r => r.port != p || r.kind != .tone } }
        tickOf u (x.due + 1000 * x.durUs) ≤ u.now →
        (x.granted = true → hasField s p = false →
          exec (.calToneEnd t p) s = .next (ok x.hdr 0xA3 [] (modPort p (fun x => { x with tone := none })
            (modRadio p (fun r => { r with auxMw := r.auxMw - 10 }) w))))
        ∧ (x.granted = false → exec (.calToneEnd t p) s = .next (fail x.hdr 0xA3 E.pressTimeout (pressDetail u p 10)
            (modPort p (fun x => { x with tone := none }) w))))
      ∧ (∀ ports due us m p, turnComes (.calListen t h ports due us m p) t 0xA4 h s = true →
        let u := atTurn (.calListen t h ports due us m p) t 0xA4 h.q s
        ts u + 1000000 ≤ (due : Int) → u.time.lock ≠ 0 → (∀ q ∈ portsOf ports, hasField u q = false) → u.cluster.clashes = [] →
        exec (.calListen t h ports due us m p) s
          = .next { u with cluster := { u.cluster with listens := u.cluster.listens ++ [⟨h, ports, due, us, m, p⟩] } })
      ∧ (∀ l ks, s.cluster.listens = [l] → ks.length = (portsOf l.ports).length →
        let u := advance t s
        let held := ks.map fun k => max (-9000) (min (-1000) k)
        tickOf u (l.due + 1000 * l.durUs) ≤ u.now →
        ∃ v, exec (.calListenEnd t ks) s = .next v ∧ v.cluster.listens = []
          ∧ v.outRings = (respondList l.hdr 0xA4 2 (held.map (leI 2)) u).outRings)
      ∧ (∀ recs, turnComes (.dedupImport t h recs) t 0xA5 h s = true →
        let u := atTurn (.dedupImport t h recs) t 0xA5 h.q s
        let r := recs.foldl (fun (a : Nat × State) r => (a.1 + bnat (importRec r a.2).1, (importRec r a.2).2)) (0, u)
        u.cluster.clashes = [] → exec (.dedupImport t h recs) s = .next (ok h 0xA5 (le 2 r.1 ++ [0, 0]) r.2)))

/-! ### Security (Table 8-15, R487 to R519) -/

/-- What the security commands of Table 8-15 that create, show and destroy casks do once no check bars them (a key that does not unwrap is E_UNWRAP):
CASK_INFO, CASK_IMPORT, CASK_GENERATE, CASK_DERIVE, CASK_DESTROY and CASK_LIST (R487, R488, R490 to R496). A cask that has been filled is LIVE with
its attributes and key under a new incarnation, every other cask keeps its content, and a cask that has been emptied is EMPTY and holds no key (R487,
R488, R496). Choices of the model that it rests on: log entries 3, 5, 30, 51. -/
def Obligations.CasksAreMadeAndFilled : Prop :=
  (
    ∀ (t : Nat) (h : Hdr) (n : Nat) (s : State),
      (turnComes (.caskInfo t h n) t 0xC0 h s = true →
        let u := atTurn (.caskInfo t h n) t 0xC0 h.q s
        exec (.caskInfo t h n) s = .next (cellarOk h 0xC0 (le 8 (caskWord u n)
          ++ [b8 (match caskSt u n with | .empty => 0 | .live => 1 | .revoked => 2), 0, 0, 0]) u))
      ∧ (∀ kek attr x, turnComes (.caskImport t h n kek attr x) t 0xC1 h s = true →
        let u := atTurn (.caskImport t h n kek attr x) t 0xC1 h.q s
        lifeCycle u ≠ 3 → useCheck u kek (bit · useWrap) (some invAdmin) = none → caskSt u n = .empty → attrGood attr = true →
        x.length = keyBits attr / 8 + 8 → exec (.caskImport t h n kek attr x) s = .next (match keyUnwrap (keyOf u kek) x with
          | some key => cellarOk h 0xC1 [] (fillCask n key attr 0xFFFF 0 u)
          | none => fail h 0xC1 E.unwrap { arg1 := (kek : Int) } u))
      ∧ (∀ attr, turnComes (.caskGenerate t h n (keyBits attr) attr) t 0xC2 h s = true →
        let u := atTurn (.caskGenerate t h n (keyBits attr) attr) t 0xC2 h.q s
        let r := randomBytes (keyBits attr / 8) u
        lifeCycle u ≠ 3 → caskSt u n = .empty → attrGood attr = true →
        exec (.caskGenerate t h n (keyBits attr) attr) s = .next (cellarOk h 0xC2 [] (fillCask n r.1 attr 0xFFFF 0 r.2)))
      ∧ (∀ parent attr label context, turnComes (.caskDerive t h n parent attr label context) t 0xC3 h s = true →
        let u := atTurn (.caskDerive t h n parent attr label context) t 0xC3 h.q s
        let a := ((caskAt u parent).map (·.attr)).getD 0
        lifeCycle u ≠ 3 → useCheck u parent (bit · useDerive) (some invAdmin) = none → caskSt u n = .empty → attrGood attr = true →
        field attr 25 24 &&& field a 25 24 = field attr 25 24 → depthOf u 8 parent < 4 →
        exec (.caskDerive t h n parent attr label context) s = .next (cellarOk h 0xC3 (le 2 (incOf u parent) ++ [0, 0])
          (fillCask n (kdf u.nvm.sec.debugOpen (keyOf u parent) label context (keyBits attr)) attr parent (incOf u parent) u)))
      ∧ (turnComes (.caskDestroy t h n) t 0xC4 h s = true →
        let u := atTurn (.caskDestroy t h n) t 0xC4 h.q s
        let w := zeroiseRevoked (emptyCask n u)
        (caskSt u n = .empty → exec (.caskDestroy t h n) s = .next (cellarOk h 0xC4 [0, 0, 0, 0] u))
        ∧ (caskSt u n ≠ .empty → exec (.caskDestroy t h n) s = .next (cellarOk h 0xC4
            (le 2 ((casksIn w .revoked).length - ((casksIn u .revoked).filter (· != n)).length) ++ [0, 0]) w)))
      ∧ (turnComes (.caskList t h) t 0xCD h s = true →
        let u := atTurn (.caskList t h) t 0xCD h.q s
        exec (.caskList t h) s = .next (cellarOk h 0xCD (le 128 ((casksIn u .live).foldl (fun m n => m ||| 2 ^ n) 0)) u)))
  ∧ (
    ∀ (n : Nat) (key : Bytes) (attr : Nat) (s : State),
      let v := fillCask n key attr 0xFFFF 0 s
      (caskSt v n = .live ∧ keyOf v n = key ∧ caskAt v n = some ⟨true, key, attr, 0xFFFF, 0, s.nvm.sec.debugOpen, (incOf s n + 1) % 65536⟩)
      ∧ (∀ m, m ≠ n → caskAt v m = caskAt s m)
      ∧ (caskSt (emptyCask n v) n = .empty ∧ keyOf (emptyCask n v) n = [] ∧ ∀ m, m ≠ n → caskAt (emptyCask n v) m = caskAt s m))

/-- CASK_DESTROY leaves the cask EMPTY, whatever its state, and answers the number of casks that were not REVOKED before and are afterwards; on an
EMPTY cask it answers 0 and no cask changes; every cask but the one destroyed keeps its slot, a REVOKED one too (R496). -/
def Obligations.DestroyingACask : Prop :=
  ∀ (t : Nat) (h : Hdr) (n : Nat) (s : State), turnComes (.caskDestroy t h n) t 0xC4 h s = true →
    let u := atTurn (.caskDestroy t h n) t 0xC4 h.q s
    List.Pairwise (fun a z => a.1 < z.1) u.nvm.sec.casks →
    ∃ w, exec (.caskDestroy t h n) s
        = .next (cellarOk h 0xC4 (le 2 ((casksIn w .revoked).filter fun m => caskSt u m != .revoked).length ++ [0, 0]) w)
      ∧ caskSt w n = .empty ∧ (∀ m, m ≠ n → caskAt w m = caskAt u m)
      ∧ (caskSt u n = .empty → ((casksIn w .revoked).filter fun m => caskSt u m != .revoked).length = 0)

/-- The use of casks: CASK_ENCRYPT and CASK_DECRYPT with a cask that permits it answer the data of R497, but a CMAC whose IV is not all zero fails
with E_RANGE; CASK_WRAP answers the wrapped key and ATTEST the signed report (R495, R497, R504). The checks of a cask that a command uses come in the
order of R490: an empty cask, a revoked one, a usage it lacks, an invoker it bars, and a life-cycle state it bars; a cask that fails none may be used
(R490). Choices of the model that it rests on: log entries 5, 30, 51. -/
def Obligations.CasksAreUsed : Prop :=
  (
    ∀ (t : Nat) (h : Hdr) (n : Nat) (s : State),
      (∀ mode iv data, turnComes (.caskEncrypt t h n mode iv data) t 0xC5 h s = true →
        let u := atTurn (.caskEncrypt t h n mode iv data) t 0xC5 h.q s
        let x := blocks16 (data.length / 16 + 1) data
        useCheck u n (fun a => bit a useEncrypt && !bit a bitAttest) (some (invOf h)) = none →
        ((mode = 3 → ∀ z ∈ iv, z = 0) →
          exec (.caskEncrypt t h n mode iv data) s = .next (cellarOk h 0xC5 (dataBody (match mode with
            | 1 => cbcEnc (keyOf u n) iv x | 2 => ctr (keyOf u n) (ofBe iv) x | _ => cmac (keyOf u n) data)) u))
        ∧ (mode = 3 → (∃ z ∈ iv, z ≠ 0) → exec (.caskEncrypt t h n mode iv data) s = .next (failRange h 0xC5 12 u)))
      ∧ (∀ mode iv data, turnComes (.caskDecrypt t h n mode iv data) t 0xC6 h s = true →
        let u := atTurn (.caskDecrypt t h n mode iv data) t 0xC6 h.q s
        let x := blocks16 (data.length / 16 + 1) data
        useCheck u n (bit · useDecrypt) (some (invOf h)) = none →
        exec (.caskDecrypt t h n mode iv data) s
          = .next (cellarOk h 0xC6 (dataBody (if mode == 1 then cbcDec (keyOf u n) iv x else ctr (keyOf u n) (ofBe iv) x)) u))
      ∧ (∀ k, turnComes (.caskWrap t h n k) t 0xC7 h s = true →
        let u := atTurn (.caskWrap t h n k) t 0xC7 h.q s
        useCheck u n (bit · useWrap) (some invAdmin) = none → useCheck u k (bit · bitExportable) none = none →
        exec (.caskWrap t h n k) s = .next (cellarOk h 0xC7 (dataBody (keyWrap (keyOf u n) (keyOf u k))) u))
      ∧ (∀ nonce, turnComes (.attest t h n nonce) t 0xC8 h s = true →
        let u := atTurn (.attest t h n nonce) t 0xC8 h.q s
        let r := le 8 u.nvm.serial ++ [b8 (lifeCycle u), b8 (bnat u.nvm.sec.debugOpen)] ++ le 2 (fwVersion u) ++ le 4 u.nvm.bootCount
        useCheck u n (fun a => bit a useEncrypt && bit a bitAttest) (some invAdmin) = none →
        exec (.attest t h n nonce) s = .next (cellarOk h 0xC8 (r ++ hmac (keyOf u n) (ascii "JZ64-ATTEST" ++ fit 16 nonce ++ r)) u)))
  ∧ (
    ∀ (s : State) (n b : Nat) (usage : Nat → Bool) (c : Cask), caskAt s n = some c →
      (caskSt s n = .empty → useCheck s n usage (some b) = some E.caskEmpty)
      ∧ (caskSt s n = .revoked → useCheck s n usage (some b) = some E.keyRevoked)
      ∧ (caskSt s n = .live → usage c.attr = false → useCheck s n usage (some b) = some E.caskUsage)
      ∧ (caskSt s n = .live → usage c.attr = true → bit c.attr b = false → useCheck s n usage (some b) = some E.caskInvoker)
      ∧ (caskSt s n = .live → usage c.attr = true → bit c.attr b = true → lifeCycle s = 3 → useCheck s n usage (some b) = some E.caskLifeCycle)
      ∧ (caskSt s n = .live → usage c.attr = true → bit c.attr b = true → lifeCycle s = 2 → bit c.attr lcField = true →
          useCheck s n usage (some b) = none))

/-- LIFECYCLE_SET from FACTORY to FIELD with its confirmation word programs FIELD, from FACTORY or FIELD to RETIRED programs RETIRED, and
DEBUG_OPEN_SET programs DEBUG_OPEN; from that instant the casks it destroys count as EMPTY. Outside DOZE the command is answered, with EV_LIFE_CYCLE,
when the erasure has ended, and in RETIRED no page, no helper data and no root check is then left. A wrong word or an order that the life cycle does
not allow changes nothing but the rings and the recorder (R506 to R508). Choices of the model that it rests on: log entries 5, 51. -/
def Obligations.LifeCycleOnlyGoesForward : Prop :=
  ∀ (t : Nat) (h : Hdr) (s : State),
    (∀ target confirm, turnComes (.lifecycleSet t h target confirm) t 0xC9 h s = true →
      let u := atTurn (.lifecycleSet t h target confirm) t 0xC9 h.q s
      (confirm = 0x5A4A1C5E → lifeCycle u = 1 → target = 2 →
        ∃ v, exec (.lifecycleSet t h target confirm) s = .next v ∧ lifeCycle v = 2 ∧ v.outRings = u.outRings ∧ v.cellar.change.isSome = true
          ∧ ∀ n c, caskAt u n = some c → bit c.attr lcField = false → caskSt v n = .empty)
      ∧ (confirm = 0x5A4A1C5E → (lifeCycle u = 1 ∨ lifeCycle u = 2) → target = 3 →
        ∃ v, exec (.lifecycleSet t h target confirm) s = .next v ∧ lifeCycle v = 3 ∧ v.outRings = u.outRings ∧ ∀ n, caskSt v n = .empty)
      ∧ (confirm ≠ 0x5A4A1C5E ∨ target ≤ lifeCycle u → ∃ v, exec (.lifecycleSet t h target confirm) s = .next v ∧ OnlySent u v))
    ∧ (∀ confirm, turnComes (.debugOpenSet t h confirm) t 0xCA h s = true →
      let u := atTurn (.debugOpenSet t h confirm) t 0xCA h.q s
      (confirm = 0x5A4ADB60 → (lifeCycle u = 1 ∨ lifeCycle u = 2) → u.nvm.sec.debugOpen = false →
        ∃ v, exec (.debugOpenSet t h confirm) s = .next v ∧ v.nvm.sec.debugOpen = true ∧ lifeCycle v = lifeCycle u ∧ v.outRings = u.outRings)
      ∧ (confirm ≠ 0x5A4ADB60 ∨ lifeCycle u = 3 ∨ u.nvm.sec.debugOpen = true →
        ∃ v, exec (.debugOpenSet t h confirm) s = .next v ∧ OnlySent u v))
    ∧ (∀ op n, s.cellar.change = some (some h, op, n) → s.mod.st ≠ .doze →
      let u := advance t s
      let w : State := { u with nvm := { u.nvm with sec := Sec.erase u.cellar.root u.nvm.sec }, cellar := { u.cellar with change := none } }
      let v := cellarOk h op (le 2 n ++ [0, 0]) w
      exec (.lifeCycleChangeComplete t) s = .next (raise Ev.lifeCycle 0xFF (lifeArgs v s.nvm.sec.erasingFrom n) v)
      ∧ (s.nvm.sec.retired = true → w.nvm.sec.pages = [] ∧ w.nvm.sec.helper = [[], []] ∧ w.nvm.sec.rootCheck = []))

/-- CRED_WRITE and CRED_VERIFY whose casks pass R490, to a tag whose descriptor permits them, become the port's running command and begin with the
tag: CRED_WRITE with the preparation of the slot, CRED_VERIFY with its challenge, but either with an ACK to a tag heard by its header alone; Cellar
then places the key page of the running CRED_WRITE in the secure buffer of the port (R499 to R502). Choices of the model that it rests on: log entries
3, 5, 46. -/
def Obligations.CredentialsAreWrittenAndVerified : Prop :=
  ∀ (t : Nat) (h : Hdr) (s : State),
    (∀ n cask slot format x, turnComes (.credWrite t h n cask slot format) t 0xCB h s = true →
      let u := atTurn (.credWrite t h n cask slot format) t 0xCB h.q s
      let d := resolveDl u h.q 0
      let m := resolveUl u h.q 0
      let tc := mAttrN u A.secCredTransportCask
      let c : HyCmd := { stage := if x.ident.isSome then .credGen else .preAck, after := .credGen, handle := n, dl := d, ul := m,
                         page := 0xF0 + slot, ident := x.ident.getD [], cask := cask,
                         slot := slot, format := format, addr := incOf u cask, count := incOf u tc, transport := tc }
      hyHandle u h.q n = some x → x.st = .active → modesOn u h.q d m = true →
      (∀ y, x.desc = some y → descAllows y d m 0xCB = true ∧ slot < dKeys y) → (wrappedFormat format = false ∨ tc ≠ 0xFFFF) → credCheck u 0xCB cask format = none →
      exec (.credWrite t h n cask slot format) s = .next (hyBegin h.q c none (beginTask h 0xCB h.q (.hy c) u)))
    ∧ (∀ n cask slot x, turnComes (.credVerify t h n cask slot) t 0xCC h s = true →
      let u := atTurn (.credVerify t h n cask slot) t 0xCC h.q s
      let d := resolveDl u h.q 0
      let m := resolveUl u h.q 0
      let c : HyCmd := { stage := if x.ident.isSome then .credChallenge else .preAck, after := .credChallenge, handle := n, dl := d, ul := m,
                         ident := x.ident.getD [], cask := cask, slot := slot, addr := incOf u cask }
      let v := beginTask h 0xCC h.q (.hy c) u
      hyBar u h.q 0xCC n d m = none → hyHandle u h.q n = some x → credCheck u 0xCC cask 0 = none →
      exec (.credVerify t h n cask slot) s = .next (if x.ident.isSome then credChallenge h.q 0xCC c none v else hyBegin h.q c none v))
    ∧ (∀ (p : PortNo) k c, (port s p).task = some k → k.op = 0xCB → k.proc = .hy c → c.stage = .credGen → (port s p).secBuf = none →
      s.cellar.change = none → s.mod.storeOk = true → credRevoked s 0xCB c = none →
      exec (.cellarResultPlaced t p) s
        = .next (modPort p (fun x => { x with secBuf := some ⟨c.cask, if wrappedFormat c.format then some c.transport else none, c.handle,
            credPage (advance t s) c⟩ }) (advance t s)))

/-! ### Diagnostics, sparing and events (Table 8-16, R526 to R545) -/

/-- SELF_TEST runs the named groups and answers which passed and which failed; SPARE_STATUS, WEAR_READ and EVENT_LOG_READ answer their lists;
COUNTERS_CLEAR answers, and the counters of the named ports and of the link are 0 (R436, R526, R528, R539, R545). CAPTURE_ARM of an enabled buffer
that is free arms it; a full buffer answers with the timestamp of its trigger sample, holds the samples and is free; CAPTURE_READ answers a part of
them; TRIGGER_ARM arms an enabled trigger (R436). Choices of the model that it rests on: log entries 3, 5, 53, 55, 62. -/
def Obligations.DiagnosticsAndCaptures : Prop :=
  (
    ∀ (t : Nat) (h : Hdr) (s : State),
      (∀ g, turnComes (.selfTest t h g) t 0xE0 h s = true →
        let u := atTurn (.selfTest t h g) t 0xE0 h.q s
        let bad := (List.range 8).filter fun i => bit g i && !Config.testPasses u.free i && !(groupSpares (drawn u) i).isEmpty
        let w := bad.foldl (fun s i => match groupSpares s i with | x :: _ => spareFails s x | [] => s) (drawn u)
        let failed := maskOf bad
        exec (.selfTest t h g) s = .next (if failed = 0 then ok h 0xE0 (le 4 g ++ le 4 0) w
          else respond h 0xE0 E.selfTest (le 4 (g ^^^ failed) ++ le 4 failed ++ ({} : Detail).bytes h.q) w))
      ∧ (turnComes (.spareStatus t h) t 0xE5 h s = true →
        let u := atTurn (.spareStatus t h) t 0xE5 h.q s
        exec (.spareStatus t h) s = .next (respondList h 0xE5 4 ((List.range 7).map fun k => [b8 (k + 1), 0] ++ le 2 (freeSpares u (k + 1))) u))
      ∧ (∀ m a n, turnComes (.wearRead t h m a n) t 0xE6 h s = true →
        let u := atTurn (.wearRead t h m a n) t 0xE6 h.q s
        exec (.wearRead t h m a n) s = .next (respondList h 0xE6 12 ((((List.range n).map (a + ·)).filter (· < watched m)).map fun i =>
          le 2 i ++ [0, 0] ++ leI 4 (wearOf u m i) ++ leI 4 (threshold m)) (drawn u)))
      ∧ (∀ a n, turnComes (.eventLogRead t h a n) t 0xE7 h s = true →
        let u := atTurn (.eventLogRead t h a n) t 0xE7 h.q s
        exec (.eventLogRead t h a n) s = .next (respondList h 0xE7 56 ((logFrom u.ev.log a n).map fun e =>
          le 2 e.code ++ le 2 e.body.length ++ fit 52 e.body) u))
      ∧ (∀ ports links, turnComes (.countersClear t h ports links) t 0xE8 h s = true →
        let u := atTurn (.countersClear t h ports links) t 0xE8 h.q s
        ∃ v, exec (.countersClear t h ports links) s = .next v ∧ (links = true → v.link.cnt = {}) ∧ (links = false → v.link = u.link)
          ∧ ∀ p < 64, bit ports p = true → (port v p).rx.crcFail = 0 ∧ (port v p).hy.retries = 0 ∧ (port v p).lens.skipped = 0))
  ∧ (
    ∀ (t : Nat) (h : Hdr) (s : State),
      (∀ b p point trigger n before, turnComes (.captureArm t h b p point trigger n before) t 0xE1 h s = true →
        let u := atTurn (.captureArm t h b p point trigger n before) t 0xE1 h.q s
        let arm : CapArm := { hdr := h, port := p, point := point, trigger := trigger, samples := n, before := before }
        capEnabled u b = true → (trigger < 0x10 ∨ trigEnabled u (trigger - 0x10) = true) → nth u.diag.arms b none = none →
        exec (.captureArm t h b p point trigger n before) s = .next { u with diag := { u.diag with
          arms := upd u.diag.arms b fun _ => some arm, samples := upd u.diag.samples b fun _ => [] } })
      ∧ (∀ (b : Fin 8) trig xs a, nth s.diag.arms b.val none = some a →
        let u := advance t s
        xs.length = a.samples → trig ≤ u.now →
        exec (.captureBufferFull t b trig xs) s = .next (ok a.hdr 0xE1 (leI 8 (tsAt u trig)) { u with diag := { u.diag with
          arms := upd u.diag.arms b fun _ => none, samples := upd u.diag.samples b fun _ => xs } }))
      ∧ (∀ b off n, turnComes (.captureRead t h b off n) t 0xE2 h s = true →
        let u := atTurn (.captureRead t h b off n) t 0xE2 h.q s
        capEnabled u b = true →
        exec (.captureRead t h b off n) s = .next (respondParts h 0xE2 (byteParts (slice (sampleBytes (nth u.diag.samples b [])) off n)) u))
      ∧ (∀ n due ns, turnComes (.triggerArm t h n due ns) t 0xE3 h s = true →
        let u := atTurn (.triggerArm t h n due ns) t 0xE3 h.q s
        trigEnabled u n = true →
        exec (.triggerArm t h n due ns) s = .next (ok h 0xE3 []
          { u with diag := { u.diag with triggers := upd u.diag.triggers n fun _ => some (ns, due) } })))

/-- SWAP_REQUEST for an instance that a spare can serve plans the swap, and for one that no spare can serve fails with E_NO_SPARE and the instance; a
planned swap is prepared, a slice that is to serve wakes with it, and by the end of svc.swap.defer_ms takes the next boundary whatever the field
(R530, R531, R538). A monitor whose value has reached its threshold raises EV_WEAR with the value and the threshold and keeps the value, and where
svc.swap.auto is set and a spare can serve, the swap is planned; below the threshold nothing happens, and at a fault condition of Table 11-2 an
emergency swap follows at once (R528 to R530). Choices of the model that it rests on: log entries 3, 4, 5, 53. -/
def Obligations.SwapsArePlanned : Prop :=
  (
    ∀ (t : Nat) (s : State),
      (∀ h kind inst, turnComes (.swapRequest t h kind inst) t 0xE4 h s = true →
        let u := atTurn (.swapRequest t h kind inst) t 0xE4 h.q s
        swapOf u kind inst = none →
        (canServe u kind inst = true → exec (.swapRequest t h kind inst) s = .next (planSwap kind inst (some h) u))
        ∧ (canServe u kind inst = false → exec (.swapRequest t h kind inst) s
            = .next (fail h 0xE4 E.noSpare { arg1 := (kind : Int), arg2 := (inst : Int) } u)))
      ∧ (∀ kind inst x, swapOf s kind inst = some x → x.prepared = false → kind ≠ 3 →
        let u := advance t s
        ∃ v, exec (.swapPrepared t kind inst) s = .next v
          ∧ swapOf v kind inst = some { x with prepared := true, deferAt := u.now + msT (mAttrN s A.svcSwapDeferMs) }
          ∧ { v with spares := s.spares, slices := s.slices } = u)
      ∧ (∀ kind inst x, swapOf s kind inst = some x → x.prepared = true → x.deferAt ≤ (advance t s).now →
        ∃ v, exec (.swapDeferExpiry t kind inst) s = .next v ∧ swapOf v kind inst = some { x with deferred := true }
          ∧ { v with spares := s.spares } = advance t s))
  ∧ (
    ∀ (t monitor inst : Nat) (value : Int) (s : State),
      let u := advance t s
      let kind := kindOf monitor
      let w := raise Ev.wear 0xFF (wearArgs monitor inst value) (noteWear monitor inst value u)
      (trips monitor value = false → wearFaults monitor value = false → exec (.wearMonitorTrip t monitor inst value) s = .next u)
      ∧ (wearFaults monitor value = true → wearHeard u monitor inst value = true →
          let v := if trips monitor value then wearRun monitor inst value u else noteWear monitor inst value u
          exec (.wearMonitorTrip t monitor inst value) s = .next (emergencyRun kind inst (Config.testPasses v.free inst) (drawn v)))
      ∧ (trips monitor value = true → wearFaults monitor value = false → s.mod.st = .service → wearHeard u monitor inst value = true →
          exec (.wearMonitorTrip t monitor inst value) s = .next (if mAttr w A.svcSwapAuto == 1 && (swapOf w kind inst).isNone && canServe w kind inst
            then planSwap kind inst none w else w)))

/-- A planned swap that is ready, on a spare that passes its calibration, takes place: the ports it held and interrupted go on. A fault of a working
instance ends what it served at once and draws the first spare; that of a block for which Table 11-1 has no spare halts the module (R20). Both go
through one operation; a spare that fails the daily test is retired (R531 to R539). What a swap does: the instance joins the fault map under its
cause, no swap of it is planned any more, and an engine's swap puts the spare in its place, zeroises the secure buffer of its port and leaves fields
and handles as they are (R526, R534, R537). Choices of the model that it rests on: log entries 3, 4, 53, 54. -/
def Obligations.SwapsTakePlace : Prop :=
  (
    ∀ (t kind inst : Nat) (s : State),
      let u := advance t s
      (∀ x spare rest, swapOf u kind inst = some x → swapReady u x = true → candidates u kind inst = spare :: rest →
        let v := finishSwap true kind inst spare (whyPlanned u kind inst) x.hdr u
        exec (.plannedSwap t kind inst true) s = .next ((swapPorts u kind inst true ++ portsOf x.held).foldl (fun s p => resumePort p s)
          ((portsOf x.held).foldl (fun s p => unhold p s) v)))
      ∧ (∀ spare rest, s.mod.st = .service → works u kind inst = true → swapOf u kind inst = none →
        candidates (endFault kind inst u) kind inst = spare :: rest →
        exec (.emergencySwap t kind inst true) s = .next ((swapPorts u kind inst false).foldl (fun s p => resumePort p (unhold p s))
          (finishSwap false kind inst spare 255 none (endFault kind inst u))))
      ∧ (∀ ok, s.mod.st = .service → 7 < kind → exec (.emergencySwap t kind inst ok) s = .next (standingFault kind inst u))
      ∧ (∀ failed, s.mod.st = .service → s.spares.testAt ≤ u.now →
        exec (.dailySelfTest t failed) s
          = .next (failed.foldl spareFails { u with spares := { u.spares with testAt := u.now + msT 86400000 } })))
  ∧ (
    ∀ (kind inst spare why : Nat) (s : State),
      ((kind, inst, why) ∈ (takeSpare kind inst spare why s).nvm.faultMap)
      ∧ (∀ p, portServed s 2 inst = some p → p < s.ports.length → p < s.spares.portEngine.length →
          let v := takeSpare 2 inst spare why s
          nth v.spares.portEngine p 0 = spare ∧ (port v p).secBuf = none ∧ (port v p).radio = (port s p).radio
            ∧ (port v p).hy = (port s p).hy ∧ (port v p).iso = (port s p).iso ∧ (∀ q, q ≠ p → port v q = port s q))
      ∧ ∀ inst2, swapOf (dropSwap kind inst s) kind inst = none ∧ (inst2 ≠ inst → swapOf (dropSwap kind inst s) kind inst2 = swapOf s kind inst2))

/-- An event that is not folded takes the next EVSEQ, stands newest in the log of 1024 and is an item of SQ2; an event is folded when SQ2 has no room
for it, or, unless it is one of the four that R543 keeps, while folding goes on or SQ2 holds 240 cells: then it is counted in its class and leaves the
log and the rings alone. Once SQ2 has drained to 192 cells EV_LOST carries the counts and the timestamps, and recording resumes (R543 to R545). -/
def Obligations.EventsAreLoggedAndFolded : Prop :=
  (∀ (code : Nat) (stamp : Int) (p : Nat) (args : Bytes) (s : State),
    let body := evBody stamp s.ev.next p args
    let v := recordEv code stamp p args s
    (fitsOut s sq2 (evItem code body) = true → (evKept code = true ∨ (s.ev.folding = false ∧ (outRing s sq2).level < 240)) →
      v.ev.next = (s.ev.next + 1) % 65536 ∧ v.ev.log = (⟨code, s.ev.next, body⟩ :: s.ev.log).take 1024 ∧ v.ev.counts = s.ev.counts
        ∧ v.outRings = (appendOut sq2 (evItem code body) s).outRings)
    ∧ ((fitsOut s sq2 (evItem code body) = false ∨ (evKept code = false ∧ (s.ev.folding = true ∨ 240 ≤ (outRing s sq2).level))) →
      v.ev.log = s.ev.log ∧ v.ev.next = s.ev.next ∧ v.outRings = s.outRings ∧ v.ev.folding = true ∧ v.ev.last = stamp
        ∧ (s.ev.counts.sum = 0 → v.ev.first = stamp) ∧ v.ev.counts = upd s.ev.counts (evClass code) fun n => min (n + 1) 65535))
  ∧ ∀ (t : Nat) (s : State), s.ev.folding = true →
    let u := advance t s
    ((outRing s sq2).level ≤ 192 →
      exec (.evLost t) s = .next (raise Ev.lost 0xFF ((s.ev.counts.map (le 2)).flatten ++ leI 8 s.ev.first ++ leI 8 s.ev.last)
        { u with ev := { u.ev with folding := false, counts := List.replicate 7 0 } }))
    ∧ (192 < (outRing s sq2).level → exec (.evLost t) s = .next u)

/-! ### The host link (07) -/

/-- What each control record of the host does on an open cable: HELLO opens a session where none is open or the same host holds it, and is refused
with E_SESSION_BUSY while another host has been heard within 2 s; ACK takes what it covers out of the replay store, NAK marks what it names for
retransmission, and CREDIT moves a limit forwards. From any other source ACK, NAK and CREDIT change nothing but the clock (R359, R360, R379, R384). An
opened session numbers from 0 on both sides with the limits exchanged, keeps what the host had not acknowledged for sending again in the order in
which it was first sent, and answers HELLO_ACK with the credit of all 72 queues; a limit that does not lie ahead of the one held is not taken; an ACK
leaves in the replay store exactly the frames behind it (R359, R361, R379, R383, R384). Choices of the model that it rests on: log entries 13, 14. -/
def Obligations.SessionsCreditAndReplay : Prop :=
  (
    ∀ (t : Nat) (src : Src) (s : State), cableOpen s = true → s.moduleId ≠ 0xFF →
      let u := advance t s
      (∀ nonce grant, (s.link.session = none → exec (.hello t src nonce grant) s = .next (openSession src nonce grant u))
        ∧ (∀ x, s.link.session = some x → x.src = src → exec (.hello t src nonce grant) s = .next (openSession src nonce grant (heard u)))
        ∧ (∀ x, s.link.session = some x → x.src ≠ src → u.now < s.link.lastValid + msT 2000 →
            exec (.hello t src nonce grant) s = .next (refuse src 0 E.sessionBusy u)))
      ∧ (∀ seq, (fromSession s src = true → exec (.ack t src seq) s = .next (onAck seq (heard u)))
        ∧ (fromSession s src = false → exec (.ack t src seq) s = .next u))
      ∧ (∀ first n, (fromSession s src = true → exec (.nak t src first n) s = .next (onNak first n (heard u)))
        ∧ (fromSession s src = false → exec (.nak t src first n) s = .next u))
      ∧ ∀ q limit, (fromSession s src = true → exec (.credit t src q limit) s = .next (takeCredit q limit (heard u)))
        ∧ (fromSession s src = false → exec (.credit t src q limit) s = .next u))
  ∧ (
    ∀ (src : Src) (nonce grant seq : Nat) (s : State),
      let v := openSession src nonce grant s
      (v.link.session = some ⟨src, nonce⟩ ∧ v.link.rxNext = 0 ∧ v.link.txSeq = 0 ∧ v.link.replay = []
          ∧ (∀ f, f ∈ v.link.old ↔ f ∈ s.link.replay ∨ f ∈ s.link.old) ∧ v.link.old.length = s.link.replay.length + s.link.old.length
          ∧ v.link.old.Pairwise (fun f g => f.birth ≤ g.birth)
          ∧ (∀ q < 72, nth v.link.rxLimit q 0 = freeIn s q ∧ nth v.link.txLimit q 0 = grant % 65536 ∧ nth v.link.rxAlive q 1 = 0)
          ∧ ∃ c, v.link.ctl = s.link.ctl ++ [c] ∧ c.dst = src ∧ c.recs.length = 73)
      ∧ (∀ held new, held < 65536 → (takeLimit held new = new % 65536 ∨ takeLimit held new = held)
          ∧ (takeLimit held new ≠ held → (takeLimit held new + 65536 - held) % 65536 ≤ 32767))
      ∧ ∀ f, f ∈ (onAck seq s).link.replay ↔ (f ∈ s.link.replay ∧ 32768 ≤ (seq + 65536 - f.seq) % 65536))

/-- A datagram that is tagged, or not for link.udp_port of an address of the module's own, is ignored. One with a wrong length or check is dropped,
counted and answered by a NAK; one that is no mailbox frame is counted alone; a frame that fails a check of its header is refused with that check's
error. A data frame of the session's host that is fresh, splits into items and is within its credit is accepted; its duplicate is acknowledged again
and not accepted twice (R355, R357, R370, R375 to R377). Choices of the model that it rests on: log entries 13, 14, 15, 17. -/
def Obligations.HostFramesAreChecked : Prop :=
  ∀ (t : Nat) (src dst : Src) (x : Bytes) (s : State), cableOpen s = true →
    let u := advance t s
    let ours := dst.port = s.link.udpPort ∧ ownAddr u dst.addr = true
    let hd := readHead x
    let good := 20 ≤ x.length ∧ num x 0 2 = 0x5A4A ∧ x.length = 20 + hd.len ∧ hd.len ≤ 1408
      ∧ crc32c (x.take (16 + hd.len)) = BitVec.ofNat 32 (num x (16 + hd.len) 4)
    (∀ vid, vid ≠ 0 ∨ ¬ ours → exec (.hostDataFrame t src vid ⟨dst, x⟩) s = .next u)
    ∧ (ours → (x.length < 20 ∨ num x 0 2 ≠ 0x5A4A) →
        exec (.hostDataFrame t src 0 ⟨dst, x⟩) s = .next (modCnt (fun c => { c with rxForeign := inc32 c.rxForeign }) u))
    ∧ (ours → good → ∀ code, headError u hd = some code → exec (.hostDataFrame t src 0 ⟨dst, x⟩) s = .next (refuseFrame src hd code u))
    ∧ (ours → good → headError u hd = none → hd.queue ≠ 0xFF → fromSession s src = false →
        exec (.hostDataFrame t src 0 ⟨dst, x⟩) s = .next (refuse src hd.seq E.noSession u))
    ∧ (ours → good → headError u hd = none → hd.queue ≠ 0xFF → fromSession s src = true →
        let w := heard (takeCredit hd.queue hd.limit u)
        queueOpen w hd.queue = true →
        (seqVerdict w.link hd.queue hd.seq hd.alive = .duplicate →
          exec (.hostDataFrame t src 0 ⟨dst, x⟩) s = .next (sendAck (modCnt (fun c => { c with rxDup := inc32 c.rxDup }) w)))
        ∧ (∀ items, seqVerdict w.link hd.queue hd.seq hd.alive = .fresh → splitItems (hd.len + 1) (slice x 16 hd.len) = some items →
          creditAllows (nth w.link.rxLimit hd.queue 0) (nth w.link.rxCells hd.queue 0) (frameCells items) = true →
          frameCells items ≤ freeIn w hd.queue →
          exec (.hostDataFrame t src 0 ⟨dst, x⟩) s = .next (acceptFrame hd items w)))

/-- Every sequence that lies within 256 of the next expected one and has not been accepted is fresh, ahead or behind by its alive counter, and once it
has been marked as accepted it is a duplicate (R376). -/
def Obligations.SequenceNumbersAreJudged : Prop :=
  ∀ (l : Link) (queue seq alive : Nat), l.rxNext < 65536 → seq < 65536 → (∀ n ∈ l.rxSeen, n < 256) →
    (∀ a ∈ l.rxAlive, a < 256) →
    (seqVerdict l queue seq alive = .fresh → nth l.rxAlive queue 0 % 256 = alive % 256)
    ∧ (seqVerdict l queue seq alive ≠ .duplicate → seqVerdict l queue seq alive ≠ .outside →
        ∀ a, seqVerdict (markSeq seq l) queue seq a = .duplicate)
    ∧ (seqVerdict l queue seq alive = .outside ↔ 256 ≤ (seq + 65536 - l.rxNext) % 65536 ∧ (seq + 65536 - l.rxNext) % 65536 < 32768)

/-- The header of a frame the module would send reads back as it was written, and its check passes (R367, R368, Table 7-3). -/
def Obligations.FramesReadBack : Prop :=
  ∀ (flags queue alive seq limit id sel : Nat) (payload : Bytes),
    flags < 256 → queue < 256 → alive < 256 → seq < 65536 → limit < 65536 → id < 256 → sel < 256 → payload.length < 65536 →
    let x := frameBytes flags queue alive seq limit id sel payload
    readHead x = ⟨1, flags, queue, alive, seq, limit, payload.length, id, sel, 0⟩ ∧ x.length = 20 + payload.length ∧ num x 0 2 = 0x5A4A
      ∧ slice x 16 payload.length = payload
      ∧ crc32c (x.take (16 + payload.length)) = BitVec.ofNat 32 (num x (16 + payload.length) 4)

/-- The timers of the link act when they are due and not before: ACK_DELAY_EXPIRY acknowledges, NAK_REPEAT_EXPIRY repeats the NAK, RETX_TIMEOUT marks
the oldest frame for retransmission, STALE_TIMER closes the frame of a ring, and ANNOUNCE_TIMER announces while no session is open (R358, R375, R377,
R379, R395). Choices of the model that it rests on: log entries 1, 4. -/
def Obligations.LinkTimersAct : Prop :=
  ∀ (t : Nat) (s : State),
    let u := advance t s
    (∀ n, s.link.ackDue = some n → (n ≤ u.now → exec (.ackDelayExpiry t) s = .next (sendAck u))
      ∧ (u.now < n → exec (.ackDelayExpiry t) s = .next u))
    ∧ (∀ n, s.link.nakDue = some n → (n ≤ u.now → exec (.nakRepeatExpiry t) s = .next (sendNak u))
      ∧ (u.now < n → exec (.nakRepeatExpiry t) s = .next u))
    ∧ (∀ f fs, s.link.replay = f :: fs → f.sentAt + usT (mAttrN s A.linkRetxTimeoutUs) ≤ u.now →
      ∃ v, exec (.retxTimeout t) s = .next v ∧ f.seq ∈ v.link.resend ∧ v.link.replay = s.link.replay ∧ { v with link := s.link } = u)
    ∧ (∀ (q : Fin 72) n, (outRing s q).staleAt = some n → n ≤ u.now → (outRing s q).items ≠ [] →
      exec (.staleTimer t q) s = .next (modOut q (fun r => { r with staleFired := true }) u))
    ∧ (cableOpen s = true → s.link.session = none → s.link.announceAt ≤ u.now → s.link.ipv4Mode = 0 →
      exec (.announceTimer t) s = .next { announce u with link := { (announce u).link with announceAt := u.now + msT 1000 } })
    ∧ (cableOpen s = true → s.link.session.isSome = true → exec (.announceTimer t) s = .next u)

/-- LINK_TRANSMIT sends a control frame before a retransmission and that before new data; a retransmission carries the bytes of the stored frame
again, and a new data frame takes the next sequence, enters the replay store and leaves on the cable; a frame of an earlier session goes again with
the same payload under the next sequence (R361, R374, R379, R601). All leave from link.udp_port (R357). Choices of the model that it rests on: log
entries 4, 16, 57. -/
def Obligations.LinkTransmitsInOrder : Prop :=
  ∀ (t : Nat) (s : State), s.link.speed ≠ 0 → s.mod.st ≠ .powerUp → s.mod.resetDue = 0 → (∀ e ∈ s.link.creditDue, (advance t s).now < e.2) →
    let u := advance t s
    (∀ c rest, s.link.ctl = c :: rest → ∃ v b, exec (.linkTransmit t) s = .next v ∧ v.sent = .frame s.link.udpPort c.dst b :: s.sent ∧ v.link.ctl = rest
        ∧ (readHead b).queue = 0xFF ∧ { v with link := s.link, sent := s.sent } = u)
    ∧ (∀ n rest f x, s.link.ctl = [] → s.link.resend = n :: rest → (s.link.replay.find? fun f => f.seq == n) = some f → s.link.session = some x →
        ∃ v b, exec (.linkTransmit t) s = .next v ∧ v.sent = .frame s.link.udpPort x.src b :: s.sent ∧ v.link.resend = rest ∧ v.link.cnt.retx = inc32 s.link.cnt.retx
          ∧ v.link.txSeq = s.link.txSeq ∧ slice b 16 f.payload.length = f.payload
          ∧ { v with link := s.link, sent := s.sent } = u)
    ∧ (∀ q xs x, s.link.ctl = [] → s.link.resend = [] → s.link.session = some x → s.link.txSeq < 65536 →
        pickRing (latchNoCredit u) = some (q, .run xs) →
        ∃ v b, exec (.linkTransmit t) s = .next v ∧ v.sent = .frame s.link.udpPort x.src b :: s.sent ∧ v.link.txSeq = (s.link.txSeq + 1) % 65536
          ∧ (readHead b).seq = s.link.txSeq ∧ v.link.replay.length = s.link.replay.length + 1)
    ∧ (∀ q f x, s.link.ctl = [] → s.link.resend = [] → s.link.session = some x → s.link.txSeq < 65536 →
        pickRing (latchNoCredit u) = some (q, .old f) →
        ∃ v b, exec (.linkTransmit t) s = .next v ∧ v.sent = .frame s.link.udpPort x.src b :: s.sent ∧ v.link.old = s.link.old.erase f
          ∧ v.link.txSeq = (s.link.txSeq + 1) % 65536 ∧ slice b 16 f.payload.length = f.payload)

/-- ITEM_POP on a ring whose head is a command whose turn it is takes the command out of the ring and runs it; while its turn has not come it stays.
While commands of a port wait by R278, a command behind the head that names another handle runs past one that names the same, and its entry is marked
done (R278). RESULT_PUSH pushes a staged result that fits into the response ring, and the port goes on (R387, R394, R412). HOST_TIMEOUT acts once
link.host_timeout_ms have passed without a valid frame, and not before: the host is lost, every inbound ring is emptied, the commands held by a commit
and the work of every port end, and EV_HOST_LOST is raised with the last valid frame's time and the number of the commands that waited or ran (R399,
R402). Choices of the model that it rests on: log entries 4, 12, 18. -/
def Obligations.RingsAndALostHost : Prop :=
  (
    ∀ (t : Nat) (s : State), s.mod.st ≠ .powerUp →
      let u := advance t s
      (∀ (q : Fin 72) i n op h rest, s.mod.resetDue = 0 → (inRing s q).items = .cmd i n false :: rest → cmdHead i = some (op, h) →
        (canOvertake s q = false ∨ ∀ e ∈ (inRing s q).items, overtaker e = false) →
        stalled s q = false → heldReady s q = false → (q.val < 64 → (port s q).parked = []) →
        let w := beforeTurn q u
        let after := fun v => if q.val < 64 then settleIn q v else v
        (turnOf w op q (some i) = .run → exec (.itemPop t q) s = .next (after (cmdRun i (popIn q w))))
        ∧ (turnOf w op q (some i) = .wait → exec (.itemPop t q) s = .next (after w))
        ∧ (∀ code d, turnOf w op q (some i) = .fail code d → exec (.itemPop t q) s = .next (after (fail h op code d (popIn q w)))))
      ∧ (∀ (q : Fin 72), stalled s q = true → exec (.itemPop t q) s = .next u)
      ∧ (∀ (q : Fin 72), s.mod.resetDue = 0 → stalled s q = false → (∀ e ∈ (inRing s q).items, e.isDone = false) → heldReady s q = true →
        exec (.itemPop t q) s = .next (heldTurn u))
      ∧ (∀ (q : Fin 72) i n j m op h rest, s.mod.resetDue = 0 → stalled s q = false → q.val < 64 → (port s q).parked ≠ [] →
        (inRing s q).items = .cmd i n false :: .cmd j m false :: rest → (∀ e ∈ (inRing s q).items, overtaker e = false) →
        parkedBars s q (some i) = true → parkedBars s q (some j) = false → cmdHead j = some (op, h) →
        let w := beforeTurn q u
        turnOf w op q (some j) = .run → exec (.itemPop t q) s = .next (settleIn q (cmdRun j (markDone q 1 w))))
      ∧ (∀ (p : PortNo) it, (outRing s p).staging = [it] → (outRing s p).waiting = [] → fitsOut s p it = true →
        exec (.resultPush t p) s = .next (resumePort p (pushOut p it (modOut p (fun r => { r with staging := [] }) u)))))
  ∧ (
    ∀ (t : Nat) (s : State),
      let u := advance t s
      let a := (List.range 72).foldl (fun s q => flushRing q E.hostLost s) { u with link := { u.link with hostLost := true } }
      let b := s.cfg.held.foldl (fun s i => match cmdHead i with | some (op, h) => fail h op E.hostLost {} s | none => s)
        { a with cfg := { a.cfg with held := [] } }
      let w := (List.range 64).foldl (fun s p => loseOn p (flushStarts p E.hostLost s)) b
      (∀ x, s.link.session = some x → s.link.hostLost = false → s.mod.st ≠ .powerUp → mAttrN s A.linkHostTimeoutMs ≠ 0 →
        s.link.lastValid + msT (mAttrN s A.linkHostTimeoutMs) ≤ u.now →
        exec (.hostTimeout t) s = .next (raise Ev.hostLost 0xFF (leI 8 w.link.lastValidTs ++ le 2 (waitingAll u)) w)
          ∧ b.link.hostLost = true ∧ b.cfg.held = [] ∧ ∀ q < 72, (inRing b q).items = [])
      ∧ (u.now < s.link.lastValid + msT (mAttrN s A.linkHostTimeoutMs) → exec (.hostTimeout t) s = .next u))

/-- LINK_UP at an advertised rate other than the present one, outside POWER_UP, sets the rate and raises EV_LINK_SPEED, and on a link that was down
the power is requested and, by DHCP, an address (R356, R363); LINK_DOWN takes the rate away and leaves the session, the rings and the replay store;
the third training failure in a row leaves 1000BASE-T alone advertised (R351, R353). Another module's ANNOUNCE with the module's own ID raises
EV_ID_CLASH once for each address, and each is answered by an ANNOUNCE; an echo request and a request for one of the module's addresses are answered
(R356, R446). Choices of the model that it rests on: log entries 4, 16, 17, 57. -/
def Obligations.LinkAndNeighbours : Prop :=
  (
    ∀ (t : Nat) (s : State),
      let u := advance t s
      (∀ v, s.mod.st ≠ .powerUp → (advertOf s).contains v = true → v ≠ s.link.speed →
        let w : State := { u with link := { u.link with speed := v, trainFails := 0, announceAt := u.now } }
        exec (.linkUp t v) s = .next (raise Ev.linkSpeed 0xFF [b8 s.link.speed, b8 v] (if s.link.speed = 0 then startDhcp (requestPower w) else w)))
      ∧ (exec (.linkDown t) s = .next { u with link := { u.link with speed := 0 } })
      ∧ (s.mod.st ≠ .powerUp → (advertOf s).contains 3 = true →
        (s.link.trainFails < 2 → exec (.linkTrainingFail t) s = .next { u with link := { u.link with trainFails := u.link.trainFails + 1 } })
        ∧ (2 ≤ s.link.trainFails →
          let w : State := { u with link := { u.link with trainFails := 0, only1000 := true } }
          exec (.linkTrainingFail t) s = .next (raise Ev.linkSpeed 0xFF [3, 2] w) ∧ advertOf w = [2])))
  ∧ (
    ∀ (t : Nat) (s : State), cableOpen s = true →
      let u := advance t s
      (∀ mac, s.moduleId ≠ 0xFF → mac ≠ s.nvm.mac →
        (s.cluster.clashes.contains mac = false → exec (.announceReceived t s.moduleId mac) s
          = .next (announce (raise Ev.idClash 0xFF (le 6 mac) { u with cluster := { u.cluster with clashes := mac :: u.cluster.clashes } })))
        ∧ (s.cluster.clashes.contains mac = true → exec (.announceReceived t s.moduleId mac) s = .next (announce u)))
      ∧ (∀ addr data, data.length ≤ 1452 → exec (.echoRequest t true addr data) s = .next { u with sent := .echoReply true addr data :: s.sent })
      ∧ (∀ addr, exec (.neighborDiscovery t true addr (linkLocal s)) s = .next { u with sent := .neighbor true addr (linkLocal s) s.nvm.mac :: s.sent })
      ∧ (∀ addr a n, ipv4Of s = some (a, n) →
          exec (.neighborDiscovery t false addr a) s = .next { u with sent := .neighbor false addr a s.nvm.mac :: s.sent }))

/-! ### Power, reset and start-up (12) -/

/-- A lower allocation stops Press, sheds ports and raises EV_POWER_ALLOC; it is acknowledged once the input power has fallen below it, and not
before, and grants go on. A higher one, or the old one again while a lower one waits, is acknowledged
at once, raises EV_POWER_ALLOC and lets what waits be granted; a module about to reset sends no frame (R364, R365, R416). A PI voltage beyond
72 V is beyond the absolute maximum, where the spec gives no behaviour, and the model stops; outside 40 to 60 V the module loses its supply, and what
is left is POWER_UP under cause 1 with the NVM; from 42 to 60 V it starts again with the class it is given (R559, R566, R587). Choices of the model
that it rests on: log entries 4, 9, 27, 28. -/
def Obligations.SupplyAndAllocation : Prop :=
  (
    ∀ (t mw : Nat) (s : State),
      let u := advance t s
      (lldpReaches s = true → mw < s.power.allocMw →
        exec (.powerAllocLower t mw) s = .next (raise Ev.powerAlloc 0xFF (allocArgs (allocNow u) mw) (shedRun { u with
          press := { u.press with stopped := true }, power := { u.power with allocPending := some mw } })))
      ∧ (∀ new, s.power.allocPending = some new → s.mod.st ≠ .powerUp →
        (new ≤ mw → exec (.powerAllocAck t mw) s = .next { u with power := { u.power with inputMw := mw } })
        ∧ (mw < new → s.mod.resetDue = 0 → exec (.powerAllocAck t mw) s = .next (grantAll s.press.waiting.length { u with
            press := { u.press with stopped := false }, sent := .lldp new new :: s.sent,
            power := { u.power with inputMw := mw, allocMw := new, allocPending := none } })))
      ∧ (lldpReaches s = true → (s.power.allocMw < mw ∨ (s.power.allocPending.isSome = true ∧ mw = s.power.allocMw)) → s.mod.resetDue = 0 →
        let w := raise Ev.powerAlloc 0xFF (allocArgs (allocNow u) mw) { u with
          press := { u.press with stopped := false }, sent := .lldp mw mw :: s.sent,
          power := { u.power with allocMw := mw, allocPending := none } }
        exec (.powerAllocHigher t mw) s = .next (noteSkipped (prismAll (grantAll w.press.waiting.length w)))))
  ∧ (
    ∀ (t mv cls : Nat) (s : State),
      (72000 < mv → exec (.piVoltageFail t mv) s = .fault .beyondAbsoluteMaximum)
      ∧ (mv ≤ 72000 → (mv < 40000 ∨ 60000 < mv) → s.power.failed = false → 1 ≤ s.mod.resetCause →
        ∃ v, exec (.piVoltageFail t mv) s = .next v ∧ v.mod.st = .powerUp ∧ v.mod.resetCause = 1 ∧ v.power.failed = true ∧ v.power.piMv = mv
          ∧ v.link = {} ∧ v.ports = List.replicate 64 {} ∧ v.cfg = {} ∧ v.nvm.sec = { s.nvm.sec with svnFloor := v.nvm.sec.svnFloor } ∧ s.nvm.sec.svnFloor ≤ v.nvm.sec.svnFloor
          ∧ v.nvm.saved = s.nvm.saved ∧ v.pending = s.pending)
      ∧ (40000 ≤ mv → mv ≤ 60000 → exec (.piVoltageFail t mv) s = .next (advance t s))
      ∧ (42000 ≤ mv → mv ≤ 60000 → s.power.failed = true →
        ∃ v, exec (.piVoltageReturn t mv cls) s = .next v ∧ v.power.failed = false ∧ v.power.piMv = mv ∧ v.now = 0
          ∧ v.power.allocMw = (if 8 ≤ cls then 71300 else 51000) ∧ (0 < s.power.rails.length → rail v 0 = ⟨true, false, 0⟩)))

/-- The rails come up one after another: a rail that is enabled and comes into regulation enables the next in POWER_UP; a violation there of the first
three takes the rails behind VSTBY down and tries again after 100 ms, or 1 s from the third failure on, and FAULT_N is then low; in SERVICE a core
rail's violation is a reset of cause 2 and another rail's is HALTED (R553 to R558). Choices of the model that it rests on: log entries 4, 20. -/
def Obligations.RailsComeUpInOrder : Prop :=
  ∀ (t : Nat) (s : State),
    let u := advance t s
    (s.mod.st = .powerUp → rail s 1 = ⟨true, false, (rail s 1).enAt⟩ → 2 < s.power.rails.length → (rail s 2).en = false →
      ∃ v, exec (.railInRegulation t 1) s = .next v ∧ (rail v 1).reg = true ∧ rail v 2 = ⟨true, false, u.now⟩)
    ∧ (∀ i : Fin 12, s.mod.st = .powerUp → i.val ≤ 2 → violates u i 3 = true →
      let n := s.power.failedSeqs + 1
      exec (.railViolation t i 3) s = .next { logRail i 3 u with power := { u.power with
        rails := (upd u.power.rails i fun r => { r with reg := false }).take 1 ++ (u.power.rails.drop 1).map fun _ => ⟨false, false, 0⟩,
        failedSeqs := n, retryAt := some (u.now + msT (if n ≥ 3 then 1000 else 100)) } })
    ∧ (∀ i : Fin 12, s.mod.st = .service → violates u i 3 = true →
      let w := modRail i (fun r => { r with reg := false }) (logRail i 3 u)
      (i.val ≤ 2 → exec (.railViolation t i 3) s = .next (resetBy 2 w)) ∧ (2 < i.val → exec (.railViolation t i 3) s = .next (enterHalted E.railFault w)))
    ∧ (∀ n, s.power.retryAt = some n →
      (u.now < n → exec (.railRetryTimer t) s = .next u)
      ∧ (n ≤ u.now → s.mod.st = .powerUp →
        exec (.railRetryTimer t) s = .next (enableRail 1 { u with power := { u.power with retryAt := none } })))

/-- A reset leaves by the last of its conditions: with every one but one met, the crystal, the straps or the release of RESET_N bring the module to
BOOT at tick 0 with the start counted and VANA enabled. Straps that lie in two windows of Table 12-5 give the module ID; any other reading gives none,
and the module holds in BOOT (R444, R564, R568, R569, R577). RESET_N resets the module with cause 3 while VAUX is at 1.5 V or more, and is treated as
not asserted below; while it is asserted nothing releases the module. The straps are windows that no two levels share (R563, R564, R568, R572).
Choices of the model that it rests on: log entries 4, 6, 21, 28. -/
def Obligations.ReleaseFromReset : Prop :=
  (
    ∀ (t mvA mvB : Nat) (s : State), s.mod.st = .powerUp → (rail s 0).reg = true → (rail s 1).reg = true → (rail s 2).reg = true →
      3 < s.power.rails.length → s.power.failed = false → 42000 ≤ s.power.piMv →
      let released := fun (v : State) => v.mod.st = .boot ∧ v.now = 0 ∧ v.nvm.bootCount = (s.nvm.bootCount + 1) % 2 ^ 32
        ∧ rail v 3 = ⟨true, false, 0⟩
      (s.mod.crystalOk = false → (rail s 1).en = true → s.mod.strapsOk = true → s.mod.inReset = false →
        ∃ v, exec (.crystalStable t) s = .next v ∧ released v)
      ∧ (s.mod.crystalOk = true → s.mod.inReset = false →
        (∀ a b, strapLevel mvA = some a → strapLevel mvB = some b →
          ∃ v, exec (.strapRead t mvA mvB) s = .next v ∧ released v ∧ v.moduleId = 8 * a + b ∧ v.mod.holdCause = 0)
        ∧ (strapLevel mvA = none → ∃ v, exec (.strapRead t mvA mvB) s = .next v ∧ released v ∧ v.moduleId = 0xFF ∧ v.mod.holdCause = E.strap))
      ∧ (s.mod.crystalOk = true → s.mod.strapsOk = true → s.mod.inReset = true → s.power.retryAt = none → (rail s 1).en = true → (rail s 2).en = true →
          ∃ v, exec (.resetNReleased t) s = .next v ∧ released v ∧ v.pins.resetN = false))
  ∧ (
    (∀ (t : Nat) (s : State),
      (1500 ≤ s.pins.vauxMv → s.mod.st ≠ .powerUp →
        ∃ v, exec (.resetNAsserted t) s = .next v ∧ v.mod.st = .powerUp ∧ v.mod.resetCause = 3 ∧ v.mod.inReset = true ∧ v.pins.resetN = true
          ∧ v.nvm.sec = { s.nvm.sec with svnFloor := v.nvm.sec.svnFloor } ∧ s.nvm.sec.svnFloor ≤ v.nvm.sec.svnFloor ∧ v.nvm.bootCount = s.nvm.bootCount)
      ∧ (s.pins.vauxMv < 1500 → exec (.resetNAsserted t) s = .next { advance t s with pins := { s.pins with resetN := true } })
      ∧ (s.mod.inReset = true → tryRelease s = s))
    ∧ ∀ mv k, strapLevel mv = some k → k < 8 ∧ ∀ mv2, strapLevel mv2 = some k → mag ((mv : Int) - mv2) ≤ 80)

/-- In BOOT with VANA in regulation, BOOT_IMAGE_VERIFIED starts the active image where it verifies and has not failed two starts; otherwise the other
image with EV_FIRMWARE where that one verifies, and where neither can run it holds in BOOT with FAULT_N low (R523, R548). In CAL and SERVICE a reading
whose corrected value has the root check value gives the root, with its margin; two of another value are counted, and the third swaps the core. The
store is recovered once the root stands: Cellar answers from then on, and once CAL has ended as well, on a module with no fault that nothing covers,
the module enters SERVICE. CAL_COMPLETE in CAL ends CAL (R482, R483, R518, R575, R578). Choices of the model that it rests on: log entries 4, 21, 26,
60. -/
def Obligations.StartUpReachesService : Prop :=
  (
    ∀ (t : Nat) (okA okB : Bool) (s : State), s.mod.st = .boot → s.mod.holdCause = 0 → s.power.retryAt = none → (rail s 3).reg = true →
      s.mod.noImage = false →
      let u := advance t s
      let good := fun (i : Nat) => imageRuns u (nth s.nvm.images i {}) (if i == 0 then okA else okB)
      let runs := good s.nvm.active = true ∧ s.nvm.failedStarts < 2
      (runs → exec (.bootImageVerified t okA okB) s = .next (startImage u))
      ∧ (¬ runs → good (otherSlot s) = false →
        ∃ v, exec (.bootImageVerified t okA okB) s = .next v ∧ v = { u with mod := { u.mod with noImage := true } } ∧
          (1500 ≤ s.pins.vauxMv → faultPin v = .low))
      ∧ (¬ runs → good (otherSlot s) = true →
        exec (.bootImageVerified t okA okB) s = .next (startImage (modMod (fun m => { m with fwNews := [(2, otherSlot u)] })
          (modImage u.nvm.active (fun x => { x with state := 4 }) (activateImage (otherSlot u) (raise Ev.firmware 0xFF (fwArgs u 3 u.nvm.active) u)))))))
  ∧ (
    ∀ (t : Nat) (s : State),
      let u := advance t s
      (∀ reading margin, s.mod.rootOk = false → (s.mod.st = .cal ∨ s.mod.st = .service) → s.nvm.sec.debugOpen = false → s.nvm.sec.retired = false →
        let root := rootFrom u s.spares.secCore reading
        (rootCheckOf root = s.nvm.sec.rootCheck → exec (.rootReconstructed t reading margin) s = .next { u with
          mod := { u.mod with rootOk := true }, cellar := { u.cellar with root := root, margin := min 100 margin, tries := 0 } })
        ∧ (rootCheckOf root ≠ s.nvm.sec.rootCheck → s.cellar.tries < 2 →
          exec (.rootReconstructed t reading margin) s = .next { u with cellar := { u.cellar with tries := s.cellar.tries + 1 } })
        ∧ (∀ spare rest, rootCheckOf root ≠ s.nvm.sec.rootCheck → s.cellar.tries = 2 → candidates s 4 s.spares.secCore = spare :: rest →
          exec (.rootReconstructed t reading margin) s
            = .next (finishSwap false 4 s.spares.secCore spare 255 none { u with cellar := { u.cellar with tries := 3 } })))
      ∧ (s.mod.st = .cal → s.mod.rootOk = true → s.mod.storeOk = false → s.mod.calDone = true → uncovered s.nvm = false →
        s.faults = [] → ∃ v, exec (.caskStoreRecovery t none) s = .next v ∧ v.mod.st = .service ∧ v.mod.storeOk = true ∧ v.mod.served = true)
      ∧ (∀ cal, s.mod.st = .cal → s.mod.calDone = false → s.mod.storeOk = false →
        ∃ v, exec (.calComplete t cal) s = .next v ∧ v.mod.st = .cal ∧ v.mod.calDone = true))

/-- INTLK_N held, or pulsed for 1 µs or longer, cuts every field, and a pulse of less than 200 ns does nothing; once the pin is released and VAUX
stands no field returns by itself. VAUX below 1.5 V counts as INTLK_N asserted (R83, R84, R572, R592, R593). The VCORE loop: a slowest reading above
720 ns raises the voltage by 10 mV up to 850 mV, one between 650 and 720 ns keeps it, and one below 650 ns for 1 ms lowers it by 5 mV down to 700 mV;
each monitor that crosses 810 ns at 850 mV is reported by EV_VCORE_CEILING, and above 900 ns, after the same step, the module enters HALTED at any
voltage (R31 to R33). Choices of the model that it rests on: log entries 3, 4, 23, 25. -/
def Obligations.InterlockAndCoreVoltage : Prop :=
  (
    ∀ (t : Nat) (s : State), s.mod.st ≠ .powerUp →
      let u := advance t s
      (interlocked s = false → exec (.intlkNAsserted t none) s = .next (cutAll { u with pins := { u.pins with intlk := true, intlkActs := true } }))
      ∧ (∀ w, 1000 ≤ w → interlocked s = false →
        exec (.intlkNAsserted t (some w)) s = .next (cutAll { u with pins := { u.pins with intlk := true, intlkActs := true } }))
      ∧ (∀ w, w < 200 → exec (.intlkNAsserted t (some w)) s = .next u)
      ∧ (interlocked s = true → interlocked { s with pins := { s.pins with intlk := false, intlkActs := false } } = false →
        exec (.intlkNReleased t) s = .next (raise Ev.interlock 0xFF [0, 0] { u with pins := { u.pins with intlk := false, intlkActs := false } }))
      ∧ (∀ mv, mv < 1500 → interlocked s = false → 
        let w := cutAll { u with pins := { u.pins with vauxMv := mv } }
        exec (.vauxLow t mv) s = .next (if w.mod.inReset then leaveReset w else w))
      ∧ (∀ mv, 1500 ≤ mv → s.pins.vauxMv < 1500 → s.pins.intlkActs = false → s.pins.resetN = false → s.mod.st = .service →
        interlocked { s with pins := { s.pins with vauxMv := mv } } = false → interlocked s = true →
        exec (.vauxReturn t mv) s = .next (raise Ev.interlock 0xFF [0, 0] { u with pins := { u.pins with vauxMv := mv } })))
  ∧ (
    ∀ (t : Nat) (xs : List Nat) (s : State), xs.length = 8 → s.mod.st ≠ .powerUp →
      let u := advance t s
      let m := (slowest xs).1
      let w : State := { u with power := { u.power with paths := xs, above810 := 0 } }
      (720 < m → m ≤ 900 → s.power.vcoreMv < 850 →
        exec (.pathMonitorMeasurement t xs) s
          = .next { w with power := { w.power with vcoreMv := min 850 (s.power.vcoreMv + 10), lowSince := none } })
      ∧ (650 ≤ m → m ≤ 720 → exec (.pathMonitorMeasurement t xs) s = .next { w with power := { w.power with lowSince := none } })
      ∧ (m < 650 → s.power.lowSince = none → exec (.pathMonitorMeasurement t xs) s = .next { w with power := { w.power with lowSince := some u.now } })
      ∧ (∀ n, m < 650 → s.power.lowSince = some n → n + msT 1 ≤ u.now → exec (.pathMonitorMeasurement t xs) s
          = .next { w with power := { w.power with vcoreMv := max 700 (s.power.vcoreMv - 5), lowSince := some u.now } })
      ∧ (810 < m → m ≤ 900 → s.power.vcoreMv = 850 →
        let high := (List.range 8).filter fun k => 810 < nth xs k 0
        let r := (high.filter fun k => !bit s.power.above810 k).foldl (fun s k => raise Ev.vcoreCeiling 0xFF (le 2 (nth xs k 0) ++ [b8 k, 0]) s)
          { u with power := { u.power with paths := xs, above810 := maskOf high } }
        exec (.pathMonitorMeasurement t xs) s = .next { r with power := { r.power with vcoreMv := min 850 (r.power.vcoreMv + 10), lowSince := none } })
      ∧ (900 < m → s.power.vcoreMv ≠ 850 → exec (.pathMonitorMeasurement t xs) s
          = .next (enterHalted 0 { w with power := { w.power with vcoreMv := min 850 (s.power.vcoreMv + 10), lowSince := none } })))

/-- At 0.85 V, and at no other voltage, each monitor's reading above 810 ns raises EV_VCORE_CEILING with that reading at its crossing and not again
while it lasts; at any voltage one above 900 ns brings the module to HALTED (R33). -/
def Obligations.VcoreCeilingIsReportedOnce : Prop :=
  ∀ (t : Nat) (xs : List Nat) (s : State), xs.length = 8 → s.mod.st ≠ .powerUp →
    let u := advance t s
    let m := (slowest xs).1
    let high := (List.range 8).filter fun k => s.power.vcoreMv = 850 ∧ 810 < nth xs k 0
    let w : State := { u with power := { u.power with paths := xs, above810 := maskOf high } }
    let told := (high.filter fun k => !bit s.power.above810 k).foldl (fun s k => raise Ev.vcoreCeiling 0xFF (le 2 (nth xs k 0) ++ [b8 k, 0]) s) w
    ∃ v, exec (.pathMonitorMeasurement t xs) s = .next v
      ∧ (m ≤ 900 → v.power.above810 = maskOf high ∧ v.ev = told.ev ∧ v.outRings = told.outRings ∧ v.mod = s.mod)
      ∧ (m ≤ 810 → v.power.above810 = 0 ∧ v.ev = s.ev ∧ v.outRings = s.outRings)
      ∧ (m ≤ 900 → (∀ k < 8, 810 < nth xs k 0 → bit s.power.above810 k = true) → v.ev = s.ev ∧ v.outRings = s.outRings)
      ∧ (900 < m → ∃ code, v = enterHalted code { told with power := { told.power with vcoreMv := min 850 (s.power.vcoreMv + 10), lowSince := none } }
          ∧ v.mod.st = .halted)

/-! ### Cluster time (09) -/

/-- A frame start of an active plan in SERVICE puts every stepped port on the run of its plan, Mirror selects anew where a channel has changed since
it last selected, and the ports go on; at any other tick nothing happens (R142, R458, R466). The lock: gained, once the offset has kept within 25 ns
for 10 s, it steps the time at first and later only by an error above 1 ms, reports EV_TIME_LOCK and ends holdover; lost, once the offset has stood
beyond 100 ns for 1 s, it starts holdover, which ends unlocked after cluster.time.holdover_ms. LOCK 2 is left when no edge has come for 3 ms, and
after 10 ms the module heads its chain (R450 to R457). SYNC_IN_EDGE on a module that follows its chain: the edge is timestamped, the chain offset
kept, and an offset that differs from that of IEEE 1588 by more than 100 ns counts; at the tenth frame in a row LOCK 2 is left (R452 to R456). Choices
of the model that it rests on: log entries 4, 48, 49. -/
def Obligations.ClusterTimeAndFrames : Prop :=
  (
    ∀ (t : Nat) (s : State), s.mod.st = .service → mAttr s A.clusterTrellisEnable ≠ 0 → (planOf s).isSome = true →
      let u := advance t s
      let w : State := if 0 < s.time.lock then { u with time := { u.time with lostTime := false } } else u
      let ps := (List.range 64).filter fun p => stepped u p && !isFollower u p
      let begun := ps.foldl (fun s p => runStart p s) w
      (frameTick u = u.now → ps ≠ [] →
        exec (.trellisFrameStart t) s = .next (ps.foldl (fun s p => resumePort p s)
          (if (List.range 64).map (chanOf begun) = begun.cluster.chans then begun else selectAll begun)))
      ∧ (frameTick u = u.now → ps = [] → exec (.trellisFrameStart t) s = .next w)
      ∧ (frameTick u ≠ u.now → exec (.trellisFrameStart t) s = .next u))
  ∧ (
    ∀ (t : Nat) (offset step : Int) (s : State), s.mod.st ≠ .powerUp →
      let u := advance t s
      let near := mag offset ≤ 25 ∧ ∀ a, s.time.outAt = some a → a + msT 10000 ≤ u.now
      let far := 100 < mag offset ∧ ∀ a, s.time.nearAt = some a → a + msT 1000 ≤ u.now
      (s.time.lock = 0 → s.time.everLocked = false → step ≠ 0 → near →
        exec (.timeLockChange t 1 offset step) s
          = .next (tellLock (setLock 1 { u with time := { u.time with offsetNs := offset }, timeOff := u.timeOff + step })))
      ∧ (s.time.lock = 0 → s.time.everLocked = true → mag step ≤ 1000000 → near →
        exec (.timeLockChange t 1 offset step) s = .next (tellLock (setLock 1 { u with time := { u.time with offsetNs := offset } })))
      ∧ (s.time.lock = 0 → s.time.everLocked = true → mag step ≤ 1000000 → ¬ near → exec (.timeLockChange t 1 offset step) s = .next u)
      ∧ (s.time.lock = 1 → s.time.everLocked = true → mag step ≤ 1000000 → ¬ far → (bestForeign u).isSome = true →
        exec (.timeLockChange t 0 offset step) s = .next u)
      ∧ (s.time.lock = 1 → s.time.everLocked = true → mag step ≤ 1000000 → far →
        ∃ v, exec (.timeLockChange t 0 offset step) s = .next v ∧ v.time.lock = 0
          ∧ v.time.holdUntil = some (u.now + msT (mAttrN s A.clusterTimeHoldoverMs)))
      ∧ (∀ n, s.time.holdUntil = some n →
        (u.now < n → exec (.holdoverExpiry t) s = .next u)
        ∧ (n ≤ u.now → s.time.lock = 0 → (∀ p < 64, stepped s p = false) →
          exec (.holdoverExpiry t) s = .next { u with time := { u.time with holdUntil := none, lostTime := true } }))
      ∧ (∀ a, chained s = true → s.time.edgeAt = some a → msT 3 ≤ u.now - a → u.now - a < msT 10 → s.time.lock = 2 →
        exec (.syncInLoss t) s = .next (tellLock (setLock 1 u)))
      ∧ (∀ a, chained s = true → s.time.edgeAt = some a → msT 10 ≤ u.now - a → s.time.lock ≠ 2 → s.time.head = false →
        exec (.syncInLoss t) s = .next { u with time := { u.time with head := true, goodSince := none } }))
  ∧ (
    ∀ (t : Nat) (ps : Int) (s : State), chained s = true → s.mod.st ≠ .powerUp → s.time.head = false →
      let u := advance t s
      let chain := ps / 10 * 10 - mAttr s A.clusterSyncInDelay
      (s.time.lock = 0 → exec (.syncInEdge t ps) s
        = .next { u with time := { u.time with chainNs := chain / 1000, chainSince := none, edgeAt := some u.now } })
      ∧ (s.time.lock = 2 → 100 < mag (chain / 1000 - s.time.offsetNs) →
        ∃ v, exec (.syncInEdge t ps) s = .next v ∧ v.time.chainNs = chain / 1000 ∧ v.time.edgeAt = some u.now
          ∧ (s.time.apart + 1 < 10 → v.time.lock = 2 ∧ v.time.apart = s.time.apart + 1) ∧ (10 ≤ s.time.apart + 1 → v.time.lock = 1)))

/-- IEEE 1588: an Announce of another clock of the domain is kept and the role decided anew; a one-step or two-step Sync of the master is taken; a
master answers Delay_Req; a Delay_Req of another domain changes nothing. Once the interval of 1/16 s is over, and not before, a master sends Sync and
Follow_Up and a slave Delay_Req. Each message leaves over UDP and IPv6, and over IPv4 as well where the module holds an IPv4 address. The role is
master exactly where no clock is heard within the receipt timeout and it has passed, or the module's own clock is better than the best one heard
(R448, R449). Choices of the model that it rests on: log entries 3, 4, 49, 57. -/
def Obligations.TimeMessagesAct : Prop :=
  ∀ (t : Nat) (s : State), s.link.speed ≠ 0 → s.mod.st ≠ .powerUp → s.mod.resetDue = 0 →
    let u := advance t s
    let d := mAttrN s A.clusterPtpDomain
    let leave := fun (msg : PtpMsg) (xs : List Sent) => (if (ipv4Of u).isSome then [Sent.ptp true msg] else []) ++ .ptp false msg :: xs
    (∀ src p1 cls p2, src ≠ s.nvm.mac →
      exec (.ieee1588Message t (.announce d src p1 cls p2)) s = .next (decideRole { u with time := { u.time with
        foreign := ⟨src, p1, cls, p2, u.now⟩ :: (u.time.foreign.filter fun g => g.src != src) } }))
    ∧ (∀ src seq origin, master u = some src → exec (.ieee1588Message t (.sync d src seq true origin)) s
        = .next { u with time := { u.time with sync := some (src, seq, ts u, none) } })
    ∧ (∀ src seq origin, master u = some src →
      exec (.ieee1588Message t (.sync d src seq false origin)) s = .next (syncKnown src seq (ts u) origin u))
    ∧ (∀ src seq, s.time.role = 1 → exec (.ieee1588Message t (.delayReq d src seq)) s
        = .next { u with sent := leave (.delayResp d src seq (ts u)) s.sent })
    ∧ (∀ d2 src seq, d2 ≠ d → exec (.ieee1588Message t (.delayReq d2 src seq)) s = .next u)
    ∧ (let w := decideRole u
      (syncDue u = false → exec (.syncInterval t) s = .next u)
      ∧ (syncDue u = true → w.time.role = 2 → exec (.syncInterval t) s = .next { w with
        time := { w.time with delaySeq := (w.time.delaySeq + 1) % 65536, syncAt := some u.now, delayReq := some (w.time.delaySeq, ts w) },
        sent := leave (.delayReq d s.nvm.mac w.time.delaySeq) s.sent })
      ∧ (syncDue u = true → w.time.role = 1 → ∃ v more, exec (.syncInterval t) s = .next v ∧ v.time.syncSeq = (w.time.syncSeq + 1) % 65536
          ∧ v.sent = more ++ leave (.followUp d s.nvm.mac w.time.syncSeq (ts w)) (leave (.sync d s.nvm.mac w.time.syncSeq true (ts w)) s.sent)))
    ∧ (electRole u = 1 ↔ match bestForeign u with
        | some f => clockBetter (ownClock u) f = true
        | none => ¬ (s.time.role = 0 ∧ u.now < s.time.since + announceTimeout))

/-! ### The whole machine -/

/-- A response goes to the ring of the queue its command came from: that ring takes it, in its staging or its waiting list or, on a system queue,
among its items, and but for SQ2, where a watermark event may go, no other ring changes. An event goes to SQ2 alone (R406). -/
def Obligations.AnswersKeepToTheirQueue : Prop :=
  (∀ (h : Hdr) (op status : Nat) (body : Bytes) (s : State), h.q < s.outRings.length → ¬ (h.quiet = true ∧ status = 0 ∧ body = []) →
    let it : Item := { op := op, flags := 0, tag := h.tag, status := status, body := body }
    let v := respond h op status body s
    let old := outRing s h.q
    let new := outRing v h.q
    (∀ q, q ≠ h.q → q ≠ sq2 → outRing v q = outRing s q)
      ∧ (h.q < 64 → new.staging = old.staging ++ [it] ∨ new.waiting = old.waiting ++ [it])
      ∧ (64 ≤ h.q → (∃ more, new.items = old.items ++ ⟨mAttrN s A.linkItemCheck, itemBytes (mAttrN s A.linkItemCheck) it⟩ :: more)
          ∨ new.waiting = old.waiting ++ [it]))
  ∧ (∀ (q : Nat) (x : Bytes), (itemHdr q x).q = q)
  ∧ ∀ (code : Nat) (stamp : Int) (p : Nat) (args : Bytes) (s : State) (q : Nat), q ≠ sq2 → outRing (raiseAt code stamp p args s) q = outRing s q

/-- Every well-formed host command whose body has a fixed layout is what its body parses to: no bit of an operand is dropped by the layouts of Tables
8-4 and 8-10 to 8-16. -/
def Obligations.FixedBodiesReadBack : Prop :=
  ∀ (i : Instr) (op : Nat) (h : Hdr), i.wf = true → cmdHead i = some (op, h) → counted op = false → ∃ t, parseItem t op 0 0 h (bodyOf i) = .ok i

/-- The same of every well-formed host command whose body counts a part of itself: NOP, ATTR_GET and ATTR_SET, SCHEDULE, the loads, the raw frames and
the data of tags and casks. -/
def Obligations.CountedBodiesReadBack : Prop :=
  ∀ (i : Instr) (op : Nat) (h : Hdr), i.wf = true → cmdHead i = some (op, h) → counted op = true → ∃ t, parseItem t op 0 0 h (bodyOf i) = .ok i

/-- Every step keeps the module whole: from any state with its 64 ports, 72 slices, 256 timers, 144 rings, 12 rails and a bounded event log, a step
leads to another such state. Choices of the model that it rests on: log entry 2. -/
def Obligations.EveryStepKeepsTheShape : Prop :=
  ∀ s t : State, WellShaped s → step s = .next t → WellShaped t

/-- The module right after reset is whole in that sense. -/
def Obligations.ResetIsWellShaped : Prop := WellShaped State.reset
end

