-- ==== Sys2Proof/Laws/State.lean ====
section
/-!
SUPPORT. One lemma for each field of the state and each update of one part of it.
-/

namespace Sys2Proof.Machine

set_option Elab.async false

/-! ### advance -/

@[simp] theorem advance_now (t : Nat) (s : State) : (advance t s).now = max s.now t := rfl
@[simp] theorem advance_pending (t : Nat) (s : State) : (advance t s).pending = s.pending := rfl
@[simp] theorem advance_free (t : Nat) (s : State) : (advance t s).free = s.free := rfl
@[simp] theorem advance_timeOff (t : Nat) (s : State) : (advance t s).timeOff = s.timeOff := rfl
@[simp] theorem advance_mod (t : Nat) (s : State) : (advance t s).mod = s.mod := rfl
@[simp] theorem advance_pins (t : Nat) (s : State) : (advance t s).pins = s.pins := rfl
@[simp] theorem advance_power (t : Nat) (s : State) : (advance t s).power = s.power := rfl
@[simp] theorem advance_nvm (t : Nat) (s : State) : (advance t s).nvm = s.nvm := rfl
@[simp] theorem advance_moduleId (t : Nat) (s : State) : (advance t s).moduleId = s.moduleId := rfl
@[simp] theorem advance_cfg (t : Nat) (s : State) : (advance t s).cfg = s.cfg := rfl
@[simp] theorem advance_link (t : Nat) (s : State) : (advance t s).link = s.link := rfl
@[simp] theorem advance_inRings (t : Nat) (s : State) : (advance t s).inRings = s.inRings := rfl
@[simp] theorem advance_outRings (t : Nat) (s : State) : (advance t s).outRings = s.outRings := rfl
@[simp] theorem advance_ev (t : Nat) (s : State) : (advance t s).ev = s.ev := rfl
@[simp] theorem advance_timers (t : Nat) (s : State) : (advance t s).timers = s.timers := rfl
@[simp] theorem advance_slices (t : Nat) (s : State) : (advance t s).slices = s.slices := rfl
@[simp] theorem advance_ports (t : Nat) (s : State) : (advance t s).ports = s.ports := rfl
@[simp] theorem advance_press (t : Nat) (s : State) : (advance t s).press = s.press := rfl
@[simp] theorem advance_coupling (t : Nat) (s : State) : (advance t s).coupling = s.coupling := rfl
@[simp] theorem advance_filters (t : Nat) (s : State) : (advance t s).filters = s.filters := rfl
@[simp] theorem advance_spares (t : Nat) (s : State) : (advance t s).spares = s.spares := rfl
@[simp] theorem advance_faults (t : Nat) (s : State) : (advance t s).faults = s.faults := rfl
@[simp] theorem advance_act (t : Nat) (s : State) : (advance t s).act = s.act := rfl
@[simp] theorem advance_fwOpen (t : Nat) (s : State) : (advance t s).fwOpen = s.fwOpen := rfl
@[simp] theorem advance_diag (t : Nat) (s : State) : (advance t s).diag = s.diag := rfl
@[simp] theorem advance_inv (t : Nat) (s : State) : (advance t s).inv = s.inv := rfl
@[simp] theorem advance_time (t : Nat) (s : State) : (advance t s).time = s.time := rfl
@[simp] theorem advance_cluster (t : Nat) (s : State) : (advance t s).cluster = s.cluster := rfl
@[simp] theorem advance_cellar (t : Nat) (s : State) : (advance t s).cellar = s.cellar := rfl
@[simp] theorem advance_noiseJob (t : Nat) (s : State) : (advance t s).noiseJob = s.noiseJob := rfl
@[simp] theorem advance_mirrorJob (t : Nat) (s : State) : (advance t s).mirrorJob = s.mirrorJob := rfl
@[simp] theorem advance_sent (t : Nat) (s : State) : (advance t s).sent = s.sent := rfl

/-! ### modPort -/

@[simp] theorem modPort_now (p : Nat) (f : Port → Port) (s : State) : (modPort p f s).now = s.now := rfl
@[simp] theorem modPort_pending (p : Nat) (f : Port → Port) (s : State) : (modPort p f s).pending = s.pending := rfl
@[simp] theorem modPort_free (p : Nat) (f : Port → Port) (s : State) : (modPort p f s).free = s.free := rfl
@[simp] theorem modPort_timeOff (p : Nat) (f : Port → Port) (s : State) : (modPort p f s).timeOff = s.timeOff := rfl
@[simp] theorem modPort_mod (p : Nat) (f : Port → Port) (s : State) : (modPort p f s).mod = s.mod := rfl
@[simp] theorem modPort_pins (p : Nat) (f : Port → Port) (s : State) : (modPort p f s).pins = s.pins := rfl
@[simp] theorem modPort_power (p : Nat) (f : Port → Port) (s : State) : (modPort p f s).power = s.power := rfl
@[simp] theorem modPort_nvm (p : Nat) (f : Port → Port) (s : State) : (modPort p f s).nvm = s.nvm := rfl
@[simp] theorem modPort_moduleId (p : Nat) (f : Port → Port) (s : State) : (modPort p f s).moduleId = s.moduleId := rfl
@[simp] theorem modPort_cfg (p : Nat) (f : Port → Port) (s : State) : (modPort p f s).cfg = s.cfg := rfl
@[simp] theorem modPort_link (p : Nat) (f : Port → Port) (s : State) : (modPort p f s).link = s.link := rfl
@[simp] theorem modPort_inRings (p : Nat) (f : Port → Port) (s : State) : (modPort p f s).inRings = s.inRings := rfl
@[simp] theorem modPort_outRings (p : Nat) (f : Port → Port) (s : State) : (modPort p f s).outRings = s.outRings := rfl
@[simp] theorem modPort_ev (p : Nat) (f : Port → Port) (s : State) : (modPort p f s).ev = s.ev := rfl
@[simp] theorem modPort_timers (p : Nat) (f : Port → Port) (s : State) : (modPort p f s).timers = s.timers := rfl
@[simp] theorem modPort_slices (p : Nat) (f : Port → Port) (s : State) : (modPort p f s).slices = s.slices := rfl
@[simp] theorem modPort_ports (p : Nat) (f : Port → Port) (s : State) : (modPort p f s).ports = upd s.ports p f := rfl
@[simp] theorem modPort_press (p : Nat) (f : Port → Port) (s : State) : (modPort p f s).press = s.press := rfl
@[simp] theorem modPort_coupling (p : Nat) (f : Port → Port) (s : State) : (modPort p f s).coupling = s.coupling := rfl
@[simp] theorem modPort_filters (p : Nat) (f : Port → Port) (s : State) : (modPort p f s).filters = s.filters := rfl
@[simp] theorem modPort_spares (p : Nat) (f : Port → Port) (s : State) : (modPort p f s).spares = s.spares := rfl
@[simp] theorem modPort_faults (p : Nat) (f : Port → Port) (s : State) : (modPort p f s).faults = s.faults := rfl
@[simp] theorem modPort_act (p : Nat) (f : Port → Port) (s : State) : (modPort p f s).act = s.act := rfl
@[simp] theorem modPort_fwOpen (p : Nat) (f : Port → Port) (s : State) : (modPort p f s).fwOpen = s.fwOpen := rfl
@[simp] theorem modPort_diag (p : Nat) (f : Port → Port) (s : State) : (modPort p f s).diag = s.diag := rfl
@[simp] theorem modPort_inv (p : Nat) (f : Port → Port) (s : State) : (modPort p f s).inv = s.inv := rfl
@[simp] theorem modPort_time (p : Nat) (f : Port → Port) (s : State) : (modPort p f s).time = s.time := rfl
@[simp] theorem modPort_cluster (p : Nat) (f : Port → Port) (s : State) : (modPort p f s).cluster = s.cluster := rfl
@[simp] theorem modPort_cellar (p : Nat) (f : Port → Port) (s : State) : (modPort p f s).cellar = s.cellar := rfl
@[simp] theorem modPort_noiseJob (p : Nat) (f : Port → Port) (s : State) : (modPort p f s).noiseJob = s.noiseJob := rfl
@[simp] theorem modPort_mirrorJob (p : Nat) (f : Port → Port) (s : State) : (modPort p f s).mirrorJob = s.mirrorJob := rfl
@[simp] theorem modPort_sent (p : Nat) (f : Port → Port) (s : State) : (modPort p f s).sent = s.sent := rfl

/-! ### modSlice -/

@[simp] theorem modSlice_now (p : Nat) (f : Slice → Slice) (s : State) : (modSlice p f s).now = s.now := rfl
@[simp] theorem modSlice_pending (p : Nat) (f : Slice → Slice) (s : State) : (modSlice p f s).pending = s.pending := rfl
@[simp] theorem modSlice_free (p : Nat) (f : Slice → Slice) (s : State) : (modSlice p f s).free = s.free := rfl
@[simp] theorem modSlice_timeOff (p : Nat) (f : Slice → Slice) (s : State) : (modSlice p f s).timeOff = s.timeOff := rfl
@[simp] theorem modSlice_mod (p : Nat) (f : Slice → Slice) (s : State) : (modSlice p f s).mod = s.mod := rfl
@[simp] theorem modSlice_pins (p : Nat) (f : Slice → Slice) (s : State) : (modSlice p f s).pins = s.pins := rfl
@[simp] theorem modSlice_power (p : Nat) (f : Slice → Slice) (s : State) : (modSlice p f s).power = s.power := rfl
@[simp] theorem modSlice_nvm (p : Nat) (f : Slice → Slice) (s : State) : (modSlice p f s).nvm = s.nvm := rfl
@[simp] theorem modSlice_moduleId (p : Nat) (f : Slice → Slice) (s : State) : (modSlice p f s).moduleId = s.moduleId := rfl
@[simp] theorem modSlice_cfg (p : Nat) (f : Slice → Slice) (s : State) : (modSlice p f s).cfg = s.cfg := rfl
@[simp] theorem modSlice_link (p : Nat) (f : Slice → Slice) (s : State) : (modSlice p f s).link = s.link := rfl
@[simp] theorem modSlice_inRings (p : Nat) (f : Slice → Slice) (s : State) : (modSlice p f s).inRings = s.inRings := rfl
@[simp] theorem modSlice_outRings (p : Nat) (f : Slice → Slice) (s : State) : (modSlice p f s).outRings = s.outRings := rfl
@[simp] theorem modSlice_ev (p : Nat) (f : Slice → Slice) (s : State) : (modSlice p f s).ev = s.ev := rfl
@[simp] theorem modSlice_timers (p : Nat) (f : Slice → Slice) (s : State) : (modSlice p f s).timers = s.timers := rfl
@[simp] theorem modSlice_slices (p : Nat) (f : Slice → Slice) (s : State) : (modSlice p f s).slices = upd s.slices (sliceOf s p) f := rfl
@[simp] theorem modSlice_ports (p : Nat) (f : Slice → Slice) (s : State) : (modSlice p f s).ports = s.ports := rfl
@[simp] theorem modSlice_press (p : Nat) (f : Slice → Slice) (s : State) : (modSlice p f s).press = s.press := rfl
@[simp] theorem modSlice_coupling (p : Nat) (f : Slice → Slice) (s : State) : (modSlice p f s).coupling = s.coupling := rfl
@[simp] theorem modSlice_filters (p : Nat) (f : Slice → Slice) (s : State) : (modSlice p f s).filters = s.filters := rfl
@[simp] theorem modSlice_spares (p : Nat) (f : Slice → Slice) (s : State) : (modSlice p f s).spares = s.spares := rfl
@[simp] theorem modSlice_faults (p : Nat) (f : Slice → Slice) (s : State) : (modSlice p f s).faults = s.faults := rfl
@[simp] theorem modSlice_act (p : Nat) (f : Slice → Slice) (s : State) : (modSlice p f s).act = s.act := rfl
@[simp] theorem modSlice_fwOpen (p : Nat) (f : Slice → Slice) (s : State) : (modSlice p f s).fwOpen = s.fwOpen := rfl
@[simp] theorem modSlice_diag (p : Nat) (f : Slice → Slice) (s : State) : (modSlice p f s).diag = s.diag := rfl
@[simp] theorem modSlice_inv (p : Nat) (f : Slice → Slice) (s : State) : (modSlice p f s).inv = s.inv := rfl
@[simp] theorem modSlice_time (p : Nat) (f : Slice → Slice) (s : State) : (modSlice p f s).time = s.time := rfl
@[simp] theorem modSlice_cluster (p : Nat) (f : Slice → Slice) (s : State) : (modSlice p f s).cluster = s.cluster := rfl
@[simp] theorem modSlice_cellar (p : Nat) (f : Slice → Slice) (s : State) : (modSlice p f s).cellar = s.cellar := rfl
@[simp] theorem modSlice_noiseJob (p : Nat) (f : Slice → Slice) (s : State) : (modSlice p f s).noiseJob = s.noiseJob := rfl
@[simp] theorem modSlice_mirrorJob (p : Nat) (f : Slice → Slice) (s : State) : (modSlice p f s).mirrorJob = s.mirrorJob := rfl
@[simp] theorem modSlice_sent (p : Nat) (f : Slice → Slice) (s : State) : (modSlice p f s).sent = s.sent := rfl

/-! ### modIn -/

@[simp] theorem modIn_now (q : Nat) (f : InRing → InRing) (s : State) : (modIn q f s).now = s.now := rfl
@[simp] theorem modIn_pending (q : Nat) (f : InRing → InRing) (s : State) : (modIn q f s).pending = s.pending := rfl
@[simp] theorem modIn_free (q : Nat) (f : InRing → InRing) (s : State) : (modIn q f s).free = s.free := rfl
@[simp] theorem modIn_timeOff (q : Nat) (f : InRing → InRing) (s : State) : (modIn q f s).timeOff = s.timeOff := rfl
@[simp] theorem modIn_mod (q : Nat) (f : InRing → InRing) (s : State) : (modIn q f s).mod = s.mod := rfl
@[simp] theorem modIn_pins (q : Nat) (f : InRing → InRing) (s : State) : (modIn q f s).pins = s.pins := rfl
@[simp] theorem modIn_power (q : Nat) (f : InRing → InRing) (s : State) : (modIn q f s).power = s.power := rfl
@[simp] theorem modIn_nvm (q : Nat) (f : InRing → InRing) (s : State) : (modIn q f s).nvm = s.nvm := rfl
@[simp] theorem modIn_moduleId (q : Nat) (f : InRing → InRing) (s : State) : (modIn q f s).moduleId = s.moduleId := rfl
@[simp] theorem modIn_cfg (q : Nat) (f : InRing → InRing) (s : State) : (modIn q f s).cfg = s.cfg := rfl
@[simp] theorem modIn_link (q : Nat) (f : InRing → InRing) (s : State) : (modIn q f s).link = s.link := rfl
@[simp] theorem modIn_inRings (q : Nat) (f : InRing → InRing) (s : State) : (modIn q f s).inRings = upd s.inRings q f := rfl
@[simp] theorem modIn_outRings (q : Nat) (f : InRing → InRing) (s : State) : (modIn q f s).outRings = s.outRings := rfl
@[simp] theorem modIn_ev (q : Nat) (f : InRing → InRing) (s : State) : (modIn q f s).ev = s.ev := rfl
@[simp] theorem modIn_timers (q : Nat) (f : InRing → InRing) (s : State) : (modIn q f s).timers = s.timers := rfl
@[simp] theorem modIn_slices (q : Nat) (f : InRing → InRing) (s : State) : (modIn q f s).slices = s.slices := rfl
@[simp] theorem modIn_ports (q : Nat) (f : InRing → InRing) (s : State) : (modIn q f s).ports = s.ports := rfl
@[simp] theorem modIn_press (q : Nat) (f : InRing → InRing) (s : State) : (modIn q f s).press = s.press := rfl
@[simp] theorem modIn_coupling (q : Nat) (f : InRing → InRing) (s : State) : (modIn q f s).coupling = s.coupling := rfl
@[simp] theorem modIn_filters (q : Nat) (f : InRing → InRing) (s : State) : (modIn q f s).filters = s.filters := rfl
@[simp] theorem modIn_spares (q : Nat) (f : InRing → InRing) (s : State) : (modIn q f s).spares = s.spares := rfl
@[simp] theorem modIn_faults (q : Nat) (f : InRing → InRing) (s : State) : (modIn q f s).faults = s.faults := rfl
@[simp] theorem modIn_act (q : Nat) (f : InRing → InRing) (s : State) : (modIn q f s).act = s.act := rfl
@[simp] theorem modIn_fwOpen (q : Nat) (f : InRing → InRing) (s : State) : (modIn q f s).fwOpen = s.fwOpen := rfl
@[simp] theorem modIn_diag (q : Nat) (f : InRing → InRing) (s : State) : (modIn q f s).diag = s.diag := rfl
@[simp] theorem modIn_inv (q : Nat) (f : InRing → InRing) (s : State) : (modIn q f s).inv = s.inv := rfl
@[simp] theorem modIn_time (q : Nat) (f : InRing → InRing) (s : State) : (modIn q f s).time = s.time := rfl
@[simp] theorem modIn_cluster (q : Nat) (f : InRing → InRing) (s : State) : (modIn q f s).cluster = s.cluster := rfl
@[simp] theorem modIn_cellar (q : Nat) (f : InRing → InRing) (s : State) : (modIn q f s).cellar = s.cellar := rfl
@[simp] theorem modIn_noiseJob (q : Nat) (f : InRing → InRing) (s : State) : (modIn q f s).noiseJob = s.noiseJob := rfl
@[simp] theorem modIn_mirrorJob (q : Nat) (f : InRing → InRing) (s : State) : (modIn q f s).mirrorJob = s.mirrorJob := rfl
@[simp] theorem modIn_sent (q : Nat) (f : InRing → InRing) (s : State) : (modIn q f s).sent = s.sent := rfl

/-! ### modOut -/

@[simp] theorem modOut_now (q : Nat) (f : OutRing → OutRing) (s : State) : (modOut q f s).now = s.now := rfl
@[simp] theorem modOut_pending (q : Nat) (f : OutRing → OutRing) (s : State) : (modOut q f s).pending = s.pending := rfl
@[simp] theorem modOut_free (q : Nat) (f : OutRing → OutRing) (s : State) : (modOut q f s).free = s.free := rfl
@[simp] theorem modOut_timeOff (q : Nat) (f : OutRing → OutRing) (s : State) : (modOut q f s).timeOff = s.timeOff := rfl
@[simp] theorem modOut_mod (q : Nat) (f : OutRing → OutRing) (s : State) : (modOut q f s).mod = s.mod := rfl
@[simp] theorem modOut_pins (q : Nat) (f : OutRing → OutRing) (s : State) : (modOut q f s).pins = s.pins := rfl
@[simp] theorem modOut_power (q : Nat) (f : OutRing → OutRing) (s : State) : (modOut q f s).power = s.power := rfl
@[simp] theorem modOut_nvm (q : Nat) (f : OutRing → OutRing) (s : State) : (modOut q f s).nvm = s.nvm := rfl
@[simp] theorem modOut_moduleId (q : Nat) (f : OutRing → OutRing) (s : State) : (modOut q f s).moduleId = s.moduleId := rfl
@[simp] theorem modOut_cfg (q : Nat) (f : OutRing → OutRing) (s : State) : (modOut q f s).cfg = s.cfg := rfl
@[simp] theorem modOut_link (q : Nat) (f : OutRing → OutRing) (s : State) : (modOut q f s).link = s.link := rfl
@[simp] theorem modOut_inRings (q : Nat) (f : OutRing → OutRing) (s : State) : (modOut q f s).inRings = s.inRings := rfl
@[simp] theorem modOut_outRings (q : Nat) (f : OutRing → OutRing) (s : State) : (modOut q f s).outRings = upd s.outRings q f := rfl
@[simp] theorem modOut_ev (q : Nat) (f : OutRing → OutRing) (s : State) : (modOut q f s).ev = s.ev := rfl
@[simp] theorem modOut_timers (q : Nat) (f : OutRing → OutRing) (s : State) : (modOut q f s).timers = s.timers := rfl
@[simp] theorem modOut_slices (q : Nat) (f : OutRing → OutRing) (s : State) : (modOut q f s).slices = s.slices := rfl
@[simp] theorem modOut_ports (q : Nat) (f : OutRing → OutRing) (s : State) : (modOut q f s).ports = s.ports := rfl
@[simp] theorem modOut_press (q : Nat) (f : OutRing → OutRing) (s : State) : (modOut q f s).press = s.press := rfl
@[simp] theorem modOut_coupling (q : Nat) (f : OutRing → OutRing) (s : State) : (modOut q f s).coupling = s.coupling := rfl
@[simp] theorem modOut_filters (q : Nat) (f : OutRing → OutRing) (s : State) : (modOut q f s).filters = s.filters := rfl
@[simp] theorem modOut_spares (q : Nat) (f : OutRing → OutRing) (s : State) : (modOut q f s).spares = s.spares := rfl
@[simp] theorem modOut_faults (q : Nat) (f : OutRing → OutRing) (s : State) : (modOut q f s).faults = s.faults := rfl
@[simp] theorem modOut_act (q : Nat) (f : OutRing → OutRing) (s : State) : (modOut q f s).act = s.act := rfl
@[simp] theorem modOut_fwOpen (q : Nat) (f : OutRing → OutRing) (s : State) : (modOut q f s).fwOpen = s.fwOpen := rfl
@[simp] theorem modOut_diag (q : Nat) (f : OutRing → OutRing) (s : State) : (modOut q f s).diag = s.diag := rfl
@[simp] theorem modOut_inv (q : Nat) (f : OutRing → OutRing) (s : State) : (modOut q f s).inv = s.inv := rfl
@[simp] theorem modOut_time (q : Nat) (f : OutRing → OutRing) (s : State) : (modOut q f s).time = s.time := rfl
@[simp] theorem modOut_cluster (q : Nat) (f : OutRing → OutRing) (s : State) : (modOut q f s).cluster = s.cluster := rfl
@[simp] theorem modOut_cellar (q : Nat) (f : OutRing → OutRing) (s : State) : (modOut q f s).cellar = s.cellar := rfl
@[simp] theorem modOut_noiseJob (q : Nat) (f : OutRing → OutRing) (s : State) : (modOut q f s).noiseJob = s.noiseJob := rfl
@[simp] theorem modOut_mirrorJob (q : Nat) (f : OutRing → OutRing) (s : State) : (modOut q f s).mirrorJob = s.mirrorJob := rfl
@[simp] theorem modOut_sent (q : Nat) (f : OutRing → OutRing) (s : State) : (modOut q f s).sent = s.sent := rfl

/-! ### modTimer -/

@[simp] theorem modTimer_now (n : Nat) (f : Timer → Timer) (s : State) : (modTimer n f s).now = s.now := rfl
@[simp] theorem modTimer_pending (n : Nat) (f : Timer → Timer) (s : State) : (modTimer n f s).pending = s.pending := rfl
@[simp] theorem modTimer_free (n : Nat) (f : Timer → Timer) (s : State) : (modTimer n f s).free = s.free := rfl
@[simp] theorem modTimer_timeOff (n : Nat) (f : Timer → Timer) (s : State) : (modTimer n f s).timeOff = s.timeOff := rfl
@[simp] theorem modTimer_mod (n : Nat) (f : Timer → Timer) (s : State) : (modTimer n f s).mod = s.mod := rfl
@[simp] theorem modTimer_pins (n : Nat) (f : Timer → Timer) (s : State) : (modTimer n f s).pins = s.pins := rfl
@[simp] theorem modTimer_power (n : Nat) (f : Timer → Timer) (s : State) : (modTimer n f s).power = s.power := rfl
@[simp] theorem modTimer_nvm (n : Nat) (f : Timer → Timer) (s : State) : (modTimer n f s).nvm = s.nvm := rfl
@[simp] theorem modTimer_moduleId (n : Nat) (f : Timer → Timer) (s : State) : (modTimer n f s).moduleId = s.moduleId := rfl
@[simp] theorem modTimer_cfg (n : Nat) (f : Timer → Timer) (s : State) : (modTimer n f s).cfg = s.cfg := rfl
@[simp] theorem modTimer_link (n : Nat) (f : Timer → Timer) (s : State) : (modTimer n f s).link = s.link := rfl
@[simp] theorem modTimer_inRings (n : Nat) (f : Timer → Timer) (s : State) : (modTimer n f s).inRings = s.inRings := rfl
@[simp] theorem modTimer_outRings (n : Nat) (f : Timer → Timer) (s : State) : (modTimer n f s).outRings = s.outRings := rfl
@[simp] theorem modTimer_ev (n : Nat) (f : Timer → Timer) (s : State) : (modTimer n f s).ev = s.ev := rfl
@[simp] theorem modTimer_timers (n : Nat) (f : Timer → Timer) (s : State) : (modTimer n f s).timers = upd s.timers n f := rfl
@[simp] theorem modTimer_slices (n : Nat) (f : Timer → Timer) (s : State) : (modTimer n f s).slices = s.slices := rfl
@[simp] theorem modTimer_ports (n : Nat) (f : Timer → Timer) (s : State) : (modTimer n f s).ports = s.ports := rfl
@[simp] theorem modTimer_press (n : Nat) (f : Timer → Timer) (s : State) : (modTimer n f s).press = s.press := rfl
@[simp] theorem modTimer_coupling (n : Nat) (f : Timer → Timer) (s : State) : (modTimer n f s).coupling = s.coupling := rfl
@[simp] theorem modTimer_filters (n : Nat) (f : Timer → Timer) (s : State) : (modTimer n f s).filters = s.filters := rfl
@[simp] theorem modTimer_spares (n : Nat) (f : Timer → Timer) (s : State) : (modTimer n f s).spares = s.spares := rfl
@[simp] theorem modTimer_faults (n : Nat) (f : Timer → Timer) (s : State) : (modTimer n f s).faults = s.faults := rfl
@[simp] theorem modTimer_act (n : Nat) (f : Timer → Timer) (s : State) : (modTimer n f s).act = s.act := rfl
@[simp] theorem modTimer_fwOpen (n : Nat) (f : Timer → Timer) (s : State) : (modTimer n f s).fwOpen = s.fwOpen := rfl
@[simp] theorem modTimer_diag (n : Nat) (f : Timer → Timer) (s : State) : (modTimer n f s).diag = s.diag := rfl
@[simp] theorem modTimer_inv (n : Nat) (f : Timer → Timer) (s : State) : (modTimer n f s).inv = s.inv := rfl
@[simp] theorem modTimer_time (n : Nat) (f : Timer → Timer) (s : State) : (modTimer n f s).time = s.time := rfl
@[simp] theorem modTimer_cluster (n : Nat) (f : Timer → Timer) (s : State) : (modTimer n f s).cluster = s.cluster := rfl
@[simp] theorem modTimer_cellar (n : Nat) (f : Timer → Timer) (s : State) : (modTimer n f s).cellar = s.cellar := rfl
@[simp] theorem modTimer_noiseJob (n : Nat) (f : Timer → Timer) (s : State) : (modTimer n f s).noiseJob = s.noiseJob := rfl
@[simp] theorem modTimer_mirrorJob (n : Nat) (f : Timer → Timer) (s : State) : (modTimer n f s).mirrorJob = s.mirrorJob := rfl
@[simp] theorem modTimer_sent (n : Nat) (f : Timer → Timer) (s : State) : (modTimer n f s).sent = s.sent := rfl

/-! ### modLink -/

@[simp] theorem modLink_now (f : Link → Link) (s : State) : (modLink f s).now = s.now := rfl
@[simp] theorem modLink_pending (f : Link → Link) (s : State) : (modLink f s).pending = s.pending := rfl
@[simp] theorem modLink_free (f : Link → Link) (s : State) : (modLink f s).free = s.free := rfl
@[simp] theorem modLink_timeOff (f : Link → Link) (s : State) : (modLink f s).timeOff = s.timeOff := rfl
@[simp] theorem modLink_mod (f : Link → Link) (s : State) : (modLink f s).mod = s.mod := rfl
@[simp] theorem modLink_pins (f : Link → Link) (s : State) : (modLink f s).pins = s.pins := rfl
@[simp] theorem modLink_power (f : Link → Link) (s : State) : (modLink f s).power = s.power := rfl
@[simp] theorem modLink_nvm (f : Link → Link) (s : State) : (modLink f s).nvm = s.nvm := rfl
@[simp] theorem modLink_moduleId (f : Link → Link) (s : State) : (modLink f s).moduleId = s.moduleId := rfl
@[simp] theorem modLink_cfg (f : Link → Link) (s : State) : (modLink f s).cfg = s.cfg := rfl
@[simp] theorem modLink_link (f : Link → Link) (s : State) : (modLink f s).link = f s.link := rfl
@[simp] theorem modLink_inRings (f : Link → Link) (s : State) : (modLink f s).inRings = s.inRings := rfl
@[simp] theorem modLink_outRings (f : Link → Link) (s : State) : (modLink f s).outRings = s.outRings := rfl
@[simp] theorem modLink_ev (f : Link → Link) (s : State) : (modLink f s).ev = s.ev := rfl
@[simp] theorem modLink_timers (f : Link → Link) (s : State) : (modLink f s).timers = s.timers := rfl
@[simp] theorem modLink_slices (f : Link → Link) (s : State) : (modLink f s).slices = s.slices := rfl
@[simp] theorem modLink_ports (f : Link → Link) (s : State) : (modLink f s).ports = s.ports := rfl
@[simp] theorem modLink_press (f : Link → Link) (s : State) : (modLink f s).press = s.press := rfl
@[simp] theorem modLink_coupling (f : Link → Link) (s : State) : (modLink f s).coupling = s.coupling := rfl
@[simp] theorem modLink_filters (f : Link → Link) (s : State) : (modLink f s).filters = s.filters := rfl
@[simp] theorem modLink_spares (f : Link → Link) (s : State) : (modLink f s).spares = s.spares := rfl
@[simp] theorem modLink_faults (f : Link → Link) (s : State) : (modLink f s).faults = s.faults := rfl
@[simp] theorem modLink_act (f : Link → Link) (s : State) : (modLink f s).act = s.act := rfl
@[simp] theorem modLink_fwOpen (f : Link → Link) (s : State) : (modLink f s).fwOpen = s.fwOpen := rfl
@[simp] theorem modLink_diag (f : Link → Link) (s : State) : (modLink f s).diag = s.diag := rfl
@[simp] theorem modLink_inv (f : Link → Link) (s : State) : (modLink f s).inv = s.inv := rfl
@[simp] theorem modLink_time (f : Link → Link) (s : State) : (modLink f s).time = s.time := rfl
@[simp] theorem modLink_cluster (f : Link → Link) (s : State) : (modLink f s).cluster = s.cluster := rfl
@[simp] theorem modLink_cellar (f : Link → Link) (s : State) : (modLink f s).cellar = s.cellar := rfl
@[simp] theorem modLink_noiseJob (f : Link → Link) (s : State) : (modLink f s).noiseJob = s.noiseJob := rfl
@[simp] theorem modLink_mirrorJob (f : Link → Link) (s : State) : (modLink f s).mirrorJob = s.mirrorJob := rfl
@[simp] theorem modLink_sent (f : Link → Link) (s : State) : (modLink f s).sent = s.sent := rfl

/-! ### modMod -/

@[simp] theorem modMod_now (f : Mod → Mod) (s : State) : (modMod f s).now = s.now := rfl
@[simp] theorem modMod_pending (f : Mod → Mod) (s : State) : (modMod f s).pending = s.pending := rfl
@[simp] theorem modMod_free (f : Mod → Mod) (s : State) : (modMod f s).free = s.free := rfl
@[simp] theorem modMod_timeOff (f : Mod → Mod) (s : State) : (modMod f s).timeOff = s.timeOff := rfl
@[simp] theorem modMod_mod (f : Mod → Mod) (s : State) : (modMod f s).mod = f s.mod := rfl
@[simp] theorem modMod_pins (f : Mod → Mod) (s : State) : (modMod f s).pins = s.pins := rfl
@[simp] theorem modMod_power (f : Mod → Mod) (s : State) : (modMod f s).power = s.power := rfl
@[simp] theorem modMod_nvm (f : Mod → Mod) (s : State) : (modMod f s).nvm = s.nvm := rfl
@[simp] theorem modMod_moduleId (f : Mod → Mod) (s : State) : (modMod f s).moduleId = s.moduleId := rfl
@[simp] theorem modMod_cfg (f : Mod → Mod) (s : State) : (modMod f s).cfg = s.cfg := rfl
@[simp] theorem modMod_link (f : Mod → Mod) (s : State) : (modMod f s).link = s.link := rfl
@[simp] theorem modMod_inRings (f : Mod → Mod) (s : State) : (modMod f s).inRings = s.inRings := rfl
@[simp] theorem modMod_outRings (f : Mod → Mod) (s : State) : (modMod f s).outRings = s.outRings := rfl
@[simp] theorem modMod_ev (f : Mod → Mod) (s : State) : (modMod f s).ev = s.ev := rfl
@[simp] theorem modMod_timers (f : Mod → Mod) (s : State) : (modMod f s).timers = s.timers := rfl
@[simp] theorem modMod_slices (f : Mod → Mod) (s : State) : (modMod f s).slices = s.slices := rfl
@[simp] theorem modMod_ports (f : Mod → Mod) (s : State) : (modMod f s).ports = s.ports := rfl
@[simp] theorem modMod_press (f : Mod → Mod) (s : State) : (modMod f s).press = s.press := rfl
@[simp] theorem modMod_coupling (f : Mod → Mod) (s : State) : (modMod f s).coupling = s.coupling := rfl
@[simp] theorem modMod_filters (f : Mod → Mod) (s : State) : (modMod f s).filters = s.filters := rfl
@[simp] theorem modMod_spares (f : Mod → Mod) (s : State) : (modMod f s).spares = s.spares := rfl
@[simp] theorem modMod_faults (f : Mod → Mod) (s : State) : (modMod f s).faults = s.faults := rfl
@[simp] theorem modMod_act (f : Mod → Mod) (s : State) : (modMod f s).act = s.act := rfl
@[simp] theorem modMod_fwOpen (f : Mod → Mod) (s : State) : (modMod f s).fwOpen = s.fwOpen := rfl
@[simp] theorem modMod_diag (f : Mod → Mod) (s : State) : (modMod f s).diag = s.diag := rfl
@[simp] theorem modMod_inv (f : Mod → Mod) (s : State) : (modMod f s).inv = s.inv := rfl
@[simp] theorem modMod_time (f : Mod → Mod) (s : State) : (modMod f s).time = s.time := rfl
@[simp] theorem modMod_cluster (f : Mod → Mod) (s : State) : (modMod f s).cluster = s.cluster := rfl
@[simp] theorem modMod_cellar (f : Mod → Mod) (s : State) : (modMod f s).cellar = s.cellar := rfl
@[simp] theorem modMod_noiseJob (f : Mod → Mod) (s : State) : (modMod f s).noiseJob = s.noiseJob := rfl
@[simp] theorem modMod_mirrorJob (f : Mod → Mod) (s : State) : (modMod f s).mirrorJob = s.mirrorJob := rfl
@[simp] theorem modMod_sent (f : Mod → Mod) (s : State) : (modMod f s).sent = s.sent := rfl

/-! ### modNvm -/

@[simp] theorem modNvm_now (f : Nvm → Nvm) (s : State) : (modNvm f s).now = s.now := rfl
@[simp] theorem modNvm_pending (f : Nvm → Nvm) (s : State) : (modNvm f s).pending = s.pending := rfl
@[simp] theorem modNvm_free (f : Nvm → Nvm) (s : State) : (modNvm f s).free = s.free := rfl
@[simp] theorem modNvm_timeOff (f : Nvm → Nvm) (s : State) : (modNvm f s).timeOff = s.timeOff := rfl
@[simp] theorem modNvm_mod (f : Nvm → Nvm) (s : State) : (modNvm f s).mod = s.mod := rfl
@[simp] theorem modNvm_pins (f : Nvm → Nvm) (s : State) : (modNvm f s).pins = s.pins := rfl
@[simp] theorem modNvm_power (f : Nvm → Nvm) (s : State) : (modNvm f s).power = s.power := rfl
@[simp] theorem modNvm_nvm (f : Nvm → Nvm) (s : State) : (modNvm f s).nvm = f s.nvm := rfl
@[simp] theorem modNvm_moduleId (f : Nvm → Nvm) (s : State) : (modNvm f s).moduleId = s.moduleId := rfl
@[simp] theorem modNvm_cfg (f : Nvm → Nvm) (s : State) : (modNvm f s).cfg = s.cfg := rfl
@[simp] theorem modNvm_link (f : Nvm → Nvm) (s : State) : (modNvm f s).link = s.link := rfl
@[simp] theorem modNvm_inRings (f : Nvm → Nvm) (s : State) : (modNvm f s).inRings = s.inRings := rfl
@[simp] theorem modNvm_outRings (f : Nvm → Nvm) (s : State) : (modNvm f s).outRings = s.outRings := rfl
@[simp] theorem modNvm_ev (f : Nvm → Nvm) (s : State) : (modNvm f s).ev = s.ev := rfl
@[simp] theorem modNvm_timers (f : Nvm → Nvm) (s : State) : (modNvm f s).timers = s.timers := rfl
@[simp] theorem modNvm_slices (f : Nvm → Nvm) (s : State) : (modNvm f s).slices = s.slices := rfl
@[simp] theorem modNvm_ports (f : Nvm → Nvm) (s : State) : (modNvm f s).ports = s.ports := rfl
@[simp] theorem modNvm_press (f : Nvm → Nvm) (s : State) : (modNvm f s).press = s.press := rfl
@[simp] theorem modNvm_coupling (f : Nvm → Nvm) (s : State) : (modNvm f s).coupling = s.coupling := rfl
@[simp] theorem modNvm_filters (f : Nvm → Nvm) (s : State) : (modNvm f s).filters = s.filters := rfl
@[simp] theorem modNvm_spares (f : Nvm → Nvm) (s : State) : (modNvm f s).spares = s.spares := rfl
@[simp] theorem modNvm_faults (f : Nvm → Nvm) (s : State) : (modNvm f s).faults = s.faults := rfl
@[simp] theorem modNvm_act (f : Nvm → Nvm) (s : State) : (modNvm f s).act = s.act := rfl
@[simp] theorem modNvm_fwOpen (f : Nvm → Nvm) (s : State) : (modNvm f s).fwOpen = s.fwOpen := rfl
@[simp] theorem modNvm_diag (f : Nvm → Nvm) (s : State) : (modNvm f s).diag = s.diag := rfl
@[simp] theorem modNvm_inv (f : Nvm → Nvm) (s : State) : (modNvm f s).inv = s.inv := rfl
@[simp] theorem modNvm_time (f : Nvm → Nvm) (s : State) : (modNvm f s).time = s.time := rfl
@[simp] theorem modNvm_cluster (f : Nvm → Nvm) (s : State) : (modNvm f s).cluster = s.cluster := rfl
@[simp] theorem modNvm_cellar (f : Nvm → Nvm) (s : State) : (modNvm f s).cellar = s.cellar := rfl
@[simp] theorem modNvm_noiseJob (f : Nvm → Nvm) (s : State) : (modNvm f s).noiseJob = s.noiseJob := rfl
@[simp] theorem modNvm_mirrorJob (f : Nvm → Nvm) (s : State) : (modNvm f s).mirrorJob = s.mirrorJob := rfl
@[simp] theorem modNvm_sent (f : Nvm → Nvm) (s : State) : (modNvm f s).sent = s.sent := rfl

/-! ### modPower -/

@[simp] theorem modPower_now (f : Power → Power) (s : State) : (modPower f s).now = s.now := rfl
@[simp] theorem modPower_pending (f : Power → Power) (s : State) : (modPower f s).pending = s.pending := rfl
@[simp] theorem modPower_free (f : Power → Power) (s : State) : (modPower f s).free = s.free := rfl
@[simp] theorem modPower_timeOff (f : Power → Power) (s : State) : (modPower f s).timeOff = s.timeOff := rfl
@[simp] theorem modPower_mod (f : Power → Power) (s : State) : (modPower f s).mod = s.mod := rfl
@[simp] theorem modPower_pins (f : Power → Power) (s : State) : (modPower f s).pins = s.pins := rfl
@[simp] theorem modPower_power (f : Power → Power) (s : State) : (modPower f s).power = f s.power := rfl
@[simp] theorem modPower_nvm (f : Power → Power) (s : State) : (modPower f s).nvm = s.nvm := rfl
@[simp] theorem modPower_moduleId (f : Power → Power) (s : State) : (modPower f s).moduleId = s.moduleId := rfl
@[simp] theorem modPower_cfg (f : Power → Power) (s : State) : (modPower f s).cfg = s.cfg := rfl
@[simp] theorem modPower_link (f : Power → Power) (s : State) : (modPower f s).link = s.link := rfl
@[simp] theorem modPower_inRings (f : Power → Power) (s : State) : (modPower f s).inRings = s.inRings := rfl
@[simp] theorem modPower_outRings (f : Power → Power) (s : State) : (modPower f s).outRings = s.outRings := rfl
@[simp] theorem modPower_ev (f : Power → Power) (s : State) : (modPower f s).ev = s.ev := rfl
@[simp] theorem modPower_timers (f : Power → Power) (s : State) : (modPower f s).timers = s.timers := rfl
@[simp] theorem modPower_slices (f : Power → Power) (s : State) : (modPower f s).slices = s.slices := rfl
@[simp] theorem modPower_ports (f : Power → Power) (s : State) : (modPower f s).ports = s.ports := rfl
@[simp] theorem modPower_press (f : Power → Power) (s : State) : (modPower f s).press = s.press := rfl
@[simp] theorem modPower_coupling (f : Power → Power) (s : State) : (modPower f s).coupling = s.coupling := rfl
@[simp] theorem modPower_filters (f : Power → Power) (s : State) : (modPower f s).filters = s.filters := rfl
@[simp] theorem modPower_spares (f : Power → Power) (s : State) : (modPower f s).spares = s.spares := rfl
@[simp] theorem modPower_faults (f : Power → Power) (s : State) : (modPower f s).faults = s.faults := rfl
@[simp] theorem modPower_act (f : Power → Power) (s : State) : (modPower f s).act = s.act := rfl
@[simp] theorem modPower_fwOpen (f : Power → Power) (s : State) : (modPower f s).fwOpen = s.fwOpen := rfl
@[simp] theorem modPower_diag (f : Power → Power) (s : State) : (modPower f s).diag = s.diag := rfl
@[simp] theorem modPower_inv (f : Power → Power) (s : State) : (modPower f s).inv = s.inv := rfl
@[simp] theorem modPower_time (f : Power → Power) (s : State) : (modPower f s).time = s.time := rfl
@[simp] theorem modPower_cluster (f : Power → Power) (s : State) : (modPower f s).cluster = s.cluster := rfl
@[simp] theorem modPower_cellar (f : Power → Power) (s : State) : (modPower f s).cellar = s.cellar := rfl
@[simp] theorem modPower_noiseJob (f : Power → Power) (s : State) : (modPower f s).noiseJob = s.noiseJob := rfl
@[simp] theorem modPower_mirrorJob (f : Power → Power) (s : State) : (modPower f s).mirrorJob = s.mirrorJob := rfl
@[simp] theorem modPower_sent (f : Power → Power) (s : State) : (modPower f s).sent = s.sent := rfl

/-! ### modDiag -/

@[simp] theorem modDiag_now (f : Diag → Diag) (s : State) : (modDiag f s).now = s.now := rfl
@[simp] theorem modDiag_pending (f : Diag → Diag) (s : State) : (modDiag f s).pending = s.pending := rfl
@[simp] theorem modDiag_free (f : Diag → Diag) (s : State) : (modDiag f s).free = s.free := rfl
@[simp] theorem modDiag_timeOff (f : Diag → Diag) (s : State) : (modDiag f s).timeOff = s.timeOff := rfl
@[simp] theorem modDiag_mod (f : Diag → Diag) (s : State) : (modDiag f s).mod = s.mod := rfl
@[simp] theorem modDiag_pins (f : Diag → Diag) (s : State) : (modDiag f s).pins = s.pins := rfl
@[simp] theorem modDiag_power (f : Diag → Diag) (s : State) : (modDiag f s).power = s.power := rfl
@[simp] theorem modDiag_nvm (f : Diag → Diag) (s : State) : (modDiag f s).nvm = s.nvm := rfl
@[simp] theorem modDiag_moduleId (f : Diag → Diag) (s : State) : (modDiag f s).moduleId = s.moduleId := rfl
@[simp] theorem modDiag_cfg (f : Diag → Diag) (s : State) : (modDiag f s).cfg = s.cfg := rfl
@[simp] theorem modDiag_link (f : Diag → Diag) (s : State) : (modDiag f s).link = s.link := rfl
@[simp] theorem modDiag_inRings (f : Diag → Diag) (s : State) : (modDiag f s).inRings = s.inRings := rfl
@[simp] theorem modDiag_outRings (f : Diag → Diag) (s : State) : (modDiag f s).outRings = s.outRings := rfl
@[simp] theorem modDiag_ev (f : Diag → Diag) (s : State) : (modDiag f s).ev = s.ev := rfl
@[simp] theorem modDiag_timers (f : Diag → Diag) (s : State) : (modDiag f s).timers = s.timers := rfl
@[simp] theorem modDiag_slices (f : Diag → Diag) (s : State) : (modDiag f s).slices = s.slices := rfl
@[simp] theorem modDiag_ports (f : Diag → Diag) (s : State) : (modDiag f s).ports = s.ports := rfl
@[simp] theorem modDiag_press (f : Diag → Diag) (s : State) : (modDiag f s).press = s.press := rfl
@[simp] theorem modDiag_coupling (f : Diag → Diag) (s : State) : (modDiag f s).coupling = s.coupling := rfl
@[simp] theorem modDiag_filters (f : Diag → Diag) (s : State) : (modDiag f s).filters = s.filters := rfl
@[simp] theorem modDiag_spares (f : Diag → Diag) (s : State) : (modDiag f s).spares = s.spares := rfl
@[simp] theorem modDiag_faults (f : Diag → Diag) (s : State) : (modDiag f s).faults = s.faults := rfl
@[simp] theorem modDiag_act (f : Diag → Diag) (s : State) : (modDiag f s).act = s.act := rfl
@[simp] theorem modDiag_fwOpen (f : Diag → Diag) (s : State) : (modDiag f s).fwOpen = s.fwOpen := rfl
@[simp] theorem modDiag_diag (f : Diag → Diag) (s : State) : (modDiag f s).diag = f s.diag := rfl
@[simp] theorem modDiag_inv (f : Diag → Diag) (s : State) : (modDiag f s).inv = s.inv := rfl
@[simp] theorem modDiag_time (f : Diag → Diag) (s : State) : (modDiag f s).time = s.time := rfl
@[simp] theorem modDiag_cluster (f : Diag → Diag) (s : State) : (modDiag f s).cluster = s.cluster := rfl
@[simp] theorem modDiag_cellar (f : Diag → Diag) (s : State) : (modDiag f s).cellar = s.cellar := rfl
@[simp] theorem modDiag_noiseJob (f : Diag → Diag) (s : State) : (modDiag f s).noiseJob = s.noiseJob := rfl
@[simp] theorem modDiag_mirrorJob (f : Diag → Diag) (s : State) : (modDiag f s).mirrorJob = s.mirrorJob := rfl
@[simp] theorem modDiag_sent (f : Diag → Diag) (s : State) : (modDiag f s).sent = s.sent := rfl

/-! ### modTime -/

@[simp] theorem modTime_now (f : Time → Time) (s : State) : (modTime f s).now = s.now := rfl
@[simp] theorem modTime_pending (f : Time → Time) (s : State) : (modTime f s).pending = s.pending := rfl
@[simp] theorem modTime_free (f : Time → Time) (s : State) : (modTime f s).free = s.free := rfl
@[simp] theorem modTime_timeOff (f : Time → Time) (s : State) : (modTime f s).timeOff = s.timeOff := rfl
@[simp] theorem modTime_mod (f : Time → Time) (s : State) : (modTime f s).mod = s.mod := rfl
@[simp] theorem modTime_pins (f : Time → Time) (s : State) : (modTime f s).pins = s.pins := rfl
@[simp] theorem modTime_power (f : Time → Time) (s : State) : (modTime f s).power = s.power := rfl
@[simp] theorem modTime_nvm (f : Time → Time) (s : State) : (modTime f s).nvm = s.nvm := rfl
@[simp] theorem modTime_moduleId (f : Time → Time) (s : State) : (modTime f s).moduleId = s.moduleId := rfl
@[simp] theorem modTime_cfg (f : Time → Time) (s : State) : (modTime f s).cfg = s.cfg := rfl
@[simp] theorem modTime_link (f : Time → Time) (s : State) : (modTime f s).link = s.link := rfl
@[simp] theorem modTime_inRings (f : Time → Time) (s : State) : (modTime f s).inRings = s.inRings := rfl
@[simp] theorem modTime_outRings (f : Time → Time) (s : State) : (modTime f s).outRings = s.outRings := rfl
@[simp] theorem modTime_ev (f : Time → Time) (s : State) : (modTime f s).ev = s.ev := rfl
@[simp] theorem modTime_timers (f : Time → Time) (s : State) : (modTime f s).timers = s.timers := rfl
@[simp] theorem modTime_slices (f : Time → Time) (s : State) : (modTime f s).slices = s.slices := rfl
@[simp] theorem modTime_ports (f : Time → Time) (s : State) : (modTime f s).ports = s.ports := rfl
@[simp] theorem modTime_press (f : Time → Time) (s : State) : (modTime f s).press = s.press := rfl
@[simp] theorem modTime_coupling (f : Time → Time) (s : State) : (modTime f s).coupling = s.coupling := rfl
@[simp] theorem modTime_filters (f : Time → Time) (s : State) : (modTime f s).filters = s.filters := rfl
@[simp] theorem modTime_spares (f : Time → Time) (s : State) : (modTime f s).spares = s.spares := rfl
@[simp] theorem modTime_faults (f : Time → Time) (s : State) : (modTime f s).faults = s.faults := rfl
@[simp] theorem modTime_act (f : Time → Time) (s : State) : (modTime f s).act = s.act := rfl
@[simp] theorem modTime_fwOpen (f : Time → Time) (s : State) : (modTime f s).fwOpen = s.fwOpen := rfl
@[simp] theorem modTime_diag (f : Time → Time) (s : State) : (modTime f s).diag = s.diag := rfl
@[simp] theorem modTime_inv (f : Time → Time) (s : State) : (modTime f s).inv = s.inv := rfl
@[simp] theorem modTime_time (f : Time → Time) (s : State) : (modTime f s).time = f s.time := rfl
@[simp] theorem modTime_cluster (f : Time → Time) (s : State) : (modTime f s).cluster = s.cluster := rfl
@[simp] theorem modTime_cellar (f : Time → Time) (s : State) : (modTime f s).cellar = s.cellar := rfl
@[simp] theorem modTime_noiseJob (f : Time → Time) (s : State) : (modTime f s).noiseJob = s.noiseJob := rfl
@[simp] theorem modTime_mirrorJob (f : Time → Time) (s : State) : (modTime f s).mirrorJob = s.mirrorJob := rfl
@[simp] theorem modTime_sent (f : Time → Time) (s : State) : (modTime f s).sent = s.sent := rfl

/-! ### modCluster -/

@[simp] theorem modCluster_now (f : Cluster → Cluster) (s : State) : (modCluster f s).now = s.now := rfl
@[simp] theorem modCluster_pending (f : Cluster → Cluster) (s : State) : (modCluster f s).pending = s.pending := rfl
@[simp] theorem modCluster_free (f : Cluster → Cluster) (s : State) : (modCluster f s).free = s.free := rfl
@[simp] theorem modCluster_timeOff (f : Cluster → Cluster) (s : State) : (modCluster f s).timeOff = s.timeOff := rfl
@[simp] theorem modCluster_mod (f : Cluster → Cluster) (s : State) : (modCluster f s).mod = s.mod := rfl
@[simp] theorem modCluster_pins (f : Cluster → Cluster) (s : State) : (modCluster f s).pins = s.pins := rfl
@[simp] theorem modCluster_power (f : Cluster → Cluster) (s : State) : (modCluster f s).power = s.power := rfl
@[simp] theorem modCluster_nvm (f : Cluster → Cluster) (s : State) : (modCluster f s).nvm = s.nvm := rfl
@[simp] theorem modCluster_moduleId (f : Cluster → Cluster) (s : State) : (modCluster f s).moduleId = s.moduleId := rfl
@[simp] theorem modCluster_cfg (f : Cluster → Cluster) (s : State) : (modCluster f s).cfg = s.cfg := rfl
@[simp] theorem modCluster_link (f : Cluster → Cluster) (s : State) : (modCluster f s).link = s.link := rfl
@[simp] theorem modCluster_inRings (f : Cluster → Cluster) (s : State) : (modCluster f s).inRings = s.inRings := rfl
@[simp] theorem modCluster_outRings (f : Cluster → Cluster) (s : State) : (modCluster f s).outRings = s.outRings := rfl
@[simp] theorem modCluster_ev (f : Cluster → Cluster) (s : State) : (modCluster f s).ev = s.ev := rfl
@[simp] theorem modCluster_timers (f : Cluster → Cluster) (s : State) : (modCluster f s).timers = s.timers := rfl
@[simp] theorem modCluster_slices (f : Cluster → Cluster) (s : State) : (modCluster f s).slices = s.slices := rfl
@[simp] theorem modCluster_ports (f : Cluster → Cluster) (s : State) : (modCluster f s).ports = s.ports := rfl
@[simp] theorem modCluster_press (f : Cluster → Cluster) (s : State) : (modCluster f s).press = s.press := rfl
@[simp] theorem modCluster_coupling (f : Cluster → Cluster) (s : State) : (modCluster f s).coupling = s.coupling := rfl
@[simp] theorem modCluster_filters (f : Cluster → Cluster) (s : State) : (modCluster f s).filters = s.filters := rfl
@[simp] theorem modCluster_spares (f : Cluster → Cluster) (s : State) : (modCluster f s).spares = s.spares := rfl
@[simp] theorem modCluster_faults (f : Cluster → Cluster) (s : State) : (modCluster f s).faults = s.faults := rfl
@[simp] theorem modCluster_act (f : Cluster → Cluster) (s : State) : (modCluster f s).act = s.act := rfl
@[simp] theorem modCluster_fwOpen (f : Cluster → Cluster) (s : State) : (modCluster f s).fwOpen = s.fwOpen := rfl
@[simp] theorem modCluster_diag (f : Cluster → Cluster) (s : State) : (modCluster f s).diag = s.diag := rfl
@[simp] theorem modCluster_inv (f : Cluster → Cluster) (s : State) : (modCluster f s).inv = s.inv := rfl
@[simp] theorem modCluster_time (f : Cluster → Cluster) (s : State) : (modCluster f s).time = s.time := rfl
@[simp] theorem modCluster_cluster (f : Cluster → Cluster) (s : State) : (modCluster f s).cluster = f s.cluster := rfl
@[simp] theorem modCluster_cellar (f : Cluster → Cluster) (s : State) : (modCluster f s).cellar = s.cellar := rfl
@[simp] theorem modCluster_noiseJob (f : Cluster → Cluster) (s : State) : (modCluster f s).noiseJob = s.noiseJob := rfl
@[simp] theorem modCluster_mirrorJob (f : Cluster → Cluster) (s : State) : (modCluster f s).mirrorJob = s.mirrorJob := rfl
@[simp] theorem modCluster_sent (f : Cluster → Cluster) (s : State) : (modCluster f s).sent = s.sent := rfl

/-! ### drawn -/

@[simp] theorem drawn_now (s : State) : (drawn s).now = s.now := rfl
@[simp] theorem drawn_pending (s : State) : (drawn s).pending = s.pending := rfl
@[simp] theorem drawn_free (s : State) : (drawn s).free = s.free + 1 := rfl
@[simp] theorem drawn_timeOff (s : State) : (drawn s).timeOff = s.timeOff := rfl
@[simp] theorem drawn_mod (s : State) : (drawn s).mod = s.mod := rfl
@[simp] theorem drawn_pins (s : State) : (drawn s).pins = s.pins := rfl
@[simp] theorem drawn_power (s : State) : (drawn s).power = s.power := rfl
@[simp] theorem drawn_nvm (s : State) : (drawn s).nvm = s.nvm := rfl
@[simp] theorem drawn_moduleId (s : State) : (drawn s).moduleId = s.moduleId := rfl
@[simp] theorem drawn_cfg (s : State) : (drawn s).cfg = s.cfg := rfl
@[simp] theorem drawn_link (s : State) : (drawn s).link = s.link := rfl
@[simp] theorem drawn_inRings (s : State) : (drawn s).inRings = s.inRings := rfl
@[simp] theorem drawn_outRings (s : State) : (drawn s).outRings = s.outRings := rfl
@[simp] theorem drawn_ev (s : State) : (drawn s).ev = s.ev := rfl
@[simp] theorem drawn_timers (s : State) : (drawn s).timers = s.timers := rfl
@[simp] theorem drawn_slices (s : State) : (drawn s).slices = s.slices := rfl
@[simp] theorem drawn_ports (s : State) : (drawn s).ports = s.ports := rfl
@[simp] theorem drawn_press (s : State) : (drawn s).press = s.press := rfl
@[simp] theorem drawn_coupling (s : State) : (drawn s).coupling = s.coupling := rfl
@[simp] theorem drawn_filters (s : State) : (drawn s).filters = s.filters := rfl
@[simp] theorem drawn_spares (s : State) : (drawn s).spares = s.spares := rfl
@[simp] theorem drawn_faults (s : State) : (drawn s).faults = s.faults := rfl
@[simp] theorem drawn_act (s : State) : (drawn s).act = s.act := rfl
@[simp] theorem drawn_fwOpen (s : State) : (drawn s).fwOpen = s.fwOpen := rfl
@[simp] theorem drawn_diag (s : State) : (drawn s).diag = s.diag := rfl
@[simp] theorem drawn_inv (s : State) : (drawn s).inv = s.inv := rfl
@[simp] theorem drawn_time (s : State) : (drawn s).time = s.time := rfl
@[simp] theorem drawn_cluster (s : State) : (drawn s).cluster = s.cluster := rfl
@[simp] theorem drawn_cellar (s : State) : (drawn s).cellar = s.cellar := rfl
@[simp] theorem drawn_noiseJob (s : State) : (drawn s).noiseJob = s.noiseJob := rfl
@[simp] theorem drawn_mirrorJob (s : State) : (drawn s).mirrorJob = s.mirrorJob := rfl
@[simp] theorem drawn_sent (s : State) : (drawn s).sent = s.sent := rfl

/-! ### modSpares -/

@[simp] theorem modSpares_now (f : Spares → Spares) (s : State) : (modSpares f s).now = s.now := rfl
@[simp] theorem modSpares_pending (f : Spares → Spares) (s : State) : (modSpares f s).pending = s.pending := rfl
@[simp] theorem modSpares_free (f : Spares → Spares) (s : State) : (modSpares f s).free = s.free := rfl
@[simp] theorem modSpares_timeOff (f : Spares → Spares) (s : State) : (modSpares f s).timeOff = s.timeOff := rfl
@[simp] theorem modSpares_mod (f : Spares → Spares) (s : State) : (modSpares f s).mod = s.mod := rfl
@[simp] theorem modSpares_pins (f : Spares → Spares) (s : State) : (modSpares f s).pins = s.pins := rfl
@[simp] theorem modSpares_power (f : Spares → Spares) (s : State) : (modSpares f s).power = s.power := rfl
@[simp] theorem modSpares_nvm (f : Spares → Spares) (s : State) : (modSpares f s).nvm = s.nvm := rfl
@[simp] theorem modSpares_moduleId (f : Spares → Spares) (s : State) : (modSpares f s).moduleId = s.moduleId := rfl
@[simp] theorem modSpares_cfg (f : Spares → Spares) (s : State) : (modSpares f s).cfg = s.cfg := rfl
@[simp] theorem modSpares_link (f : Spares → Spares) (s : State) : (modSpares f s).link = s.link := rfl
@[simp] theorem modSpares_inRings (f : Spares → Spares) (s : State) : (modSpares f s).inRings = s.inRings := rfl
@[simp] theorem modSpares_outRings (f : Spares → Spares) (s : State) : (modSpares f s).outRings = s.outRings := rfl
@[simp] theorem modSpares_ev (f : Spares → Spares) (s : State) : (modSpares f s).ev = s.ev := rfl
@[simp] theorem modSpares_timers (f : Spares → Spares) (s : State) : (modSpares f s).timers = s.timers := rfl
@[simp] theorem modSpares_slices (f : Spares → Spares) (s : State) : (modSpares f s).slices = s.slices := rfl
@[simp] theorem modSpares_ports (f : Spares → Spares) (s : State) : (modSpares f s).ports = s.ports := rfl
@[simp] theorem modSpares_press (f : Spares → Spares) (s : State) : (modSpares f s).press = s.press := rfl
@[simp] theorem modSpares_coupling (f : Spares → Spares) (s : State) : (modSpares f s).coupling = s.coupling := rfl
@[simp] theorem modSpares_filters (f : Spares → Spares) (s : State) : (modSpares f s).filters = s.filters := rfl
@[simp] theorem modSpares_spares (f : Spares → Spares) (s : State) : (modSpares f s).spares = f s.spares := rfl
@[simp] theorem modSpares_faults (f : Spares → Spares) (s : State) : (modSpares f s).faults = s.faults := rfl
@[simp] theorem modSpares_act (f : Spares → Spares) (s : State) : (modSpares f s).act = s.act := rfl
@[simp] theorem modSpares_fwOpen (f : Spares → Spares) (s : State) : (modSpares f s).fwOpen = s.fwOpen := rfl
@[simp] theorem modSpares_diag (f : Spares → Spares) (s : State) : (modSpares f s).diag = s.diag := rfl
@[simp] theorem modSpares_inv (f : Spares → Spares) (s : State) : (modSpares f s).inv = s.inv := rfl
@[simp] theorem modSpares_time (f : Spares → Spares) (s : State) : (modSpares f s).time = s.time := rfl
@[simp] theorem modSpares_cluster (f : Spares → Spares) (s : State) : (modSpares f s).cluster = s.cluster := rfl
@[simp] theorem modSpares_cellar (f : Spares → Spares) (s : State) : (modSpares f s).cellar = s.cellar := rfl
@[simp] theorem modSpares_noiseJob (f : Spares → Spares) (s : State) : (modSpares f s).noiseJob = s.noiseJob := rfl
@[simp] theorem modSpares_mirrorJob (f : Spares → Spares) (s : State) : (modSpares f s).mirrorJob = s.mirrorJob := rfl
@[simp] theorem modSpares_sent (f : Spares → Spares) (s : State) : (modSpares f s).sent = s.sent := rfl

/-! ### modSec -/

@[simp] theorem modSec_now (f : Sec → Sec) (s : State) : (modSec f s).now = s.now := rfl
@[simp] theorem modSec_pending (f : Sec → Sec) (s : State) : (modSec f s).pending = s.pending := rfl
@[simp] theorem modSec_free (f : Sec → Sec) (s : State) : (modSec f s).free = s.free := rfl
@[simp] theorem modSec_timeOff (f : Sec → Sec) (s : State) : (modSec f s).timeOff = s.timeOff := rfl
@[simp] theorem modSec_mod (f : Sec → Sec) (s : State) : (modSec f s).mod = s.mod := rfl
@[simp] theorem modSec_pins (f : Sec → Sec) (s : State) : (modSec f s).pins = s.pins := rfl
@[simp] theorem modSec_power (f : Sec → Sec) (s : State) : (modSec f s).power = s.power := rfl
@[simp] theorem modSec_nvm (f : Sec → Sec) (s : State) : (modSec f s).nvm = { s.nvm with sec := f s.nvm.sec } := rfl
@[simp] theorem modSec_moduleId (f : Sec → Sec) (s : State) : (modSec f s).moduleId = s.moduleId := rfl
@[simp] theorem modSec_cfg (f : Sec → Sec) (s : State) : (modSec f s).cfg = s.cfg := rfl
@[simp] theorem modSec_link (f : Sec → Sec) (s : State) : (modSec f s).link = s.link := rfl
@[simp] theorem modSec_inRings (f : Sec → Sec) (s : State) : (modSec f s).inRings = s.inRings := rfl
@[simp] theorem modSec_outRings (f : Sec → Sec) (s : State) : (modSec f s).outRings = s.outRings := rfl
@[simp] theorem modSec_ev (f : Sec → Sec) (s : State) : (modSec f s).ev = s.ev := rfl
@[simp] theorem modSec_timers (f : Sec → Sec) (s : State) : (modSec f s).timers = s.timers := rfl
@[simp] theorem modSec_slices (f : Sec → Sec) (s : State) : (modSec f s).slices = s.slices := rfl
@[simp] theorem modSec_ports (f : Sec → Sec) (s : State) : (modSec f s).ports = s.ports := rfl
@[simp] theorem modSec_press (f : Sec → Sec) (s : State) : (modSec f s).press = s.press := rfl
@[simp] theorem modSec_coupling (f : Sec → Sec) (s : State) : (modSec f s).coupling = s.coupling := rfl
@[simp] theorem modSec_filters (f : Sec → Sec) (s : State) : (modSec f s).filters = s.filters := rfl
@[simp] theorem modSec_spares (f : Sec → Sec) (s : State) : (modSec f s).spares = s.spares := rfl
@[simp] theorem modSec_faults (f : Sec → Sec) (s : State) : (modSec f s).faults = s.faults := rfl
@[simp] theorem modSec_act (f : Sec → Sec) (s : State) : (modSec f s).act = s.act := rfl
@[simp] theorem modSec_fwOpen (f : Sec → Sec) (s : State) : (modSec f s).fwOpen = s.fwOpen := rfl
@[simp] theorem modSec_diag (f : Sec → Sec) (s : State) : (modSec f s).diag = s.diag := rfl
@[simp] theorem modSec_inv (f : Sec → Sec) (s : State) : (modSec f s).inv = s.inv := rfl
@[simp] theorem modSec_time (f : Sec → Sec) (s : State) : (modSec f s).time = s.time := rfl
@[simp] theorem modSec_cluster (f : Sec → Sec) (s : State) : (modSec f s).cluster = s.cluster := rfl
@[simp] theorem modSec_cellar (f : Sec → Sec) (s : State) : (modSec f s).cellar = s.cellar := rfl
@[simp] theorem modSec_noiseJob (f : Sec → Sec) (s : State) : (modSec f s).noiseJob = s.noiseJob := rfl
@[simp] theorem modSec_mirrorJob (f : Sec → Sec) (s : State) : (modSec f s).mirrorJob = s.mirrorJob := rfl
@[simp] theorem modSec_sent (f : Sec → Sec) (s : State) : (modSec f s).sent = s.sent := rfl

/-! ### nextGrant -/

@[simp] theorem nextGrant_now (s : State) : (nextGrant s).2.now = s.now := rfl
@[simp] theorem nextGrant_pending (s : State) : (nextGrant s).2.pending = s.pending := rfl
@[simp] theorem nextGrant_free (s : State) : (nextGrant s).2.free = s.free := rfl
@[simp] theorem nextGrant_timeOff (s : State) : (nextGrant s).2.timeOff = s.timeOff := rfl
@[simp] theorem nextGrant_mod (s : State) : (nextGrant s).2.mod = s.mod := rfl
@[simp] theorem nextGrant_pins (s : State) : (nextGrant s).2.pins = s.pins := rfl
@[simp] theorem nextGrant_power (s : State) : (nextGrant s).2.power = s.power := rfl
@[simp] theorem nextGrant_nvm (s : State) : (nextGrant s).2.nvm = s.nvm := rfl
@[simp] theorem nextGrant_moduleId (s : State) : (nextGrant s).2.moduleId = s.moduleId := rfl
@[simp] theorem nextGrant_cfg (s : State) : (nextGrant s).2.cfg = s.cfg := rfl
@[simp] theorem nextGrant_link (s : State) : (nextGrant s).2.link = s.link := rfl
@[simp] theorem nextGrant_inRings (s : State) : (nextGrant s).2.inRings = s.inRings := rfl
@[simp] theorem nextGrant_outRings (s : State) : (nextGrant s).2.outRings = s.outRings := rfl
@[simp] theorem nextGrant_ev (s : State) : (nextGrant s).2.ev = s.ev := rfl
@[simp] theorem nextGrant_timers (s : State) : (nextGrant s).2.timers = s.timers := rfl
@[simp] theorem nextGrant_slices (s : State) : (nextGrant s).2.slices = s.slices := rfl
@[simp] theorem nextGrant_ports (s : State) : (nextGrant s).2.ports = s.ports := rfl
@[simp] theorem nextGrant_press (s : State) : (nextGrant s).2.press = { s.press with grants := s.press.grants + 1 } := rfl
@[simp] theorem nextGrant_coupling (s : State) : (nextGrant s).2.coupling = s.coupling := rfl
@[simp] theorem nextGrant_filters (s : State) : (nextGrant s).2.filters = s.filters := rfl
@[simp] theorem nextGrant_spares (s : State) : (nextGrant s).2.spares = s.spares := rfl
@[simp] theorem nextGrant_faults (s : State) : (nextGrant s).2.faults = s.faults := rfl
@[simp] theorem nextGrant_act (s : State) : (nextGrant s).2.act = s.act := rfl
@[simp] theorem nextGrant_fwOpen (s : State) : (nextGrant s).2.fwOpen = s.fwOpen := rfl
@[simp] theorem nextGrant_diag (s : State) : (nextGrant s).2.diag = s.diag := rfl
@[simp] theorem nextGrant_inv (s : State) : (nextGrant s).2.inv = s.inv := rfl
@[simp] theorem nextGrant_time (s : State) : (nextGrant s).2.time = s.time := rfl
@[simp] theorem nextGrant_cluster (s : State) : (nextGrant s).2.cluster = s.cluster := rfl
@[simp] theorem nextGrant_cellar (s : State) : (nextGrant s).2.cellar = s.cellar := rfl
@[simp] theorem nextGrant_noiseJob (s : State) : (nextGrant s).2.noiseJob = s.noiseJob := rfl
@[simp] theorem nextGrant_mirrorJob (s : State) : (nextGrant s).2.mirrorJob = s.mirrorJob := rfl
@[simp] theorem nextGrant_sent (s : State) : (nextGrant s).2.sent = s.sent := rfl

/-! ### putTaps -/

@[simp] theorem putTaps_now (a v : Nat) (x : List Cpx) (s : State) : (putTaps a v x s).now = s.now := rfl
@[simp] theorem putTaps_pending (a v : Nat) (x : List Cpx) (s : State) : (putTaps a v x s).pending = s.pending := rfl
@[simp] theorem putTaps_free (a v : Nat) (x : List Cpx) (s : State) : (putTaps a v x s).free = s.free := rfl
@[simp] theorem putTaps_timeOff (a v : Nat) (x : List Cpx) (s : State) : (putTaps a v x s).timeOff = s.timeOff := rfl
@[simp] theorem putTaps_mod (a v : Nat) (x : List Cpx) (s : State) : (putTaps a v x s).mod = s.mod := rfl
@[simp] theorem putTaps_pins (a v : Nat) (x : List Cpx) (s : State) : (putTaps a v x s).pins = s.pins := rfl
@[simp] theorem putTaps_power (a v : Nat) (x : List Cpx) (s : State) : (putTaps a v x s).power = s.power := rfl
@[simp] theorem putTaps_nvm (a v : Nat) (x : List Cpx) (s : State) : (putTaps a v x s).nvm = s.nvm := rfl
@[simp] theorem putTaps_moduleId (a v : Nat) (x : List Cpx) (s : State) : (putTaps a v x s).moduleId = s.moduleId := rfl
@[simp] theorem putTaps_cfg (a v : Nat) (x : List Cpx) (s : State) : (putTaps a v x s).cfg = s.cfg := rfl
@[simp] theorem putTaps_link (a v : Nat) (x : List Cpx) (s : State) : (putTaps a v x s).link = s.link := rfl
@[simp] theorem putTaps_inRings (a v : Nat) (x : List Cpx) (s : State) : (putTaps a v x s).inRings = s.inRings := rfl
@[simp] theorem putTaps_outRings (a v : Nat) (x : List Cpx) (s : State) : (putTaps a v x s).outRings = s.outRings := rfl
@[simp] theorem putTaps_ev (a v : Nat) (x : List Cpx) (s : State) : (putTaps a v x s).ev = s.ev := rfl
@[simp] theorem putTaps_timers (a v : Nat) (x : List Cpx) (s : State) : (putTaps a v x s).timers = s.timers := rfl
@[simp] theorem putTaps_slices (a v : Nat) (x : List Cpx) (s : State) : (putTaps a v x s).slices = s.slices := rfl
@[simp] theorem putTaps_ports (a v : Nat) (x : List Cpx) (s : State) : (putTaps a v x s).ports = s.ports := rfl
@[simp] theorem putTaps_press (a v : Nat) (x : List Cpx) (s : State) : (putTaps a v x s).press = s.press := rfl
@[simp] theorem putTaps_coupling (a v : Nat) (x : List Cpx) (s : State) : (putTaps a v x s).coupling = s.coupling := rfl
@[simp] theorem putTaps_filters (a v : Nat) (x : List Cpx) (s : State) : (putTaps a v x s).filters = s.filters.filter (fun e => !(e.1 == a && e.2.1 == v)) ++ [(a, v, x)] := rfl
@[simp] theorem putTaps_spares (a v : Nat) (x : List Cpx) (s : State) : (putTaps a v x s).spares = s.spares := rfl
@[simp] theorem putTaps_faults (a v : Nat) (x : List Cpx) (s : State) : (putTaps a v x s).faults = s.faults := rfl
@[simp] theorem putTaps_act (a v : Nat) (x : List Cpx) (s : State) : (putTaps a v x s).act = s.act := rfl
@[simp] theorem putTaps_fwOpen (a v : Nat) (x : List Cpx) (s : State) : (putTaps a v x s).fwOpen = s.fwOpen := rfl
@[simp] theorem putTaps_diag (a v : Nat) (x : List Cpx) (s : State) : (putTaps a v x s).diag = s.diag := rfl
@[simp] theorem putTaps_inv (a v : Nat) (x : List Cpx) (s : State) : (putTaps a v x s).inv = s.inv := rfl
@[simp] theorem putTaps_time (a v : Nat) (x : List Cpx) (s : State) : (putTaps a v x s).time = s.time := rfl
@[simp] theorem putTaps_cluster (a v : Nat) (x : List Cpx) (s : State) : (putTaps a v x s).cluster = s.cluster := rfl
@[simp] theorem putTaps_cellar (a v : Nat) (x : List Cpx) (s : State) : (putTaps a v x s).cellar = s.cellar := rfl
@[simp] theorem putTaps_noiseJob (a v : Nat) (x : List Cpx) (s : State) : (putTaps a v x s).noiseJob = s.noiseJob := rfl
@[simp] theorem putTaps_mirrorJob (a v : Nat) (x : List Cpx) (s : State) : (putTaps a v x s).mirrorJob = s.mirrorJob := rfl
@[simp] theorem putTaps_sent (a v : Nat) (x : List Cpx) (s : State) : (putTaps a v x s).sent = s.sent := rfl

end Sys2Proof.Machine
end

