-- ==== Sys2Proof/Laws/Turn.lean ====
section
/-!
SUPPORT. How a host command comes to run: one lemma for a command whose turn comes as soon as it is taken, one for a command that
overtakes, and one for the work of a command that no check turns away.
-/

namespace Sys2Proof.Machine

/-- Raising an event leaves the module's own state as it is. -/
theorem raise_mod (code p : Nat) (args : Bytes) (s : State) : (raise code p args s).mod = s.mod := by
  have h : ∀ (c : Nat) (x : Int) (p : Nat) (a : Bytes) (s : State), (recordEv c x p a s).mod = s.mod := by
    intro c x p a s
    simp only [recordEv]
    split <;> rfl
  simp only [raise, raiseAt]
  split <;> simp only [h]

/-- Passing into a ring leaves the module's own state as it is. -/
theorem passIn_mod (q n : Nat) (s : State) : (passIn q n s).mod = s.mod := by
  simp only [passIn]
  split
  · exact raise_mod ..
  · rfl

/-- Taking a command leaves the module's own state as it is. -/
theorem taken_mod (t : Nat) (s : State) : (taken t s).mod = (advance t s).mod := by
  unfold taken
  dsimp only
  split <;> rfl

/-- A command that the module takes from the cable arrives. -/
theorem hostCmd_arrives {i : Instr} {t op : Nat} {h : Hdr} {s : State} (hh : cmdHead i = some (op, h))
    (ht : takesFrames (advance t s) = true) (hq : h.q < 72) (ho : queueOpen (advance t s) h.q = true) :
    hostCmd i (advance t s) = arrive i op h (wakeFor op (taken t s)) := by
  have hq : ¬ (72 ≤ h.q) := by omega
  simp only [hostCmd, hh, ht, ho, ge_iff_le, hq, decide_false, Bool.not_true, Bool.or_self, Bool.false_eq_true, if_false, taken]

/-- A command whose turn comes as soon as it is taken runs in the state of its turn. -/
theorem hostCmd_at_turn {i : Instr} {t op : Nat} {h : Hdr} {s : State} (hh : cmdHead i = some (op, h))
    (ht : turnComes i t op h s = true) : hostCmd i (advance t s) = cmdRun i (atTurn i t op h.q s) := by
  simp only [turnComes, hasRoom, Bool.and_eq_true, decide_eq_true_eq, beq_iff_eq, Bool.not_eq_true'] at ht
  obtain ⟨⟨⟨⟨⟨⟨⟨⟨h1, h2⟩, h3⟩, hr⟩, h4⟩, h5⟩, h8⟩, h7⟩, -⟩ := ht
  rw [hostCmd_arrives hh h1 h2 h3]
  simp only [entered, atTurn] at h5 h7 h8 ⊢
  simp only [arrive, gt_iff_lt, Nat.not_lt.mpr hr, if_false, h4, Bool.false_and, Bool.false_eq_true, h5, h8, Bool.not_false,
    Bool.and_self, if_true, h7]
  rfl

/-- A command that overtakes runs as soon as it is taken. -/
theorem hostCmd_overtakes {i : Instr} {t op : Nat} {h : Hdr} {s : State} (hh : cmdHead i = some (op, h))
    (ho : overtakesNow i t op h s = true) : hostCmd i (advance t s) = cmdRun i (ahead i t h.q s) := by
  simp only [overtakesNow, hasRoom, Bool.and_eq_true, Bool.not_eq_true', decide_eq_true_eq] at ho
  obtain ⟨⟨⟨⟨⟨⟨h1, hr⟩, h2⟩, h3⟩, h5⟩, h4⟩, -⟩ := ho
  have hs : (advance t s).mod.st = ModState.service ∧ h.q < 64 := by
    simp only [canOvertake, ahead, passIn_mod, taken_mod, Bool.and_eq_true, decide_eq_true_eq, beq_iff_eq] at h3
    exact ⟨h3.1.2, h3.1.1⟩
  have hopen : queueOpen (advance t s) h.q = true := by unfold queueOpen; rw [hs.1]; rfl
  have hd : ((taken t s).mod.st == ModState.doze) = false := by rw [taken_mod, hs.1]; rfl
  have hw : wakeFor op (taken t s) = taken t s := by simp only [wakeFor, hd, Bool.false_and, Bool.false_eq_true, if_false]
  rw [hw] at hr
  rw [hostCmd_arrives hh h1 (by omega) hopen, hw]
  simp only [ahead] at h3 h4 h5 ⊢
  simp only [arrive, gt_iff_lt, Nat.not_lt.mpr hr, if_false, h2, h3, h4, h5, Bool.not_false, Bool.and_self, if_true]

/-- A command that check 6 of R411 and the protocol checks let through does its work. SCHEDULE and PORT_FLUSH do theirs in `cmdRun`. -/
theorem cmdRun_work {i : Instr} {op : Nat} {h : Hdr} {s : State} (hh : cmdHead i = some (op, h))
    (hf : (cmdFault i op h s).isNone = true) :
    cmdRun i s = cmdWork i s := by
  have : cmdFault i op h s = none := by simpa using hf
  simp only [cmdRun, hh, this]

/-- The turn of a command includes that no check turns it away. -/
theorem turnComes_fault {i : Instr} {t op : Nat} {h : Hdr} {s : State} (ht : turnComes i t op h s = true) :
    (cmdFault i op h (atTurn i t op h.q s)).isNone = true := by
  simp only [turnComes, Bool.and_eq_true] at ht
  exact ht.2

/-- A command whose turn comes as soon as it is taken does its work in the state of its turn. -/
theorem hostCmd_works {i : Instr} {t op : Nat} {h : Hdr} {s : State} (hh : cmdHead i = some (op, h))
    (ht : turnComes i t op h s = true) : hostCmd i (advance t s) = cmdWork i (atTurn i t op h.q s) :=
  (hostCmd_at_turn hh ht).trans (cmdRun_work hh (turnComes_fault ht))

/-- A command that overtakes, and that no check turns away, does its work as soon as it is taken. -/
theorem hostCmd_works_ahead {i : Instr} {t op : Nat} {h : Hdr} {s : State} (hh : cmdHead i = some (op, h))
    (ho : overtakesNow i t op h s = true) : hostCmd i (advance t s) = cmdWork i (ahead i t h.q s) := by
  refine (hostCmd_overtakes hh ho).trans (cmdRun_work hh ?_)
  simp only [overtakesNow, Bool.and_eq_true] at ho
  exact ho.2

end Sys2Proof.Machine
end

