-- ==== Sys2Proof/Laws/Ops.lean ====
section
/-!
SUPPORT. What the shared operations can do: elements of lists of fixed size, and sending items.
-/

namespace Sys2Proof.Machine

/-! ### Lists of fixed size -/

@[simp] theorem length_upd {α : Type} (xs : List α) (i : Nat) (f : α → α) : (upd xs i f).length = xs.length := by simp [upd]

theorem nth_upd_ne {α : Type} (xs : List α) {i j : Nat} (f : α → α) (d : α) (h : j ≠ i) : nth (upd xs i f) j d = nth xs j d := by
  simp [nth, upd, Ne.symm h]

theorem nth_upd_self {α : Type} (xs : List α) {i : Nat} (f : α → α) (d : α) (h : i < xs.length) : nth (upd xs i f) i d = f (nth xs i d) := by
  simp [nth, upd, h]

theorem port_modPort_ne {p q : Nat} (f : Port → Port) (s : State) (h : q ≠ p) : port (modPort p f s) q = port s q :=
  nth_upd_ne _ _ _ h

theorem port_modPort_self {p : Nat} (f : Port → Port) (s : State) (h : p < s.ports.length) : port (modPort p f s) p = f (port s p) :=
  nth_upd_self _ _ _ h

theorem outRing_modOut_ne {p q : Nat} (f : OutRing → OutRing) (s : State) (h : q ≠ p) : outRing (modOut p f s) q = outRing s q :=
  nth_upd_ne _ _ _ h

theorem inRing_modIn_ne {p q : Nat} (f : InRing → InRing) (s : State) (h : q ≠ p) : inRing (modIn p f s) q = inRing s q :=
  nth_upd_ne _ _ _ h

theorem inRing_modIn_self {q : Nat} (f : InRing → InRing) (s : State) (h : q < s.inRings.length) : inRing (modIn q f s) q = f (inRing s q) :=
  nth_upd_self _ _ _ h

theorem outRing_modOut_self {q : Nat} (f : OutRing → OutRing) (s : State) (h : q < s.outRings.length) :
    outRing (modOut q f s) q = f (outRing s q) := nth_upd_self _ _ _ h

/-! ### What only sends -/

theorem onlySent_iff {s t : State} : OnlySent s t ↔ { s with outRings := t.outRings, ev := t.ev } = t := by
  cases s; cases t; simp [OnlySent]; grind

theorem OnlySent.refl (s : State) : OnlySent s s := rfl

theorem OnlySent.trans {a z c : State} (h : OnlySent a z) (k : OnlySent z c) : OnlySent a c := by
  rw [onlySent_iff] at *
  rw [← k, ← h]

theorem onlySent_modOut (q : Nat) (f : OutRing → OutRing) (s : State) : OnlySent s (modOut q f s) := rfl

theorem onlySent_ev (e : Events) (s : State) : OnlySent s { s with ev := e } := rfl

theorem onlySent_appendOut (q : Nat) (it : Item) (s : State) : OnlySent s (appendOut q it s) := rfl

theorem onlySent_recordEv (code : Nat) (stamp : Int) (p : Nat) (args : Bytes) (s : State) : OnlySent s (recordEv code stamp p args s) := by
  simp only [recordEv]
  split <;> rfl

theorem onlySent_raiseAt (code : Nat) (stamp : Int) (p : Nat) (args : Bytes) (s : State) : OnlySent s (raiseAt code stamp p args s) := by
  simp only [raiseAt]
  split
  · exact (onlySent_recordEv ..).trans (onlySent_recordEv ..)
  · exact onlySent_recordEv ..

theorem onlySent_raise (code p : Nat) (args : Bytes) (s : State) : OnlySent s (raise code p args s) := onlySent_raiseAt ..

theorem onlySent_pushOut (q : Nat) (it : Item) (s : State) : OnlySent s (pushOut q it s) := by
  simp only [pushOut]
  split
  · exact (onlySent_appendOut ..).trans (onlySent_raise ..)
  · exact onlySent_appendOut ..

theorem onlySent_send (q : Nat) (it : Item) (s : State) : OnlySent s (send q it s) := by
  simp only [send]
  split
  · exact onlySent_modOut ..
  · split
    · exact onlySent_pushOut ..
    · exact onlySent_modOut ..

theorem onlySent_respondMore (h : Hdr) (op : Nat) (body : Bytes) (s : State) : OnlySent s (respondMore h op body s) := onlySent_send ..

theorem onlySent_sendRecord (q op tag status : Nat) (more : Bool) (body : Bytes) (s : State) :
    OnlySent s (sendRecord q op tag status more body s) := onlySent_send ..

theorem onlySent_respond (h : Hdr) (op status : Nat) (body : Bytes) (s : State) : OnlySent s (respond h op status body s) := by
  simp only [respond]
  split
  · exact .refl s
  · exact onlySent_send ..

theorem onlySent_ok (h : Hdr) (op : Nat) (body : Bytes) (s : State) : OnlySent s (ok h op body s) := onlySent_respond ..

theorem onlySent_fail (h : Hdr) (op code : Nat) (d : Detail) (s : State) : OnlySent s (fail h op code d s) := onlySent_respond ..

theorem onlySent_respondParts (h : Hdr) (op : Nat) : ∀ (parts : List Bytes) (s : State), OnlySent s (respondParts h op parts s)
  | [], s => onlySent_ok h op [] s
  | [x], s => onlySent_ok h op x s
  | x :: y :: rest, s => (onlySent_respondMore h op x s).trans (onlySent_respondParts h op (y :: rest) (respondMore h op x s))

theorem onlySent_respondList (h : Hdr) (op size : Nat) (recs : List Bytes) (s : State) : OnlySent s (respondList h op size recs s) :=
  onlySent_respondParts ..

/-! ### What sending leaves, field by field -/

theorem OnlySent.eq {s t : State} (h : OnlySent s t) : { t with outRings := s.outRings, ev := s.ev } = s := h

theorem OnlySent.now {s t : State} (h : OnlySent s t) : t.now = s.now := by have k := congrArg State.now h.eq; exact k
theorem OnlySent.pending {s t : State} (h : OnlySent s t) : t.pending = s.pending := by have k := congrArg State.pending h.eq; exact k
theorem OnlySent.free {s t : State} (h : OnlySent s t) : t.free = s.free := by have k := congrArg State.free h.eq; exact k
theorem OnlySent.timeOff {s t : State} (h : OnlySent s t) : t.timeOff = s.timeOff := by have k := congrArg State.timeOff h.eq; exact k
theorem OnlySent.mod {s t : State} (h : OnlySent s t) : t.mod = s.mod := by have k := congrArg State.mod h.eq; exact k
theorem OnlySent.pins {s t : State} (h : OnlySent s t) : t.pins = s.pins := by have k := congrArg State.pins h.eq; exact k
theorem OnlySent.power {s t : State} (h : OnlySent s t) : t.power = s.power := by have k := congrArg State.power h.eq; exact k
theorem OnlySent.nvm {s t : State} (h : OnlySent s t) : t.nvm = s.nvm := by have k := congrArg State.nvm h.eq; exact k
theorem OnlySent.moduleId {s t : State} (h : OnlySent s t) : t.moduleId = s.moduleId := by have k := congrArg State.moduleId h.eq; exact k
theorem OnlySent.cfg {s t : State} (h : OnlySent s t) : t.cfg = s.cfg := by have k := congrArg State.cfg h.eq; exact k
theorem OnlySent.link {s t : State} (h : OnlySent s t) : t.link = s.link := by have k := congrArg State.link h.eq; exact k
theorem OnlySent.inRings {s t : State} (h : OnlySent s t) : t.inRings = s.inRings := by have k := congrArg State.inRings h.eq; exact k
theorem OnlySent.timers {s t : State} (h : OnlySent s t) : t.timers = s.timers := by have k := congrArg State.timers h.eq; exact k
theorem OnlySent.slices {s t : State} (h : OnlySent s t) : t.slices = s.slices := by have k := congrArg State.slices h.eq; exact k
theorem OnlySent.ports {s t : State} (h : OnlySent s t) : t.ports = s.ports := by have k := congrArg State.ports h.eq; exact k
theorem OnlySent.press {s t : State} (h : OnlySent s t) : t.press = s.press := by have k := congrArg State.press h.eq; exact k
theorem OnlySent.coupling {s t : State} (h : OnlySent s t) : t.coupling = s.coupling := by have k := congrArg State.coupling h.eq; exact k
theorem OnlySent.filters {s t : State} (h : OnlySent s t) : t.filters = s.filters := by have k := congrArg State.filters h.eq; exact k
theorem OnlySent.spares {s t : State} (h : OnlySent s t) : t.spares = s.spares := by have k := congrArg State.spares h.eq; exact k
theorem OnlySent.faults {s t : State} (h : OnlySent s t) : t.faults = s.faults := by have k := congrArg State.faults h.eq; exact k
theorem OnlySent.act {s t : State} (h : OnlySent s t) : t.act = s.act := by have k := congrArg State.act h.eq; exact k
theorem OnlySent.fwOpen {s t : State} (h : OnlySent s t) : t.fwOpen = s.fwOpen := by have k := congrArg State.fwOpen h.eq; exact k
theorem OnlySent.diag {s t : State} (h : OnlySent s t) : t.diag = s.diag := by have k := congrArg State.diag h.eq; exact k
theorem OnlySent.inv {s t : State} (h : OnlySent s t) : t.inv = s.inv := by have k := congrArg State.inv h.eq; exact k
theorem OnlySent.time {s t : State} (h : OnlySent s t) : t.time = s.time := by have k := congrArg State.time h.eq; exact k
theorem OnlySent.cluster {s t : State} (h : OnlySent s t) : t.cluster = s.cluster := by have k := congrArg State.cluster h.eq; exact k
theorem OnlySent.cellar {s t : State} (h : OnlySent s t) : t.cellar = s.cellar := by have k := congrArg State.cellar h.eq; exact k
theorem OnlySent.noiseJob {s t : State} (h : OnlySent s t) : t.noiseJob = s.noiseJob := by have k := congrArg State.noiseJob h.eq; exact k
theorem OnlySent.mirrorJob {s t : State} (h : OnlySent s t) : t.mirrorJob = s.mirrorJob := by have k := congrArg State.mirrorJob h.eq; exact k
theorem OnlySent.sent {s t : State} (h : OnlySent s t) : t.sent = s.sent := by have k := congrArg State.sent h.eq; exact k

end Sys2Proof.Machine
end

