-- ==== Sys2Proof/Laws/Engine.lean ====
section
/-!
SUPPORT. When a port does nothing by itself after a step (`waitsForNothing`), going on only lets its slices settle, and on a port that works it leaves
the state as it is.
-/

namespace Sys2Proof.Machine

/-- A port that works does not settle. -/
theorem settle_busy {p : Nat} {s : State} (h : (port s p).task.isSome = true) : settle p s = s := by
  obtain ⟨k, hk⟩ := Option.isSome_iff_exists.mp h
  simp [settle, hk]

theorem settleIn_busy {p : Nat} {s : State} (h : (port s p).task.isSome = true) : settleIn p s = s := by
  unfold settleIn; split
  · exact settle_busy h
  · rfl

/-- Where no wait by R278 has ended, no command is repeated. -/
theorem resumeParked_none {p : Nat} {s : State} (h : ((port s p).parked.any fun k => k.waited && !k.task.ofPass) = false) :
    resumeParked p s = s := by
  have hn : (port s p).parked.find? (fun k => k.waited && !k.task.ofPass) = none := by
    rw [List.find?_eq_none]
    simpa using h
  simp only [resumeParked, hn, ite_self]

theorem goOn_idle {p : Nat} {s : State} (h : waitsForNothing s p = true) : goOn p s = settleIn p s := by
  simp only [waitsForNothing, Bool.and_eq_true, Option.isNone_iff_eq_none, List.isEmpty_iff, Bool.not_eq_true'] at h
  obtain ⟨⟨⟨⟨⟨⟨h1, h2⟩, h6⟩, h3⟩, h4⟩, h5⟩, h7⟩ := h
  have : drivePass 64 p s = s := by simp [drivePass, passReady, h1, h2, h6]
  simp [goOn, resumeParked_none h7, this, offDue, h3, h4, h5]

theorem goOn_busy {p : Nat} {s : State} (h : waitsForNothing s p = true) (ht : (port s p).task.isSome = true) : goOn p s = s := by
  rw [goOn_idle h, settleIn_busy ht]

/-- Moving to another state changes the module state, the supply ledger and what is sent. -/
theorem onlySent_moveTo (new : ModState) (cause : Nat) (s : State) :
    OnlySent (modMod (fun m => { m with st := new, entered := ts (charge s) }) (charge s)) (moveTo new cause s) := onlySent_raise ..

/-- An update that leaves an element as it is leaves the list as it is. -/
theorem upd_self {α : Type} (xs : List α) (i : Nat) (f : α → α) (d : α) (h : f (nth xs i d) = nth xs i d) : upd xs i f = xs := by
  apply List.ext_getElem?
  intro n
  by_cases hi : i = n
  · subst hi
    by_cases hn : i < xs.length
    · simp only [nth, hn, List.getElem?_eq_getElem, Option.getD_some] at h
      simp [upd, hn, h]
    · simp [upd, hn]
  · simp [upd, hi]

theorem modPort_self {p : Nat} {f : Port → Port} {s : State} (h : f (port s p) = port s p) : modPort p f s = s := by
  unfold modPort
  rw [upd_self _ _ _ {} h]

/-- Settling changes slices and nothing else. -/
theorem settle_slices (p : Nat) (s : State) : ∃ a, settle p s = { s with slices := a } := by
  unfold settle
  simp only
  split
  · have : ∀ (g : List Nat) (r : State), ∃ a, g.foldl (fun s q => aim q (idleState s p) s) r = { r with slices := a } := by
      intro g
      induction g with
      | nil => exact fun r => ⟨_, rfl⟩
      | cons x xs ih =>
        intro r
        obtain ⟨a, ha⟩ := ih (aim x (idleState r p) r)
        exact ⟨a, by rw [List.foldl_cons, ha]; rfl⟩
    exact this _ _
  · exact ⟨_, rfl⟩

theorem settleIn_slices (p : Nat) (s : State) : ∃ a, settleIn p s = { s with slices := a } := by
  unfold settleIn
  split
  · exact settle_slices p s
  · exact ⟨_, rfl⟩

/-- With no commit to take, driving one leaves the state as it is. -/
theorem driveCommit_none {p : Nat} {s : State} (hc : s.cfg.committing = none) (hn : (port s p).newCommit = false) :
    driveCommit [p] s = s := by
  simp [driveCommit, takeCommit, hn, hc]

/-- A port at rest goes on, whether DOZE_ENTER waits or not, with slices and Press changed and nothing else. -/
theorem goOn_rest {p : Nat} {s : State} (h1 : (port s p).pass = none) (h2 : (port s p).starts = []) (h3 : (port s p).gridDue = false)
    (ho : (port s p).radio.offHdrs = []) (hf : (port s p).radio.fallDue = false) (hp : (port s p).radio.phase = .off)
    (hw : (port s p).radio.want = none) (hk : ((port s p).parked.any fun k => k.waited && !k.task.ofPass) = false)
    (hc : s.cfg.committing = none) (hn : (port s p).newCommit = false) : ∃ a z, goOn p s = { s with slices := a, press := z } := by
  have hd : drivePass 64 p s = s := by simp [drivePass, passReady, h1, h2, h3]
  have e : ∀ z : Press, modRadio p (fun r => { r with offHdrs := [] }) { s with press := z } = { s with press := z } := by
    intro z
    refine modPort_self ?_
    show ({ port s p with radio := { (port s p).radio with offHdrs := [] } } : Port) = port s p
    rw [← ho]
  have e' : modRadio p (fun r => { r with fallDue := false }) s = s := by
    refine modPort_self ?_
    rw [← hf]
  have hoff : ∃ a z, offDue p s = { s with slices := a, press := z } := by
    unfold offDue
    simp only [ho, hf, h1, hp]
    split
    · exact ⟨_, _, rfl⟩
    · rw [e']
      simp only [beq_self_eq_true, if_true, List.foldl_nil]
      have : dropWant p (pressDrop p s) = pressDrop p s := by
        have : (port (pressDrop p s) p).radio.want = none := hw
        simp [dropWant, this]
      rw [this, show pressDrop p s = { s with press := (pressDrop p s).press } from rfl, e]
      obtain ⟨a, ha⟩ := settle_slices p { s with press := (pressDrop p s).press }
      exact ⟨a, _, by rw [ha]; exact driveCommit_none hc hn⟩
  obtain ⟨a, z, hz⟩ := hoff
  obtain ⟨a', ha'⟩ := settleIn_slices p { s with slices := a, press := z }
  exact ⟨a', z, by rw [goOn, resumeParked_none hk, hd, hz, ha']⟩

end Sys2Proof.Machine
end

