-- ==== Sys2Proof/Laws/Shape.lean ====
section
/-!
SUPPORT. The shared operations keep the parts of the module that are fixed in number (`WellShaped`).
-/

namespace Sys2Proof.Machine

variable {s : State}

/-- What changes no list of fixed length and no event keeps the shape. -/
theorem shape_of_same {t : State} (h : WellShaped s) (h1 : t.ports.length = s.ports.length) (h2 : t.slices.length = s.slices.length)
    (h3 : t.timers.length = s.timers.length) (h4 : t.inRings.length = s.inRings.length) (h5 : t.outRings.length = s.outRings.length)
    (h6 : t.power.rails.length = s.power.rails.length) (h7 : t.ev.log.length ≤ 1024) : WellShaped t := by
  obtain ⟨a1, a2, a3, a4, a5, a6, -⟩ := h
  exact ⟨h1.trans a1, h2.trans a2, h3.trans a3, h4.trans a4, h5.trans a5, h6.trans a6, h7⟩

/-- A state written out with the parts of fixed length of another keeps the shape. -/
theorem shape_rec {t : State} {xnow : Nat} {xpending : List Instr} {xfree : Nat} {xtimeOff : Int} {xmod : Mod} {xpins : Pins} {xnvm : Nvm} {xmoduleId : Nat}
    {xcfg : ConfigStore} {xlink : Link} {xpress : Press} {xcoupling : List (Nat × Nat × Int)} {xfilters : List (Nat × Nat × List Cpx)}
    {xfaults : List (Nat × Nat)} {xspares : Spares}
    {xact : Option Activation} {xfwOpen : Bool} {xdiag : Diag} {xinv : List (Nat × InvEntry)} {xtime : Time} {xcluster : Cluster}
    {xcellar : Cellar} {xnoiseJob : Option NoiseJob} {xmirrorJob : Option MirrorJob} {xsent : List Sent} {w : Power} {e : Events}
    (h : WellShaped t) (hw : w.rails.length = t.power.rails.length) (he : e.log.length ≤ t.ev.log.length) :
    WellShaped
      { now := xnow, pending := xpending, free := xfree, timeOff := xtimeOff, mod := xmod, pins := xpins, power := w, nvm := xnvm,
        moduleId := xmoduleId, cfg := xcfg, link := xlink, inRings := t.inRings, outRings := t.outRings, ev := e, timers := t.timers,
        slices := t.slices, ports := t.ports, press := xpress, coupling := xcoupling, filters := xfilters, faults := xfaults, spares := xspares, act := xact, fwOpen := xfwOpen,
        diag := xdiag, inv := xinv, time := xtime, cluster := xcluster, cellar := xcellar, noiseJob := xnoiseJob,
        mirrorJob := xmirrorJob, sent := xsent } :=
  shape_of_same h rfl rfl rfl rfl rfl hw (Nat.le_trans he h.2.2.2.2.2.2)

theorem shape_advance (t : Nat) (h : WellShaped s) : WellShaped (advance t s) := h
theorem shape_modPort (p : Nat) (f : Port → Port) (h : WellShaped s) : WellShaped (modPort p f s) :=
  shape_of_same h (length_upd ..) rfl rfl rfl rfl rfl h.2.2.2.2.2.2
theorem shape_modRadio (p : Nat) (f : Radio → Radio) (h : WellShaped s) : WellShaped (modRadio p f s) := shape_modPort _ _ h
theorem shape_modSlice (p : Nat) (f : Slice → Slice) (h : WellShaped s) : WellShaped (modSlice p f s) :=
  shape_of_same h rfl (length_upd ..) rfl rfl rfl rfl h.2.2.2.2.2.2
theorem shape_modTimer (n : Nat) (f : Timer → Timer) (h : WellShaped s) : WellShaped (modTimer n f s) :=
  shape_of_same h rfl rfl (length_upd ..) rfl rfl rfl h.2.2.2.2.2.2
theorem shape_modIn (q : Nat) (f : InRing → InRing) (h : WellShaped s) : WellShaped (modIn q f s) :=
  shape_of_same h rfl rfl rfl (length_upd ..) rfl rfl h.2.2.2.2.2.2
theorem shape_modOut (q : Nat) (f : OutRing → OutRing) (h : WellShaped s) : WellShaped (modOut q f s) :=
  shape_of_same h rfl rfl rfl rfl (length_upd ..) rfl h.2.2.2.2.2.2
theorem shape_modRail (i : Nat) (f : Rail → Rail) (h : WellShaped s) : WellShaped (modRail i f s) :=
  shape_of_same h rfl rfl rfl rfl rfl (length_upd ..) h.2.2.2.2.2.2
theorem shape_appendOut (q : Nat) (it : Item) (h : WellShaped s) : WellShaped (appendOut q it s) := shape_modOut _ _ h

theorem shape_foldEv (code : Nat) (stamp : Int) (h : WellShaped s) : WellShaped (foldEv code stamp s) :=
  shape_of_same h rfl rfl rfl rfl rfl rfl h.2.2.2.2.2.2

theorem shape_recordEv (code : Nat) (stamp : Int) (p : Nat) (args : Bytes) (h : WellShaped s) :
    WellShaped (recordEv code stamp p args s) := by
  unfold recordEv
  dsimp only
  split
  · exact shape_foldEv _ _ h
  · exact shape_of_same (shape_appendOut sq2 (evItem code (evBody stamp s.ev.next p args)) h) rfl rfl rfl rfl rfl rfl
      (List.length_take_le 1024 _)

theorem shape_raiseAt (code : Nat) (stamp : Int) (p : Nat) (args : Bytes) (h : WellShaped s) :
    WellShaped (raiseAt code stamp p args s) := by
  unfold raiseAt
  dsimp only
  repeat' split
  all_goals first | exact shape_foldEv _ _ h | exact shape_recordEv _ _ _ _ (shape_recordEv _ _ _ _ h) | exact shape_recordEv _ _ _ _ h

theorem shape_raise (code p : Nat) (args : Bytes) (h : WellShaped s) : WellShaped (raise code p args s) := shape_raiseAt _ _ _ _ h

theorem shape_pushOut (q : Nat) (it : Item) (h : WellShaped s) : WellShaped (pushOut q it s) := by
  unfold pushOut
  dsimp only
  split
  · exact shape_raise _ _ _ (shape_appendOut q it h)
  · exact shape_appendOut q it h

theorem shape_send (q : Nat) (it : Item) (h : WellShaped s) : WellShaped (send q it s) := by
  unfold send
  dsimp only
  repeat' split
  all_goals first | exact shape_pushOut _ _ h | exact shape_modOut _ _ h

theorem shape_respond (hd : Hdr) (op status : Nat) (body : Bytes) (h : WellShaped s) : WellShaped (respond hd op status body s) := by
  unfold respond
  split
  · exact h
  · exact shape_send _ _ h

theorem shape_respondMore (hd : Hdr) (op : Nat) (body : Bytes) (h : WellShaped s) : WellShaped (respondMore hd op body s) := shape_send _ _ h
theorem shape_sendRecord (q op tag status : Nat) (more : Bool) (body : Bytes) (h : WellShaped s) :
    WellShaped (sendRecord q op tag status more body s) := shape_send _ _ h
theorem shape_ok (hd : Hdr) (op : Nat) (body : Bytes) (h : WellShaped s) : WellShaped (ok hd op body s) := shape_respond _ _ _ _ h
theorem shape_fail (hd : Hdr) (op code : Nat) (d : Detail) (h : WellShaped s) : WellShaped (fail hd op code d s) := shape_respond _ _ _ _ h
theorem shape_failRange (hd : Hdr) (op off : Nat) (h : WellShaped s) : WellShaped (failRange hd op off s) := shape_fail _ _ _ _ h

theorem shape_respondParts (hd : Hdr) (op : Nat) : ∀ (parts : List Bytes) {s : State}, WellShaped s → WellShaped (respondParts hd op parts s)
  | [], _, h => shape_respond _ _ _ _ h
  | [_], _, h => shape_respond _ _ _ _ h
  | _ :: y :: ys, _, h => shape_respondParts hd op (y :: ys) (shape_respondMore _ _ _ h)

theorem shape_disarm (n : Nat) (h : WellShaped s) : WellShaped (disarm n s) := shape_modTimer _ _ h
theorem shape_setTimer (n action fire : Nat) (h : WellShaped s) : WellShaped (setTimer n action fire s) := shape_modTimer _ _ h

/-- A fold of operations that keep the shape keeps it. -/
theorem shape_foldl {α : Type} {f : State → α → State} (hf : ∀ s x, WellShaped s → WellShaped (f s x)) (xs : List α) (h : WellShaped s) :
    WellShaped (xs.foldl f s) := by
  induction xs generalizing s with
  | nil => exact h
  | cons x xs ih => exact ih (hf s x h)

/-- The rails after a reset are twelve. -/
theorem length_railsAfter (cause : Nat) (old : List Rail) : (railsAfter cause old).length = 12 := by
  unfold railsAfter
  dsimp only
  split <;> simp

/-- A reset leaves the whole module, whatever it was (R566). -/
theorem shape_afterReset (cause : Nat) (s : State) : WellShaped (afterReset cause s) :=
  ⟨List.length_replicate, List.length_replicate, List.length_replicate, List.length_replicate, List.length_replicate,
    length_railsAfter _ _, Nat.zero_le _⟩

/-- The choice between two operations that keep the shape keeps it. -/
theorem shape_ite {c : Prop} [Decidable c] {t u : State} (ht : c → WellShaped t) (hu : ¬ c → WellShaped u) : WellShaped (if c then t else u) := by
  split
  · exact ht ‹_›
  · exact hu ‹_›

theorem shape_resetBy (cause : Nat) (h : WellShaped s) : WellShaped (resetBy cause s) :=
  shape_ite (fun _ => h) fun _ => shape_afterReset cause s

end Sys2Proof.Machine
end

