-- ==== Sys2Proof/Tests/Slice0.lean ====
section
/-!
SUPPORT. The model's own tests: ill-formed commands that the check refuses, small states that meet the hypotheses of the statements
together, clause by clause, and a few single commands with the result the spec gives them.
-/

namespace Sys2Proof.Tests

open Sys2Proof Sys2Proof.Machine

set_option Elab.async false

/-! ### Small states -/

/-- A module in SERVICE with a session, its four first rails up. -/
def svc : State := { State.reset with
  mod := { st := .service, imageOk := true, rootOk := true, storeOk := true, calDone := true, served := true },
  link := { speed := 2, session := some ⟨⟨5, 6⟩, 99⟩ },
  power := { rails := List.replicate 12 ⟨true, true, 0⟩ } }

/-- That module with attributes written into both configurations. -/
def withCfg (c : Cfg) : State := { svc with cfg := { running := c, staged := c } }

/-- A command of port P00, of SQ0, SQ1, SQ3, SQ4 and SQ5. -/
def cq0 : Hdr := ⟨0, 7, false⟩
def sq0 : Hdr := ⟨0x40, 7, false⟩
def sq1 : Hdr := ⟨0x41, 7, false⟩
def sq3 : Hdr := ⟨0x43, 7, false⟩
def sq4 : Hdr := ⟨0x44, 7, false⟩
def sq5 : Hdr := ⟨0x45, 7, false⟩

/-- A FIELD_ON of P00 that runs. -/
def busyTask : Task := { hdr := cq0, op := 0x20, proc := .fieldOn }

/-- A module in SERVICE whose port P00 has been changed. -/
def withPort (f : Port → Port) : State := modPort 0 f svc

/-- A module in SERVICE whose port P00 has a field. -/
def fieldUp0 : State := modSlice 0 (fun x => { x with st := .field, target := .field, locked := true })
  (withPort fun x => { x with radio := { x.radio with phase := .on, aerial := 2, grantMw := 502 } })

/-- The state of a host command's turn at tick 10. -/
def turn10 (i : Instr) (op : Nat) (h : Hdr) (s : State) : State := atTurn i 10 op h.q s

/-! ### Ill-formed commands, one for each check of WellFormed -/

theorem test_wf_refuses_headers :
    ([.moduleInfo 0 ⟨72, 0, false⟩, .moduleInfo 0 ⟨0, 65536, false⟩] : List Instr).all (!·.wf) = true := by decide +kernel

theorem test_wf_refuses_system_commands :
    ([.nop 0 sq0 (List.replicate 1393 0), .attrGet 0 sq0 false [(65536, 0)], .attrGet 0 sq0 false [(0, 65536)],
      .attrGet 0 sq0 false (List.replicate 256 (0, 0)), .attrSet 0 sq0 (List.replicate 256 ⟨0, 0, 1, [0]⟩),
      .queueStatus 0 sq0 (2 ^ 72) false, .moduleReset 0 sq0 (2 ^ 32),
      .schedule 0 sq0 256 0 0 [2, 0], .schedule 0 sq0 0 256 0 [2, 0], .schedule 0 sq0 0 0 (2 ^ 64) [2, 0],
      .schedule 0 sq0 0 0 0 [1], .schedule 0 sq0 0 0 0 [3, 0], .portFlush 0 sq0 (2 ^ 64), .fwBegin 0 sq4 (2 ^ 32),
      .fwData 0 sq4 (2 ^ 32) [], .fwActivate 0 sq4 256] : List Instr).all (!·.wf) = true := by decide +kernel

theorem test_wf_refuses_attribute_records :
    ([⟨65536, 0, 1, [0]⟩, ⟨0, 65536, 1, [0]⟩, ⟨0, 0, 0, [0]⟩, ⟨0, 0, 8, [0]⟩, ⟨0, 0, 1, []⟩, ⟨0, 0, 1, List.replicate 65 0⟩,
      ⟨0, 0, 1, [256]⟩, ⟨0, 0, 2, [128]⟩, ⟨0, 0, 3, [65536]⟩, ⟨0, 0, 4, [-32769]⟩, ⟨0, 0, 5, [2 ^ 32]⟩, ⟨0, 0, 6, [2 ^ 31]⟩,
      ⟨0, 0, 7, [2 ^ 64]⟩, ⟨0, 0, 7, [-1]⟩] : List AttrRec).all (fun r => !(Instr.attrSet 0 sq0 [r]).wf) = true := by decide +kernel

theorem test_wf_refuses_radio_commands :
    ([.calibrateRadio 0 cq0 16, .measureNoise 0 cq0 (2 ^ 64), .mirrorTrain 0 cq0 (2 ^ 64) 0, .mirrorTrain 0 cq0 0 65536,
      .mirrorTrainingStart 0 [(64, 0, 0)], .mirrorTrainingStart 0 [(0, 64, 0)]] : List Instr).all (!·.wf) = true := by decide +kernel

theorem test_wf_refuses_iso_commands :
    ([.isoRawFrame 0 cq0 65536 0 false false false 0 0 (List.replicate 8192 0), .isoRawFrame 0 cq0 0 256 false false false 0 0 [],
      .isoRawFrame 0 cq0 0 0 false false false 4 0 [], .isoRawFrame 0 cq0 0 0 false false false 0 65536 [],
      .isoRawFrame 0 cq0 9 0 false false false 0 0 [0], .isoAAnticoll 0 cq0 256 false, .isoAActivate 0 cq0 65536,
      .isoAHalt 0 cq0 65536, .isoARats 0 cq0 65536 0, .isoARats 0 cq0 0 256, .isoPps 0 cq0 65536 0 0, .isoPps 0 cq0 0 256 0,
      .isoPps 0 cq0 0 0 256, .isoBRequest 0 cq0 256 false, .isoBAnticoll 0 cq0 256 0 0 false false,
      .isoBAnticoll 0 cq0 0 256 0 false false, .isoBAnticoll 0 cq0 0 0 256 false false, .isoBAttrib 0 cq0 65536 0 0 0,
      .isoBAttrib 0 cq0 0 256 0 0, .isoBAttrib 0 cq0 0 0 256 0, .isoBAttrib 0 cq0 0 0 0 256, .isoBHalt 0 cq0 65536,
      .isoApdu 0 cq0 65536 [], .isoDeselect 0 cq0 65536, .isoForget 0 cq0 65536, .isoVInventory 0 cq0 256 false false false 0 0 0,
      .isoVInventory 0 cq0 0 false false false 256 0 0, .isoVInventory 0 cq0 0 false false false 0 256 0,
      .isoVInventory 0 cq0 0 false false false 0 0 (2 ^ 64), .isoVCommand 0 cq0 65536 0 false false false 0 [],
      .isoVCommand 0 cq0 0 256 false false false 0 [], .isoVCommand 0 cq0 0 0 false false false 256 [],
      .isoVSelect 0 cq0 65536, .isoVQuiet 0 cq0 65536, .isoVResetReady 0 cq0 65536] : List Instr).all (!·.wf) = true := by
  decide +kernel

theorem test_wf_refuses_hymond_commands :
    ([.hyHalt 0 cq0 ⟨65536, 0, 0⟩, .hyHalt 0 cq0 ⟨0, 256, 0⟩, .hyHalt 0 cq0 ⟨0, 0, 256⟩, .hyRelease 0 cq0 ⟨65536, 0, 0⟩,
      .hyResync 0 cq0 ⟨65536, 0, 0⟩, .hyRawFrame 0 cq0 ⟨0, 0, 0⟩ 256 0 0 [], .hyRawFrame 0 cq0 ⟨0, 0, 0⟩ 0 256 0 [],
      .hyRawFrame 0 cq0 ⟨0, 0, 0⟩ 0 0 256 [], .hyActivate 0 cq0 [] false 0 0, .hyActivate 0 cq0 (zeros 16) false 256 0,
      .hyActivate 0 cq0 (zeros 16) false 0 256, .hyRead 0 cq0 ⟨0, 0, 0⟩ 65536 0, .hyRead 0 cq0 ⟨0, 0, 0⟩ 0 65536,
      .hyWrite 0 cq0 ⟨0, 0, 0⟩ 65536 [], .hySealedWrite 0 cq0 ⟨0, 0, 0⟩ 256 0 (zeros 256),
      .hySealedWrite 0 cq0 ⟨0, 0, 0⟩ 0 65536 (zeros 256), .hySealedWrite 0 cq0 ⟨0, 0, 0⟩ 0 0 (zeros 255),
      .hyPageStatus 0 cq0 ⟨0, 0, 0⟩ 256, .hyChallenge 0 cq0 ⟨0, 0, 0⟩ 256 (zeros 16), .hyChallenge 0 cq0 ⟨0, 0, 0⟩ 0 (zeros 15),
      .hyForget 0 cq0 65536, .hyTreeSearch 0 cq0 256 0 false (zeros 16), .hyTreeSearch 0 cq0 0 256 false (zeros 16),
      .hyTreeSearch 0 cq0 0 0 false [], .hySetMap 0 cq0 65536 (List.replicate 16 0), .hySetMap 0 cq0 0 (List.replicate 15 0),
      .hySetMap 0 cq0 0 (List.replicate 16 16)] : List Instr).all (!·.wf) = true := by decide +kernel

theorem test_wf_refuses_inventory_and_cluster_commands :
    ([.harvestClear 0 cq0 (2 ^ 64), .harvestReadTable 0 cq0 65536 0, .harvestReadTable 0 cq0 0 256, .prismVector 0 cq0 256,
      .planLoad 0 sq1 (2 ^ 32) 0 0 [], .planLoad 0 sq1 0 (2 ^ 32) 0 [], .planLoad 0 sq1 0 0 (2 ^ 32) [], .planActivate 0 sq1 (2 ^ 32) 0,
      .planActivate 0 sq1 0 (2 ^ 64), .calTone 0 sq1 256 0 0 0 0, .calTone 0 sq1 0 256 0 0 0, .calTone 0 sq1 0 0 32768 0 0,
      .calTone 0 sq1 0 0 0 (2 ^ 64) 0, .calTone 0 sq1 0 0 0 0 (2 ^ 32), .calListen 0 sq1 (2 ^ 64) 0 0 0 0, .calListen 0 sq1 0 (2 ^ 64) 0 0 0,
      .calListen 0 sq1 0 0 (2 ^ 32) 0 0, .calListen 0 sq1 0 0 0 256 0, .calListen 0 sq1 0 0 0 0 256,
      .dedupImport 0 sq1 (List.replicate 256 ⟨zeros 16, 0, 0, 0, 0, 0⟩), .dedupImport 0 sq1 [⟨[], 0, 0, 0, 0, 0⟩],
      .dedupImport 0 sq1 [⟨zeros 16, 256, 0, 0, 0, 0⟩], .dedupImport 0 sq1 [⟨zeros 16, 0, 256, 0, 0, 0⟩],
      .dedupImport 0 sq1 [⟨zeros 16, 0, 0, 256, 0, 0⟩], .dedupImport 0 sq1 [⟨zeros 16, 0, 0, 0, 32768, 0⟩],
      .dedupImport 0 sq1 [⟨zeros 16, 0, 0, 0, 0, 2 ^ 64⟩]] : List Instr).all (!·.wf) = true := by decide +kernel

theorem test_wf_refuses_security_commands :
    ([.caskInfo 0 sq3 65536, .caskImport 0 sq3 65536 0 0 [], .caskImport 0 sq3 0 65536 0 [], .caskImport 0 sq3 0 0 (2 ^ 64) [],
      .caskGenerate 0 sq3 65536 0 0, .caskGenerate 0 sq3 0 65536 0, .caskGenerate 0 sq3 0 0 (2 ^ 64), .caskDerive 0 sq3 65536 0 0 [] [],
      .caskImport 0 sq3 0 0 (2 ^ 2) [], .caskGenerate 0 sq3 0 0 (2 ^ 12), .caskDerive 0 sq3 0 0 (2 ^ 26) [] [], .caskGenerate 0 sq3 0 0 (2 ^ 18),
      .caskDerive 0 sq3 0 65536 0 [] [], .caskDerive 0 sq3 0 0 (2 ^ 64) [] [], .caskDerive 0 sq3 0 0 0 (zeros 256) [],
      .caskDerive 0 sq3 0 0 0 [] (zeros 256), .caskDestroy 0 sq3 65536, .caskEncrypt 0 sq3 65536 0 (zeros 16) [],
      .caskEncrypt 0 sq3 0 256 (zeros 16) [], .caskEncrypt 0 sq3 0 0 [] [], .caskDecrypt 0 sq3 65536 0 (zeros 16) [],
      .caskDecrypt 0 sq3 0 256 (zeros 16) [], .caskDecrypt 0 sq3 0 0 [] [], .caskWrap 0 sq3 65536 0, .caskWrap 0 sq3 0 65536,
      .attest 0 sq3 65536 (zeros 16), .attest 0 sq3 0 [], .lifecycleSet 0 sq3 256 0, .lifecycleSet 0 sq3 0 (2 ^ 32),
      .debugOpenSet 0 sq3 (2 ^ 32), .credWrite 0 cq0 65536 0 0 0, .credWrite 0 cq0 0 65536 0 0, .credWrite 0 cq0 0 0 256 0,
      .credWrite 0 cq0 0 0 0 256, .credVerify 0 cq0 65536 0 0, .credVerify 0 cq0 0 65536 0, .credVerify 0 cq0 0 0 256]
      : List Instr).all (!·.wf) = true := by decide +kernel

theorem test_wf_refuses_diagnostic_commands :
    ([.selfTest 0 sq5 256, .captureArm 0 sq5 256 0 0 0 0 0, .captureArm 0 sq5 0 256 0 0 0 0, .captureArm 0 sq5 0 0 256 0 0 0,
      .captureArm 0 sq5 0 0 0 256 0 0, .captureArm 0 sq5 0 0 0 0 (2 ^ 32) 0, .captureArm 0 sq5 0 0 0 0 0 (2 ^ 32), .captureRead 0 sq5 256 0 0,
      .captureRead 0 sq5 0 (2 ^ 32) 0, .captureRead 0 sq5 0 0 (2 ^ 32), .triggerArm 0 sq5 256 0 0, .triggerArm 0 sq5 0 (2 ^ 64) 0,
      .triggerArm 0 sq5 0 0 (2 ^ 32), .swapRequest 0 sq5 256 0, .swapRequest 0 sq5 0 65536, .wearRead 0 sq5 256 0 0, .wearRead 0 sq5 0 65536 0,
      .wearRead 0 sq5 0 0 256, .eventLogRead 0 sq5 65536 0, .eventLogRead 0 sq5 0 256, .countersClear 0 sq5 (2 ^ 64) false]
      : List Instr).all (!·.wf) = true := by decide +kernel

theorem test_wf_refuses_link_and_power_events :
    ([.hostDataFrame 0 ⟨0, 0⟩ 4096 ⟨⟨0, 0⟩, []⟩, .hostDataFrame 0 ⟨0, 0⟩ 0 ⟨⟨0, 0⟩, zeros 1473⟩, .hello 0 ⟨0, 0⟩ (2 ^ 32) 0, .hello 0 ⟨0, 0⟩ 0 65536,
      .ack 0 ⟨0, 0⟩ 65536, .nak 0 ⟨0, 0⟩ 65536 0, .nak 0 ⟨0, 0⟩ 0 65536, .credit 0 ⟨0, 0⟩ 256 0, .credit 0 ⟨0, 0⟩ 0 65536,
      .announceReceived 0 256 0, .announceReceived 0 0 (2 ^ 48), .linkUp 0 0, .linkUp 0 4, .powerAllocLower 0 (2 ^ 32),
      .powerAllocAck 0 (2 ^ 32), .powerAllocHigher 0 (2 ^ 32), .piVoltageFail 0 72001, .piVoltageReturn 0 72001 0, .railViolation 0 0 0,
      .railViolation 0 0 4, .vauxLow 0 1500, .vauxReturn 0 1499, .pathMonitorMeasurement 0 [0]] : List Instr).all (!·.wf) = true := by
  decide +kernel

theorem test_wf_refuses_air_and_sparing_events :
    ([.portMismatch 0 0 65536, .aerialIdSense 0 [], .dpdLearning 0 0 [] (List.replicate 64 0) [0, 0, 0] 0,
      .dpdLearning 0 0 (List.replicate 64 0) [] [0, 0, 0] 0, .dpdLearning 0 0 (List.replicate 64 0) (List.replicate 64 0) [] 0,
      .dpdLearning 0 0 (List.replicate 64 0) (List.replicate 64 0) [0, 0, 0] 65536, .syncDetected 0 0 false 0 0 32768,
      .isoSofDetected 0 0 0 (-32769), .frameVerdict 0 0 (.tree []) ⟨32768, 0, 0, false, false, [], 0⟩ 0,
      .frameVerdict 0 0 (.tree []) ⟨0, 65536, 0, false, false, [], 0⟩ 0, .frameVerdict 0 0 (.tree []) ⟨0, 0, 32768, false, false, [], 0⟩ 0,
      .frameVerdict 0 0 (.tree []) ⟨0, 0, 0, false, true, [], 0⟩ 0,
      .frameVerdict 0 0 (.tree []) ⟨0, 0, 0, false, false, [31563], 0⟩ 0, .frameVerdict 0 0 (.tree []) ⟨0, 0, 0, false, false, [], 0⟩ 65536, .noiseMeasurement 0 0 false 0 (some []),
      .z8FieldDetected 5 0 0 6, .wearMonitorTrip 0 0 0 0, .wearMonitorTrip 0 13 0 0, .swapPrepared 0 0 0, .swapPrepared 0 8 0,
      .plannedSwap 0 0 0 true, .plannedSwap 0 8 0 true, .swapDeferExpiry 0 0 0, .swapDeferExpiry 0 8 0, 
      .emergencySwap 0 256 0 true, .dailySelfTest 0 [(0, 0)], .dailySelfTest 0 [(8, 0)]] : List Instr).all (!·.wf) = true := by decide +kernel

/-- A calibration of the right shape, so that each altered list is refused for its own sake. -/
def calShape : CalInput :=
  ⟨List.replicate 64 0, [(63, 63, 0)], List.replicate 64 0, List.replicate 64 (List.replicate 16 0), List.replicate 64 0, List.replicate 64 (0, 0)⟩

theorem test_wf_refuses_calibrations :
    (Instr.calComplete 0 calShape).wf = true ∧ ([{ calShape with idOhm := [] }, { calShape with coupling := [(64, 0, 0)] },
      { calShape with coupling := [(0, 64, 0)] }, { calShape with noise := [] }, { calShape with profile := [] },
      { calShape with profile := List.replicate 64 [] }, { calShape with evm := [] }, { calShape with lens := [] }]
      : List CalInput).all (fun c => !(Instr.calComplete 0 c).wf) = true := by decide +kernel


/-! ### Witnesses: the turn of a command, responses -/

/-- Of TurnOfACommand: a system queue; an undefined opcode and a wrong queue, on a port's and a system queue; a module in HALTED. -/
theorem test_meets_TurnOfACommand :
    64 ≤ sq0.q
      ∧ (turnOf svc 0x01 0x40 none = .run ∧ stalled svc 0x40 = false
          ∧ stalled { svc with outRings := upd svc.outRings 0x40 fun r => { r with waiting := [⟨1, 0, 0, 0, []⟩] } } 0x40 = true)
      ∧ (queueOpen svc 0 = true ∧ stalled svc 0 = false ∧ portBusy svc 0 = false ∧ parkedBars svc 0 none = false ∧ opDefined 0x0F = false ∧ opDefined 0x01 = true
          ∧ queueTakes 0x01 0 = false)
      ∧ (queueOpen svc 0x40 = true ∧ sysWaits svc 0x40 = false ∧ opDefined 0x20 = true ∧ queueTakes 0x20 0x40 = false)
      ∧ (let s : State := { svc with mod := { svc.mod with st := .halted } }
        s.mod.st = .halted ∧ queueOpen s 0x40 = true ∧ stalled s 0x40 = false ∧ sysWaits s 0x40 = false ∧ opDefined 0x04 = true ∧ queueTakes 0x04 0x40 = true
          ∧ runsAny 0x04 = false ∧ runsHalted 0x04 = false) := by decide +kernel

/-- Of ResponsesSendAndQuietIsSilent: a quiet success without a body, and an answer that is not silent. -/
theorem test_meets_ResponsesSendAndQuietIsSilent :
    (⟨0x40, 7, true⟩ : Hdr).quiet = true ∧ ¬ (sq0.quiet = true ∧ (0 : Nat) = 0 ∧ ([] : Bytes) = []) := by decide

/-- Of ReportsAnswer: the reports in SERVICE, and an ATTR_GET of a known attribute. -/
theorem test_meets_ReportsAnswer :
    turnComes (.nop 10 sq0 []) 10 0x00 sq0 svc = true ∧ turnComes (.moduleInfo 10 sq0) 10 0x01 sq0 svc = true
      ∧ turnComes (.moduleState 10 sq0) 10 0x02 sq0 svc = true ∧ turnComes (.timeRead 10 sq0) 10 0x0C sq0 svc = true
      ∧ turnComes (.fwStatus 10 sq5) 10 0x14 sq5 svc = true
      ∧ turnComes (.attrGet 10 sq0 false [(A.protocol, 0)]) 10 0x03 sq0 svc = true
      ∧ attrGetBad (turn10 (.attrGet 10 sq0 false [(A.protocol, 0)]) 0x03 sq0 svc) 0x40 false 0 [(A.protocol, 0)] = none := by decide +kernel

/-- Of QueuesAreReportedAndFlushed: QUEUE_STATUS on the last ring, without and with CLEAR; PORT_FLUSH of P63. -/
theorem test_meets_QueuesAreReportedAndFlushed :
    turnComes (.queueStatus 10 sq0 (2 ^ 71) false) 10 0x0A sq0 svc = true ∧ turnComes (.queueStatus 10 sq0 (2 ^ 71) true) 10 0x0A sq0 svc = true
      ∧ bit (2 ^ 71) 71 = true ∧ 71 < (turn10 (.queueStatus 10 sq0 (2 ^ 71) true) 0x0A sq0 svc).inRings.length ∧ 71 < (turn10 (.queueStatus 10 sq0 (2 ^ 71) true) 0x0A sq0 svc).outRings.length
      ∧ turnComes (.portFlush 10 sq0 (2 ^ 63)) 10 0x0E sq0 svc = true ∧ bit (2 ^ 63) 63 = true := by decide +kernel

/-- A value record of port.press.priority of P00, one within its range and one beyond it. -/
def goodRec : AttrRec := ⟨A.pressPriority, 0, 1, [7]⟩
def badRec : AttrRec := ⟨A.pressPriority, 0, 1, [8]⟩

/-- Staged configurations: one that changes a module-wide attribute, one that turns the interlock-free power above its ceiling. -/
def stagedHolds : State := { svc with cfg := { staged := [((A.linkHostTimeoutMs, 0xFFFF), [1000])] } }
def stagedFails : State := { svc with cfg := { staged := [((A.prismVectorCount, 0), [0])] } }

/-- Of ConfigurationIsStagedAndCommitted. -/
theorem test_meets_ConfigurationIsStagedAndCommitted :
    (turnComes (.attrSet 10 sq0 [goodRec]) 10 0x04 sq0 svc = true ∧ attrSetBad 0 [goodRec] = none)
      ∧ (turnComes (.attrSet 10 sq0 [goodRec, badRec]) 10 0x04 sq0 svc = true ∧ attrSetBad 0 [goodRec, badRec] ≠ none)
      ∧ turnComes (.configDiscard 10 sq0) 10 0x06 sq0 svc = true ∧ turnComes (.configSave 10 sq0) 10 0x07 sq0 svc = true
      ∧ (turnComes (.configCommit 10 sq0) 10 0x05 sq0 stagedHolds = true
        ∧ (let u := turn10 (.configCommit 10 sq0) 0x05 sq0 stagedHolds
          changedKeys u u.cfg.running (roundCfg u.cfg.staged) ≠ [] ∧ commitError u (roundCfg u.cfg.staged) = none
            ∧ affected u u.cfg.running (roundCfg u.cfg.staged) (changedKeys u u.cfg.running (roundCfg u.cfg.staged)) = [])) := by decide +kernel

/-- A staged configuration that sets the power of P00 above its ceiling fails check 1. -/
theorem test_meets_ConfigurationIsStagedAndCommitted_fails :
    let s : State := { svc with cfg := { staged := [((A.txPowerCdbm, 0), [2800]), ((A.txCeilingCdbm, 0), [2700])] } }
    turnComes (.configCommit 10 sq0) 10 0x05 sq0 s = true
      ∧ (let u := turn10 (.configCommit 10 sq0) 0x05 sq0 s
        changedKeys u u.cfg.running (roundCfg u.cfg.staged) ≠ [] ∧ commitError u (roundCfg u.cfg.staged) ≠ none) := by
  (repeat' apply And.intro) <;> first | decide +kernel | rfl

/-- Of ModuleResets: MODULE_RESET with either word, and a module whose answer has left. -/
theorem test_meets_ModuleResets :
    turnComes (.moduleReset 10 sq0 0x5A4A0B0B) 10 0x0B sq0 svc = true ∧ turnComes (.moduleReset 10 sq0 0x5A4A0B0C) 10 0x0B sq0 svc = true
      ∧ (let s : State := { svc with mod := { svc.mod with resetDue := 4, resetQ := 0x40 } }
        s.mod.resetDue ≠ 0 ∧ answerWaits s = false ∧ s.mod.st ≠ .powerUp ∧ s.nvm.markNext = none) := by
  (repeat' apply And.intro) <;> first | decide +kernel | rfl

/-- A FIELD_ON as an embedded item, and an action set to it. -/
def fieldOnItem : Bytes := le 2 8 ++ [0x20, 0] ++ le 2 9 ++ le 2 0
def oneAction : State := { withCfg [((A.moduleSchedCount, 0xFFFF), [1])] with diag := { scheds := [⟨0, 0, 1000000, fieldOnItem⟩] } }

/-- Of ScheduledActions: an action at the earliest admissible time, one cleared, and one whose time has come. -/
theorem test_meets_ScheduledActions :
    turnComes (.schedule 10 sq0 0 0 0 []) 10 0x0D sq0 oneAction = true
      ∧ (turnComes (.schedule 10 sq0 0 0 100368 fieldOnItem) 10 0x0D sq0 oneAction = true
        ∧ (let u := turn10 (.schedule 10 sq0 0 0 100368 fieldOnItem) 0x0D sq0 oneAction
          0 < mAttrN u A.moduleSchedCount ∧ ts u + 100000 ≤ ((100368 : Nat) : Int)))
      ∧ embedded 10 0 fieldOnItem (turn10 (.schedule 10 sq0 0 0 100368 fieldOnItem) 0x0D sq0 oneAction) = .ok (.fieldOn 10 ⟨0, 9, false⟩)
      ∧ (let u := advance 27120 oneAction
        oneAction.diag.scheds.find? (fun y => y.action == 0) = some ⟨0, 0, 1000000, fieldOnItem⟩ ∧ oneAction.mod.st ≠ .halted
          ∧ tickOf oneAction 1000000 ≤ u.now ∧ embedded u.now 0 fieldOnItem u = .ok (.fieldOn 27120 ⟨0, 9, false⟩)
          ∧ cmdHead (.fieldOn 27120 ⟨0, 9, false⟩) = some (0x20, ⟨0, 9, false⟩)
          ∧ (inRing oneAction 0).level + cmdCells (.fieldOn 27120 ⟨0, 9, false⟩) ≤ inCap 0 ∧ oneAction.link.hostLost = false
          ∧ oneAction.mod.resetDue = 0) := by
  (repeat' apply And.intro) <;> first | decide +kernel | rfl

/-- A module whose ports all work, one where DOZE_ENTER waits and all is quiet, with a wake that stands or without, one where P00 works, and one in
DOZE with VAUX at its lowest. -/
def allBusy : State := { svc with ports := List.replicate 64 { task := some busyTask } }
def quietBeforeDoze : State := { svc with mod := { svc.mod with dozeHdr := some sq0 } }
def woken : State := { quietBeforeDoze with pins := { wakeN := true, vauxMv := 1500 } }
def workBeforeDoze : State := modPort 0 (fun x => { x with task := some busyTask }) quietBeforeDoze
def inDoze : State := { svc with mod := { svc.mod with st := .doze }, pins := { vauxMv := 1500 } }

/-- Of DozeIsEnteredAndLeft. -/
theorem test_meets_DozeIsEnteredAndLeft :
    (turnComes (.dozeEnter 10 sq0) 10 0x08 sq0 allBusy = true
        ∧ ∀ p < 64, waitsForNothing (turn10 (.dozeEnter 10 sq0) 0x08 sq0 allBusy) p = true ∧ (port (turn10 (.dozeEnter 10 sq0) 0x08 sq0 allBusy) p).task.isSome = true)
      ∧ (turnComes (.dozeEnter 10 sq0) 10 0x08 sq0 svc = true
        ∧ (turn10 (.dozeEnter 10 sq0) 0x08 sq0 svc).cfg.committing = none
        ∧ ∀ p < 64, waitsForNothing (turn10 (.dozeEnter 10 sq0) 0x08 sq0 svc) p = true ∧ (port (turn10 (.dozeEnter 10 sq0) 0x08 sq0 svc) p).task = none
          ∧ (port (turn10 (.dozeEnter 10 sq0) 0x08 sq0 svc) p).parked = [] ∧ (port (turn10 (.dozeEnter 10 sq0) 0x08 sq0 svc) p).radio.phase = .off
          ∧ (port (turn10 (.dozeEnter 10 sq0) 0x08 sq0 svc) p).radio.want = none ∧ (port (turn10 (.dozeEnter 10 sq0) 0x08 sq0 svc) p).newCommit = false)
      ∧ (quietBeforeDoze.mod.dozeHdr = some sq0 ∧ quietBeforeDoze.mod.st = .service ∧ allQuiet quietBeforeDoze = true
        ∧ quietBeforeDoze.pins.wakeN = false)
      ∧ (woken.mod.dozeHdr = some sq0 ∧ woken.mod.st = .service ∧ allQuiet woken = true ∧ woken.pins.wakeN = true ∧ 1500 ≤ woken.pins.vauxMv)
      ∧ (workBeforeDoze.mod.dozeHdr = some sq0 ∧ workBeforeDoze.mod.st = .service ∧ allQuiet workBeforeDoze = false)
      ∧ (63 < inDoze.ports.length ∧ inDoze.mod.st = .doze ∧ 1500 ≤ inDoze.pins.vauxMv ∧ inDoze.mod.dozeHdr = none
        ∧ ∀ p < 64, waitsForNothing inDoze p = true ∧ (port inDoze p).task = none ∧ (port inDoze p).parked = [] ∧ (port inDoze p).air.tx = none)
      ∧ ¬ (svc.mod.st = .doze ∧ 1500 ≤ svc.pins.vauxMv) := by
  (repeat' apply And.intro) <;> first | decide +kernel | rfl

/-- A module whose other slot holds an image of 128 bytes in a given state, and the same in HALTED. -/
def withImage (st : Nat) : State := { svc with nvm := { svc.nvm with images := [⟨0x0100, 3, 4, []⟩, ⟨0, st, 128, []⟩] }, fwOpen := true }
def haltedImage : State := { withImage 2 with mod := { (withImage 2).mod with st := .halted } }

/-- The image verified, with the floor of the SVN above its own since. -/
def fallen : State := { withImage 2 with nvm := { (withImage 2).nvm with sec := { (withImage 2).nvm.sec with svnFloor := 1 } } }

/-- The other image at the turn of a command. -/
def other10 (i : Instr) (op : Nat) (s : State) : Image :=
  let u := turn10 i op sq5 s
  nth u.nvm.images (otherSlot u) {}

/-- An activation in its try `tries` that holds the ports of `held`, the first since tick 5, or waits for its next try. -/
def holding (held tries : Nat) (retry : Option Nat) : Activation := ⟨sq5, false, tries, some 5, held, 5, retry⟩

/-- Of FirmwareIsLoadedAndActivated, FW_BEGIN, FW_DATA and FW_VERIFY: the last chunk ends with the image, the next runs beyond it. -/
theorem test_meets_FirmwareIsLoadedAndActivated_load :
    turnComes (.fwBegin 10 sq5 128) 10 0x10 sq5 svc = true
      ∧ (turnComes (.fwData 10 sq5 124 [1, 2, 3, 4]) 10 0x11 sq5 (withImage 1) = true
        ∧ (turn10 (.fwData 10 sq5 124 [1, 2, 3, 4]) 0x11 sq5 (withImage 1)).fwOpen = true
        ∧ 124 + [1, 2, 3, 4].length ≤ (other10 (.fwData 10 sq5 124 [1, 2, 3, 4]) 0x11 (withImage 1)).size)
      ∧ (turnComes (.fwData 10 sq5 124 (zeros 8)) 10 0x11 sq5 (withImage 1) = true
        ∧ (turn10 (.fwData 10 sq5 124 (zeros 8)) 0x11 sq5 (withImage 1)).fwOpen = true
        ∧ (other10 (.fwData 10 sq5 124 (zeros 8)) 0x11 (withImage 1)).size < 124 + (zeros 8).length)
      ∧ (turnComes (.fwData 10 sq5 0 (zeros 4)) 10 0x11 sq5 svc = true ∧ (turn10 (.fwData 10 sq5 0 (zeros 4)) 0x11 sq5 svc).fwOpen = false)
      ∧ (turnComes (.fwVerify 10 sq5) 10 0x12 sq5 (withImage 2) = true ∧ (other10 (.fwVerify 10 sq5) 0x12 (withImage 2)).state = 2
        ∧ (turn10 (.fwVerify 10 sq5) 0x12 sq5 (withImage 2)).nvm.sec.svnFloor ≤ (other10 (.fwVerify 10 sq5) 0x12 (withImage 2)).svn)
      ∧ (turnComes (.fwVerify 10 sq5) 10 0x12 sq5 fallen = true ∧ (other10 (.fwVerify 10 sq5) 0x12 fallen).state = 2
        ∧ (other10 (.fwVerify 10 sq5) 0x12 fallen).svn < (turn10 (.fwVerify 10 sq5) 0x12 sq5 fallen).nvm.sec.svnFloor)
      ∧ (turnComes (.fwVerify 10 sq5) 10 0x12 sq5 (withImage 1) = true ∧ (other10 (.fwVerify 10 sq5) 0x12 (withImage 1)).state ≠ 2) := by
  (repeat' apply And.intro) <;> first | decide +kernel | rfl

/-- Of FirmwareIsLoadedAndActivated, FW_ACTIVATE and FW_ROLLBACK, in SERVICE and in HALTED. -/
theorem test_meets_FirmwareIsLoadedAndActivated_ask :
    (turnComes (.fwActivate 10 sq5 0) 10 0x13 sq5 (withImage 4) = true ∧ (other10 (.fwActivate 10 sq5 0) 0x13 (withImage 4)).state ≠ 2)
      ∧ (turnComes (.fwActivate 10 sq5 1) 10 0x13 sq5 (withImage 2) = true ∧ (other10 (.fwActivate 10 sq5 1) 0x13 (withImage 2)).state = 2)
      ∧ (turnComes (.fwActivate 10 sq5 0) 10 0x13 sq5 (withImage 2) = true ∧ (other10 (.fwActivate 10 sq5 0) 0x13 (withImage 2)).state = 2
        ∧ (turn10 (.fwActivate 10 sq5 0) 0x13 sq5 (withImage 2)).mod.st = .service)
      ∧ (turnComes (.fwActivate 10 sq5 0) 10 0x13 sq5 haltedImage = true ∧ (other10 (.fwActivate 10 sq5 0) 0x13 haltedImage).state = 2
        ∧ (turn10 (.fwActivate 10 sq5 0) 0x13 sq5 haltedImage).mod.st = .halted)
      ∧ (turnComes (.fwRollback 10 sq5) 10 0x15 sq5 (withImage 1) = true ∧ (other10 (.fwRollback 10 sq5) 0x15 (withImage 1)).state ≠ 2)
      ∧ (turnComes (.fwRollback 10 sq5) 10 0x15 sq5 fallen = true ∧ (other10 (.fwRollback 10 sq5) 0x15 fallen).state = 2
        ∧ (other10 (.fwRollback 10 sq5) 0x15 fallen).svn < (turn10 (.fwRollback 10 sq5) 0x15 sq5 fallen).nvm.sec.svnFloor)
      ∧ (turnComes (.fwRollback 10 sq5) 10 0x15 sq5 (withImage 2) = true ∧ (other10 (.fwRollback 10 sq5) 0x15 (withImage 2)).state = 2
        ∧ (turn10 (.fwRollback 10 sq5) 0x15 sq5 (withImage 2)).nvm.sec.svnFloor ≤ (other10 (.fwRollback 10 sq5) 0x15 (withImage 2)).svn
        ∧ (turn10 (.fwRollback 10 sq5) 0x15 sq5 (withImage 2)).mod.st = .service)
      ∧ (turnComes (.fwRollback 10 sq5) 10 0x15 sq5 haltedImage = true ∧ (other10 (.fwRollback 10 sq5) 0x15 haltedImage).state = 2
        ∧ (turn10 (.fwRollback 10 sq5) 0x15 sq5 haltedImage).nvm.sec.svnFloor ≤ (other10 (.fwRollback 10 sq5) 0x15 haltedImage).svn
        ∧ (turn10 (.fwRollback 10 sq5) 0x15 sq5 haltedImage).mod.st = .halted) := by
  (repeat' apply And.intro) <;> first | decide +kernel | rfl

/-- Of FirmwareIsLoadedAndActivated, the holds: all 64 ports, one alone at the last tick in the ninth and the tenth try, and a retry at its tick. -/
theorem test_meets_FirmwareIsLoadedAndActivated_holds :
    ((holding (2 ^ 64 - 1) 0 none).retryAt = none ∧ (portsOf (holding (2 ^ 64 - 1) 0 none).held).length = 64 ∧ svc.cellar.change = none)
      ∧ ((holding 1 8 none).firstHold = some 5 ∧ (holding 1 8 none).retryAt = none ∧ (portsOf (holding 1 8 none).held).length ≠ 64
        ∧ (holding 1 8 none).tries < 9 ∧ 9 ≤ (holding 1 9 none).tries
        ∧ 5 + fwHoldTicks (advance (5 + fwHoldTicks svc) svc) ≤ (advance (5 + fwHoldTicks svc) svc).now)
      ∧ ((holding 0 1 (some 9)).retryAt = some 9 ∧ 9 ≤ (advance 9 svc).now) := by
  (repeat' apply And.intro) <;> first | decide +kernel | rfl

/-! ### Witnesses: fields, slices, noise, timers -/

/-- P00 with an aerial of class 2 and no field. -/
def aerial0 : State := withPort fun x => { x with radio := { x.radio with aerial := 2 } }

/-- Of FieldsAreAskedFor: a field that is on and one that is off, and FIELD_OFF on either. -/
theorem test_meets_FieldsAreAskedFor :
    (turnComes (.fieldOn 10 cq0) 10 0x20 cq0 fieldUp0 = true ∧ (port (turn10 (.fieldOn 10 cq0) 0x20 cq0 fieldUp0) 0).radio.phase = .on)
      ∧ (turnComes (.fieldOn 10 cq0) 10 0x20 cq0 aerial0 = true ∧ (port (turn10 (.fieldOn 10 cq0) 0x20 cq0 aerial0) 0).radio.phase ≠ .on
        ∧ (askField 0 (modPort 0 (fun x => { x with task := some busyTask }) (turn10 (.fieldOn 10 cq0) 0x20 cq0 aerial0))).1 = none)
      ∧ (fieldBar aerial0 0 = none ∧ (port aerial0 0).radio.phase = .off ∧ (port aerial0 0).radio.want = none ∧ offRun aerial0 0 = false
        ∧ (pressAsk 0 502 .field aerial0).1 = false)
      ∧ (turnComes (.fieldOn 10 cq0) 10 0x20 cq0 svc = true ∧ (port (turn10 (.fieldOn 10 cq0) 0x20 cq0 svc) 0).radio.phase ≠ .on
        ∧ ((askField 0 (modPort 0 (fun x => { x with task := some busyTask }) (turn10 (.fieldOn 10 cq0) 0x20 cq0 svc))).1.map (·.1)) = some E.noAerial)
      ∧ (overtakesNow (.fieldOff 10 cq0) 10 0x21 cq0 aerial0 = true
        ∧ (let u := ahead (.fieldOff 10 cq0) 10 0 aerial0
          waitsForNothing u 0 = true ∧ (port u 0).task = none ∧ (port u 0).parked = [] ∧ u.cfg.committing = none ∧ (port u 0).newCommit = false
            ∧ 0 < u.ports.length ∧ (port u 0).radio.phase = .off ∧ (port u 0).radio.want = none))
      ∧ (overtakesNow (.fieldOff 10 cq0) 10 0x21 cq0 fieldUp0 = true
        ∧ (let u := ahead (.fieldOff 10 cq0) 10 0 fieldUp0
          waitsForNothing u 0 = true ∧ (port u 0).task = none ∧ (port u 0).parked = [] ∧ u.cfg.committing = none ∧ (port u 0).newCommit = false
            ∧ 0 < u.ports.length ∧ (port u 0).radio.phase = .on)) := by
  (repeat' apply And.intro) <;> decide +kernel

/-- P00 with a task that waits for its field. -/
def rising0 : State := withPort fun x => { x with radio := { x.radio with phase := .rising, aerial := 2 }, task := some busyTask }

/-- A Press request of P00. -/
def req0 (mw : Nat) (kind : ReqKind) : PressReq := ⟨0, mw, 4, 0, 100, kind⟩

/-- Of PressGrantsInOrder: a head that fits exactly, one that does not with and without a timeout, the events. -/
theorem test_meets_PressGrantsInOrder :
    ((reqInsert ⟨0, 1, pAttrN svc A.pressPriority 0, svc.now, svc.now + usT (pAttrN svc A.pressTimeoutUs 0), .field⟩ []).head?
        = some ⟨0, 1, pAttrN svc A.pressPriority 0, svc.now, svc.now + usT (pAttrN svc A.pressTimeoutUs 0), .field⟩
      ∧ pressFits svc 1 = true)
      ∧ (pressFits svc 100000 = false ∧ pAttrN svc A.pressTimeoutUs 0 ≠ 0
        ∧ pAttrN (withCfg [((A.pressTimeoutUs, 0), [0])]) A.pressTimeoutUs 0 = 0 ∧ pressFits (withCfg [((A.pressTimeoutUs, 0), [0])]) 100000 = false)
      ∧ (pressFits svc (req0 502 .field).mw = true ∧ (req0 502 .field).kind ≠ .raise ∧ pressFits svc (req0 100000 .field).mw = false)
      ∧ (let s : State := { aerial0 with press := { waiting := [req0 502 .field] } }
        (s.press.waiting.find? fun x => x.port == 0 && x.deadline ≤ (advance 100 s).now) = some (req0 502 .field))
      ∧ (let s : State := { rising0 with press := { waiting := [req0 502 .field] } }
        (port (modRadio 0 (fun x => { x with want := none }) { advance 100 s with press := { waiting := [] } }) 0).task.isSome = true) := by
  (repeat' apply And.intro) <;> decide +kernel

/-- P00 in its guard time, which ends at tick 100. -/
def guard0 : State := withPort fun x => { x with radio := { x.radio with phase := .on, aerial := 2, guardUntil := some 100 } }

/-- Of FieldComesUp: at the last tick before the guard time ends and at its end. -/
theorem test_meets_FieldComesUp :
    (port rising0 0).radio.phase = .rising ∧ ((sliceAt rising0 0).st ≠ .field ∧ 0 < rising0.ports.length ∧ members rising0 0 = [] ∧ 3 * 0 < rising0.timers.length)
      ∧ ((port guard0 0).radio.guardUntil = some 100 ∧ 100 ≤ (advance 100 guard0).now ∧ (advance 99 guard0).now < 100) := by
  (repeat' apply And.intro) <;> decide +kernel

/-- P00 on its way down, with and without a return, and in its field-off minimum. -/
def falling0 (back : Bool) : State := withPort fun x => { x with radio := { x.radio with phase := .falling back, aerial := 2 } }
def offMin0 : State := withPort fun x => { x with radio := { x.radio with offUntil := some 100 } }

/-- Of FieldComesDown. -/
theorem test_meets_FieldComesDown :
    ((port (falling0 true) 0).radio.phase = .falling true
        ∧ channelNow (fieldDown 0 (modRadio 0 (fun r => { r with phase := .gap }) (advance 10 (falling0 true)))) 0 = some 3
        ∧ runClosing (fieldDown 0 (modRadio 0 (fun r => { r with phase := .gap }) (advance 10 (falling0 true)))) 0 = false)
      ∧ ((port (falling0 false) 0).radio.phase = .falling false ∧ (port (driveCommit [0] (fieldEnded 0 (advance 10 (falling0 false)))) 0).task = none)
      ∧ (0 < (falling0 false).ports.length ∧ members (falling0 false) 0 = [])
      ∧ ((port offMin0 0).radio.offUntil = some 100 ∧ 100 ≤ (advance 100 offMin0).now ∧ (advance 99 offMin0).now < 100) := by
  (repeat' apply And.intro) <;> decide +kernel

/-- P00 with a duty limit of 1 ms, its field on since tick 0. -/
def duty0 : State := { fieldUp0 with
  cfg := { running := [((A.fieldDutyLimit, 0), [1])] }
  ports := upd fieldUp0.ports 0 fun x => { x with radio := { x.radio with onSince := some 0 } } }

/-- P00 with a frame on the air until tick 50; with a set whose vector has changed at tick 0. -/
def sending0 : State := modPort 0 (fun x => { x with air := { x.air with txEnd := some 50 } }) fieldUp0
def moved0 : State := modPort 0 (fun x => { x with prism := { x.prism with movedAt := some 0 } }) fieldUp0

/-- P00 whose Q damping by frame stands released to damped. -/
def damping0 : State := { fieldUp0 with
  cfg := { running := [((A.qdMode, 0), [2])] }
  ports := upd fieldUp0.ports 0 fun x => { x with radio := { x.radio with qdDamped := true } } }

/-- At tick `t` a frame of P00 is on the air; the change of the vector of its set is still under way. -/
def sendsAt (s : State) (t : Nat) : Prop := ∃ e, (port s 0).air.txEnd = some e ∧ (advance t s).now < e
def movesAt (s : State) (t : Nat) : Prop := ∃ b, (port s 0).prism.movedAt = some b ∧ (advance t s).now < b + 256

/-- Of FieldFailuresAndPower: the duty window full to the tick, mismatch at and above 3.00, a power loop free at the last tick's end and frozen
before. -/
theorem test_meets_FieldFailuresAndPower :
    ((port duty0 0).radio.phase = .on ∧ leadIn duty0 duty0.cfg.running 0 = none ∧ dutyLimit (advance 27120 duty0) 0 = some 27120
        ∧ 27120 ≤ dutyTicks (advance 27120 duty0) 0)
      ∧ ((port fieldUp0 0).radio.phase = .on ∧ leadIn fieldUp0 fieldUp0.cfg.running 0 = none ∧ (300 : Nat) < 301 ∧ (300 : Nat) ≤ 300
        ∧ (port fieldUp0 0).radio.vswr ≤ 300)
      ∧ ((port fieldUp0 0).air.txEnd = none ∧ (port fieldUp0 0).air.win = none ∧ qdMoves fieldUp0 0 = false ∧ (port fieldUp0 0).radio.credit = none
        ∧ sliceOf fieldUp0 0 < fieldUp0.slices.length)
      ∧ (qdMoves damping0 0 = true ∧ (port damping0 0).radio.phase = .on ∧ leadIn damping0 damping0.cfg.running 0 = none)
      ∧ (sendsAt sending0 49 ∧ ¬ sendsAt sending0 50 ∧ (port sending0 0).radio.phase = .on ∧ leadIn sending0 sending0.cfg.running 0 = none)
      ∧ (movesAt moved0 255 ∧ ¬ movesAt moved0 256 ∧ (port moved0 0).radio.phase = .on ∧ leadIn moved0 moved0.cfg.running 0 = none) := by
  refine ⟨?_, ?_, ?_, ?_, ⟨⟨50, by decide +kernel⟩, ?_, ?_⟩, ⟨⟨0, by decide +kernel⟩, ?_, ?_⟩⟩
  all_goals first
    | ((repeat' apply And.intro) <;> decide +kernel)
    | (rintro ⟨e, h, g⟩
       have q := Option.some.inj h
       subst q
       revert g
       decide +kernel)

/-- P00 calibrating its synthesiser since tick 0, with a command that waits for its field. -/
def calibrating0 (ph : FieldPhase) : State := modSlice 0 (fun x => { x with st := .synth, target := .listen, calSince := some 0 })
  (withPort fun x => { x with radio := { x.radio with phase := ph, want := some ⟨true, false, 0, true⟩ }, task := some busyTask })

/-- The slice of P00 has lost its lock at tick `n`. -/
def lost0 (n : Nat) : State := modSlice 0 (fun x => { x with lossAt := some n }) svc

/-- Of SlicesStepLockAndLose: a calibration that locks, one that has failed at its last tick, and a loss at and above 8 degrees. -/
theorem test_meets_SlicesStepLockAndLose :
    (leadIn (calibrating0 .gap) (calibrating0 .gap).cfg.running 0 = none ∧ (sliceAt (calibrating0 .gap) 0).calSince.isSome = true
        ∧ sliceOf (calibrating0 .gap) 0 < (calibrating0 .gap).slices.length ∧ members (calibrating0 .gap) 0 = []
        ∧ (port (calibrating0 .gap) 0).radio.phase ≠ .off)
      ∧ ((sliceAt (calibrating0 .off) 0).calSince = some 0 ∧ (port (calibrating0 .off) 0).radio.want = some ⟨true, false, 0, true⟩
        ∧ max 0 (⟨true, false, 0, true⟩ : Want).since + usT 100 ≤ (advance (usT 100) (calibrating0 .off)).now
        ∧ (port (calibrating0 .off) 0).radio.phase = .off ∧ (port (calibrating0 .off) 0).task = some busyTask ∧ busyTask.proc = .fieldOn)
      ∧ (leadIn fieldUp0 fieldUp0.cfg.running 0 = none ∧ (port fieldUp0 0).radio.phase = .on ∧ 800 < (-801 : Int).natAbs
        ∧ (-800 : Int).natAbs ≤ 800)
      ∧ ((sliceAt (modPort 0 (fun x => { x with task := none }) (calibrating0 .gap)) 0).calSince.isSome = true
        ∧ (port (modPort 0 (fun x => { x with task := none }) (calibrating0 .gap)) 0).task = none)
      ∧ (Slice.lossAt (nth (lost0 10).slices 0 {}) = some 10 ∧ Slice.lossAt (nth (lost0 20).slices 0 {}) = some 20
        ∧ (10 < 20 ∧ 20 ≤ 10 + msT 1000)) := by
  (repeat' apply And.intro) <;> decide +kernel

/-- A second loss within 1 s takes the slice out of service; where the one spare of its group does not calibrate, the module halts (R74, R538). -/
theorem test_second_lock_loss :
    faultAgain 0 Slice.lossAt (lost0 10) (lost0 20) = emergencyRun 1 0 (Config.testPasses (lost0 20).free 0) (drawn (lost0 20))
      ∧ works (emergencyRun 1 0 true (drawn (lost0 20))) 1 0 = false
      ∧ (emergencyRun 1 0 false (drawn (lost0 20))).mod.st = .halted := by
  refine ⟨?_, by decide +kernel, by decide +kernel⟩
  have h1 : (nth (lost0 10).slices 0 {}).lossAt = some 10 := by decide +kernel
  have h2 : (nth (lost0 20).slices 0 {}).lossAt = some 20 := by decide +kernel
  unfold faultAgain
  rw [h1, h2]
  exact if_pos (by decide)

/-- P00 with a learning of the pre-distorter due. -/
def learning0 : State := modRadio 0 (fun r => { r with dpdDue := true }) fieldUp0

/-- P00 at work, so that it stands at no boundary. -/
def busy0 : State := withPort fun x => { x with task := some busyTask }

/-- P00 with auto-tune OFF. -/
def unowned0 : State := modPort 0 (fun x => { x with radio := { x.radio with aerial := 2 } }) (withCfg [((A.tnAutotune, 0), [0])])

/-- P00 set to tune on request, its slice in LISTEN; the same calibrating its synthesiser; the same while INTLK_N is asserted. -/
def tunable0 (cal : Bool) : State := modSlice 0 (fun x => if cal then { x with st := .synth, target := .listen, calSince := some 0 }
    else { x with st := .listen, target := .listen, locked := true })
  (modPort 0 (fun x => { x with radio := { x.radio with aerial := 2 } }) (withCfg [((A.tnAutotune, 0), [1])]))
def tunableCut : State := { tunable0 false with pins := { intlk := true, intlkActs := true } }

/-- Of AerialsTuningAndBoundaries: also a port that does not own its TN, one that calibrates, and one off and on its boundary. -/
theorem test_meets_AerialsTuningAndBoundaries :
    (svc.mod.st = .service ∧ State.reset.mod.st = .boot)
      ∧ (turnComes (.autotune 10 cq0) 10 0x22 cq0 unowned0 = true ∧ pAttr (turn10 (.autotune 10 cq0) 0x22 cq0 unowned0) A.tnAutotune 0 = 0)
      ∧ (turnComes (.autotune 10 cq0) 10 0x22 cq0 (tunable0 true) = true ∧ pAttr (turn10 (.autotune 10 cq0) 0x22 cq0 (tunable0 true)) A.tnAutotune 0 ≠ 0
        ∧ probeBar (turn10 (.autotune 10 cq0) 0x22 cq0 (tunable0 true)) 0 = none ∧ notReady (turn10 (.autotune 10 cq0) 0x22 cq0 (tunable0 true)) 0 = true)
      ∧ (turnComes (.autotune 10 cq0) 10 0x22 cq0 tunableCut = true ∧ pAttr (turn10 (.autotune 10 cq0) 0x22 cq0 tunableCut) A.tnAutotune 0 ≠ 0
        ∧ (port (turn10 (.autotune 10 cq0) 0x22 cq0 tunableCut) 0).radio.phase = .off ∧ interlocked (turn10 (.autotune 10 cq0) 0x22 cq0 tunableCut) = true)
      ∧ (turnComes (.autotune 10 cq0) 10 0x22 cq0 (tunable0 false) = true ∧ pAttr (turn10 (.autotune 10 cq0) 0x22 cq0 (tunable0 false)) A.tnAutotune 0 ≠ 0
        ∧ notReady (turn10 (.autotune 10 cq0) 0x22 cq0 (tunable0 false)) 0 = false
        ∧ ¬ ((port (turn10 (.autotune 10 cq0) 0x22 cq0 (tunable0 false)) 0).radio.phase = .off ∧ interlocked (turn10 (.autotune 10 cq0) 0x22 cq0 (tunable0 false)) = true)
        ∧ reserveWithheld (turn10 (.autotune 10 cq0) 0x22 cq0 (tunable0 false)) = false)
      ∧ (turnComes (.calibrateRadio 10 cq0 15) 10 0x23 cq0 (tunable0 false) = true
        ∧ ¬ (bit 15 3 = true ∧ pAttr (turn10 (.calibrateRadio 10 cq0 15) 0x23 cq0 (tunable0 false)) A.tnAutotune 0 = 0)
        ∧ turnComes (.calibrateRadio 10 cq0 8) 10 0x23 cq0 unowned0 = true ∧ bit 8 3 = true
        ∧ pAttr (turn10 (.calibrateRadio 10 cq0 8) 0x23 cq0 unowned0) A.tnAutotune 0 = 0)
      ∧ (leadIn learning0 learning0.cfg.running 0 = none ∧ (port learning0 0).radio.dpdDue = true ∧ (port learning0 0).radio.phase = .on
        ∧ atBoundary learning0 0 = true)
      ∧ (svc.mod.st ≠ .doze ∧ atBoundary svc 0 = true ∧ atBoundary busy0 0 = false) := by
  (repeat' apply And.intro) <;> decide +kernel

/-- P00 listening without field, before its first measurement and 100 ms after one at tick 0. -/
def quiet0 (at_ : Option Nat) (floor : Option Int) : State := modSlice 0 (fun x => { x with st := .listen, target := .listen, locked := true })
  (withPort fun x => { x with rx := { x.rx with noiseAt := at_, noise := floor } })

/-- A Mirror training of P00 and P01 that Press has granted. -/
def training : State := { svc with mirrorJob := some ⟨sq0, 3, 3, 1000, true⟩ }

/-- P00 with its carrier unmodulated since tick 0, before its first field-on measurement. -/
def carrier0 : State := modPort 0 (fun x => { x with air := { x.air with idleSince := 0 } }) fieldUp0

/-- Of NoiseAndMirror: also a carrier unmodulated for 80 µs to the tick and for one tick less. -/
theorem test_meets_NoiseAndMirror :
    turnComes (.measureNoise 10 sq0 (2 ^ 64 - 1)) 10 0x24 sq0 svc = true
      ∧ ((quiet0 none none).mod.st = .service ∧ listening (quiet0 none none) 0 = true ∧ (port (quiet0 none none) 0).radio.phase = .off
        ∧ (port (quiet0 none none) 0).radio.want = none ∧ (port (quiet0 none none) 0).task = none ∧ 0 < (quiet0 none none).ports.length
        ∧ (port (quiet0 none none) 0).rx.noiseAt = none ∧ (port (quiet0 none none) 0).rx.noise = none)
      ∧ ((port (quiet0 (some 0) (some (-9500))) 0).rx.noiseAt = some 0 ∧ (port (quiet0 (some 0) (some (-9500))) 0).rx.noise = some (-9500)
        ∧ listening (quiet0 (some 0) (some (-9500))) 0 = true ∧ 0 + msT 100 ≤ (advance (msT 100) (quiet0 (some 0) (some (-9500)))).now)
      ∧ (carrier0.mod.st = .service ∧ listening carrier0 0 = true ∧ leadIn carrier0 carrier0.cfg.running 0 = none ∧ 0 < carrier0.ports.length
        ∧ (port carrier0 0).radio.phase = .on ∧ (port carrier0 0).air.txEnd = none ∧ (port carrier0 0).air.win = none
        ∧ (port carrier0 0).air.idleSince + usT 80 ≤ (advance (usT 80) carrier0).now
        ∧ (advance (usT 80 - 1) carrier0).now < (port carrier0 0).air.idleSince + usT 80
        ∧ (port carrier0 0).rx.noiseFieldAt = none ∧ (port carrier0 0).rx.noiseField = none ∧ (-9500 : Int) ≤ pAttr carrier0 A.rxNoiseAlarmCdbm 0)
      ∧ (turnComes (.mirrorTrain 10 sq0 3 65535) 10 0x25 sq0 svc = true ∧ interlocked (turn10 (.mirrorTrain 10 sq0 3 65535) 0x25 sq0 svc) = false
        ∧ (∀ p ∈ portsOf 3, portFielded (turn10 (.mirrorTrain 10 sq0 3 65535) 0x25 sq0 svc) p = false) ∧ (3 : Nat) ≠ 0)
      ∧ (training.mod.st ≠ .doze ∧ training.mirrorJob = some ⟨sq0, 3, 3, 1000, true⟩ ∧ (svc.mirrorJob.map (·.granted)).getD false = false) := by
  (repeat' apply And.intro) <;> decide +kernel

/-- P00's T_B armed for a downlink start at tick 100; P00 with a frame held in an open window. -/
def armedB : State := setTimer (tB 0) 0x03 100 svc
def heldFrame (hd : Option Nat) : Held :=
  { tick := 5, errs := 0, corr := 1000, strength := -6000, gain := 30, fast := true, header := hd }
def hyWin (k : Option Held) : Window := ⟨0x10, true, 30, 0, 1000, false, k, false, 0, [], none⟩
def window0 (k : Option Held) : State := modPort 0 (fun x => { x with air := { x.air with win := some (hyWin k) } }) fieldUp0
def sendingTask0 : State := modPort 0 (fun x => { x with task := some busyTask }) sending0

/-- Of TimersAndElasticBuffers: a timer at its tick, the first of the pool, a timer one tick early. -/
theorem test_meets_TimersAndElasticBuffers :
    ((timer armedB (tB 0)).armed = true ∧ (timer armedB (tB 0)).fire ≤ (advance 100 armedB).now ∧ (timer armedB (tB 0)).action = 0x03
        ∧ (timer armedB (tA 0)).armed = false ∧ (timer armedB (tC 0)).armed = false)
      ∧ (192 : Nat) ≤ (192 : Fin 256).val ∧ (tB 0 % 3 ≠ 0 ∧ (advance 99 armedB).now < (timer armedB (tB 0)).fire)
      ∧ ((port sendingTask0 0).air.txEnd.isSome = true ∧ (port sendingTask0 0).task.isSome = true)
      ∧ ((port (window0 (some (heldFrame none))) 0).air.win = some (hyWin (some (heldFrame none)))
        ∧ (hyWin (some (heldFrame none))).held = some (heldFrame none) ∧ (advance 999 (window0 (some (heldFrame none)))).now < (hyWin (some (heldFrame none))).closeAt) := by
  (repeat' apply And.intro) <;> decide +kernel

/-! ### Witnesses: ISO and Hymond commands -/

/-- P00 of an ISO protocol, with one handle 1 of a type in a state. -/
def isoPort (proto : Int) (kind : Nat) (st : IsoSt) : State :=
  modIso 0 (fun i => { i with handles := [{ h := 1, kind := kind, st := st, id := [1, 2, 3, 4] }] }) (withCfg [((A.protocol, 0), [proto])])

/-- The handle as the turn of an ISO command finds it: the command's turn comes, its port runs the type, the handle is held. -/
def isoMeets (i : Instr) (op proto kind handleKind : Nat) (st : IsoSt) : Bool :=
  let s := isoPort proto handleKind st
  let u := turn10 i op cq0 s
  turnComes i 10 op cq0 s && isoRuns? u 0 kind
    && isoHandle u 0 1 == some { h := 1, kind := handleKind, st := st, id := [1, 2, 3, 4] }

/-- Of IsoSearchesBegin: the longest raw frame at the highest rate, and each search at its largest operands. -/
theorem test_meets_IsoSearchesBegin :
    isoMeets (.isoRawFrame 10 cq0 2048 2 true true true 2 65535 (zeros 256)) 0x40 2 2 2 .ready = true
      ∧ (isoMeets (.isoRawFrame 10 cq0 8 0 true true false 0 1 [1]) 0x40 1 0 0 .ready = true
        ∧ (0 : Nat) ≤ pAttrN (turn10 (.isoRawFrame 10 cq0 8 0 true true false 0 1 [1]) 0x40 cq0 (isoPort 1 0 .ready)) A.isoMaxRate 0)
      ∧ isoMeets (.isoAAnticoll 10 cq0 16 true) 0x41 1 0 0 .halt = true ∧ isoMeets (.isoBRequest 10 cq0 255 true) 0x46 1 1 1 .halt = true
      ∧ isoMeets (.isoBAnticoll 10 cq0 255 16 16 true true) 0x47 1 1 1 .halt = true
      ∧ isoMeets (.isoVInventory 10 cq0 255 true true true 60 16 (2 ^ 64 - 1)) 0x50 2 2 2 .ready = true := by
  (repeat' apply And.intro) <;> decide +kernel

/-- P00 of an ISO protocol with handle 1 of a type in a state, with CID support or without, beside a handle 2 that still holds CIDs. -/
def isoPort2 (kind : Nat) (st : IsoSt) (cidOk : Bool) (owed : List Nat) : State :=
  modIso 0 (fun i => { i with handles := [{ h := 1, kind := kind, st := st, id := [1, 2, 3, 4], cidOk := cidOk },
    { h := 2, kind := kind, st := .unknown, id := [5, 6, 7, 8], owed := owed }] }) (withCfg [((A.protocol, 0), [1])])

/-- The turn of ISO_A_RATS or ISO_B_ATTRIB there. -/
def cidMeets (i : Instr) (op kind : Nat) (st : IsoSt) (cidOk : Bool) (owed : List Nat) : Bool :=
  let s := isoPort2 kind st cidOk owed
  let u := turn10 i op cq0 s
  turnComes i 10 op cq0 s && isoRuns? u 0 kind && isoHandle u 0 1 == some { h := 1, kind := kind, st := st, id := [1, 2, 3, 4], cidOk := cidOk }

/-- Of IsoTagCommandsBegin, the CIDs: one asked for that is held, none free with and without CID support, and CID 0 without. -/
theorem test_meets_IsoTagCommandsBegin_cids :
    (cidMeets (.isoARats 10 cq0 1 7) 0x44 0 .active true [7] = true
        ∧ pickCid (turn10 (.isoARats 10 cq0 1 7) 0x44 cq0 (isoPort2 0 .active true [7])) 0 7 = none)
      ∧ (cidMeets (.isoBAttrib 10 cq0 1 0xFF 0 0) 0x48 1 .readyDeclared true (List.range 15) = true
        ∧ pickCid (turn10 (.isoBAttrib 10 cq0 1 0xFF 0 0) 0x48 cq0 (isoPort2 1 .readyDeclared true (List.range 15))) 0 0xFF = none)
      ∧ (cidMeets (.isoBAttrib 10 cq0 1 0xFF 0 0) 0x48 1 .readyDeclared false (List.range 15) = true
        ∧ freeCid (turn10 (.isoBAttrib 10 cq0 1 0xFF 0 0) 0x48 cq0 (isoPort2 1 .readyDeclared false (List.range 15))) 0 = none)
      ∧ (cidMeets (.isoBAttrib 10 cq0 1 0xFF 0 0) 0x48 1 .readyDeclared false (List.range 14) = true
        ∧ freeCid (turn10 (.isoBAttrib 10 cq0 1 0xFF 0 0) 0x48 cq0 (isoPort2 1 .readyDeclared false (List.range 14))) 0 ≠ none
        ∧ ∀ y ∈ (port (turn10 (.isoBAttrib 10 cq0 1 0xFF 0 0) 0x48 cq0 (isoPort2 1 .readyDeclared false (List.range 14))) 0).iso.handles,
            y.st = .protocol → y.h = 1) := by
  (repeat' apply And.intro) <;> decide +kernel

/-- Of IsoTagCommandsBegin: each command with its handle in each state that permits it. -/
theorem test_meets_IsoTagCommandsBegin :
    (isoMeets (.isoAActivate 10 cq0 1) 0x42 1 0 0 .halt = true ∧ isoMeets (.isoAActivate 10 cq0 1) 0x42 1 0 0 .unknown = true)
      ∧ isoMeets (.isoAHalt 10 cq0 1) 0x43 1 0 0 .active = true
      ∧ (isoMeets (.isoARats 10 cq0 1 14) 0x44 1 0 0 .active = true ∧ pickCid (turn10 (.isoARats 10 cq0 1 14) 0x44 cq0 (isoPort 1 0 .active)) 0 14 = some 14)
      ∧ isoMeets (.isoPps 10 cq0 1 3 3) 0x45 1 0 0 .protocol = true
      ∧ (isoMeets (.isoBAttrib 10 cq0 1 0xFF 3 3) 0x48 1 1 1 .readyDeclared = true
        ∧ pickCid (turn10 (.isoBAttrib 10 cq0 1 0xFF 3 3) 0x48 cq0 (isoPort 1 1 .readyDeclared)) 0 0xFF = some 0)
      ∧ isoMeets (.isoBHalt 10 cq0 1) 0x49 1 1 1 .readyDeclared = true ∧ isoMeets (.isoApdu 10 cq0 1 (zeros 1344)) 0x4A 1 3 0 .protocol = true
      ∧ isoMeets (.isoDeselect 10 cq0 1) 0x4B 1 3 1 .protocol = true
      ∧ (turnComes (.isoForget 10 cq0 1) 10 0x4C cq0 (isoPort 2 2 .ready) = true
        ∧ pAttr (turn10 (.isoForget 10 cq0 1) 0x4C cq0 (isoPort 2 2 .ready)) A.protocol 0 = 2 ∧ (isoHandle (turn10 (.isoForget 10 cq0 1) 0x4C cq0 (isoPort 2 2 .ready)) 0 1).isSome = true
        ∧ turnComes (.isoForget 10 cq0 0xFFFF) 10 0x4C cq0 (isoPort 1 0 .protocol) = true
        ∧ pAttr (turn10 (.isoForget 10 cq0 0xFFFF) 0x4C cq0 (isoPort 1 0 .protocol)) A.protocol 0 = 1)
      ∧ (isoMeets (.isoVCommand 10 cq0 1 0x20 false true false 0 []) 0x51 2 2 2 .ready = true
        ∧ isoMeets (.isoVCommand 10 cq0 1 0xFF true true true 7 (zeros 256)) 0x51 2 2 2 .selected = true
        ∧ isoMeets (.isoVCommand 10 cq0 1 0x2C true true true 7 []) 0x51 2 2 2 .quiet = true)
      ∧ (isoMeets (.isoVSelect 10 cq0 1) 0x52 2 2 2 .ready = true ∧ isoMeets (.isoVSelect 10 cq0 1) 0x52 2 2 2 .unknown = true)
      ∧ isoMeets (.isoVQuiet 10 cq0 1) 0x53 2 2 2 .selected = true ∧ isoMeets (.isoVResetReady 10 cq0 1) 0x54 2 2 2 .unknown = true := by
  (repeat' apply And.intro) <;> decide +kernel

/-- Of IsoFrameIsPrepared. -/
theorem test_meets_IsoFrameIsPrepared :
    0 < busy0.ports.length ∧ (port busy0 0).task = some busyTask ∧ ({ stage := .rats, handle := 1 } : IsoCmd).stage = .rats := by decide +kernel

/-- Tags in a state: known from a header alone, with an identifier, and with a descriptor that declares every mode and feature or D1 and U1 alone. -/
def bare (st : HySt) : HyHandle := { h := 1, st := st }
def named (st : HySt) : HyHandle := { h := 1, st := st, ident := some (zeros 16) }
def declared (modes : Nat) (st : HySt) : HyHandle :=
  { h := 1, st := st, ident := some (zeros 16), desc := some ([0, 0, b8 modes, b8 modes, 10, 10, 0, 0, 4, 2, 6] ++ zeros 5) }

/-- P00 of the Hymond protocol with such a tag. -/
def hyWith (x : HyHandle) : State := withPort fun y => { y with hy := { y.hy with handles := [x] } }

/-- A Hymond command to handle 1 whose turn comes, with what its checks say. -/
def hyMeets (i : Instr) (op : Nat) (x : HyHandle) (bar : Option Nat) (dl : Nat := 0) : Bool :=
  let u := turn10 i op cq0 (hyWith x)
  turnComes i 10 op cq0 (hyWith x) && hyBar u 0 op 1 (resolveDl u 0 dl) (resolveUl u 0 0) == bar && hyHandle u 0 1 == some x

/-- The prefix of a command to handle 1 in the modes of the port. -/
def pre1 : HyPre := ⟨1, 0, 0⟩

/-- Of HymondTagCommandsBegin: the largest reads and writes, both forms of the sealed write, HY_RESYNC to an unknown handle, a tag known from its
header, and each check that bars: a handle not held, a state, a mode the port lacks, a mode and a feature the descriptor lacks. -/
theorem test_meets_HymondTagCommandsBegin :
    hyMeets (.hyRead 10 cq0 pre1 0xFFFF 2047) 0x62 (named .active) none = true ∧ hyMeets (.hyRead 10 cq0 pre1 0 1) 0x62 (bare .heard) none = true
      ∧ hyMeets (.hyWrite 10 cq0 pre1 0 (zeros 1388)) 0x63 (named .heard) none = true
      ∧ hyMeets (.hySealedWrite 10 cq0 pre1 0 0xFFFF (zeros 256)) 0x64 (declared 15 .active) none = true
      ∧ hyMeets (.hySealedWrite 10 cq0 pre1 0 0 (zeros 256)) 0x64 (named .active) none = true
      ∧ hyMeets (.hyPageStatus 10 cq0 pre1 255) 0x65 (named .active) none = true
      ∧ hyMeets (.hyChallenge 10 cq0 pre1 255 (zeros 16)) 0x66 (declared 15 .active) none = true
      ∧ hyMeets (.hyHalt 10 cq0 pre1) 0x67 (named .active) none = true ∧ hyMeets (.hyRelease 10 cq0 pre1) 0x68 (named .active) none = true
      ∧ hyMeets (.hyResync 10 cq0 pre1) 0x69 (bare .unknown) none = true
      ∧ (turnComes (.hyRead 10 cq0 pre1 0 1) 10 0x62 cq0 svc = true ∧ hyHandle (turn10 (.hyRead 10 cq0 pre1 0 1) 0x62 cq0 svc) 0 1 = none)
      ∧ hyMeets (.hyRead 10 cq0 pre1 0 1) 0x62 (named .halted) (some E.hyState) = true
      ∧ hyMeets (.hyRead 10 cq0 pre1 0 1) 0x62 (named .unknown) (some E.hyState) = true
      ∧ hyMeets (.hyRead 10 cq0 ⟨1, 5, 0⟩ 0 1) 0x62 (named .active) (some E.hyMode) 5 = true
      ∧ hyMeets (.hyRead 10 cq0 pre1 0 1) 0x62 (declared 0 .active) (some E.hyMode) = true := by
  (repeat' apply And.intro) <;> decide +kernel

/-- A raw DL_CMD to handle 1, a search, and HY_SET_MAP. -/
def rawCmd : Instr := .hyRawFrame 10 cq0 pre1 1 0 0 (zeros 16)
def rawOpen : Instr := .hyRawFrame 10 cq0 pre1 3 0 0 (zeros 1376)
def setMap1 : Instr := .hySetMap 10 cq0 1 (List.replicate 16 6)
def activateZero (k : Byte) : Instr := .hyActivate 10 cq0 (zeros 15 ++ [k]) true 0 0

/-- The modes of the port are enabled at the turn of a command. -/
def modesMeet (i : Instr) (op : Nat) (s : State) : Bool :=
  let u := turn10 i op cq0 s
  turnComes i 10 op cq0 s && modesOn u 0 (resolveDl u 0 0) (resolveUl u 0 0)

/-- Of HymondSearchesAndLocalCommands, clause by clause. -/
theorem test_meets_HymondSearchesAndLocalCommands :
    modesMeet rawOpen 0x60 svc = true
      ∧ (modesMeet rawCmd 0x60 (hyWith (declared 15 .active)) = true ∧ hyMeets rawCmd 0x60 (declared 15 .active) none = true)
      ∧ (modesMeet rawCmd 0x60 (hyWith (named .active)) = true ∧ hyMeets rawCmd 0x60 (named .active) none = true ∧ (named .active).desc = none)
      ∧ (modesMeet (activateZero 1) 0x61 (hyWith (named .active)) = true
        ∧ ∀ x ∈ (port (turn10 (activateZero 1) 0x61 cq0 (hyWith (named .active))) 0).hy.handles, x.ident ≠ some (fit 16 (zeros 15 ++ [1])))
      ∧ (modesMeet (activateZero 0) 0x61 (hyWith (declared 15 .halted)) = true
        ∧ ((port (turn10 (activateZero 0) 0x61 cq0 (hyWith (declared 15 .halted))) 0).hy.handles.find? fun x => x.ident == some (fit 16 (zeros 16)))
          = some (declared 15 .halted)
        ∧ (declared 15 .halted).desc.all (fun d => let u := turn10 (activateZero 0) 0x61 cq0 (hyWith (declared 15 .halted))
            descAllows d (resolveDl u 0 0) (resolveUl u 0 0) 0x61) = true)
      ∧ modesMeet (.hyTreeSearch 10 cq0 127 255 true (zeros 16)) 0x6B svc = true
      ∧ turnComes (.hyForget 10 cq0 0xFFFF) 10 0x6A cq0 svc = true
      ∧ (turnComes (.hyForget 10 cq0 1) 10 0x6A cq0 (hyWith (named .unknown)) = true
        ∧ (hyHandle (turn10 (.hyForget 10 cq0 1) 0x6A cq0 (hyWith (named .unknown))) 0 1).isSome = true)
      ∧ (turnComes (.hyForget 10 cq0 1) 10 0x6A cq0 svc = true ∧ hyHandle (turn10 (.hyForget 10 cq0 1) 0x6A cq0 svc) 0 1 = none)
      ∧ (hyMeets setMap1 0x6C (declared 15 .active) none = true ∧ (declared 15 .active).desc.isSome = true)
      ∧ (hyMeets setMap1 0x6C (bare .heard) none = true ∧ modesMeet setMap1 0x6C (hyWith (bare .heard)) = true) := by
  (repeat' apply And.intro) <;> decide +kernel

/-! ### Witnesses: Harvest, Prism, Lens, Z8, the receive chain -/

/-- P00 on ON_REQUEST, alone and with a pass and a HARVEST_START that waits; on STANDING with its grid due at tick 100; with a pass that runs. -/
def onRequest0 : State := withCfg [((A.hvMode, 0), [1])]
def standing0 : State := modTimer (tC 0) (fun c => { c with armed := true, mode := 1, action := 0x08, fire := 100, period := 27120 })
  (withCfg [((A.hvMode, 0), [2])])
def startWaits0 : State := modPort 0 (fun x => { x with pass := some { hdr := none, since := 0, stage := .yielding }, starts := [cq0] }) onRequest0
def passing0 : State := withPort fun x => { x with pass := some { hdr := none, since := 0 } }

/-- An entry of the inventory table with P63 as its best port, heard at tick 0, in a table whose entries age after 100 ms. -/
def tableEntry : InvEntry := { ident := zeros 16, proto := 3, cls := zeros 8, ports := 2 ^ 63, best := 63, hearings := 1, strength := -6000, first := 0,
                               latest := 0, owner := 0, modules := [], charged := 63, heardAt := 0, localMax := -6000,
                               top := (-6000, 63) }
def withTable : State := { withCfg [((A.hvTableAgeMs, 0xFFFF), [100])] with inv := [(4095, tableEntry)] }
def withTwo : State := { withTable with inv := [(0, tableEntry), (4095, tableEntry)] }

/-- Of HarvestAndItsTable: also an entry that reaches its age at the last tick. -/
theorem test_meets_HarvestAndItsTable :
    (turnComes (.harvestStart 10 cq0) 10 0x80 cq0 onRequest0 = true ∧ hvAllowed (turn10 (.harvestStart 10 cq0) 0x80 cq0 onRequest0) 0 = true)
      ∧ (mayPass (turn10 (.harvestStart 10 cq0) 0x80 cq0 onRequest0) 0 = true
        ∧ (port (turn10 (.harvestStart 10 cq0) 0x80 cq0 onRequest0) 0).starts = [])
      ∧ (turnComes (.harvestStart 10 cq0) 10 0x80 cq0 startWaits0 = true ∧ hvAllowed (turn10 (.harvestStart 10 cq0) 0x80 cq0 startWaits0) 0 = true
        ∧ (port (turn10 (.harvestStart 10 cq0) 0x80 cq0 startWaits0) 0).starts ≠ [])
      ∧ (turnComes (.harvestStart 10 cq0) 10 0x80 cq0 svc = true ∧ hvAllowed (turn10 (.harvestStart 10 cq0) 0x80 cq0 svc) 0 = false)
      ∧ (overtakesNow (.harvestStop 10 cq0) 10 0x81 cq0 svc = true ∧ (port (ahead (.harvestStop 10 cq0) 10 0 svc) 0).pass = none)
      ∧ (overtakesNow (.harvestStop 10 cq0) 10 0x81 cq0 passing0 = true ∧ (port (ahead (.harvestStop 10 cq0) 10 0 passing0) 0).pass ≠ none)
      ∧ (pAttr standing0 A.hvMode 0 = 2 ∧ standing0.mod.st = .service ∧ (timer standing0 (tC 0)).armed = true
        ∧ (timer standing0 (tC 0)).action = 0x08 ∧ (timer standing0 (tC 0)).fire ≤ (advance 100 standing0).now
        ∧ (port standing0 0).pass = none ∧ (port standing0 0).starts = [] ∧ hvAllowed standing0 0 = true
        ∧ standing0.link.hostLost = false ∧ standing0.mod.dozeHdr = none)
      ∧ turnComes (.harvestClear 10 sq0 (2 ^ 63)) 10 0x82 sq0 withTable = true
      ∧ (turnComes (.harvestReadTable 10 sq0 4095 1) 10 0x83 sq0 withTable = true
        ∧ ((turn10 (.harvestReadTable 10 sq0 4095 1) 0x83 sq0 withTable).inv.filter fun e => e.1 ≥ 4095).length ≤ 1)
      ∧ (turnComes (.harvestReadTable 10 sq0 0 1) 10 0x83 sq0 withTwo = true
        ∧ 1 < ((turn10 (.harvestReadTable 10 sq0 0 1) 0x83 sq0 withTwo).inv.filter fun e => e.1 ≥ 0).length
        ∧ (((turn10 (.harvestReadTable 10 sq0 0 1) 0x83 sq0 withTwo).inv.filter fun e => e.1 ≥ 0).take 1).getLast? = some (0, tableEntry))
      ∧ (mAttrN withTable A.hvTableAgeMs ≠ 0 ∧ tableEntry.heardAt + msT 100 ≤ (advance 2712000 withTable).now) := by
  (repeat' apply And.intro) <;> decide +kernel

/-- Every slice in LISTEN with its lock. -/
def tuned (s : State) : State := { s with slices := s.slices.map fun x => { x with st := .listen, target := .listen, locked := true } }

/-- P00 leads a Prism set of P00 and P01 with two vectors, its slices ready or not; P00 with Lens, between pulses and confirming, and ready for a
pulse; P00 with Z8. -/
def prism0 : State := withCfg [((A.prismMembers, 0), [3]), ((A.prismVectorCount, 0), [2])]
def lens0 (confirming : Bool) : State := modPort 0 (fun x => { x with lens := { x.lens with confirming := confirming } })
  (modTimer (tC 0) (fun c => { c with armed := true, mode := 1, action := 0x09, fire := 100, period := 1356000 }) (withCfg [((A.lensEnable, 0), [1])]))
def z80 (present : Bool) : State := modPort 0 (fun x => { x with z8 := { x.z8 with present := present } })
  (withCfg [((A.z8Enable, 0), [1]), ((A.z8Wake, 0), [0])])

/-- The same with P00's own blanking in force until tick 100. -/
def z8Blanked : State := modPort 0 (fun x => { x with z8 := { x.z8 with blankUntil := 100 } }) (z80 true)

/-- Of PrismLensAndZ8: also a level at the threshold that has stood exactly as long as port.z8.min_us asks. -/
theorem test_meets_PrismLensAndZ8 :
    (turnComes (.prismVector 10 cq0 1) 10 0x89 cq0 prism0 = true ∧ members (turn10 (.prismVector 10 cq0 1) 0x89 cq0 prism0) 0 ≠ []
        ∧ 1 < pAttrN (turn10 (.prismVector 10 cq0 1) 0x89 cq0 prism0) A.prismVectorCount 0 ∧ atBoundary (turn10 (.prismVector 10 cq0 1) 0x89 cq0 prism0) 0 = true
        ∧ 0 < (turn10 (.prismVector 10 cq0 1) 0x89 cq0 prism0).ports.length)
      ∧ (turnComes (.prismCalibrate 10 cq0) 10 0x88 cq0 (tuned prism0) = true ∧ members (turn10 (.prismCalibrate 10 cq0) 0x88 cq0 (tuned prism0)) 0 ≠ []
        ∧ notReady (turn10 (.prismCalibrate 10 cq0) 0x88 cq0 (tuned prism0)) 0 = false
        ∧ interlocked (turn10 (.prismCalibrate 10 cq0) 0x88 cq0 (tuned prism0)) = false
        ∧ reserveWithheld (turn10 (.prismCalibrate 10 cq0) 0x88 cq0 (tuned prism0)) = false)
      ∧ (turnComes (.prismCalibrate 10 cq0) 10 0x88 cq0 prism0 = true ∧ members (turn10 (.prismCalibrate 10 cq0) 0x88 cq0 prism0) 0 ≠ []
        ∧ notReady (turn10 (.prismCalibrate 10 cq0) 0x88 cq0 prism0) 0 = true
        ∧ interlocked (turn10 (.prismCalibrate 10 cq0) 0x88 cq0 prism0) = false ∧ reserveWithheld (turn10 (.prismCalibrate 10 cq0) 0x88 cq0 prism0) = false)
      ∧ (turnComes (.lensBaseline 10 cq0) 10 0x90 cq0 (lens0 false) = true ∧ pAttr (turn10 (.lensBaseline 10 cq0) 0x90 cq0 (lens0 false)) A.lensEnable 0 ≠ 0
        ∧ (port (turn10 (.lensBaseline 10 cq0) 0x90 cq0 (lens0 false)) 0).lens.confirming = false)
      ∧ (turnComes (.lensMeasure 10 cq0) 10 0x91 cq0 (lens0 false) = true ∧ (port (turn10 (.lensMeasure 10 cq0) 0x91 cq0 (lens0 false)) 0).radio.phase = .off
        ∧ pAttr (turn10 (.lensMeasure 10 cq0) 0x91 cq0 (lens0 false)) A.lensEnable 0 ≠ 0 ∧ offRun (turn10 (.lensMeasure 10 cq0) 0x91 cq0 (lens0 false)) 0 = false
        ∧ notReady (turn10 (.lensMeasure 10 cq0) 0x91 cq0 (lens0 false)) 0 = true
        ∧ turnComes (.lensMeasure 10 cq0) 10 0x91 cq0 (tuned (lens0 false)) = true
        ∧ notReady (turn10 (.lensMeasure 10 cq0) 0x91 cq0 (tuned (lens0 false))) 0 = false
        ∧ (port (turn10 (.lensMeasure 10 cq0) 0x91 cq0 (tuned (lens0 false))) 0).radio.phase = .off
        ∧ interlocked (turn10 (.lensMeasure 10 cq0) 0x91 cq0 (tuned (lens0 false))) = false
        ∧ reserveWithheld (turn10 (.lensMeasure 10 cq0) 0x91 cq0 (tuned (lens0 false))) = false
        ∧ interlocked (turn10 (.lensMeasure 10 cq0) 0x91 cq0 (lens0 false)) = false ∧ reserveWithheld (turn10 (.lensMeasure 10 cq0) 0x91 cq0 (lens0 false)) = false)
      ∧ (lensRuns (lens0 false) 0 = true ∧ timerDue (advance 100 (lens0 false)) (tC 0) = true ∧ (timer (lens0 false) (tC 0)).action = 0x09
        ∧ (port (lens0 false) 0).lens.confirming = false ∧ lensRuns (lens0 true) 0 = true
        ∧ timerDue (advance 100 (lens0 true)) (tC 0) = true ∧ (port (lens0 true) 0).lens.confirming = true)
      ∧ ((z80 false).mod.st = .service ∧ blankEnd (advance (usT 200) (z80 false)) 0 = some 0 ∧ pAttr (z80 false) A.z8Enable 0 ≠ 0
        ∧ pAttr (z80 false) A.z8Wake 0 = 0 ∧ (port (z80 false) 0).z8.present = false ∧ pAttrN (z80 false) A.z8ThresholdMv 0 ≤ 100
        ∧ max 0 0 + usT (pAttrN (z80 false) A.z8MinUs 0) ≤ (advance (usT 200) (z80 false)).now)
      ∧ ((z80 true).mod.st = .service ∧ (port (z80 true) 0).z8.present = true ∧ blankEnd (advance 10 (z80 true)) 0 = some 0
        ∧ (port z8Blanked 0).z8.present = true ∧ blankEnd (advance 99 z8Blanked) 0 = some 100 ∧ (99 : Nat) < 100) := by
  (repeat' apply And.intro) <;> decide +kernel

/-- A header of mode H1, type 9 and length 0, and its check; one whose length is too great for a Hymond frame; an ISO window. -/
def goodHeader : BitVec 48 := BitVec.ofNat 48 (1 * 2 ^ 45 + 1 * 2 ^ 8 + 9)
def isoWin (k : Option Held) : Window := ⟨0x00, true, 30, 0, 1000, false, k, false, 0, [], none⟩
def isoWindow0 (floor : Option Int) : State :=
  modPort 0 (fun x => { x with air := { x.air with win := some (isoWin none) }, rx := { x.rx with noiseField := floor } }) fieldUp0

/-- Of FramesAreFound: syncs at the limits of the port, a header that passes and one that does not, energies at 9 dB and just below. -/
theorem test_meets_FramesAreFound :
    ((port (window0 none) 0).air.win = some (hyWin none) ∧ (advance 1000 (window0 none)).now ≤ (hyWin none).closeAt ∧ 0x10 ≤ (hyWin none).mode ∧ (hyWin none).held = none
        ∧ (false = true ↔ (hyWin none).mode = 0x14) ∧ pAttrN (window0 none) A.rxSyncErrors 0 ≤ pAttrN (window0 none) A.rxSyncErrors 0
        ∧ pAttrN (window0 none) A.rxSyncThreshold 0 ≤ pAttrN (window0 none) A.rxSyncThreshold 0)
      ∧ ((port (window0 (some (heldFrame none))) 0).air.win = some (hyWin (some (heldFrame none))) ∧ (heldFrame none).header = none
        ∧ (crc16 (le 6 goodHeader.toNat)) < 2 ^ 16 ∧ headerError (advance 10 (window0 (some (heldFrame none)))) 0 goodHeader.toNat = none
        ∧ (BitVec.ofNat 16 (crc16 (le 6 goodHeader.toNat))).toNat = crc16 (le 6 goodHeader.toNat)
        ∧ (BitVec.ofNat 16 (crc16 (le 6 goodHeader.toNat) + 1)).toNat ≠ crc16 (le 6 goodHeader.toNat)
        ∧ 0 < (window0 (some (heldFrame none))).ports.length ∧ (advance 999 (window0 (some (heldFrame none)))).now < (hyWin (some (heldFrame none))).closeAt
        ∧ (port (window0 (some (heldFrame none))) 0).task = none ∧ 0x10 ≤ (hyWin (some (heldFrame none))).mode)
      ∧ ((port (isoWindow0 none) 0).air.win = some (isoWin none) ∧ (advance 1000 (isoWindow0 none)).now ≤ (isoWin none).closeAt ∧ (isoWin none).held = none
        ∧ (isoWin none).mode < 0x10 ∧ (port (isoWindow0 none) 0).rx.noiseField = none
        ∧ (port (isoWindow0 (some (-8000))) 0).rx.noiseField = some (-8000) ∧ ((-8000 : Int) + 900 ≤ -7100) ∧ ((-7101 : Int) < -8000 + 900)
        ∧ (isoWin none).fast = true) := by
  (repeat' apply And.intro) <;> decide +kernel

/-- Of FramesAreJudged: a frame held with its header, windows at and before their end, payloads that pass and that do not. -/
theorem test_meets_FramesAreJudged :
    ((port (window0 (some (heldFrame (some goodHeader.toNat)))) 0).air.win = some (hyWin (some (heldFrame (some goodHeader.toNat))))
        ∧ hyVerdict goodHeader.toNat (.hymond [] (crc32c (le 6 goodHeader.toNat))) = some (0, .hymond goodHeader.toNat [] 0)
        ∧ 0x10 ≤ (hyWin (some (heldFrame (some goodHeader.toNat)))).mode
        ∧ hyVerdict (4 * 2 ^ 45 + 9) (.hymond [] (crc32c (le 6 (4 * 2 ^ 45 + 9)))) = some (0, .hymond (4 * 2 ^ 45 + 9) [] 0))
      ∧ ((port (window0 none) 0).air.win = some (hyWin none) ∧ (hyWin none).held = none ∧ (hyWin none).closeAt ≤ (advance 1000 (window0 none)).now
        ∧ (advance 999 (window0 none)).now < (hyWin none).closeAt)
      ∧ ((port (window0 (some (heldFrame none))) 0).air.win = some (hyWin (some (heldFrame none)))
        ∧ (hyWin (some (heldFrame none))).held.isSome = true)
      ∧ (([] : Bytes).length = hLen goodHeader.toNat ∧ 9 ≤ hType goodHeader.toNat ∧ hType goodHeader.toNat ≤ 11
        ∧ hType (goodHeader.toNat - 1) < 9 ∧ ¬ (([0] : Bytes).length = hLen goodHeader.toNat)) := by
  (repeat' apply And.intro) <;> decide +kernel

/-! ### Witnesses: cluster and security -/

/-- Trellis on, LOCK 1, a plan of 32 bytes staged, and awaited at frame 5. -/
def staged : State := { withCfg [((A.clusterTrellisEnable, 0xFFFF), [1])] with
  time := { lock := 1, everLocked := true }, cluster := { staged := some ⟨7, 32, [(0, zeros 32)]⟩ } }
def awaited : State := { staged with cluster := { staged.cluster with pending := some (7, 5000000, sq3) } }

/-- The same with LOCK 0, without holdover and in its last tick. -/
def timeless (hold : Option Nat) : State := { awaited with time := { lock := 0, everLocked := true, holdUntil := hold } }

/-- Of PlansCalibrationAndImport, the plans: a chunk that ends with the longest plan, a chunk of another plan, an activation, a frame and its eve, the
time lost. -/
theorem test_meets_PlansCalibrationAndImport_plans :
    (turnComes (.planLoad 10 sq3 7 82204 82200 [1, 2, 3, 4]) 10 0xA0 sq3 staged = true ∧ 82200 + [1, 2, 3, 4].length ≤ 82204
        ∧ (turn10 (.planLoad 10 sq3 7 82204 82200 [1, 2, 3, 4]) 0xA0 sq3 staged).cluster.staged = some ⟨7, 32, [(0, zeros 32)]⟩)
      ∧ (turnComes (.planActivate 10 sq3 7 5000000) 10 0xA1 sq3 staged = true
        ∧ (turn10 (.planActivate 10 sq3 7 5000000) 0xA1 sq3 staged).cluster.pending = none)
      ∧ turnComes (.clusterStatus 10 sq3) 10 0xA2 sq3 svc = true
      ∧ (awaited.cluster.pending = some (7, 5000000, sq3) ∧ (advance 135599 awaited).now < tickOf (advance 135599 awaited) 5000000
        ∧ tickOf (advance 135600 awaited) 5000000 ≤ (advance 135600 awaited).now ∧ awaited.time.lock ≠ 0
        ∧ awaited.cluster.staged.bind Staged.bytes = some (zeros 32))
      ∧ (turnComes (.planLoad 10 sq3 8 4 0 (zeros 4)) 10 0xA0 sq3 staged = true ∧ 0 + (zeros 4).length ≤ 4
        ∧ (turn10 (.planLoad 10 sq3 8 4 0 (zeros 4)) 0xA0 sq3 staged).cluster.staged = some ⟨7, 32, [(0, zeros 32)]⟩ ∧ (7 : Nat) ≠ 8
        ∧ (turn10 (.planLoad 10 sq3 8 4 0 (zeros 4)) 0xA0 sq3 staged).cluster.pending = none)
      ∧ ((timeless (some 135600)).cluster.pending = some (7, 5000000, sq3) ∧ (timeless (some 135600)).time.lock = 0
        ∧ tickOf (advance 135600 (timeless (some 135600))) 5000000 ≤ (advance 135600 (timeless (some 135600))).now
        ∧ (timeless (some 135600)).time.holdUntil = some 135600 ∧ (timeless none).time.holdUntil = none) := by
  (repeat' apply And.intro) <;> decide +kernel

/-- LOCK 1 without a plan; a tone of P00, granted or not, and a CAL_LISTEN of P00 that run from 1 ms to 2 ms. -/
def locked : State := { svc with time := { lock := 1, everLocked := true } }
def toning (granted : Bool) : State := withPort fun x => { x with tone := some ⟨sq3, 3, 1000000, 1000, granted, (0, 0)⟩ }
def hearing : State := { locked with cluster := { listens := [⟨sq3, 1, 1000000, 1000, 5, 6⟩] } }

/-- A deduplication record. -/
def dedup : DedupRec := ⟨zeros 16, 3, 5, 6, -6000, 1000⟩

/-- Of PlansCalibrationAndImport, the rest: a tone and a CAL_LISTEN at the earliest time, their ends at the tick, an import. -/
theorem test_meets_PlansCalibrationAndImport_rest :
    (turnComes (.calTone 10 sq3 0 3 1000 1000368 10000) 10 0xA3 sq3 locked = true
        ∧ ts (turn10 (.calTone 10 sq3 0 3 1000 1000368 10000) 0xA3 sq3 locked) + 1000000 ≤ ((1000368 : Nat) : Int) ∧ (turn10 (.calTone 10 sq3 0 3 1000 1000368 10000) 0xA3 sq3 locked).time.lock ≠ 0
        ∧ hasField (turn10 (.calTone 10 sq3 0 3 1000 1000368 10000) 0xA3 sq3 locked) 0 = false ∧ (port (turn10 (.calTone 10 sq3 0 3 1000 1000368 10000) 0xA3 sq3 locked) 0).tone = none
        ∧ bit (mAttrN (turn10 (.calTone 10 sq3 0 3 1000 1000368 10000) 0xA3 sq3 locked) A.moduleTxChannelMask) 3 = true ∧ planGives (turn10 (.calTone 10 sq3 0 3 1000 1000368 10000) 0xA3 sq3 locked) 0 3 1000368 10000 = true
        ∧ (turn10 (.calTone 10 sq3 0 3 1000 1000368 10000) 0xA3 sq3 locked).cluster.clashes = [] ∧ interlocked (turn10 (.calTone 10 sq3 0 3 1000 1000368 10000) 0xA3 sq3 locked) = false)
      ∧ ((port (toning true) 0).tone = some ⟨sq3, 3, 1000000, 1000, true, (0, 0)⟩ ∧ (port (toning false) 0).tone = some ⟨sq3, 3, 1000000, 1000, false, (0, 0)⟩
        ∧ tickOf (advance 54240 (toning true)) (1000000 + 1000 * 1000) ≤ (advance 54240 (toning true)).now
        ∧ tickOf (advance 54240 (toning false)) (1000000 + 1000 * 1000) ≤ (advance 54240 (toning false)).now ∧ hasField (toning true) 0 = false)
      ∧ (turnComes (.calListen 10 sq3 (2 ^ 63) 1000368 10000 63 63) 10 0xA4 sq3 locked = true
        ∧ ts (turn10 (.calListen 10 sq3 (2 ^ 63) 1000368 10000 63 63) 0xA4 sq3 locked) + 1000000 ≤ ((1000368 : Nat) : Int)
        ∧ ∀ q ∈ portsOf (2 ^ 63), hasField (turn10 (.calListen 10 sq3 (2 ^ 63) 1000368 10000 63 63) 0xA4 sq3 locked) q = false)
      ∧ (hearing.cluster.listens = [⟨sq3, 1, 1000000, 1000, 5, 6⟩] ∧ [(-9001 : Int)].length = (portsOf 1).length
        ∧ tickOf (advance 54240 hearing) (1000000 + 1000 * 1000) ≤ (advance 54240 hearing).now)
      ∧ (turnComes (.dedupImport 10 sq3 (List.replicate 40 dedup)) 10 0xA5 sq3 locked = true
        ∧ (turn10 (.dedupImport 10 sq3 (List.replicate 40 dedup)) 0xA5 sq3 locked).cluster.clashes = []) := by
  (repeat' apply And.intro) <;> decide +kernel

/-- Casks of 128 bits of FACTORY for either invoker: 1 wraps, 2 encrypts and may be wrapped, 3 decrypts, 4 derives, 5 attests, 6 has lost its
parent. -/
def attrOf (use : Nat) : Nat := 2 ^ use + 2 ^ 20 + 2 ^ 21 + 2 ^ 24 + 1
def caskOf (attr : Nat) : Cask := { live := true, key := zeros 16, attr := attr }
def withCasks : State := { svc with nvm := { svc.nvm with sec := { casks :=
  [(1, caskOf (attrOf 10)), (2, caskOf (attrOf 8 + 2 ^ 16)), (3, caskOf (attrOf 9)), (4, caskOf (attrOf 11)), (5, caskOf (attrOf 8 + 2 ^ 17)),
   (6, { caskOf (attrOf 8) with parent := 9, gen := 1 })] } } }

/-- Of CasksAreMadeAndFilled: each command at the last cask, and an EMPTY and a LIVE cask to destroy. -/
theorem test_meets_CasksAreMadeAndFilled :
    turnComes (.caskInfo 10 sq1 1023) 10 0xC0 sq1 withCasks = true
      ∧ (turnComes (.caskImport 10 sq1 1023 1 (attrOf 8) (zeros 24)) 10 0xC1 sq1 withCasks = true
        ∧ lifeCycle (turn10 (.caskImport 10 sq1 1023 1 (attrOf 8) (zeros 24)) 0xC1 sq1 withCasks) ≠ 3 ∧ useCheck (turn10 (.caskImport 10 sq1 1023 1 (attrOf 8) (zeros 24)) 0xC1 sq1 withCasks) 1 (bit · useWrap) (some invAdmin) = none
        ∧ caskSt (turn10 (.caskImport 10 sq1 1023 1 (attrOf 8) (zeros 24)) 0xC1 sq1 withCasks) 1023 = .empty ∧ attrGood (attrOf 8) = true
        ∧ (zeros 24).length = keyBits (attrOf 8) / 8 + 8)
      ∧ (turnComes (.caskGenerate 10 sq1 1023 (keyBits (attrOf 8)) (attrOf 8)) 10 0xC2 sq1 withCasks = true
        ∧ caskSt (turn10 (.caskGenerate 10 sq1 1023 (keyBits (attrOf 8)) (attrOf 8)) 0xC2 sq1 withCasks) 1023 = .empty)
      ∧ (turnComes (.caskDerive 10 sq1 1023 4 (attrOf 8) (zeros 64) (zeros 64)) 10 0xC3 sq1 withCasks = true
        ∧ useCheck (turn10 (.caskDerive 10 sq1 1023 4 (attrOf 8) (zeros 64) (zeros 64)) 0xC3 sq1 withCasks) 4 (bit · useDerive) (some invAdmin) = none
        ∧ field (attrOf 8) 25 24 &&& field (((caskAt (turn10 (.caskDerive 10 sq1 1023 4 (attrOf 8) (zeros 64) (zeros 64)) 0xC3 sq1 withCasks) 4).map (·.attr)).getD 0) 25 24 = field (attrOf 8) 25 24
        ∧ depthOf (turn10 (.caskDerive 10 sq1 1023 4 (attrOf 8) (zeros 64) (zeros 64)) 0xC3 sq1 withCasks) 8 4 < 4)
      ∧ (turnComes (.caskDestroy 10 sq1 1023) 10 0xC4 sq1 withCasks = true ∧ caskSt (turn10 (.caskDestroy 10 sq1 1023) 0xC4 sq1 withCasks) 1023 = .empty)
      ∧ (turnComes (.caskDestroy 10 sq1 1) 10 0xC4 sq1 withCasks = true ∧ caskSt (turn10 (.caskDestroy 10 sq1 1) 0xC4 sq1 withCasks) 1 ≠ .empty)
      ∧ turnComes (.caskList 10 sq1) 10 0xCD sq1 withCasks = true := by
  (repeat' apply And.intro) <;> decide +kernel

/-- Of DestroyingACask. -/
theorem test_meets_DestroyingACask :
    turnComes (.caskDestroy 10 sq1 1) 10 0xC4 sq1 withCasks = true
      ∧ List.Pairwise (fun a z => a.1 < z.1) (turn10 (.caskDestroy 10 sq1 1) 0xC4 sq1 withCasks).nvm.sec.casks
      ∧ caskSt (turn10 (.caskDestroy 10 sq1 1) 0xC4 sq1 withCasks) 1023 = .empty := by
  (repeat' apply And.intro) <;> decide +kernel

/-- Casks in FIELD. -/
def casksInField (st : Bool) : State := { withCasks with nvm := { withCasks.nvm with sec := { withCasks.nvm.sec with field := true, retired := st } } }

/-- Of CasksAreUsed: every use at its largest data; each check of R490, and a cask that passes them in FIELD. -/
theorem test_meets_CasksAreUsed :
    (turnComes (.caskEncrypt 10 sq1 2 2 (zeros 16) (zeros 1024)) 10 0xC5 sq1 withCasks = true
        ∧ useCheck (turn10 (.caskEncrypt 10 sq1 2 2 (zeros 16) (zeros 1024)) 0xC5 sq1 withCasks) 2 (fun a => bit a useEncrypt && !bit a bitAttest) (some (invOf sq1)) = none)
      ∧ (turnComes (.caskEncrypt 10 sq1 2 3 (zeros 16) (zeros 1)) 10 0xC5 sq1 withCasks = true ∧ (∀ z ∈ zeros 16, z = 0)
        ∧ turnComes (.caskEncrypt 10 sq1 2 3 (zeros 15 ++ [1]) (zeros 1)) 10 0xC5 sq1 withCasks = true ∧ (∃ z ∈ zeros 15 ++ [1], z ≠ 0))
      ∧ (turnComes (.caskDecrypt 10 cq0 3 1 (zeros 16) (zeros 1024)) 10 0xC6 cq0 withCasks = true
        ∧ useCheck (turn10 (.caskDecrypt 10 cq0 3 1 (zeros 16) (zeros 1024)) 0xC6 cq0 withCasks) 3 (bit · useDecrypt) (some (invOf cq0)) = none)
      ∧ (turnComes (.caskWrap 10 sq1 1 2) 10 0xC7 sq1 withCasks = true
        ∧ useCheck (turn10 (.caskWrap 10 sq1 1 2) 0xC7 sq1 withCasks) 1 (bit · useWrap) (some invAdmin) = none
        ∧ useCheck (turn10 (.caskWrap 10 sq1 1 2) 0xC7 sq1 withCasks) 2 (bit · bitExportable) none = none)
      ∧ (turnComes (.attest 10 sq1 5 (zeros 16)) 10 0xC8 sq1 withCasks = true
        ∧ useCheck (turn10 (.attest 10 sq1 5 (zeros 16)) 0xC8 sq1 withCasks) 5 (fun a => bit a useEncrypt && bit a bitAttest) (some invAdmin) = none)
      ∧ (caskAt withCasks 1 = some (caskOf (attrOf 10)) ∧ caskSt withCasks 1 = .live ∧ bit (attrOf 10) useEncrypt = false
        ∧ bit (attrOf 10) useWrap = true ∧ bit (attrOf 10) invFirmware = false ∧ bit (attrOf 10) invAdmin = true
        ∧ (caskAt withCasks 6).isSome = true ∧ caskSt withCasks 6 = .revoked
        ∧ caskSt { withCasks with nvm := { withCasks.nvm with sec := { casks := [(1, { caskOf 1 with live := false })] } } } 1 = .empty)
      ∧ (lifeCycle (casksInField true) = 3 ∧ caskSt (casksInField true) 1 = .live ∧ lifeCycle (casksInField false) = 2
        ∧ bit (attrOf 10 + 2 ^ 25) lcField = true) := by
  (repeat' apply And.intro) <;> decide +kernel

/-- A change of the life cycle whose erasure has ended, to FIELD and to RETIRED. -/
def changing (retired : Bool) : State :=
  { svc with cellar := { change := some (some sq1, 0xC9, 1) }, nvm := { svc.nvm with sec := { svc.nvm.sec with field := true, retired := retired } } }

/-- Of LifeCycleOnlyGoesForward: FACTORY to FIELD and to RETIRED, FIELD to RETIRED, a wrong word, an order that goes back, DEBUG_OPEN. -/
theorem test_meets_LifeCycleOnlyGoesForward :
    (turnComes (.lifecycleSet 10 sq1 2 0x5A4A1C5E) 10 0xC9 sq1 withCasks = true ∧ lifeCycle (turn10 (.lifecycleSet 10 sq1 2 0x5A4A1C5E) 0xC9 sq1 withCasks) = 1)
      ∧ turnComes (.lifecycleSet 10 sq1 3 0x5A4A1C5E) 10 0xC9 sq1 withCasks = true
      ∧ (turnComes (.lifecycleSet 10 sq1 3 0x5A4A1C5E) 10 0xC9 sq1 (casksInField false) = true
        ∧ lifeCycle (turn10 (.lifecycleSet 10 sq1 3 0x5A4A1C5E) 0xC9 sq1 (casksInField false)) = 2)
      ∧ (turnComes (.lifecycleSet 10 sq1 2 0x5A4A1C5F) 10 0xC9 sq1 withCasks = true ∧ 0x5A4A1C5F ≠ 0x5A4A1C5E
        ∧ turnComes (.lifecycleSet 10 sq1 1 0x5A4A1C5E) 10 0xC9 sq1 withCasks = true)
      ∧ (turnComes (.debugOpenSet 10 sq1 0x5A4ADB60) 10 0xCA sq1 withCasks = true ∧ (turn10 (.debugOpenSet 10 sq1 0x5A4ADB60) 0xCA sq1 withCasks).nvm.sec.debugOpen = false)
      ∧ ((changing false).cellar.change = some (some sq1, 0xC9, 1) ∧ (changing false).mod.st ≠ .doze)
      ∧ ((changing true).cellar.change = some (some sq1, 0xC9, 1) ∧ (changing true).mod.st ≠ .doze ∧ (changing true).nvm.sec.retired = true)
      ∧ (turnComes (.debugOpenSet 10 sq1 0x5A4ADB61) 10 0xCA sq1 withCasks = true ∧ 0x5A4ADB61 ≠ 0x5A4ADB60) := by
  (repeat' apply And.intro) <;> decide +kernel

/-- A tag with two key slots, the sealed write and challenges, held on P00 of a module with casks, and one heard by its header alone; the first with a
running CRED_WRITE. -/
def keyTag : HyHandle := { h := 1, st := .active, ident := some (zeros 16), desc := some ([0, 0, 15, 15, 10, 10, 0, 0, 4, 2, 6] ++ zeros 5) }
def withTag : State := modPort 0 (fun x => { x with hy := { x.hy with handles := [keyTag] } }) withCasks
def bareTag : HyHandle := { h := 1, st := .active }
def withBare : State := modPort 0 (fun x => { x with hy := { x.hy with handles := [bareTag] } }) withCasks
def credCmd : HyCmd := { stage := .credGen, handle := 1, dl := 1, ul := 1, cask := 4, slot := 1, format := 1, addr := 1 }
def writing : State := modPort 0 (fun x => { x with task := some { hdr := cq0, op := 0xCB, proc := .hy credCmd } }) withTag

/-- The module of the tag with a transport cask, for a wrapped page. -/
def wrapping : State := { modPort 0 (fun x => { x with hy := { x.hy with handles := [keyTag] } }) (withCfg [((A.secCredTransportCask, 0xFFFF), [7])]) with
  nvm := { svc.nvm with sec := { casks := [(4, caskOf (attrOf 11)), (7, caskOf (attrOf 11 + 2 ^ invFirmware))] } } }

/-- A CRED_WRITE of a wrapped page and a CRED_VERIFY. -/
def credWrap : Instr := .credWrite 10 cq0 1 4 1 0x11
def credCheck1 : Instr := .credVerify 10 cq0 1 4 1

/-- Of CredentialsAreWrittenAndVerified: the last slot but one of the tag, unwrapped and wrapped, and a tag known by its header. -/
theorem test_meets_CredentialsAreWrittenAndVerified :
    (turnComes (.credWrite 10 cq0 1 4 1 1) 10 0xCB cq0 withTag = true ∧ hyHandle (turn10 (.credWrite 10 cq0 1 4 1 1) 0xCB cq0 withTag) 0 1 = some keyTag
        ∧ modesOn (turn10 (.credWrite 10 cq0 1 4 1 1) 0xCB cq0 withTag) 0 (resolveDl (turn10 (.credWrite 10 cq0 1 4 1 1) 0xCB cq0 withTag) 0 0) (resolveUl (turn10 (.credWrite 10 cq0 1 4 1 1) 0xCB cq0 withTag) 0 0) = true
        ∧ (∀ y, keyTag.desc = some y →
          descAllows y (resolveDl (turn10 (.credWrite 10 cq0 1 4 1 1) 0xCB cq0 withTag) 0 0) (resolveUl (turn10 (.credWrite 10 cq0 1 4 1 1) 0xCB cq0 withTag) 0 0) 0xCB = true ∧ 1 < dKeys y) ∧ wrappedFormat 1 = false ∧ credCheck (turn10 (.credWrite 10 cq0 1 4 1 1) 0xCB cq0 withTag) 0xCB 4 1 = none)
      ∧ (turnComes (.credWrite 10 cq0 1 4 1 1) 10 0xCB cq0 withBare = true ∧ hyHandle (turn10 (.credWrite 10 cq0 1 4 1 1) 0xCB cq0 withBare) 0 1 = some bareTag
        ∧ bareTag.ident = none ∧ bareTag.desc = none ∧ bareTag.st = .active)
      ∧ (turnComes (.credVerify 10 cq0 1 4 1) 10 0xCC cq0 withTag = true
        ∧ hyBar (turn10 (.credVerify 10 cq0 1 4 1) 0xCC cq0 withTag) 0 0xCC 1 (resolveDl (turn10 (.credVerify 10 cq0 1 4 1) 0xCC cq0 withTag) 0 0) (resolveUl (turn10 (.credVerify 10 cq0 1 4 1) 0xCC cq0 withTag) 0 0) = none
        ∧ hyHandle (turn10 (.credVerify 10 cq0 1 4 1) 0xCC cq0 withTag) 0 1 = some keyTag ∧ keyTag.ident = some (zeros 16)
        ∧ credCheck (turn10 (.credVerify 10 cq0 1 4 1) 0xCC cq0 withTag) 0xCC 4 0 = none)
      ∧ (turnComes credWrap 10 0xCB cq0 wrapping = true ∧ hyHandle (turn10 credWrap 0xCB cq0 wrapping) 0 1 = some keyTag
        ∧ mAttrN (turn10 credWrap 0xCB cq0 wrapping) A.secCredTransportCask ≠ 0xFFFF ∧ credCheck (turn10 credWrap 0xCB cq0 wrapping) 0xCB 4 0x11 = none)
      ∧ (turnComes credCheck1 10 0xCC cq0 withBare = true ∧ hyHandle (turn10 credCheck1 0xCC cq0 withBare) 0 1 = some bareTag
        ∧ hyBar (turn10 credCheck1 0xCC cq0 withBare) 0 0xCC 1 (resolveDl (turn10 credCheck1 0xCC cq0 withBare) 0 0)
            (resolveUl (turn10 credCheck1 0xCC cq0 withBare) 0 0) = none
        ∧ credCheck (turn10 credCheck1 0xCC cq0 withBare) 0xCC 4 0 = none)
      ∧ ((port writing 0).task = some { hdr := cq0, op := 0xCB, proc := .hy credCmd } ∧ credCmd.stage = .credGen ∧ (port writing 0).secBuf = none
        ∧ writing.cellar.change = none ∧ writing.mod.storeOk = true ∧ credRevoked writing 0xCB credCmd = none) := by
  (repeat' apply And.intro) <;> decide +kernel

/-! ### Witnesses: diagnostics, sparing, events -/

/-- Capture buffer 7 and trigger 7 enabled; buffer 7 armed for 16 samples. -/
def capturing (armed : Bool) : State := { withCfg [((A.diagCapEnable, 7), [1]), ((A.diagTrigMode, 7), [1])] with
  diag := { arms := List.replicate 7 none ++ [if armed then some ⟨sq4, 0, 4, 0x17, 16, 16⟩ else none] } }

/-- Of DiagnosticsAndCaptures. -/
theorem test_meets_DiagnosticsAndCaptures :
    turnComes (.selfTest 10 sq4 0xFF) 10 0xE0 sq4 svc = true ∧ turnComes (.spareStatus 10 sq4) 10 0xE5 sq4 svc = true
      ∧ turnComes (.wearRead 10 sq4 12 255 64) 10 0xE6 sq4 svc = true ∧ turnComes (.eventLogRead 10 sq4 0xFFFF 20) 10 0xE7 sq4 svc = true
      ∧ (turnComes (.countersClear 10 sq4 (2 ^ 63) true) 10 0xE8 sq4 svc = true ∧ turnComes (.countersClear 10 sq4 0 false) 10 0xE8 sq4 svc = true
        ∧ bit (2 ^ 63) 63 = true)
      ∧ (turnComes (.captureArm 10 sq4 7 63 6 0x17 16384 16384) 10 0xE1 sq4 (capturing false) = true
        ∧ capEnabled (turn10 (.captureArm 10 sq4 7 63 6 0x17 16384 16384) 0xE1 sq4 (capturing false)) 7 = true ∧ trigEnabled (turn10 (.captureArm 10 sq4 7 63 6 0x17 16384 16384) 0xE1 sq4 (capturing false)) (0x17 - 0x10) = true
        ∧ nth (turn10 (.captureArm 10 sq4 7 63 6 0x17 16384 16384) 0xE1 sq4 (capturing false)).diag.arms 7 none = none)
      ∧ (nth (capturing true).diag.arms 7 none = some ⟨sq4, 0, 4, 0x17, 16, 16⟩
        ∧ (List.replicate 16 ((0, 0) : Cpx)).length = (⟨sq4, 0, 4, 0x17, 16, 16⟩ : CapArm).samples ∧ 10 ≤ (advance 10 (capturing true)).now)
      ∧ (turnComes (.captureRead 10 sq4 7 0 64) 10 0xE2 sq4 (capturing false) = true
        ∧ capEnabled (turn10 (.captureRead 10 sq4 7 0 64) 0xE2 sq4 (capturing false)) 7 = true)
      ∧ (turnComes (.triggerArm 10 sq4 7 1000 50) 10 0xE3 sq4 (capturing false) = true
        ∧ trigEnabled (turn10 (.triggerArm 10 sq4 7 1000 50) 0xE3 sq4 (capturing false)) 7 = true) := by
  (repeat' apply And.intro) <;> decide +kernel

/-- A swap of the slice of P00 that is planned; one that is prepared, at the end of its deferral. -/
def planned (ready : Bool) : State := { svc with spares := { swaps := [{ kind := 1, inst := 0, prepared := ready, deferAt := 100 }] } }
def spent : State := { svc with nvm := { svc.nvm with faultMap := [(1, 64, 255)] } }

/-- Of SwapsArePlanned: with a spare and with none left, at the tick of the deferral, monitors at and below their thresholds. -/
theorem test_meets_SwapsArePlanned :
    (turnComes (.swapRequest 10 sq4 1 0) 10 0xE4 sq4 svc = true ∧ swapOf (turn10 (.swapRequest 10 sq4 1 0) 0xE4 sq4 svc) 1 0 = none
        ∧ canServe (turn10 (.swapRequest 10 sq4 1 0) 0xE4 sq4 svc) 1 0 = true)
      ∧ (turnComes (.swapRequest 10 sq4 1 0) 10 0xE4 sq4 spent = true ∧ swapOf (turn10 (.swapRequest 10 sq4 1 0) 0xE4 sq4 spent) 1 0 = none
        ∧ canServe (turn10 (.swapRequest 10 sq4 1 0) 0xE4 sq4 spent) 1 0 = false)
      ∧ (swapOf (planned false) 1 0 = some { kind := 1, inst := 0, deferAt := 100 } ∧ (1 : Nat) ≠ 3)
      ∧ (swapOf (planned true) 1 0 = some { kind := 1, inst := 0, prepared := true, deferAt := 100 } ∧ 100 ≤ (advance 100 (planned true)).now)
      ∧ (trips 1 1499 = false ∧ wearFaults 1 1499 = false ∧ trips 1 1500 = true ∧ wearFaults 1 1500 = false ∧ svc.mod.st = .service
        ∧ wearHeard (advance 10 svc) 1 71 1500 = true ∧ trips 7 10 = true ∧ wearHeard (advance 10 svc) 7 63 10 = true
        ∧ wearFaults 1 3000 = true ∧ trips 1 3000 = true ∧ wearHeard (advance 10 svc) 1 71 3000 = true ∧ trips 12 1 = false ∧ wearFaults 10 1 = true
        ∧ wearHeard (advance 10 svc) 10 0 1 = true ∧ trips 10 1 = false
        ∧ trips 8 8 = true ∧ wearHeard (advance 10 svc) 8 9 8 = true ∧ wearFaults 12 1 = true ∧ wearHeard (advance 10 svc) 12 255 1 = true) := by
  (repeat' apply And.intro) <;> decide +kernel

/-- Of SwapsTakePlace: a planned swap of a slice without field, an emergency, the daily test at its tick, an engine that serves P63. -/
theorem test_meets_SwapsTakePlace :
    (swapReady (advance 10 (planned true)) { kind := 1, inst := 0, prepared := true, deferAt := 100 } = true
        ∧ candidates (advance 10 (planned true)) 1 0 = [64])
      ∧ (svc.mod.st = .service ∧ works (advance 10 svc) 2 63 = true ∧ swapOf (advance 10 svc) 2 63 = none
        ∧ candidates (endFault 2 63 (advance 10 svc)) 2 63 = [64, 65, 66, 67])
      ∧ 7 < 8 ∧ svc.spares.testAt ≤ (advance 10 svc).now
      ∧ (portServed svc 2 63 = some 63 ∧ 63 < svc.ports.length ∧ 63 < svc.spares.portEngine.length) := by
  (repeat' apply And.intro) <;> decide +kernel

/-- SQ2 with a given number of cells taken, and folding or not. -/
def sq2At (cells : Nat) (folding : Bool) : State := { svc with
  outRings := upd svc.outRings sq2 fun r => { r with items := List.replicate cells ⟨0, [0]⟩ }, ev := { folding := folding } }

/-- Of EventsAreLoggedAndFolded: SQ2 at 239, 240, 255 and 256 cells for events that are kept and that are not; at 192 and 193 for EV_LOST. -/
theorem test_meets_EventsAreLoggedAndFolded :
    (fitsOut (sq2At 239 false) sq2 (evItem Ev.wear (evBody 0 0 0xFF [])) = true ∧ evKept Ev.wear = false ∧ (sq2At 239 false).ev.folding = false
        ∧ (outRing (sq2At 239 false) sq2).level < 240)
      ∧ (fitsOut (sq2At 255 true) sq2 (evItem Ev.state (evBody 0 0 0xFF [])) = true ∧ evKept Ev.state = true)
      ∧ (fitsOut (sq2At 256 true) sq2 (evItem Ev.state (evBody 0 0 0xFF [])) = false)
      ∧ (evKept Ev.wear = false ∧ 240 ≤ (outRing (sq2At 240 false) sq2).level ∧ (sq2At 192 true).ev.folding = true)
      ∧ ((outRing (sq2At 192 true) sq2).level ≤ 192 ∧ 192 < (outRing (sq2At 193 true) sq2).level) := by
  (repeat' apply And.intro) <;> decide +kernel

/-! ### Witnesses: the host link -/

/-- A module with a cable and no session; the session's host, and another. -/
def noSession : State := { svc with link := { speed := 2 } }
def host : Src := ⟨5, 6⟩
def other : Src := ⟨7, 8⟩

/-- Of SessionsCreditAndReplay: HELLO without a session, from its host, from another one at the last tick of its 2 s; records of both;
a limit at the end of the window. -/
theorem test_meets_SessionsCreditAndReplay :
    (cableOpen noSession = true ∧ noSession.moduleId ≠ 0xFF ∧ noSession.link.session = none)
      ∧ (cableOpen svc = true ∧ svc.moduleId ≠ 0xFF ∧ svc.link.session = some ⟨host, 99⟩ ∧ (⟨host, 99⟩ : Session).src = host
        ∧ (⟨host, 99⟩ : Session).src ≠ other ∧ (advance 54239999 svc).now < svc.link.lastValid + msT 2000)
      ∧ (fromSession svc host = true ∧ fromSession svc other = false)
      ∧ ((0 : Nat) < 65536 ∧ takeLimit 0 32767 ≠ 0) := by
  (repeat' apply And.intro) <;> decide +kernel

/-- The address and the port on which the module listens for the host. -/
def ours : Src := ⟨linkLocal svc, svc.link.udpPort⟩

/-- A session with credit for every ring, and a NOP in a frame; the frame with another version, and with a wrong check. -/
def open_ : State := { svc with link := { svc.link with rxLimit := List.replicate 72 128, txLimit := List.replicate 72 128 } }
def nopItem : Bytes := itemOf 0 (.nop 0 sq0 [1, 2, 3, 4])
def nopFrame (queue seq : Nat) : Bytes := frameBytes 0 queue 0 seq 128 0 0 nopItem
def goodFrame (x : Bytes) : Bool :=
  let hd := readHead x
  20 ≤ x.length && num x 0 2 == 0x5A4A && x.length == 20 + hd.len && hd.len ≤ 1408
    && decide (crc32c (x.take (16 + hd.len)) = BitVec.ofNat 32 (num x (16 + hd.len) 4))

/-- Of HostFramesAreChecked: a datagram of 19 bytes, a frame of a queue that does not exist, of a stranger, a fresh one and its duplicate. -/
theorem test_meets_HostFramesAreChecked :
    cableOpen open_ = true ∧ (zeros 19).length < 20
      ∧ (ours.port = open_.link.udpPort ∧ ownAddr (advance 10 open_) ours.addr = true
        ∧ ownAddr (advance 10 open_) (ours.addr + 1) = false)
      ∧ (goodFrame (nopFrame 0x48 0) = true ∧ headError (advance 10 open_) (readHead (nopFrame 0x48 0)) = some E.queue)
      ∧ (goodFrame (nopFrame 0x40 0) = true ∧ headError (advance 10 open_) (readHead (nopFrame 0x40 0)) = none
        ∧ (readHead (nopFrame 0x40 0)).queue ≠ 0xFF ∧ fromSession open_ other = false ∧ fromSession open_ host = true)
      ∧ (let hd := readHead (nopFrame 0x40 0)
        let w := heard (takeCredit hd.queue hd.limit (advance 10 open_))
        queueOpen w hd.queue = true ∧ seqVerdict w.link hd.queue hd.seq hd.alive = .fresh
          ∧ splitItems (hd.len + 1) (slice (nopFrame 0x40 0) 16 hd.len) = some [nopItem]
          ∧ creditAllows (nth w.link.rxLimit hd.queue 0) (nth w.link.rxCells hd.queue 0) (frameCells [nopItem]) = true
          ∧ frameCells [nopItem] ≤ freeIn w hd.queue)
      ∧ (let hd := readHead (nopFrame 0x40 65535)
        let w := heard (takeCredit hd.queue hd.limit (advance 10 open_))
        queueOpen w hd.queue = true ∧ seqVerdict w.link hd.queue hd.seq hd.alive = .duplicate) := by
  (repeat' apply And.intro) <;> decide +kernel

/-- Of SequenceNumbersAreJudged: the last sequence of the window, and one outside it. -/
theorem test_meets_SequenceNumbersAreJudged :
    (svc.link.rxNext < 65536 ∧ (∀ n ∈ svc.link.rxSeen, n < 256) ∧ ∀ a ∈ svc.link.rxAlive, a < 256)
      ∧ seqVerdict svc.link 0 255 0 = .fresh ∧ seqVerdict svc.link 0 255 1 ≠ .duplicate ∧ seqVerdict svc.link 0 255 1 ≠ .outside
      ∧ seqVerdict svc.link 0 256 0 = .outside := by
  (repeat' apply And.intro) <;> decide +kernel

/-- Of FramesReadBack: the largest field values. -/
theorem test_meets_FramesReadBack : 255 < 256 ∧ 65535 < 65536 ∧ (zeros 1408).length < 65536 := by decide +kernel

/-- A link whose timers all fire at tick 100, with a sent frame that times out and an item in P00's response ring. -/
def dataFrame0 : SentFrame := ⟨3, 0x40, 1, 0, nopItem, 1, 0, 0⟩
def timing : State := { svc with
  link := { svc.link with ackDue := some 100, nakDue := some 100, replay := [dataFrame0], resend := [3], txSeq := 4 }
  outRings := upd svc.outRings 71 fun r => { r with items := [⟨0, nopItem⟩], staleAt := some 100 } }

/-- Of LinkTimersAct: every timer at its tick and one tick before. -/
theorem test_meets_LinkTimersAct :
    (timing.link.ackDue = some 100 ∧ timing.link.nakDue = some 100 ∧ 100 ≤ (advance 100 timing).now ∧ (advance 99 timing).now < 100)
      ∧ (timing.link.replay = [dataFrame0]
        ∧ dataFrame0.sentAt + usT (mAttrN timing A.linkRetxTimeoutUs) ≤ (advance (usT (mAttrN timing A.linkRetxTimeoutUs)) timing).now)
      ∧ ((outRing timing 71).staleAt = some 100 ∧ (outRing timing 71).items ≠ [])
      ∧ (cableOpen noSession = true ∧ noSession.link.session = none ∧ noSession.link.announceAt ≤ (advance 0 noSession).now
        ∧ noSession.link.ipv4Mode = 0 ∧ cableOpen svc = true ∧ svc.link.session.isSome = true) := by
  (repeat' apply And.intro) <;> decide +kernel

/-- A control frame that waits; a response in P00's ring whose stale timer has fired. -/
def ctlWaits : State := { svc with link := { svc.link with ctl := [⟨host, [.ack 0]⟩] } }
def dataWaits : State := { open_ with outRings := upd open_.outRings 0 fun r => { r with items := [⟨0, nopItem⟩], staleFired := true } }

/-- A frame of an earlier session that has yet to go again. -/
def oldWaits : State := { open_ with link := { open_.link with old := [dataFrame0] } }

/-- Of LinkTransmitsInOrder. -/
theorem test_meets_LinkTransmitsInOrder :
    (ctlWaits.link.speed ≠ 0 ∧ ctlWaits.mod.st ≠ .powerUp ∧ ctlWaits.mod.resetDue = 0
        ∧ (∀ e ∈ ctlWaits.link.creditDue, (advance 10 ctlWaits).now < e.2) ∧ ctlWaits.link.ctl = [⟨host, [.ack 0]⟩])
      ∧ (timing.link.ctl = [] ∧ timing.link.resend = [3] ∧ (timing.link.replay.find? fun f => f.seq == 3) = some dataFrame0
        ∧ timing.link.session = some ⟨host, 99⟩)
      ∧ (dataWaits.link.speed ≠ 0 ∧ dataWaits.link.ctl = [] ∧ dataWaits.link.resend = [] ∧ dataWaits.link.session = some ⟨host, 99⟩
        ∧ dataWaits.link.txSeq < 65536 ∧ pickRing (latchNoCredit (advance 10 dataWaits)) = some (0, .run [⟨0, nopItem⟩]))
      ∧ (oldWaits.link.speed ≠ 0 ∧ oldWaits.link.ctl = [] ∧ oldWaits.link.resend = [] ∧ oldWaits.link.session = some ⟨host, 99⟩
        ∧ oldWaits.link.txSeq < 65536 ∧ pickRing (latchNoCredit (advance 10 oldWaits)) = some (0x40, .old dataFrame0)) := by
  (repeat' apply And.intro) <;> decide +kernel

/-- A command at the head of the last ring it may stand in; a staged result of P63. -/
def waiting (i : Instr) (q : Nat) : State := { svc with inRings := upd svc.inRings q fun r => { r with items := [.cmd i 1 false] } }
def stagedItem : Item := ⟨0x20, 0, 7, 0, []⟩
def timed : State := withCfg [((A.linkHostTimeoutMs, 0xFFFF), [100])]
def resultWaits : State := { svc with outRings := upd svc.outRings 63 fun r => { r with staging := [stagedItem] } }

/-- P00 while a read of handle 1 waits by R278; a read of the same handle and one of handle 2 stand in its ring. -/
def parked0 : State := modIn 0 (fun r => { r with items := [.cmd (.hyRead 0 cq0 ⟨1, 0, 0⟩ 0 4) 1 false, .cmd (.hyRead 0 cq0 ⟨2, 0, 0⟩ 0 4) 1 false] })
  (withPort fun x => { x with parked := [⟨{ hdr := cq0, op := 0x62, proc := .hy { stage := .single, handle := 1, dl := 1, ul := 1 } }, 100, false⟩] })

/-- The second read runs past the first, and its entry is marked done (R278). -/
theorem test_runs_past :
    ((inRing (itemPopRun 0 parked0) 0).items.map RingEntry.isDone) = [false, true] := by
  decide +kernel

/-- An answer of SQ0 waits for room, so that its supervisor stalls; a command that waited for a commit that has ended. -/
def stalling : State := { svc with outRings := upd svc.outRings 0x40 fun r => { r with waiting := [stagedItem] } }
def heldOver : State := { svc with cfg := { held := [.configDiscard 0 sq0] } }

/-- The command that waited for a commit runs before any other of SQ0 (R427). -/
theorem test_held_first : (itemPopRun 0x40 heldOver).cfg.held = [] := by decide +kernel

/-- Of RingsAndALostHost: a command that runs, one of the busy P00 that waits, one of a wrong queue; the host's last tick and the one before. -/
theorem test_meets_RingsAndALostHost :
    ((waiting (.nop 0 sq4 []) 0x44).mod.st ≠ .powerUp ∧ (waiting (.nop 0 sq4 []) 0x44).mod.resetDue = 0
        ∧ (inRing (waiting (.nop 0 sq4 []) 0x44) 0x44).items = [.cmd (.nop 0 sq4 []) 1 false]
        ∧ cmdHead (.nop 0 sq4 []) = some (0x00, sq4) ∧ canOvertake (waiting (.nop 0 sq4 []) 0x44) 0x44 = false
        ∧ stalled (waiting (.nop 0 sq4 []) 0x44) 0x44 = false ∧ heldReady (waiting (.nop 0 sq4 []) 0x44) 0x44 = false
        ∧ turnOf (beforeTurn 0x44 (advance 10 (waiting (.nop 0 sq4 []) 0x44))) 0x00 0x44 (some (.nop 0 sq4 [])) = .run)
      ∧ stalled stalling 0x40 = true
      ∧ (heldOver.mod.st ≠ .powerUp ∧ heldOver.mod.resetDue = 0 ∧ stalled heldOver 0x40 = false ∧ heldReady heldOver 0x40 = true
        ∧ ∀ e ∈ (inRing heldOver 0x40).items, e.isDone = false)
      ∧ (stalled parked0 0 = false ∧ parked0.mod.st ≠ .powerUp ∧ parked0.mod.resetDue = 0 ∧ (port parked0 0).parked ≠ []
        ∧ (inRing parked0 0).items = [.cmd (.hyRead 0 cq0 ⟨1, 0, 0⟩ 0 4) 1 false, .cmd (.hyRead 0 cq0 ⟨2, 0, 0⟩ 0 4) 1 false]
        ∧ (∀ e ∈ (inRing parked0 0).items, overtaker e = false)
        ∧ parkedBars parked0 0 (some (.hyRead 0 cq0 ⟨1, 0, 0⟩ 0 4)) = true ∧ parkedBars parked0 0 (some (.hyRead 0 cq0 ⟨2, 0, 0⟩ 0 4)) = false
        ∧ cmdHead (.hyRead 0 cq0 ⟨2, 0, 0⟩ 0 4) = some (0x62, cq0)
        ∧ turnOf (beforeTurn 0 (advance 10 parked0)) 0x62 0 (some (.hyRead 0 cq0 ⟨2, 0, 0⟩ 0 4)) = .run)
      ∧ ((∀ e ∈ (inRing (modPort 0 (fun x => { x with task := some busyTask }) (waiting (.fieldOn 0 cq0) 0)) 0).items, overtaker e = false)
        ∧ turnOf (beforeTurn 0 (advance 10 (modPort 0 (fun x => { x with task := some busyTask }) (waiting (.fieldOn 0 cq0) 0)))) 0x20 0
            (some (.fieldOn 0 cq0)) = .wait)
      ∧ (turnOf (beforeTurn 0x44 (advance 10 (waiting (.fieldOn 0 sq4) 0x44))) 0x20 0x44 (some (.fieldOn 0 sq4)) = .fail E.wrongQueue {})
      ∧ ((outRing resultWaits 63).staging = [stagedItem] ∧ (outRing resultWaits 63).waiting = [] ∧ fitsOut resultWaits 63 stagedItem = true)
      ∧ (timed.link.session = some ⟨host, 99⟩ ∧ timed.link.hostLost = false ∧ timed.mod.st ≠ .powerUp ∧ mAttrN timed A.linkHostTimeoutMs ≠ 0
        ∧ timed.link.lastValid + msT (mAttrN timed A.linkHostTimeoutMs) ≤ (advance (msT (mAttrN timed A.linkHostTimeoutMs)) timed).now
        ∧ (advance (msT (mAttrN timed A.linkHostTimeoutMs) - 1) timed).now < timed.link.lastValid + msT (mAttrN timed A.linkHostTimeoutMs)) := by
  (repeat' apply And.intro) <;> decide +kernel

/-- Of LinkAndNeighbours: a change of rate, the second and the third training failure, a clash told before and one not, addresses. -/
theorem test_meets_LinkAndNeighbours :
    (svc.mod.st ≠ .powerUp ∧ (advertOf svc).contains 3 = true ∧ 3 ≠ svc.link.speed)
      ∧ ({ svc.link with trainFails := 1 } : Link).trainFails < 2 ∧ 2 ≤ ({ svc.link with trainFails := 2 } : Link).trainFails
      ∧ (cableOpen svc = true ∧ svc.moduleId ≠ 0xFF ∧ 9 ≠ svc.nvm.mac ∧ svc.cluster.clashes.contains 9 = false
        ∧ ({ clashes := [9] } : Cluster).clashes.contains 9 = true)
      ∧ (zeros 1452).length ≤ 1452
      ∧ ipv4Of { svc with link := { svc.link with ipv4Mode := 2, ipv4Addr := 17, ipv4Len := 24 } } = some (17, 24) := by
  (repeat' apply And.intro) <;> decide +kernel

/-! ### Witnesses: power, reset, start-up, cluster time, the whole machine -/

/-- A lower allocation that waits for the module's draw to fall; a module without supply. -/
def lowering : State := { svc with power := { svc.power with allocPending := some 51000 } }
def loweringAgain : State := { svc with power := { svc.power with allocPending := some (svc.power.allocMw - 1) } }
def unfed : State := { svc with power := { svc.power with failed := true } }

/-- Of SupplyAndAllocation: allocations one mW apart from the present one, and every limit of the voltage with its neighbour. -/
theorem test_meets_SupplyAndAllocation :
    (lldpReaches svc = true ∧ 71299 < svc.power.allocMw ∧ svc.power.allocMw < 71301 ∧ svc.mod.resetDue = 0)
      ∧ (lldpReaches loweringAgain = true ∧ loweringAgain.power.allocPending.isSome = true ∧ 71300 = loweringAgain.power.allocMw ∧ loweringAgain.mod.resetDue = 0)
      ∧ (lowering.power.allocPending = some 51000 ∧ lowering.mod.st ≠ .powerUp ∧ lowering.mod.resetDue = 0 ∧ (51000 : Nat) ≤ 51000 ∧ (50999 : Nat) < 51000)
      ∧ (72000 < 72001 ∧ (39999 < 40000 ∧ 60000 < 60001) ∧ svc.power.failed = false ∧ 1 ≤ svc.mod.resetCause)
      ∧ (unfed.power.failed = true ∧ 0 < unfed.power.rails.length) := by
  (repeat' apply And.intro) <;> decide +kernel

/-- In POWER_UP with VIO enabled and not yet in regulation; with VCORE in regulation; waiting to try again. -/
def raising_ : State := { svc with mod := { svc.mod with st := .powerUp },
                                   power := { rails := [⟨true, true, 0⟩, ⟨true, false, 5⟩] ++ List.replicate 10 ⟨false, false, 0⟩ } }
def upRails : State := { svc with mod := { svc.mod with st := .powerUp } }
def retrying : State := { upRails with power := { upRails.power with retryAt := some 100 } }

/-- Of RailsComeUpInOrder. -/
theorem test_meets_RailsComeUpInOrder :
    (raising_.mod.st = .powerUp ∧ rail raising_ 1 = ⟨true, false, (rail raising_ 1).enAt⟩ ∧ 2 < raising_.power.rails.length
        ∧ (rail raising_ 2).en = false)
      ∧ (upRails.mod.st = .powerUp ∧ (2 : Fin 12).val ≤ 2 ∧ violates (advance 10 upRails) 2 3 = true)
      ∧ (svc.mod.st = .service ∧ violates (advance 10 svc) 2 3 = true ∧ violates (advance 10 svc) 3 3 = true ∧ 2 < (3 : Fin 12).val)
      ∧ (retrying.power.retryAt = some 100 ∧ (advance 99 retrying).now < 100 ∧ 100 ≤ (advance 100 retrying).now ∧ retrying.mod.st = .powerUp) := by
  (repeat' apply And.intro) <;> decide +kernel

/-- In reset with everything met but what is named. -/
def inReset (crystal straps pin : Bool) : State := { upRails with
  mod := { upRails.mod with crystalOk := crystal, strapsOk := straps, inReset := pin }, power := { upRails.power with piMv := 42000 } }

/-- Of ReleaseFromReset: each condition as the last, straps at the ends of their windows, VAUX at 1.5 V and below. -/
theorem test_meets_ReleaseFromReset :
    (∀ c ∈ [(inReset false true false), (inReset true false false), (inReset true true true)],
        c.mod.st = .powerUp ∧ (rail c 0).reg = true ∧ (rail c 1).reg = true ∧ (rail c 2).reg = true ∧ 3 < c.power.rails.length
          ∧ c.power.failed = false ∧ 42000 ≤ c.power.piMv ∧ (rail c 1).en = true ∧ (rail c 2).en = true
          ∧ c.power.retryAt = none)
      ∧ (strapLevel 0 = some 0 ∧ strapLevel 40 = some 0 ∧ strapLevel 41 = none ∧ strapLevel 1090 = some 7)
      ∧ (1500 ≤ ({ vauxMv := 1500 } : Pins).vauxMv ∧ ({ vauxMv := 1499 } : Pins).vauxMv < 1500 ∧ svc.mod.st ≠ .powerUp)
      ∧ (inReset true true true).mod.inReset = true := by
  (repeat' apply And.intro) <;> decide +kernel

/-- In BOOT with VANA in regulation, and an image in one slot or in both, after a number of failed starts; in CAL, before and after the root stands,
with a root check value. -/
def booting (images : List Image) (failed : Nat) : State := { svc with
  mod := { svc.mod with st := .boot }, nvm := { svc.nvm with images := images, failedStarts := failed } }
def inCal (root store done : Bool) (tries : Nat) (check : Bytes) : State := { svc with
  mod := { svc.mod with st := .cal, rootOk := root, storeOk := store, calDone := done }, cellar := { tries := tries }
  nvm := { svc.nvm with sec := { svc.nvm.sec with rootCheck := check } } }

/-- The module delivered with an image in slot A; the same with a copy of it in slot B; with one of which no byte was received. -/
def delivered : List Image := [⟨1, 3, 4, []⟩, {}]
def twice : List Image := [⟨1, 3, 4, []⟩, ⟨1, 2, 4, []⟩]
def opened : List Image := [⟨1, 4, 4, []⟩, ⟨0, 1, 4, []⟩]

/-- Of StartUpReachesService, the image: one that runs in its second start, one that has failed two, none that runs. -/
theorem test_meets_StartUpReachesService_image :
    ((booting delivered 1).mod.st = .boot ∧ (booting delivered 1).mod.holdCause = 0 ∧ (booting delivered 1).power.retryAt = none
        ∧ (rail (booting delivered 1) 3).reg = true ∧ (booting delivered 1).mod.noImage = false
        ∧ imageRuns (advance 10 (booting delivered 1)) (nth (booting delivered 1).nvm.images 0 {}) true = true ∧ (booting delivered 1).nvm.failedStarts < 2)
      ∧ ((booting twice 2).mod.st = .boot ∧ otherSlot (booting twice 2) = 1 ∧ ¬ (booting twice 2).nvm.failedStarts < 2
        ∧ imageRuns (advance 10 (booting twice 2)) (nth (booting twice 2).nvm.images 1 {}) true = true)
      ∧ (imageRuns (advance 10 (booting opened 0)) (nth (booting opened 0).nvm.images 0 {}) true = false
        ∧ imageRuns (advance 10 (booting opened 0)) (nth (booting opened 0).nvm.images 1 {}) true = false ∧ 1500 ≤ (booting opened 0).pins.vauxMv) := by
  (repeat' apply And.intro) <;> decide +kernel

/-- A root check value that no root has: one of 17 bytes. -/
theorem rootCheck_ne (x : Bytes) : rootCheckOf x ≠ zeros 17 := by
  intro h
  have := congrArg List.length h
  simp [rootCheckOf, zeros, List.length_take] at this
  omega

/-- The root of a reading in CAL. -/
def rootAt (tries : Nat) : Bytes := rootFrom (advance 10 (inCal false false false tries [])) 0 (zeros 8192)

/-- Of StartUpReachesService, the root: a reading that gives the root, and one that does not, at its second and at its third try. -/
theorem test_meets_StartUpReachesService_root :
    (rootCheckOf (rootAt 0) = (inCal false false false 0 (rootCheckOf (rootAt 0))).nvm.sec.rootCheck)
      ∧ (rootCheckOf (rootAt 1) ≠ (inCal false false false 1 (zeros 17)).nvm.sec.rootCheck ∧ (inCal false false false 1 (zeros 17)).cellar.tries < 2)
      ∧ (rootCheckOf (rootAt 2) ≠ (inCal false false false 2 (zeros 17)).nvm.sec.rootCheck ∧ (inCal false false false 2 (zeros 17)).cellar.tries = 2
        ∧ candidates (inCal false false false 2 (zeros 17)) 4 (inCal false false false 2 (zeros 17)).spares.secCore = [1])
      ∧ ((inCal false false false 0 []).mod.rootOk = false ∧ (inCal false false false 0 []).mod.st = .cal ∧ svc.mod.st = .service
        ∧ (inCal false false false 0 []).nvm.sec.debugOpen = false ∧ (inCal false false false 0 []).nvm.sec.retired = false) := by
  refine ⟨rfl, ⟨rootCheck_ne _, ?_⟩, ⟨rootCheck_ne _, ?_⟩, ?_⟩ <;> (repeat' apply And.intro) <;> decide +kernel

/-- Of StartUpReachesService, the store and the end of CAL. -/
theorem test_meets_StartUpReachesService_service :
    ((inCal true false true 0 []).mod.rootOk = true ∧ (inCal true false true 0 []).mod.storeOk = false ∧ (inCal true false true 0 []).mod.calDone = true
        ∧ uncovered (inCal true false true 0 []).nvm = false ∧ (inCal true false true 0 []).faults = [] ∧ (inCal true false true 0 []).mod.st = .cal)
      ∧ ((inCal true false false 0 []).mod.calDone = false ∧ (inCal true false false 0 []).mod.storeOk = false) := by
  (repeat' apply And.intro) <;> decide +kernel

/-- INTLK_N asserted; VAUX below 1.5 V; the monitors at a voltage and with a past. -/
def cut : State := { svc with pins := { intlk := true, intlkActs := true } }
def noVaux : State := { svc with pins := { vauxMv := 1499 } }
def vcore (mv : Nat) (low : Option Nat) (above : Nat) : State := { svc with power := { svc.power with vcoreMv := mv, lowSince := low, above810 := above } }
def readings (slow : Nat) : List Nat := List.replicate 7 100 ++ [slow]

/-- Of InterlockAndCoreVoltage: every limit with its neighbour. -/
theorem test_meets_InterlockAndCoreVoltage :
    (svc.mod.st ≠ .powerUp ∧ interlocked svc = false ∧ interlocked cut = true
        ∧ interlocked { cut with pins := { cut.pins with intlk := false, intlkActs := false } } = false ∧ (1000 : Nat) ≤ 1000 ∧ (199 : Nat) < 200)
      ∧ (interlocked noVaux = true ∧ noVaux.pins.intlkActs = false ∧ noVaux.pins.resetN = false ∧ noVaux.mod.st = .service
        ∧ interlocked { noVaux with pins := { noVaux.pins with vauxMv := 1500 } } = false ∧ (1499 : Nat) < 1500)
      ∧ ((slowest (readings 721)).1 = 721 ∧ (vcore 849 none 0).power.vcoreMv < 850 ∧ (slowest (readings 720)).1 = 720
        ∧ (slowest (readings 650)).1 = 650 ∧ (slowest (readings 649)).1 = 649 ∧ (vcore 800 none 0).power.lowSince = none
        ∧ (vcore 800 (some 0) 0).power.lowSince = some 0 ∧ 0 + msT 1 ≤ (advance 27120 (vcore 800 (some 0) 0)).now
        ∧ (slowest (readings 811)).1 = 811 ∧ (vcore 850 none 0).power.vcoreMv = 850 ∧ (vcore 850 none 0).power.above810 = 0
        ∧ (slowest (readings 901)).1 = 901 ∧ (vcore 849 none 0).power.vcoreMv ≠ 850 ∧ (readings 901).length = 8) := by
  (repeat' apply And.intro) <;> decide +kernel

/-- Of VcoreCeilingIsReportedOnce: readings at 810, 811, 900 and 901 ns. -/
theorem test_meets_VcoreCeilingIsReportedOnce :
    (vcore 850 none 0).mod.st ≠ .powerUp ∧ (vcore 850 none 0).power.vcoreMv = 850 ∧ (readings 810).length = 8
      ∧ (slowest (readings 810)).1 ≤ 810 ∧ (810 < (slowest (readings 811)).1 ∧ (slowest (readings 900)).1 ≤ 900)
      ∧ 900 < (slowest (readings 901)).1
      ∧ (∀ k < 8, 810 < nth (readings 811) k 0 → bit (vcore 850 none 128).power.above810 k = true) := by
  (repeat' apply And.intro) <;> decide +kernel

/-- A plan in force of which P00 is stepped, and one without a stepped port; holdover that ends at tick 100; a module on its chain. -/
def steppedPlan : Bytes := le 4 7 ++ [1, 1] ++ le 2 2 ++ zeros 16 ++ zeros 4 ++ [2, 0, 0, 0] ++ le 2 0 ++ [3, 0] ++ le 2 1 ++ [4, 0] ++ zeros 8
def underPlan : State := { withCfg [((A.clusterTrellisEnable, 0xFFFF), [1])] with
  time := { lock := 1, everLocked := true }, cluster := { active := some (7, steppedPlan) } }
def fixedPlan : State := { underPlan with cluster := { active := some (7, zeros 8) } }
def holding_ : State := { svc with time := { everLocked := true, holdUntil := some 100 } }
def onChain (lock apart : Nat) (head : Bool) : State := { withCfg [((A.clusterSyncMode, 0xFFFF), [1])] with
  time := { lock := lock, everLocked := true, edgeAt := some 0, apart := apart, head := head } }

/-- A slave of the clock of MAC 9, and a master; a module whose offset lay out of the limit at tick 0. -/
def slave : State := { svc with time := { role := 2, foreign := [⟨9, 1, 248, 0, 0⟩] } }
def masterOf : State := { svc with time := { role := 1 } }
def wasOut : State := { svc with time := { everLocked := true, outAt := some 0 } }

/-- Of ClusterTimeAndFrames: a frame start and the tick behind it, errors at 1 ms, 3 and 10 ms without an edge, 9 and 10 frames apart. -/
theorem test_meets_ClusterTimeAndFrames :
    (underPlan.mod.st = .service ∧ mAttr underPlan A.clusterTrellisEnable ≠ 0 ∧ (planOf underPlan).isSome = true
        ∧ frameTick (advance 27120 underPlan) = (advance 27120 underPlan).now ∧ frameTick (advance 27121 underPlan) ≠ (advance 27121 underPlan).now
        ∧ stepped underPlan 0 = true ∧ isFollower underPlan 0 = false)
      ∧ (fixedPlan.mod.st = .service ∧ (planOf fixedPlan).isSome = true ∧ frameTick (advance 27120 fixedPlan) = (advance 27120 fixedPlan).now
        ∧ (List.range 64).filter (fun p => stepped (advance 27120 fixedPlan) p && !isFollower (advance 27120 fixedPlan) p) = [])
      ∧ (svc.mod.st ≠ .powerUp ∧ svc.time.lock = 0 ∧ svc.time.everLocked = false ∧ holding_.time.everLocked = true ∧ holding_.time.lock = 0
        ∧ mag (-1000000) ≤ 1000000 ∧ (onChain 1 0 false).time.lock = 1
        ∧ mag 25 ≤ 25 ∧ svc.time.outAt = none ∧ 100 < mag (-101) ∧ (onChain 1 0 false).time.nearAt = none ∧ ¬ (mag 26 ≤ 25)
        ∧ ¬ (100 < mag 100) ∧ (bestForeign (advance 10 { slave with time := { slave.time with lock := 1, everLocked := true } })).isSome = true
        ∧ wasOut.time.outAt = some 0 ∧ 0 + msT 10000 ≤ (advance (msT 10000) wasOut).now)
      ∧ (holding_.time.holdUntil = some 100 ∧ (advance 99 holding_).now < 100 ∧ 100 ≤ (advance 100 holding_).now
        ∧ ∀ p < 64, stepped holding_ p = false)
      ∧ (chained (onChain 2 9 false) = true ∧ (onChain 2 9 false).time.edgeAt = some 0 ∧ msT 3 ≤ (advance (msT 3) (onChain 2 9 false)).now - 0
        ∧ (advance (msT 3) (onChain 2 9 false)).now - 0 < msT 10 ∧ (onChain 2 9 false).time.lock = 2
        ∧ msT 10 ≤ (advance (msT 10) (onChain 1 0 false)).now - 0 ∧ (onChain 1 0 false).time.lock ≠ 2 ∧ (onChain 1 0 false).time.head = false)
      ∧ ((onChain 0 0 false).time.lock = 0 ∧ (onChain 2 8 false).time.apart + 1 < 10 ∧ 10 ≤ (onChain 2 9 false).time.apart + 1
        ∧ 100 < mag ((101000 / 10 * 10 - mAttr (onChain 2 9 false) A.clusterSyncInDelay) / 1000 - (onChain 2 9 false).time.offsetNs)) := by
  (repeat' apply And.intro) <;> decide +kernel

/-- Of TimeMessagesAct. -/
theorem test_meets_TimeMessagesAct :
    (svc.link.speed ≠ 0 ∧ svc.mod.st ≠ .powerUp ∧ svc.mod.resetDue = 0 ∧ 9 ≠ svc.nvm.mac)
      ∧ (syncDue (advance 10 slave) = true ∧ syncDue (advance 10 masterOf) = true
        ∧ syncDue (advance (syncTicks - 1) { svc with time := { svc.time with syncAt := some 0 } }) = false
        ∧ syncDue (advance syncTicks { svc with time := { svc.time with syncAt := some 0 } }) = true) ∧ master (advance 10 slave) = some 9 ∧ masterOf.time.role = 1
      ∧ 1 ≠ mAttrN svc A.clusterPtpDomain ∧ (decideRole (advance 10 slave)).time.role = 2 ∧ (decideRole (advance 10 masterOf)).time.role = 1 := by
  (repeat' apply And.intro) <;> decide +kernel

/-- Of AnswersKeepToTheirQueue: the first and the last ring, a port's and a system queue's. -/
theorem test_meets_AnswersKeepToTheirQueue :
    cq0.q < svc.outRings.length ∧ (⟨71, 0, true⟩ : Hdr).q < svc.outRings.length ∧ ¬ (cq0.quiet = true ∧ (0 : Nat) = 0 ∧ ([] : Bytes) = [])
      ∧ (0 : Nat) ≠ sq2 := by
  (repeat' apply And.intro) <;> decide +kernel

/-- Of FixedBodiesReadBack and CountedBodiesReadBack: the longest bodies of either kind. -/
theorem test_meets_FixedBodiesReadBack :
    (Instr.hySealedWrite 10 cq0 pre1 255 0xFFFF (zeros 256)).wf = true
      ∧ cmdHead (.hySealedWrite 10 cq0 pre1 255 0xFFFF (zeros 256)) = some (0x64, cq0) ∧ counted 0x64 = false := by
  (repeat' apply And.intro) <;> decide +kernel

theorem test_meets_CountedBodiesReadBack :
    (Instr.attrSet 10 sq0 [goodRec, badRec]).wf = true ∧ cmdHead (.attrSet 10 sq0 [goodRec, badRec]) = some (0x04, sq0)
      ∧ counted 0x04 = true := by
  (repeat' apply And.intro) <;> decide +kernel

/-- Of EveryStepKeepsTheShape: a module in SERVICE with a command in front. -/
theorem test_meets_EveryStepKeepsTheShape :
    WellShaped { svc with pending := [.nop 10 sq0 []] } ∧ ∃ t, step { svc with pending := [.nop 10 sq0 []] } = .next t :=
  ⟨by unfold WellShaped; decide +kernel, _, rfl⟩

/-! ### Worked values -/

/-- The spec's own strap example (12, after R569): 604 mV and 750 mV give module ID 37; 622 mV is still level 4. -/
theorem test_strap_example :
    strapLevel 604 = some 4 ∧ strapLevel 750 = some 5 ∧ strapLevel 622 = some 4 ∧ strapLevel 41 = none ∧ strapLevel 1091 = none := by
  decide +kernel

/-- The spec's Press example (02): 26.50 dBm is debited as 447 mW; Table 6-2's 30.00 dBm as 1000 mW. -/
theorem test_press_example : powerMw 2650 = 447 ∧ powerMw 3000 = 1000 := by decide +kernel

/-- The spec's sealed write example (Table 5-12): the length of SHADOW_WRITE and of CORK in D4, of their answers in H3, and CORK's TR. -/
theorem test_sealed_write_example :
    (hyBits 0 (zeros 262)).length * dlBitTicks 4 = 17792 ∧ (hyBits 0 (zeros 11)).length * dlBitTicks 4 = 1728
      ∧ ulTicks 3 1 [] = 3392 ∧ ulTicks 3 7 [] = 3776 ∧ trField (usT 2400) = 0x8000 + 64 ∧ trTicks (0x8000 + 64) = 65536 := by
  decide +kernel

/-- The spec's anticollision example (Table 4-6): the check bytes of its two blanks. -/
theorem test_anticollision_example :
    bccOk [0x3A, 0x71, 0x5C, 0x12, 0x05] = true ∧ bccOk [0x3A, 0x71, 0x5C, 0x92, 0x85] = true
      ∧ bccOk [0x3A, 0x71, 0x5C, 0x92, 0x05] = false := by decide +kernel

/-- The class budgets of Table 7-1. -/
theorem test_class_budgets : classBudget 71300 = 32000 ∧ classBudget 51000 = 20000 ∧ classBudget 50999 = 0 := by decide +kernel

/-- The check values of the nine ASCII digits, as the standards that Table 4-3, R244, R245 and Table 7-6 name publish them. -/
theorem test_check_values :
    crcA (ascii "123456789") = 0xBF05 ∧ crc16 (ascii "123456789") = 0x906E ∧ crc32c (ascii "123456789") = 0xE3069283
      ∧ crc32 (ascii "123456789") = 0xCBF43926 := by decide +kernel

/-- The example of FIPS 197 for a 128-bit key, both ways: the cipher R484 names. -/
theorem test_aes_example :
    let k : Bytes := (List.range 16).map b8
    let x : Bytes := (List.range 16).map fun i => b8 (0x11 * i)
    let y : Bytes := [0x69, 0xC4, 0xE0, 0xD8, 0x6A, 0x7B, 0x04, 0x30, 0xD8, 0xCD, 0xB7, 0x80, 0x70, 0xB4, 0xC5, 0x5A]
    aesEnc k x = y ∧ aesDec k y = x := by decide +kernel

/-- The hash of "abc" (FIPS 180): the hash of HMAC-SHA-256. -/
theorem test_sha_example :
    ofBe (sha256 (ascii "abc")) = 0xBA7816BF8F01CFEA414140DE5DAE2223B00361A396177A9CB410FF61F20015AD := by decide +kernel

end Sys2Proof.Tests
end

section
/-!
SUPPORT. Every operation keeps the parts of the module that are fixed in number (`WellShaped`): one lemma for each, in the model's order.
Here how the shape passes through an expression, and the operations of a port and its protocols.
-/

namespace Sys2Proof.Machine

set_option Elab.async false

variable {s : State}

/-! ### How the shape passes through an expression -/

/-- A state written with the parts of fixed length and the log of another keeps the shape. -/
theorem shape_with {t : State} {xnow : Nat} {xpending : List Instr} {xfree : Nat} {xtimeOff : Int} {xmod : Mod} {xpins : Pins} {xnvm : Nvm}
    {xmoduleId : Nat} {xcfg : ConfigStore} {xlink : Link} {xpress : Press} {xcoupling : List (Nat × Nat × Int)}
    {xfilters : List (Nat × Nat × List Cpx)} {xfaults : List (Nat × Nat)} {xspares : Spares} {xact : Option Activation} {xfwOpen : Bool}
    {xdiag : Diag} {xinv : List (Nat × InvEntry)} {xtime : Time} {xcluster : Cluster} {xcellar : Cellar} {xnoiseJob : Option NoiseJob}
    {xmirrorJob : Option MirrorJob} {xsent : List Sent} {w : Power} {e : Events} (h : WellShaped t)
    (hw : w.rails = t.power.rails := by rfl) (he : e.log = t.ev.log := by rfl) :
    WellShaped
      { now := xnow, pending := xpending, free := xfree, timeOff := xtimeOff, mod := xmod, pins := xpins, power := w, nvm := xnvm,
        moduleId := xmoduleId, cfg := xcfg, link := xlink, inRings := t.inRings, outRings := t.outRings, ev := e, timers := t.timers,
        slices := t.slices, ports := t.ports, press := xpress, coupling := xcoupling, filters := xfilters, faults := xfaults, spares := xspares,
        act := xact, fwOpen := xfwOpen, diag := xdiag, inv := xinv, time := xtime, cluster := xcluster, cellar := xcellar,
        noiseJob := xnoiseJob, mirrorJob := xmirrorJob, sent := xsent } :=
  shape_rec h (congrArg List.length hw) (Nat.le_of_eq (congrArg List.length he))

theorem shape_ports {xs : List Port} (h : WellShaped s) (hl : xs.length = s.ports.length) : WellShaped { s with ports := xs } :=
  ⟨hl.trans h.1, h.2⟩

theorem shape_slices {xs : List Slice} (h : WellShaped s) (hl : xs.length = s.slices.length) : WellShaped { s with slices := xs } :=
  ⟨h.1, hl.trans h.2.1, h.2.2⟩

/-- The power state may change where the rails keep their number. -/
theorem shape_modPower {f : Power → Power} (h : WellShaped s) (hf : ∀ w, (f w).rails.length = w.rails.length := by exact fun _ => rfl) :
    WellShaped (modPower f s) := shape_of_same h rfl rfl rfl rfl rfl (hf _) h.2.2.2.2.2.2

/-- The rails from one on may all change. -/
theorem length_rails_from (i : Nat) (f : Rail → Rail) (xs : List Rail) : (xs.take i ++ (xs.drop i).map f).length = xs.length := by
  rw [List.length_append, List.length_map, ← List.length_append, List.take_append_drop]

theorem shape_fst {α : Type} {r : State × α} {t : State} {a : α} (e : r = (t, a)) (h : WellShaped r.1) : WellShaped t := by
  subst e; exact h

theorem shape_snd {α : Type} {r : α × State} {t : State} {a : α} (e : r = (a, t)) (h : WellShaped r.2) : WellShaped t := by
  subst e; exact h

theorem shape_snd_snd {α β : Type} {r : α × β × State} {t : State} {a : α} {b : β} (e : r = (a, b, t)) (h : WellShaped r.2.2) :
    WellShaped t := by
  subst e; exact h

/-- A fold that carries a value beside the state keeps the shape where each of its steps does. -/
theorem shape_foldl_snd {α β : Type} {f : β × State → α → β × State} (hf : ∀ r x, WellShaped r.2 → WellShaped (f r x).2) (xs : List α)
    {r : β × State} (h : WellShaped r.2) : WellShaped (xs.foldl f r).2 := by
  induction xs generalizing r with
  | nil => exact h
  | cons x xs ih => exact ih (hf r x h)

/-- Where a command waits, it is answered. -/
theorem shape_failSome {o : Option Hdr} {op code : Nat} (h : WellShaped s) :
    WellShaped (match o with | some hd => fail hd op code {} s | none => s) := by
  split
  · exact shape_fail _ _ _ _ h
  · exact h

/-! ### The operations of Machine/Ops -/

theorem shape_respondList {hd : Hdr} {op size : Nat} {recs : List Bytes} (h : WellShaped s) : WellShaped (respondList hd op size recs s) :=
  shape_respondParts _ _ _ h

theorem shape_setGrid {n action fire base period : Nat} (h : WellShaped s) : WellShaped (setGrid n action fire base period s) := shape_modTimer _ _ h
theorem shape_armSoon {n action tick : Nat} (h : WellShaped s) : WellShaped (armSoon n action tick s) := shape_setTimer _ _ _ h
theorem shape_modAir {p : Nat} {f : Air → Air} (h : WellShaped s) : WellShaped (modAir p f s) := shape_modPort _ _ h
theorem shape_modRx {p : Nat} {f : Rx → Rx} (h : WellShaped s) : WellShaped (modRx p f s) := shape_modPort _ _ h
theorem shape_modHy {p : Nat} {f : Hy → Hy} (h : WellShaped s) : WellShaped (modHy p f s) := shape_modPort _ _ h
theorem shape_drawn (h : WellShaped s) : WellShaped (drawn s) := shape_with h

/-! ### The operations of Machine/Cancel -/

theorem shape_adaptSet {damped : Bool} {p : Nat} (h : WellShaped s) : WellShaped (adaptSet damped p s) :=
  shape_ite (fun _ => h) fun _ => shape_foldl (fun _ _ h => shape_modRx h) _ (shape_drawn h)

theorem shape_setQd {p : Nat} {damped : Bool} (h : WellShaped s) : WellShaped (setQd p damped s) :=
  shape_foldl (fun _ _ h => shape_modRadio _ _ h) _ h

theorem shape_freezeRx {p : Nat} (h : WellShaped s) : WellShaped (freezeRx p s) := shape_foldl (fun _ _ h => shape_modRx h) _ (shape_drawn h)

theorem shape_closeRx {p : Nat} (h : WellShaped s) : WellShaped (closeRx p s) := by
  unfold closeRx
  split
  · exact h
  · refine shape_ite (fun _ => shape_adaptSet (shape_modAir (shape_foldl (fun _ _ h => shape_modRx h) _ h))) fun _ => ?_
    exact shape_modAir (shape_foldl (fun _ _ h => shape_modRx h) _ h)

theorem shape_putTaps {a v : Nat} {taps : List Cpx} (h : WellShaped s) : WellShaped (putTaps a v taps s) := shape_with h
theorem shape_trainPair {n a v : Nat} (h : WellShaped s) : WellShaped (trainPair n a v s) := shape_putTaps h

theorem shape_trainFilters {pairs : List (Nat × Nat × Int)} (h : WellShaped s) : WellShaped (trainFilters pairs s) :=
  shape_foldl (fun _ _ h => shape_trainPair h) _ (shape_drawn h)

theorem shape_trackPair {n a v : Nat} (h : WellShaped s) : WellShaped (trackPair n a v s) := shape_with (shape_putTaps h)

theorem shape_trackMirror {p : Nat} (h : WellShaped s) : WellShaped (trackMirror p s) :=
  shape_ite (fun _ => h) fun _ => shape_foldl (fun _ _ h => shape_trackPair h) _ (shape_drawn h)

/-! ### The operations of Machine/TaskOps -/

theorem shape_freeQd {p : Nat} (h : WellShaped s) : WellShaped (freeQd p s) := by
  unfold freeQd
  split
  · exact h
  · exact shape_ite (fun _ => shape_armSoon (shape_modAir h)) fun _ => shape_modAir h

theorem shape_quietAir {p : Nat} (h : WellShaped s) : WellShaped (quietAir p s) := shape_freeQd (shape_disarm _ (shape_closeRx (shape_modAir h)))
theorem shape_modTask {p : Nat} {f : Task → Task} (h : WellShaped s) : WellShaped (modTask p f s) := shape_modPort _ _ h

theorem shape_endTask {p code : Nat} {body : Bytes} (h : WellShaped s) : WellShaped (endTask p code body s) := by
  unfold endTask
  split
  · exact h
  · refine shape_ite (fun _ => shape_quietAir (shape_modPort _ _ h)) fun _ => shape_quietAir ?_
    exact shape_respond _ _ _ _ (shape_foldl (fun _ _ h => shape_respondMore _ _ _ h) _ (shape_modPort _ _ h))

theorem shape_taskOk {p : Nat} {body : Bytes} (h : WellShaped s) : WellShaped (taskOk p body s) := shape_endTask h

theorem shape_taskBytes {p : Nat} {data : Bytes} (h : WellShaped s) : WellShaped (taskBytes p data s) := by
  unfold taskBytes
  split
  · exact h
  · exact shape_ite (fun _ => shape_endTask h) fun _ => shape_endTask (shape_foldl (fun _ _ h => shape_respondMore _ _ _ h) _ h)

theorem shape_taskFail {p code : Nat} {d : Detail} (h : WellShaped s) : WellShaped (taskFail p code d s) := shape_endTask h
theorem shape_setHy {p : Nat} {c : HyCmd} (h : WellShaped s) : WellShaped (setHy p c s) := shape_modTask h

theorem shape_failParked {p code : Nat} {d : Detail} {k : Parked} (h : WellShaped s) : WellShaped (failParked p code d k s) := by
  unfold failParked
  refine shape_ite (fun _ => h) fun _ => shape_respond _ _ _ _ ?_
  exact shape_foldl (fun _ _ h => shape_respondMore _ _ _ h) _ (shape_ite (fun _ => shape_modPort _ _ h) fun _ => h)

theorem shape_stepFail {p code : Nat} {d : Detail} (h : WellShaped s) : WellShaped (stepFail p code d s) := by
  unfold stepFail
  split
  · exact shape_taskFail h
  · exact shape_ite (fun _ => shape_taskFail h) fun _ => shape_taskFail h

theorem shape_modInv {i : Nat} {f : InvEntry → InvEntry} (h : WellShaped s) : WellShaped (modInv i f s) := shape_with h

theorem shape_reportInv {tag p i : Nat} {rx data : Bytes} (h : WellShaped s) : WellShaped (reportInv tag p i rx data s) := by
  unfold reportInv
  split
  · exact h
  · refine shape_modInv ?_
    exact shape_ite (fun _ => shape_sendRecord _ _ _ _ _ _ (shape_sendRecord _ _ _ _ _ _ h)) fun _ => shape_sendRecord _ _ _ _ _ _ h

theorem shape_clearInv {p : Nat} {gone : List HyHandle} (h : WellShaped s) : WellShaped (clearInv p gone s) := shape_with h

theorem shape_noteDesc {p : Nat} {d : Bytes} (h : WellShaped s) : WellShaped (noteDesc p d s) :=
  shape_ite (fun _ => shape_raise _ _ _ (shape_modHy h)) fun _ => shape_modHy h

theorem shape_modPass {p : Nat} {f : HvPass → HvPass} (h : WellShaped s) : WellShaped (modPass p f s) := shape_modPort _ _ h

theorem shape_reportLeft {p : Nat} {x : HvPass} (h : WellShaped s) : WellShaped (reportLeft p x s) := by
  unfold reportLeft
  refine shape_foldl (fun s x h => ?_) _ h
  split
  · exact shape_reportInv h
  · exact h

theorem shape_noteLeft {p : Nat} {x : HvPass} (h : WellShaped s) : WellShaped (noteLeft p x s) := by
  unfold noteLeft
  refine shape_foldl (fun s x h => ?_) _ h
  split
  · exact shape_noteDesc h
  · exact h

theorem shape_finishPass {p code : Nat} {d : Bytes} (h : WellShaped s) : WellShaped (finishPass p code d s) := by
  unfold finishPass
  split
  · exact h
  · refine shape_foldl (fun s x h => ?_) _ ?_
    · exact shape_ok _ _ _ h
    · split
      · refine shape_respond _ _ _ _ ?_
        refine shape_ite (fun _ => shape_quietAir (shape_modPort _ _ (shape_noteLeft (shape_reportLeft h)))) fun _ => ?_
        exact shape_modPort _ _ (shape_noteLeft (shape_reportLeft h))
      · refine shape_sendRecord _ _ _ _ _ _ ?_
        refine shape_ite (fun _ => shape_quietAir (shape_modPort _ _ (shape_noteLeft (shape_reportLeft h)))) fun _ => ?_
        exact shape_modPort _ _ (shape_noteLeft (shape_reportLeft h))

theorem shape_endCmds {p code : Nat} {d : Detail} (h : WellShaped s) : WellShaped (endCmds p code d s) := by
  unfold endCmds
  refine shape_modPort _ _ (shape_foldl (fun s x h => ?_) _ ?_)
  · exact shape_failParked h
  · split
    · exact shape_ite (fun _ => h) fun _ => shape_endTask h
    · exact h

theorem shape_abortWork {p code : Nat} {d : Detail} (h : WellShaped s) : WellShaped (abortWork p code d s) := shape_finishPass (shape_endCmds h)

/-! ### The operations of Machine/AirOps -/

theorem shape_countWear {monitor inst : Nat} (h : WellShaped s) : WellShaped (countWear monitor inst s) := shape_with h
theorem shape_countEngine {p : Nat} (h : WellShaped s) : WellShaped (countEngine p s) := shape_countWear h

theorem shape_armExact {n action fire : Nat} (h : WellShaped s) : WellShaped (armExact n action fire s).1 := by
  unfold armExact
  extract_lets _ _ s1
  have h1 : WellShaped s1 := shape_drawn h
  split
  · exact shape_setTimer _ _ _ h1
  · exact shape_modTimer _ _ h1

theorem shape_armQd {p : Nat} (h : WellShaped s) : WellShaped (armQd p s) := by
  unfold armQd
  split
  · exact h
  · exact shape_armSoon (shape_modAir h)

theorem shape_armedAt {p : Nat} {tx : Tx} {fire : Nat} (h : WellShaped s) : WellShaped (armedAt p tx fire s) :=
  shape_armQd (shape_disarm _ (shape_modAir h))

theorem shape_kick {p : Nat} (h : WellShaped s) : WellShaped (kick p s) := by
  unfold kick
  dsimp only
  split
  · exact h
  · exact shape_ite (fun _ => h) fun _ => shape_armedAt (shape_setTimer _ _ _ h)

theorem shape_sendTx {p : Nat} {tx : Tx} (h : WellShaped s) : WellShaped (sendTx p tx s) := shape_kick (shape_modAir h)

theorem shape_sendTxAt {p : Nat} {tx : Tx} {fire : Nat} (h : WellShaped s) : WellShaped (sendTxAt p tx fire s) := by
  unfold sendTxAt
  refine shape_ite (fun _ => shape_modAir h) fun _ => ?_
  split
  · rename_i e
    exact shape_armedAt (shape_fst e (shape_armExact (shape_modAir h)))
  · rename_i e
    have h := shape_fst e (shape_armExact (shape_modAir h))
    exact shape_stepFail (shape_countEngine h)

theorem shape_openWindow {p : Nat} {tx : Tx} {mode closeAt : Nat} (h : WellShaped s) : WellShaped (openWindow p tx mode closeAt s) :=
  shape_freezeRx (shape_modAir h)

theorem shape_noteLevel {p handle : Nat} {accepted : Bool} {w : Window} {x : Held} {m : RxMeas} (h : WellShaped s) :
    WellShaped (noteLevel p handle accepted w x m s) :=
  shape_ite (fun _ => shape_modRx h) fun _ => shape_ite (fun _ => shape_modRx h) fun _ => h

theorem shape_noteSignal {p handle mode : Nat} {strength : Int} {subPow : List Int} (h : WellShaped s) :
    WellShaped (noteSignal p handle mode strength subPow s) :=
  shape_ite (fun _ => h) fun _ => shape_modRx h

theorem shape_noteFrame {p : Nat} {w : Window} {x : Held} {m : RxMeas} (h : WellShaped s) : WellShaped (noteFrame p w x m s) :=
  shape_noteSignal (shape_modRx h)

theorem shape_loseFrame {p code : Nat} {w : Window} {x : Held} {by_ : Option Int} (h : WellShaped s) : WellShaped (loseFrame p code w x by_ s).2 := by
  unfold loseFrame
  exact shape_ite (fun _ => shape_noteFrame (shape_drawn h)) fun _ => shape_noteLevel (shape_noteFrame (shape_drawn h))

/-! ### The operations of Machine/Casks -/

theorem shape_modSec {f : Sec → Sec} (h : WellShaped s) : WellShaped (modSec f s) := shape_with h
theorem shape_zeroiseBuf {p : Nat} (h : WellShaped s) : WellShaped (zeroiseBuf p s) := shape_modPort _ _ h

/-! ### The operations of Machine/HyOps -/

theorem shape_modHandle {p x : Nat} {f : HyHandle → HyHandle} (h : WellShaped s) : WellShaped (modHandle p x f s) := shape_modHy h
theorem shape_dropHandle {p x : Nat} (h : WellShaped s) : WellShaped (dropHandle p x s) := shape_clearInv (shape_modHy h)
theorem shape_takeHandle {p : Nat} {x : HyHandle} (h : WellShaped s) : WellShaped (takeHandle p x s) := shape_clearInv (shape_modHy h)

theorem shape_addHandle {p : Nat} {x : HyHandle} {t : State} (h : WellShaped s) (e : addHandle p x s = some t) : WellShaped t := by
  unfold addHandle at e
  split at e
  · cases e
  · cases e; exact shape_takeHandle h

theorem shape_hyFail {p code : Nat} {c : HyCmd} {arg1 arg2 : Int} (h : WellShaped s) : WellShaped (hyFail p code c arg1 arg2 s) := shape_stepFail h
theorem shape_hyLose {p : Nat} {c : HyCmd} (h : WellShaped s) : WellShaped (hyLose p c s) := shape_modHandle h

theorem shape_sendHy {p : Nat} {tx : Tx} {fire : Option Nat} (h : WellShaped s) : WellShaped (sendHy p tx fire s) := by
  unfold sendHy
  split
  · exact shape_sendTx h
  · exact shape_sendTxAt h

theorem shape_hyBegin {p : Nat} {c : HyCmd} {fire : Option Nat} (h : WellShaped s) : WellShaped (hyBegin p c fire s) := by
  unfold hyBegin
  split
  · exact h
  · refine shape_ite (fun _ => ?_) fun _ => shape_sendHy (shape_setHy h)
    dsimp only
    split
    · exact shape_hyFail (shape_setHy h)
    · exact shape_sendHy (shape_setHy (shape_modHandle (shape_modRx h)))

theorem shape_hyGo {p : Nat} {c : HyCmd} {stage : HyStage} {base : Nat} (h : WellShaped s) : WellShaped (hyGo p c stage base s) := shape_hyBegin h

theorem shape_treeEnd {p : Nat} {c : HyCmd} (h : WellShaped s) : WellShaped (treeEnd p c s) := by
  unfold treeEnd
  refine shape_ite (fun _ => shape_hyFail (shape_setHy h)) fun _ => ?_
  exact shape_ite (fun _ => shape_hyFail (shape_setHy h)) fun _ => shape_taskOk (shape_setHy h)

theorem shape_treeNext {p : Nat} {c : HyCmd} {fire : Option Nat} (h : WellShaped s) : WellShaped (treeNext p c fire s) := by
  unfold treeNext
  split
  · exact shape_treeEnd h
  · exact shape_ite (fun _ => shape_treeEnd h) fun _ => shape_hyBegin h

theorem shape_treeUnresolved {p : Nat} {c : HyCmd} {base : Nat} (h : WellShaped s) : WellShaped (treeUnresolved p c base s) := shape_treeNext h

theorem shape_hyExhausted {p : Nat} {c : HyCmd} {base : Nat} (h : WellShaped s) : WellShaped (hyExhausted p c base s) := by
  unfold hyExhausted
  split
  · exact shape_treeUnresolved h
  · exact shape_treeUnresolved h
  · exact shape_treeUnresolved (shape_hyLose h)
  · exact shape_hyFail (shape_hyLose h)
  · exact shape_hyFail (shape_hyLose h)
  · exact shape_hyFail (shape_hyLose h)
  · exact shape_hyFail (shape_hyLose h)
  · exact shape_hyFail (shape_hyLose h)

theorem shape_credDrop {p n : Nat} {c : HyCmd} {base : Nat} (h : WellShaped s) : WellShaped (credDrop p n c base s) :=
  shape_ite (fun _ => shape_hyFail h) fun _ => shape_hyGo (shape_zeroiseBuf h)

theorem shape_hyRepeat {p : Nat} {c : HyCmd} {base : Nat} (h : WellShaped s) : WellShaped (hyRepeat p c base s) := by
  unfold hyRepeat
  split
  · exact shape_hyExhausted h
  · exact shape_credDrop h
  · exact shape_ite (fun _ => shape_hyExhausted h) fun _ => shape_sendTxAt (shape_setHy (shape_modHy h))

theorem shape_countBusy {p : Nat} {payload : Bytes} (h : WellShaped s) : WellShaped (countBusy p payload s) :=
  shape_ite (fun _ => shape_modHy h) fun _ => h

theorem shape_hyBusy {p : Nat} {c : HyCmd} {payload : Bytes} (h : WellShaped s) : WellShaped (hyBusy p c payload s) := by
  unfold hyBusy
  split
  · exact h
  · refine shape_ite (fun _ => ?_) fun _ => ?_
    · exact shape_hyFail (shape_ite (fun _ => shape_countBusy h) fun _ => shape_modHandle (shape_countBusy h))
    · refine shape_quietAir ?_
      exact shape_modPort _ _ (shape_ite (fun _ => shape_countBusy h) fun _ => shape_modHandle (shape_countBusy h))

theorem shape_hyStatus {p : Nat} {c : HyCmd} {status : Nat} (h : WellShaped s) : WellShaped (hyStatus p c status s) :=
  shape_ite (fun _ => shape_hyFail (shape_hyLose h)) fun _ => shape_hyFail h

theorem shape_hyLearn {p x : Nat} {payload : Bytes} (h : WellShaped s) : WellShaped (hyLearn p x payload s) := shape_noteDesc (shape_modHandle h)

/-! ### The operations of Machine/HyRun -/

theorem shape_singleDone {p op : Nat} {c : HyCmd} {payload : Bytes} (h : WellShaped s) : WellShaped (singleDone p op c payload s) := by
  unfold singleDone
  split
  · exact shape_taskBytes h
  · exact shape_taskOk h
  · exact shape_taskOk h
  · exact shape_taskOk (shape_modHandle h)
  · exact shape_taskOk (shape_dropHandle h)
  · exact shape_taskOk (shape_hyLearn h)
  · exact shape_taskOk h

theorem shape_corkDone {p : Nat} {c : HyCmd} {status : Nat} {payload : Bytes} {base : Nat} (h : WellShaped s) :
    WellShaped (corkDone p c status payload base s) := by
  unfold corkDone
  refine shape_ite (fun _ => shape_hyGo h) fun _ => shape_ite (fun _ => shape_hyStatus h) fun _ => ?_
  exact shape_ite (fun _ => shape_hyFail h) fun _ => shape_ite (fun _ => shape_hyGo h) fun _ => shape_taskOk h

theorem shape_hyReply {cred : Nat → HyCmd → Bytes → Nat → State → State} {p op : Nat} {c : HyCmd} {payload : Bytes} {base : Nat}
    (hgo : ∀ a b c d t, WellShaped t → WellShaped (cred a b c d t)) (h : WellShaped s) : WellShaped (hyReply cred p op c payload base s) := by
  unfold hyReply
  dsimp only
  split
  · refine shape_ite (fun _ => shape_hyStatus h) fun _ => ?_
    refine shape_ite (fun _ => shape_taskOk (shape_modHandle (shape_hyLearn h))) fun _ => ?_
    refine shape_ite (fun _ => shape_hyFail (shape_hyLearn h)) fun _ => ?_
    refine shape_ite (fun _ => hgo _ _ _ _ _ (shape_hyLearn h)) fun _ => ?_
    exact shape_ite (fun _ => shape_hyGo (shape_hyLearn h)) fun _ => shape_hyGo (shape_hyLearn h)
  · exact shape_ite (fun _ => shape_hyStatus h) fun _ => shape_taskOk (shape_hyLearn h)
  · exact shape_ite (fun _ => shape_hyStatus h) fun _ => shape_taskOk (shape_hyLearn h)
  · exact shape_ite (fun _ => shape_treeUnresolved h) fun _ => shape_treeNext (shape_hyLearn h)
  · exact shape_ite (fun _ => shape_hyStatus h) fun _ => shape_singleDone h
  · exact shape_ite (fun _ => shape_hyStatus h) fun _ => shape_hyGo h
  · exact shape_ite (fun _ => shape_hyStatus h) fun _ => shape_hyGo h
  · exact shape_corkDone h
  · exact shape_ite (fun _ => shape_hyFail (shape_hyLose h)) fun _ => shape_hyFail h
  · exact shape_ite (fun _ => shape_hyFail (shape_hyLose h)) fun _ => shape_hyFail h
  · exact shape_ite (fun _ => shape_hyStatus h) fun _ => shape_ite (fun _ => shape_taskOk h) fun _ => shape_hyFail h
  · exact hgo _ _ _ _ _ h

theorem shape_hyAnnounce {p n : Nat} {c : HyCmd} {payload : Bytes} {strength : Int} {base : Nat} (h : WellShaped s) :
    WellShaped (hyAnnounce p c n payload strength base s) := by
  unfold hyAnnounce
  extract_lets _ _ s1 _ _ _ _ held
  have h1 : WellShaped s1 := shape_noteDesc h
  have hheld : WellShaped (held.getD s1) := by
    cases e : held with
    | none => exact h1
    | some t => exact shape_addHandle h1 e
  have he := shape_ite (c := handleTaken s1 p n = true) (fun _ => h1) fun _ => hheld
  split
  · exact shape_hyRepeat h1
  · split
    · exact shape_ite (fun _ => shape_treeUnresolved he) fun _ => shape_hyFail (shape_setHy he)
    · cases e : held with
      | none => exact shape_hyFail (shape_setHy h1)
      | some t => exact shape_hyGo (shape_addHandle h1 e)

theorem shape_hyTree {p : Nat} {c : HyCmd} {bits : List Bool} {collision : Bool} {base : Nat} (h : WellShaped s) :
    WellShaped (hyTree p c bits collision base s) :=
  shape_ite (fun _ => shape_treeNext h) fun _ => shape_ite (fun _ => shape_hyBegin h) fun _ => shape_hyRepeat h

theorem shape_heardDesc {p : Nat} {c : HyCmd} {header : Nat} {payload : Bytes} (h : WellShaped s) : WellShaped (heardDesc p c header payload s) :=
  shape_ite (fun _ => shape_noteDesc h) fun _ => shape_ite (fun _ => shape_noteDesc h) fun _ => h

theorem shape_countStale {p : Nat} (h : WellShaped s) : WellShaped (countStale p s) := shape_modHy h

theorem shape_rawDone {p : Nat} {c : HyCmd} {out : RxOut} (h : WellShaped s) : WellShaped (rawDone p c out s) := by
  unfold rawDone
  dsimp only
  split
  · refine shape_ite (fun _ => shape_hyFail (shape_countStale h)) fun _ => ?_
    exact shape_taskBytes (shape_ite (fun _ => shape_countBusy h) fun _ => shape_heardDesc h)
  · exact shape_ite (fun _ => shape_hyFail (shape_countStale h)) fun _ => shape_taskBytes h
  · exact shape_hyFail h
  · exact shape_ite (fun _ => shape_taskBytes h) fun _ => shape_hyFail h

theorem shape_hyResult {cred : Nat → HyCmd → Bytes → Nat → State → State} {p op : Nat} {c : HyCmd} {out : RxOut} {base : Nat}
    (hgo : ∀ a b c d t, WellShaped t → WellShaped (cred a b c d t)) (h : WellShaped s) : WellShaped (hyResult cred p op c out base s) := by
  unfold hyResult
  refine shape_ite (fun _ => shape_rawDone h) fun _ => ?_
  split
  · refine shape_ite (fun _ => shape_hyAnnounce h) fun _ => ?_
    split
    · refine shape_ite (fun _ => shape_hyBusy h) fun _ => ?_
      exact shape_hyReply (fun _ _ _ _ _ h => hgo _ _ _ _ _ h) (shape_ite (fun _ => h) fun _ => shape_modHandle h)
    · exact shape_hyRepeat (shape_countStale h)
  · exact shape_ite (fun _ => shape_hyTree h) fun _ => shape_hyRepeat (shape_ite (fun _ => shape_countStale h) fun _ => h)
  · exact shape_ite (fun _ => shape_treeNext h) fun _ => shape_hyRepeat h
  · exact shape_hyRepeat h
  · exact h

/-! ### The operations of Machine/IsoOps -/

theorem shape_modIso {p : Nat} {f : Iso → Iso} (h : WellShaped s) : WellShaped (modIso p f s) := shape_modPort _ _ h
theorem shape_modIsoHandle {p x : Nat} {f : IsoHandle → IsoHandle} (h : WellShaped s) : WellShaped (modIsoHandle p x f s) := shape_modIso h
theorem shape_isoMove {p x : Nat} {st : IsoSt} (h : WellShaped s) : WellShaped (isoMove p x st s) := shape_modIsoHandle h
theorem shape_isoWake {p kind : Nat} (h : WellShaped s) : WellShaped (isoWake p kind s) := shape_modIso h

theorem shape_giveIso {p n : Nat} {x : IsoHandle} {t : State} (h : WellShaped s) (e : giveIso p x s = some (n, t)) : WellShaped t := by
  unfold giveIso at e
  dsimp only at e
  split at e
  · cases e; exact shape_modIsoHandle h
  · split at e
    · cases e
    · cases e; exact shape_modIso h

theorem shape_setIso {p : Nat} {c : IsoCmd} (h : WellShaped s) : WellShaped (setIso p c s) := shape_modTask h

theorem shape_isoSend {p : Nat} {c : IsoCmd} {tx : Tx} {notBefore : Nat} (h : WellShaped s) : WellShaped (isoSend p c tx notBefore s) :=
  shape_kick (shape_modAir (shape_setIso h))

theorem shape_isoFail {p code : Nat} {c : IsoCmd} {arg1 arg2 : Int} (h : WellShaped s) : WellShaped (isoFail p code c arg1 arg2 s) :=
  shape_taskFail (shape_setIso h)

theorem shape_isoBeginAt {p : Nat} {c : IsoCmd} {least : Nat} (h : WellShaped s) : WellShaped (isoBeginAt p c least s) := by
  unfold isoBeginAt
  refine shape_isoSend ?_
  split
  · exact shape_ite (fun _ => shape_isoWake h) fun _ => h
  · exact shape_isoWake h
  · exact shape_ite (fun _ => shape_isoWake h) fun _ => h
  · exact shape_ite (fun _ => shape_isoWake h) fun _ => h
  · exact h

theorem shape_isoBegin {p : Nat} {c : IsoCmd} (h : WellShaped s) : WellShaped (isoBegin p c s) := shape_isoBeginAt h

/-! ### The operations of Machine/IsoRun -/

theorem shape_isoEnd {p : Nat} {c : IsoCmd} (h : WellShaped s) : WellShaped (isoEnd p c s) := by
  unfold isoEnd
  refine shape_ite (fun _ => shape_isoFail h) fun _ => ?_
  exact shape_ite (fun _ => shape_isoFail h) fun _ => shape_ite (fun _ => shape_isoFail h) fun _ => shape_taskOk (shape_setIso h)

theorem shape_isoFound {p : Nat} {c : IsoCmd} {x : IsoHandle} (h : WellShaped s) : WellShaped (isoFound p c x s).2 := by
  unfold isoFound
  dsimp only
  split
  · rename_i e
    exact shape_giveIso h e
  · exact h

theorem shape_atSlot {p : Nat} {c : IsoCmd} {go : State → State} (h : WellShaped s) (hgo : ∀ t, WellShaped t → WellShaped (go t)) :
    WellShaped (atSlot p c s go) :=
  shape_ite (fun _ => shape_taskOk (shape_setIso h)) fun _ => hgo _ h

theorem shape_antiNext {p : Nat} {c : IsoCmd} (h : WellShaped s) : WellShaped (antiNext p c s) := by
  unfold antiNext
  refine shape_atSlot h (fun _ h => ?_)
  split
  · exact shape_isoEnd h
  · exact shape_ite (fun _ => shape_isoEnd h) fun _ => shape_isoBegin h

theorem shape_antiRetry {p : Nat} {c : IsoCmd} {bcc : Bool} (h : WellShaped s) : WellShaped (antiRetry p c bcc s) :=
  shape_ite (fun _ => shape_isoBegin h) fun _ => shape_antiNext h

theorem shape_antiAnswer {p : Nat} {c : IsoCmd} {d : List Bool} {coll : Option Nat} (h : WellShaped s) : WellShaped (antiAnswer p c d coll s) := by
  unfold antiAnswer
  dsimp only
  split
  · exact shape_ite (fun _ => shape_ite (fun _ => shape_isoBegin h) fun _ => shape_antiRetry h) fun _ => shape_isoBegin h
  · exact shape_ite (fun _ => shape_isoBegin h) fun _ => shape_antiRetry h

theorem shape_selAnswer {p : Nat} {c : IsoCmd} {sak : Byte} {strength : Int} (h : WellShaped s) : WellShaped (selAnswer p c sak strength s) := by
  unfold selAnswer
  refine shape_ite (fun _ => shape_ite (fun _ => shape_antiRetry h) fun _ => shape_isoBegin h) fun _ => ?_
  refine shape_isoBegin ?_
  split
  · rename_i e
    exact shape_giveIso h e
  · exact h

theorem shape_antiResult {p : Nat} {c : IsoCmd} {out : RxOut} (h : WellShaped s) : WellShaped (antiResult p c out s) := by
  unfold antiResult
  split
  · exact shape_antiNext h
  · refine shape_isoBegin ?_
    split
    · split
      · exact h
      · exact shape_drawn h
    · exact shape_drawn h
  · exact shape_isoBegin h
  · exact shape_antiRetry h
  · exact shape_antiNext h
  · exact shape_antiAnswer h
  · exact shape_antiRetry h
  · exact shape_ite (fun _ => shape_selAnswer h) fun _ => shape_antiRetry h
  · exact shape_antiRetry h
  · exact shape_ite (fun _ => shape_isoEnd h) fun _ => shape_antiNext h

theorem shape_actResult {p : Nat} {c : IsoCmd} {out : RxOut} (h : WellShaped s) : WellShaped (actResult p c out s) := by
  unfold actResult
  dsimp only
  split
  · exact shape_isoFail (shape_isoMove h)
  · exact shape_isoBegin h
  · refine shape_ite (fun _ => shape_isoFail (shape_isoMove h)) fun _ => ?_
    refine shape_ite (fun _ => shape_ite (fun _ => shape_isoBegin h) fun _ => shape_isoFail (shape_isoMove h)) fun _ => ?_
    exact shape_ite (fun _ => shape_taskOk (shape_modIsoHandle h)) fun _ => shape_isoFail (shape_isoMove h)
  · exact shape_isoFail (shape_isoMove h)

theorem shape_ratsAnswer {p : Nat} {c : IsoCmd} {x : Bytes} {base : Nat} (h : WellShaped s) : WellShaped (ratsAnswer p c x base s) := by
  unfold ratsAnswer
  split
  · exact shape_isoFail h
  · refine shape_ite (fun _ => shape_isoFail h) fun _ => ?_
    exact shape_taskOk (shape_ite (fun _ => shape_modIsoHandle h) fun _ => shape_modIso (shape_modIsoHandle h))

theorem shape_attribDone {p : Nat} {c : IsoCmd} (h : WellShaped s) : WellShaped (attribDone p c s) := shape_modIsoHandle h

theorem shape_bRound {p : Nat} {c : IsoCmd} (h : WellShaped s) : WellShaped (bRound p c s) :=
  shape_ite (fun _ => shape_isoBegin h) fun _ => shape_isoEnd h

theorem shape_bNext {p : Nat} {c : IsoCmd} (h : WellShaped s) : WellShaped (bNext p c s) := by
  unfold bNext
  exact shape_atSlot h (fun _ h => shape_ite (fun _ => shape_isoEnd h) fun _ => shape_ite (fun _ => shape_isoBegin h) fun _ => shape_ite (fun _ =>
    shape_isoEnd h) fun _ => shape_bRound h)

theorem shape_bAntiResult {p : Nat} {c : IsoCmd} {out : RxOut} (h : WellShaped s) : WellShaped (bAntiResult p c out s) := by
  unfold bAntiResult
  dsimp only
  split
  · exact shape_bNext h
  · split
    · exact shape_bNext h
    · split <;> exact shape_isoBegin (shape_isoFound h)
  · exact shape_bNext h
  · exact shape_ite (fun _ => shape_bNext (shape_attribDone h)) fun _ => shape_isoBegin h
  · exact shape_isoBegin h
  · exact shape_bNext (shape_isoMove h)

theorem shape_vQuietNext {p : Nat} {c : IsoCmd} (h : WellShaped s) : WellShaped (vQuietNext p c s) := by
  unfold vQuietNext
  split
  · exact shape_isoEnd h
  · exact shape_isoBegin h

theorem shape_vNext {p : Nat} {c : IsoCmd} (h : WellShaped s) : WellShaped (vNext p c s) := by
  unfold vNext
  split
  · exact shape_vQuietNext h
  · exact shape_ite (fun _ => shape_vQuietNext h) fun _ => shape_isoBegin h

theorem shape_vSlotNext {p : Nat} {c : IsoCmd} {least : Nat} (h : WellShaped s) : WellShaped (vSlotNext p c least s) :=
  shape_atSlot h (fun _ h => shape_ite (fun _ => shape_vNext h) fun _ => shape_isoBeginAt h)

theorem shape_vInvResult {p : Nat} {c : IsoCmd} {out : RxOut} {base : Nat} (h : WellShaped s) : WellShaped (vInvResult p c out base s) := by
  unfold vInvResult
  split
  · exact shape_vQuietNext (shape_modIso h)
  · exact shape_vSlotNext h
  · refine shape_ite (fun _ => shape_vSlotNext h) fun _ => shape_ite (fun _ => shape_vSlotNext h) fun _ => ?_
    dsimp only
    split
    · exact shape_vSlotNext (shape_modIsoHandle h)
    · exact shape_vSlotNext (shape_isoFound h)
  · exact shape_vSlotNext h

theorem shape_vCmdRetry {p : Nat} {c : IsoCmd} (h : WellShaped s) : WellShaped (vCmdRetry p c s) :=
  shape_ite (fun _ => shape_isoBegin h) fun _ => shape_isoFail (shape_modIso h)

theorem shape_vAnswer {p : Nat} {c : IsoCmd} {x : Bytes} {ok : State → State} (hgo : ∀ t, WellShaped t → WellShaped (ok t)) (h : WellShaped s) :
    WellShaped (vAnswer p c x ok s) :=
  shape_ite (fun _ => shape_isoFail h) fun _ => hgo _ h

theorem shape_vCmdResult {p : Nat} {c : IsoCmd} {out : RxOut} {base : Nat} (h : WellShaped s) : WellShaped (vCmdResult p c out base s) := by
  unfold vCmdResult
  refine shape_ite (fun _ => shape_isoBeginAt h) fun _ => ?_
  split
  · exact shape_ite (fun _ => shape_vCmdRetry h) fun _ => shape_vAnswer (fun _ h => shape_taskOk h) h
  · exact shape_vCmdRetry h

theorem shape_blkSend {p : Nat} {c : IsoCmd} {out : Bytes} (h : WellShaped s) : WellShaped (blkSend p c out s) := shape_isoSend h
theorem shape_blkBegin {p : Nat} {c : IsoCmd} {kind : Nat} {blk : Bytes} (h : WellShaped s) : WellShaped (blkBegin p c kind blk s) := shape_blkSend h
theorem shape_apduNext {p : Nat} {c : IsoCmd} (h : WellShaped s) : WellShaped (apduNext p c s) := shape_blkBegin h
theorem shape_blkGiveUp {p : Nat} {c : IsoCmd} {why : Nat} (h : WellShaped s) : WellShaped (blkGiveUp p c why s) := shape_blkBegin h
theorem shape_blkFail {p : Nat} {c : IsoCmd} {code : Nat} (h : WellShaped s) : WellShaped (blkFail p c code s) := shape_isoFail (shape_isoMove h)

theorem shape_blkTry {p : Nat} {c : IsoCmd} {out : Bytes} (h : WellShaped s) : WellShaped (blkTry p c out s) :=
  shape_ite (fun _ => shape_blkFail h) fun _ => shape_blkSend h

theorem shape_blkInvalid {p : Nat} {c : IsoCmd} (h : WellShaped s) : WellShaped (blkInvalid p c s) := shape_blkTry h
theorem shape_blkToggle {p : Nat} {c : IsoCmd} (h : WellShaped s) : WellShaped (blkToggle p c s) := shape_modIsoHandle h

theorem shape_blkInfo {p : Nat} {c : IsoCmd} {chain : Bool} {inf : Bytes} (h : WellShaped s) : WellShaped (blkInfo p c chain inf s) := by
  unfold blkInfo
  refine shape_ite (fun _ => shape_blkGiveUp (shape_blkToggle h)) fun _ => ?_
  exact shape_ite (fun _ => shape_blkBegin (shape_blkToggle h)) fun _ => shape_taskBytes (shape_setIso (shape_blkToggle h))

theorem shape_blkResult {p : Nat} {c : IsoCmd} {out : RxOut} {base : Nat} (h : WellShaped s) : WellShaped (blkResult p c out base s) := by
  unfold blkResult
  dsimp only
  split
  · refine shape_ite (fun _ => shape_blkInvalid h) fun _ => ?_
    exact shape_ite (fun _ => shape_ite (fun _ => shape_blkFail h) fun _ => shape_blkGiveUp h) fun _ => shape_blkSend h
  · refine shape_ite (fun _ => shape_ite (fun _ => shape_apduNext (shape_blkToggle h)) fun _ => shape_blkTry h) fun _ => ?_
    exact shape_ite (fun _ => shape_blkTry h) fun _ => shape_blkInvalid h
  · exact shape_ite (fun _ => shape_blkInfo h) fun _ => shape_blkInvalid h
  · refine shape_ite (fun _ => shape_blkInvalid h) fun _ => ?_
    exact shape_ite (fun _ => shape_blkFail (shape_modIsoHandle h)) fun _ => shape_taskOk (shape_isoMove (shape_modIsoHandle h))
  · exact shape_blkInvalid h

theorem shape_isoRxFail {p : Nat} {c : IsoCmd} {out : RxOut} (h : WellShaped s) : WellShaped (isoRxFail p c out s) := by
  unfold isoRxFail
  split <;> exact shape_isoFail h

theorem shape_isoSingle {p : Nat} {c : IsoCmd} {out : RxOut} {base : Nat} (h : WellShaped s) : WellShaped (isoSingle p c out base s) := by
  unfold isoSingle
  split
  · exact shape_taskOk (shape_isoMove h)
  · exact shape_taskOk (shape_isoMove h)
  · split
    · exact shape_endTask h
    · exact shape_taskOk h
    · exact shape_isoRxFail h
  · dsimp only
    split
    · exact shape_ite (fun _ => shape_taskOk (shape_modIsoHandle (shape_modIsoHandle h))) fun _ => shape_isoFail (shape_modIsoHandle h)
    · exact shape_isoFail (shape_modIsoHandle h)
  · split
    · dsimp only
      split
      · exact shape_ratsAnswer h
      · exact shape_ite (fun _ => shape_taskOk (shape_attribDone h)) fun _ => shape_isoFail h
      · split
        · exact shape_isoFail h
        · split
          · exact shape_isoFail h
          · rename_i e
            exact shape_taskOk (shape_giveIso h e)
      · exact shape_ite (fun _ => shape_taskOk (shape_isoMove h)) fun _ => shape_isoFail h
      · exact shape_vAnswer (fun _ h => shape_taskOk (shape_modIso h)) h
      · exact shape_vAnswer (fun _ h => shape_taskOk (shape_isoMove h)) h
      · exact shape_taskOk h
    · exact shape_ite (fun _ => shape_isoFail h) fun _ => shape_isoRxFail h

theorem shape_isoResult {p op : Nat} {c : IsoCmd} {out : RxOut} {base : Nat} (h : WellShaped s) : WellShaped (isoResult p op c out base s) := by
  unfold isoResult
  extract_lets s1
  have h1 : WellShaped s1 := by
    unfold s1
    split
    · exact h
    · exact shape_modIso h
  split
  · exact shape_antiResult h1
  · exact shape_actResult h1
  · exact shape_bAntiResult h1
  · exact shape_blkResult h1
  · exact shape_blkResult h1
  · exact shape_vInvResult h1
  · exact shape_vCmdResult h1
  · exact shape_isoSingle h1

end Sys2Proof.Machine
end

section
/-!
SUPPORT. The shape is kept by the operations of fields, tuning, configuration, Harvest and the link.
-/

namespace Sys2Proof.Machine

set_option Elab.async false

variable {s : State}

/-! ### The operations of Machine/FieldOps -/

theorem shape_pressDrop {p : Nat} (h : WellShaped s) : WellShaped (pressDrop p s) := shape_with h
theorem shape_pressTake {r : PressReq} (h : WellShaped s) : WellShaped (pressTake r s) := shape_with h
theorem shape_nextGrant (h : WellShaped s) : WellShaped (nextGrant s).2 := shape_with h
theorem shape_aim {p : Nat} {target : SliceSt} (h : WellShaped s) : WellShaped (aim p target s) := shape_modSlice _ _ h
theorem shape_recal {p channel : Nat} (h : WellShaped s) : WellShaped (recal p channel s) := shape_modSlice _ _ h

theorem shape_retune {p channel : Nat} (h : WellShaped s) : WellShaped (retune p channel s) :=
  shape_foldl (fun _ _ h => shape_ite (fun _ => shape_recal h) fun _ => shape_modSlice _ _ h) _ h

theorem shape_takeChannel {p : Nat} (h : WellShaped s) : WellShaped (takeChannel p s) := by
  unfold takeChannel
  split
  · exact h
  · exact shape_retune (shape_modRadio _ _ h)

theorem shape_settle {p : Nat} (h : WellShaped s) : WellShaped (settle p s) :=
  shape_ite (fun _ => shape_foldl (fun _ _ h => shape_aim h) _ h) fun _ => h

theorem shape_settleIn {p : Nat} (h : WellShaped s) : WellShaped (settleIn p s) := shape_ite (fun _ => shape_settle h) fun _ => h
theorem shape_probe {p mv : Nat} (h : WellShaped s) : WellShaped (probe p mv s).2 := shape_drawn h

theorem shape_coarse {p k mv : Nat} (h : WellShaped s) : WellShaped (coarse p k mv s).2 := by
  induction k generalizing mv s with
  | zero => exact h
  | succ k ih => exact ih (shape_probe (p := p) (mv := mv) h)

theorem shape_fineSearch {p k lo hi : Nat} {phLo : Int} (h : WellShaped s) : WellShaped (fineSearch p phLo k lo hi s).2.2 := by
  induction k generalizing lo hi s with
  | zero => exact h
  | succ k ih =>
    unfold fineSearch
    dsimp only
    split <;> exact ih (shape_probe h)

theorem shape_setTn {p mv : Nat} {phase : Int} (h : WellShaped s) : WellShaped (setTn p mv phase s) := shape_modRadio _ _ h

theorem shape_tuneOne {p : Nat} (h : WellShaped s) : WellShaped (tuneOne p s).2 := by
  unfold tuneOne
  dsimp only
  split
  · exact shape_setTn (shape_coarse h)
  · exact shape_setTn (shape_probe (shape_fineSearch (shape_coarse h)))

theorem shape_autotune {p : Nat} (h : WellShaped s) : WellShaped (autotune p s).2 := by
  refine shape_foldl_snd (fun _ _ h => ?_) _ h
  exact shape_tuneOne h

theorem shape_tuneRan {p : Nat} {answers : Bool} (h : WellShaped s) : WellShaped (tuneRan p answers s) :=
  shape_foldl (fun _ _ h => shape_modRadio _ _ h) _ h

theorem shape_tellSwap {planned : Bool} {kind inst spare us ports portNo : Nat} {hdr : Option Hdr} (h : WellShaped s) :
    WellShaped (tellSwap planned kind inst spare us ports portNo hdr s) := by
  unfold tellSwap
  dsimp only
  split
  · exact shape_ok _ _ _ (shape_raise _ _ _ (shape_with h))
  · exact shape_raise _ _ _ (shape_with h)

theorem shape_tellBack {p : Nat} (h : WellShaped s) : WellShaped (tellBack p s) :=
  shape_ite (fun _ => h) fun _ => shape_foldl (fun _ _ h => shape_tellSwap h) _ (shape_with h)

theorem shape_prismCal {p : Nat} (h : WellShaped s) : WellShaped (prismCal p s) := by
  unfold prismCal
  refine shape_ite (fun _ => h) fun _ => shape_ite (fun _ => shape_modPort _ _ h) fun _ => shape_tellBack ?_
  split
  · exact shape_raise _ _ _ (shape_modPort _ _ (shape_drawn (shape_ite (fun _ => shape_countWear h) fun _ => h)))
  · exact shape_modPort _ _ (shape_drawn (shape_ite (fun _ => shape_countWear h) fun _ => h))

theorem shape_prismTnCheck {p : Nat} (h : WellShaped s) : WellShaped (prismTnCheck p s) := by
  unfold prismTnCheck
  split
  · exact h
  · exact shape_ite (fun _ => shape_prismCal h) fun _ => h

theorem shape_startGuard {p : Nat} (h : WellShaped s) : WellShaped (startGuard p s) := shape_adaptSet (shape_setTimer _ _ _ (shape_modRadio _ _ h))

theorem shape_tryArm {p : Nat} (h : WellShaped s) : WellShaped (tryArm p s) := by
  unfold tryArm
  dsimp only
  split
  · exact h
  · refine shape_ite (fun _ => h) fun _ => shape_setTimer _ _ _ (shape_modRadio _ _ ?_)
    split
    · exact shape_foldl (fun _ _ h => shape_raise _ _ _ h) _ (shape_prismTnCheck (shape_tuneRan (shape_autotune h)))
    · exact h

theorem shape_grant {r : PressReq} (h : WellShaped s) : WellShaped (grant r s) := by
  unfold grant
  dsimp only
  split
  · exact shape_tryArm (shape_modRadio _ _ (shape_nextGrant (shape_pressTake h)))
  · exact shape_modRadio _ _ (shape_nextGrant (shape_pressTake h))
  · exact shape_modPort _ _ (shape_modRadio _ _ (shape_nextGrant (shape_pressTake h)))
  · split
    · exact shape_nextGrant (shape_pressTake h)
    · exact shape_foldl (fun _ _ h => shape_modRadio _ _ h) _ (shape_with (shape_nextGrant (shape_pressTake h)))

theorem shape_pressAskAt {prio p mw : Nat} {kind : ReqKind} (h : WellShaped s) : WellShaped (pressAskAt prio p mw kind s).2 := by
  unfold pressAskAt
  dsimp only
  split
  · exact shape_grant (shape_with h)
  · split
    · exact h
    · exact shape_with h

theorem shape_pressAsk {p mw : Nat} {kind : ReqKind} (h : WellShaped s) : WellShaped (pressAsk p mw kind s).2 := shape_pressAskAt h

theorem shape_startField {p : Nat} (h : WellShaped s) : WellShaped (startField p s).2 := by
  unfold startField
  split
  · exact h
  · dsimp only
    split
    · rename_i e
      exact shape_snd e (shape_pressAsk (shape_foldl (fun _ _ h => shape_aim (shape_modRadio _ _ h)) _ (shape_modRadio _ _ h)))
    · rename_i e
      exact shape_modRadio _ _ (shape_snd e (shape_pressAsk (shape_foldl (fun _ _ h => shape_aim (shape_modRadio _ _ h)) _ (shape_modRadio _ _ h))))

theorem shape_releaseHandles {p : Nat} (h : WellShaped s) : WellShaped (releaseHandles p s) := shape_clearInv (shape_modPort _ _ h)
theorem shape_closeSpan {p : Nat} (h : WellShaped s) : WellShaped (closeSpan p s) := shape_modRadio _ _ h

theorem shape_fieldDown {p : Nat} (h : WellShaped s) : WellShaped (fieldDown p s) := by
  unfold fieldDown
  refine shape_quietAir (shape_releaseHandles (shape_setQd (shape_disarm _ ?_)))
  exact shape_modRadio _ _ (shape_foldl (fun _ _ h => shape_modPort _ _ (shape_modSlice _ _ (shape_closeSpan h))) _ h)

theorem shape_fieldEnded {p : Nat} (h : WellShaped s) : WellShaped (fieldEnded p s) := by
  unfold fieldEnded
  refine shape_settle (shape_tellBack ?_)
  exact shape_foldl (fun _ _ h => shape_ok _ _ _ h) _ (shape_takeChannel (shape_fieldDown (shape_modRadio _ _ h)))

theorem shape_rampDown {p : Nat} {restore : Bool} (h : WellShaped s) : WellShaped (rampDown p restore s) := shape_modRadio _ _ h

theorem shape_dropWant {p : Nat} (h : WellShaped s) : WellShaped (dropWant p s) :=
  shape_ite (fun _ => h) fun _ => shape_modRadio _ _ (shape_disarm _ (shape_pressDrop h))

theorem shape_endField {p : Nat} (h : WellShaped s) : WellShaped (endField p s) := by
  unfold endField
  refine shape_ite (fun _ => shape_settle (shape_dropWant (shape_pressDrop h))) fun _ => ?_
  exact shape_ite (fun _ => shape_fieldEnded (shape_pressDrop h)) fun _ => shape_rampDown (shape_pressDrop h)

theorem shape_cutField {p : Nat} (h : WellShaped s) : WellShaped (cutField p s) := by
  unfold cutField
  exact shape_ite (fun _ => shape_settle (shape_dropWant (shape_pressDrop h))) fun _ => shape_fieldEnded (shape_pressDrop h)

theorem shape_failField {p code : Nat} {d : Detail} (h : WellShaped s) : WellShaped (failField p code d s) := shape_endField (shape_abortWork h)
theorem shape_interruptField {p : Nat} (h : WellShaped s) : WellShaped (interruptField p s) := shape_ite (fun _ => shape_rampDown h) fun _ => h

theorem shape_carrier {q : Nat} {on : Bool} (h : WellShaped s) : WellShaped (carrier q on s) := by
  unfold carrier
  refine shape_ite (fun _ => shape_modRadio _ _ (shape_modSlice _ _ h)) fun _ => ?_
  exact shape_ite (fun _ => shape_modSlice _ _ (shape_closeSpan h)) fun _ => h

theorem shape_carriers {p : Nat} (h : WellShaped s) : WellShaped (carriers p s) := shape_foldl (fun _ _ h => shape_carrier h) _ h

theorem shape_steer {p vector : Nat} (h : WellShaped s) : WellShaped (steer p vector s) :=
  shape_ite (fun _ => shape_carriers (shape_modPort _ _ h)) fun _ => shape_modPort _ _ h

theorem shape_fieldUp {p : Nat} (h : WellShaped s) : WellShaped (fieldUp p s) :=
  shape_startGuard (shape_modRadio _ _ (shape_setQd (shape_modAir (shape_carriers h))))

/-! ### The operations of Machine/TrellisOps -/

theorem shape_selectMirror {v : Nat} (h : WellShaped s) : WellShaped (selectMirror v s) := by
  unfold selectMirror
  dsimp only
  split
  · exact shape_modRx h
  · exact shape_raise _ _ _ (shape_modRx h)

theorem shape_selectAll (h : WellShaped s) : WellShaped (selectAll s) := shape_with (shape_foldl (fun _ _ h => shape_selectMirror h) _ h)
theorem shape_reselect (h : WellShaped s) : WellShaped (reselect s) := shape_ite (fun _ => h) fun _ => shape_selectAll h

theorem shape_resumeField {p : Nat} (h : WellShaped s) : WellShaped (resumeField p s) :=
  shape_tryArm (shape_modRadio _ _ (shape_foldl (fun _ _ h => shape_aim h) _ h))

theorem shape_changeChannel {p channel : Nat} (h : WellShaped s) : WellShaped (changeChannel p channel s) := by
  unfold changeChannel
  dsimp only
  split
  · exact shape_retune h
  · exact shape_resumeField (shape_retune h)
  · exact shape_modRadio _ _ h
  · exact shape_interruptField (shape_modRadio _ _ h)

theorem shape_restOff {p : Nat} (h : WellShaped s) : WellShaped (restOff p s) := by
  unfold restOff
  refine shape_ite (fun _ => ?_) fun _ => ?_
  · exact shape_foldl (fun _ _ h => shape_aim h) _ (shape_ite (fun _ => shape_retune h) fun _ => h)
  · exact shape_ite (fun _ => shape_retune h) fun _ => h

theorem shape_enterOff {p : Nat} (h : WellShaped s) : WellShaped (enterOff p s) :=
  shape_ite (fun _ => shape_restOff (shape_interruptField h)) fun _ => shape_interruptField h

theorem shape_lateChannel {p : Nat} (h : WellShaped s) : WellShaped (lateChannel p s) := by
  unfold lateChannel
  split
  · exact shape_interruptField h
  · exact h

theorem shape_armRunEnd {p : Nat} (h : WellShaped s) : WellShaped (armRunEnd p s) := by
  unfold armRunEnd
  split
  · exact h
  · exact shape_ite (fun _ => h) fun _ => shape_ite (fun _ => h) fun _ => shape_armSoon h

theorem shape_followRun {p : Nat} (h : WellShaped s) : WellShaped (followRun p s) := by
  unfold followRun
  refine shape_ite (fun _ => h) fun _ => shape_reselect ?_
  split
  · exact shape_enterOff h
  · exact shape_ite (fun _ => shape_changeChannel h) fun _ => shape_ite (fun _ => shape_resumeField h) fun _ => h

/-! ### The operations of Machine/Commit -/

theorem shape_attrSetRun {hd : Hdr} {recs : List AttrRec} (h : WellShaped s) : WellShaped (attrSetRun hd recs s) := by
  unfold attrSetRun
  split
  · exact shape_fail _ _ _ _ h
  · exact shape_ok _ _ _ (shape_with h)

theorem shape_armCadence {p : Nat} (h : WellShaped s) : WellShaped (armCadence p s) := by
  unfold armCadence
  exact shape_ite (fun _ => shape_modTimer _ _ h) fun _ => shape_ite (fun _ => shape_modTimer _ _ h) fun _ => shape_disarm _ h

theorem shape_applyChannel {p : Nat} (h : WellShaped s) : WellShaped (applyChannel p s) := by
  unfold applyChannel
  split
  · exact h
  · refine shape_ite (fun _ => h) fun _ => ?_
    split
    · exact shape_ite (fun _ => shape_resumeField (shape_modRadio _ _ h)) fun _ => shape_modRadio _ _ h
    · exact shape_changeChannel h

theorem shape_applyPower {p : Nat} {raised : Bool} (h : WellShaped s) : WellShaped (applyPower p raised s) :=
  shape_ite (fun _ => h) fun _ => shape_ite (fun _ => h) fun _ => shape_modRadio _ _ (shape_modRadio _ _ h)

theorem shape_applyEffects {p : Nat} {old : Cfg} {raised : Bool} (h : WellShaped s) : WellShaped (applyEffects p old raised s) := by
  unfold applyEffects
  extract_lets _ _ s1 s2 s3 s4 s5 s6 _ s7 s8 s9 s10 s11 _
  have h1 : WellShaped s1 := shape_ite (fun _ => shape_releaseHandles h) fun _ => h
  have h2 : WellShaped s2 := shape_applyPower h1
  have h3 : WellShaped s3 := shape_applyChannel h2
  have h4 : WellShaped s4 := shape_ite (fun _ => shape_ite (fun _ => shape_carriers h3) fun _ => h3) fun _ => h3
  have h5 : WellShaped s5 := shape_ite (fun _ => shape_foldl (fun _ _ h => shape_modRadio _ _ h) _ h4) fun _ => h4
  have h6 : WellShaped s6 := shape_ite (fun _ => shape_setQd h5) fun _ => h5
  have h7 : WellShaped s7 := shape_ite (fun _ => shape_prismTnCheck (shape_foldl (fun _ _ h => shape_setTn (shape_drawn h)) _ h6)) fun _ => h6
  have h8 : WellShaped s8 := shape_ite (fun _ => shape_prismCal (shape_modPort _ _ h7)) fun _ => h7
  have h9 : WellShaped s9 := shape_ite (fun _ => shape_modPort _ _ h8) fun _ => h8
  have h10 : WellShaped s10 := shape_ite (fun _ => shape_modPort _ _ h9) fun _ => h9
  have h11 : WellShaped s11 := shape_modRadio _ _ h10
  exact shape_settle (shape_ite (fun _ => shape_armCadence h11) fun _ => h11)

theorem shape_applyNow {p : Nat} {raised : Bool} (h : WellShaped s) : WellShaped (applyNow p raised s) := by
  unfold applyNow
  split
  · exact h
  · exact shape_ite (fun _ => h) fun _ => shape_applyEffects (shape_with h)

theorem shape_applySet {p : Nat} {raised : Bool} (h : WellShaped s) : WellShaped (applySet p raised s) :=
  shape_foldl (fun _ _ h => shape_applyNow h) _ h

theorem shape_applyPort {p : Nat} (h : WellShaped s) : WellShaped (applyPort p s) := by
  unfold applyPort
  split
  · exact h
  · refine shape_ite (fun _ => h) fun _ => shape_ite (fun _ => ?_) fun _ => shape_applyNow h
    split
    · rename_i e
      exact shape_applySet (shape_snd e (shape_pressAsk h))
    · rename_i e
      have h := shape_snd e (shape_pressAsk h)
      exact shape_ite (fun _ => h) fun _ => shape_applySet h

theorem shape_finishCommit (h : WellShaped s) : WellShaped (finishCommit s) := by
  unfold finishCommit
  split
  · exact h
  · refine shape_ite (fun _ => h) fun _ => ?_
    dsimp only
    split
    · exact shape_ok _ _ _ (shape_with h)
    · exact shape_with h

theorem shape_takeCommit {p : Nat} (h : WellShaped s) : WellShaped (takeCommit p s) :=
  shape_ite (fun _ => h) fun _ => shape_steer (shape_modPort _ _ h)

theorem shape_driveCommit {ps : List Nat} (h : WellShaped s) : WellShaped (driveCommit ps s) := by
  unfold driveCommit
  refine shape_ite (fun _ => shape_foldl (fun _ _ h => shape_takeCommit h) _ h) fun _ => ?_
  extract_lets s1
  have h1 : WellShaped s1 := shape_foldl (fun _ _ h => shape_applyPort h) _ (shape_foldl (fun _ _ h => shape_takeCommit h) _ h)
  exact shape_finishCommit (shape_ite (fun _ => shape_selectAll h1) fun _ => h1)

theorem shape_modTime {f : Time → Time} (h : WellShaped s) : WellShaped (modTime f s) := shape_with h
theorem shape_tellLock (h : WellShaped s) : WellShaped (tellLock s) := shape_raise _ _ _ h
theorem shape_setLock {lock : Nat} (h : WellShaped s) : WellShaped (setLock lock s) := shape_modTime h

theorem shape_chainAnew (h : WellShaped s) : WellShaped (chainAnew s) :=
  shape_ite (fun _ => shape_tellLock (shape_setLock (shape_with h))) fun _ => shape_with h

theorem shape_endPlans (h : WellShaped s) : WellShaped (endPlans s) := by
  unfold endPlans
  extract_lets s1 _
  have h1 : WellShaped s1 := by
    unfold s1
    split
    · exact shape_fail _ _ _ _ h
    · exact h
  exact shape_with h1

theorem shape_requestPower (h : WellShaped s) : WellShaped (requestPower s) := shape_ite (fun _ => h) fun _ => shape_with h

theorem shape_applyModule {old : Cfg} (h : WellShaped s) : WellShaped (applyModule old s) := by
  unfold applyModule
  extract_lets _ s1 _ s2 s3 s4 _ _
  have h1 : WellShaped s1 := shape_ite (fun _ => shape_endPlans h) fun _ => h
  have h2 : WellShaped s2 := shape_ite (fun _ => shape_with h1) fun _ => h1
  have h3 : WellShaped s3 := shape_ite (fun _ => shape_requestPower h2) fun _ => h2
  have h4 : WellShaped s4 := shape_ite (fun _ => shape_chainAnew h3) fun _ => h3
  exact shape_with h4

theorem shape_setVpa (h : WellShaped s) : WellShaped (setVpa s) := shape_with h

theorem shape_acceptCommit {hd : Hdr} {new : Cfg} {keys : List (Nat × Nat)} (h : WellShaped s) : WellShaped (acceptCommit hd new keys s) := by
  unfold acceptCommit
  extract_lets _ _ _ _ _ s1 s2 s3 _ s4 _ s5
  have h1 : WellShaped s1 := shape_with h
  have h2 : WellShaped s2 := shape_foldl (fun _ _ h => shape_takeCommit (shape_modPort _ _ h)) _ h1
  have h3 : WellShaped s3 := shape_applyModule h2
  have h4 : WellShaped s4 := shape_setVpa (shape_with h3)
  have h5 : WellShaped s5 := shape_with h4
  exact shape_driveCommit h5

theorem shape_commitRun {hd : Hdr} (h : WellShaped s) : WellShaped (commitRun hd s) := by
  unfold commitRun
  refine shape_ite (fun _ => shape_ok _ _ _ (shape_selectAll (shape_with h))) fun _ => ?_
  split
  · exact shape_respond _ _ _ _ h
  · exact shape_acceptCommit h

theorem shape_discardRun {hd : Hdr} (h : WellShaped s) : WellShaped (discardRun hd s) := shape_ok _ _ _ (shape_with h)
theorem shape_saveRun {hd : Hdr} (h : WellShaped s) : WellShaped (saveRun hd s) := shape_ok _ _ _ (shape_with h)

/-! ### The operations of Machine/TableOps -/

theorem shape_addInv {e : InvEntry} (h : WellShaped s) : WellShaped (addInv e s).2 := shape_with h

theorem shape_publish {i : Nat} (h : WellShaped s) : WellShaped (publish i s) := by
  unfold publish
  split
  · exact h
  · exact shape_ite (fun _ => h) fun _ => shape_sendRecord _ _ _ _ _ _ h

theorem shape_hearTag {p i : Nat} {x : Hearing} {fresh rep : Bool} {t : State} (h : WellShaped s)
    (e : hearTag p x s = some (i, fresh, rep, t)) : WellShaped t := by
  unfold hearTag at e
  dsimp only at e
  split at e
  · split at e
    · cases e
    · cases e; exact shape_publish (shape_addInv h)
  · cases e; exact shape_ite (fun _ => shape_publish (shape_modInv h)) fun _ => shape_modInv h

theorem shape_dropInv {f : Nat × InvEntry → Bool} (h : WellShaped s) : WellShaped (dropInv f s) := shape_with h
theorem shape_clearRun {hd : Hdr} {mask : Nat} (h : WellShaped s) : WellShaped (clearRun hd mask s) := shape_ok _ _ _ (shape_dropInv h)
theorem shape_readTableRun {hd : Hdr} {start count : Nat} (h : WellShaped s) : WellShaped (readTableRun hd start count s) := shape_ok _ _ _ h
theorem shape_ageRun {i : Nat} (h : WellShaped s) : WellShaped (ageRun i s) := shape_ite (fun _ => h) fun _ => shape_dropInv h

theorem shape_importRec {r : DedupRec} (h : WellShaped s) : WellShaped (importRec r s).2 := by
  unfold importRec
  split
  · exact h
  · split
    · exact h
    · dsimp only
      split
      · exact shape_reportInv (shape_ite (fun _ => shape_publish (shape_modInv h)) fun _ => shape_modInv h)
      · exact shape_ite (fun _ => shape_publish (shape_modInv h)) fun _ => shape_modInv h

theorem shape_importRun {hd : Hdr} {recs : List DedupRec} (h : WellShaped s) : WellShaped (importRun hd recs s) := by
  refine shape_ok _ _ _ (shape_foldl_snd (fun _ _ h => ?_) _ h)
  exact shape_importRec h

/-! ### The operations of Machine/HarvestRun -/

theorem shape_applyVector {p : Nat} (h : WellShaped s) : WellShaped (applyVector p s) := by
  unfold applyVector
  split
  · exact shape_steer h
  · exact h

theorem shape_prismCorrect {p : Nat} (h : WellShaped s) : WellShaped (prismCorrect p s) :=
  shape_ite (fun _ => h) fun _ => shape_modPort _ _ (shape_drawn h)

theorem shape_paAt {p : Nat} (h : WellShaped s) : WellShaped (paAt p s) := by
  unfold paAt
  refine shape_ite (fun _ => h) fun _ => ?_
  exact shape_foldl (fun _ _ h => shape_ite (fun _ => shape_modRadio _ _ (shape_modSlice _ _ h)) fun _ => h) _ h

theorem shape_prismTrack {p : Nat} (h : WellShaped s) : WellShaped (prismTrack p s) :=
  shape_ite (fun _ => h) fun _ => shape_modPort _ _ (shape_drawn h)

theorem shape_takeCopy {p : Nat} (h : WellShaped s) : WellShaped (takeCopy p s) := shape_modPort _ _ h

theorem shape_crossCore {p : Nat} (h : WellShaped s) : WellShaped (crossCore p s) := by
  unfold crossCore
  refine shape_takeCopy (shape_lateChannel ?_)
  exact shape_followRun (shape_paAt (shape_prismCorrect (shape_applyVector (shape_driveCommit (shape_adaptSet h)))))

theorem shape_holdFw {p : Nat} (h : WellShaped s) : WellShaped (holdFw p s) := by
  unfold holdFw
  split
  · exact h
  · exact shape_ite (fun _ => h) fun _ => shape_modPort _ _ (shape_with h)

theorem shape_holdSwap {p : Nat} (h : WellShaped s) : WellShaped (holdSwap p s) :=
  shape_ite (fun _ => h) fun _ => shape_ite (fun _ => h) fun _ => shape_modPort _ _ (shape_with h)

theorem shape_crossBase {p : Nat} (h : WellShaped s) : WellShaped (crossBase p s) :=
  shape_ite (fun _ => shape_crossCore h) fun _ => shape_holdSwap (shape_holdFw (shape_crossCore h))

theorem shape_passTask {p op : Nat} {proc : Proc} (h : WellShaped s) : WellShaped (passTask p op proc s) := shape_modPort _ _ h

theorem shape_passHy {p op : Nat} {stage : HvStage} {c : HyCmd} (h : WellShaped s) : WellShaped (passHy p op stage c s) :=
  shape_hyBegin (shape_passTask (shape_modPass h))

theorem shape_endPass {p code : Nat} {d : Bytes} (h : WellShaped s) : WellShaped (endPass p code d s) := by
  unfold endPass
  split
  · exact h
  · dsimp only
    split
    · exact shape_endField (shape_ite (fun _ => shape_finishPass h) fun _ => shape_steer (shape_finishPass h))
    · exact shape_settle (shape_ite (fun _ => shape_finishPass h) fun _ => shape_steer (shape_finishPass h))

theorem shape_offDue {p : Nat} (h : WellShaped s) : WellShaped (offDue p s) := by
  unfold offDue
  refine shape_ite (fun _ => h) fun _ => ?_
  dsimp only
  split
  · refine shape_driveCommit (shape_settle ?_)
    refine shape_foldl (fun s x h => ?_) _ (shape_modRadio _ _ (shape_dropWant (shape_pressDrop (shape_modRadio _ _ h))))
    exact shape_ok _ _ _ h
  · exact shape_endField (shape_modRadio _ _ h)

theorem shape_countTag {p inserted merged lost : Nat} (h : WellShaped s) : WellShaped (countTag p inserted merged lost s) :=
  shape_modPort _ _ (shape_modPass h)

theorem shape_passFail {p code : Nat} (h : WellShaped s) : WellShaped (passFail p code s) := shape_endPass h
theorem shape_sendBcast {p cmd : Nat} {args : Bytes} (h : WellShaped s) : WellShaped (sendBcast p cmd args s) := shape_kick (shape_modAir h)

theorem shape_hvQuery {p : Nat} (h : WellShaped s) : WellShaped (hvQuery p s) := by
  unfold hvQuery
  split
  · exact h
  · exact shape_sendBcast (shape_modPass h)

theorem shape_hvRecord {p : Nat} {xs : List IsoHandle} (h : WellShaped s) : WellShaped (hvRecord p xs s).2 := by
  induction xs generalizing s with
  | nil => exact h
  | cons x xs ih =>
    unfold hvRecord
    dsimp only
    split
    · exact ih (shape_modIso h)
    next e =>
      have h1 := shape_hearTag h e
      exact ih (shape_modIso (shape_ite (fun _ => shape_reportInv (shape_countTag h1)) fun _ => shape_countTag h1))

theorem shape_hyResume {p : Nat} {k : Parked} (h : WellShaped s) : WellShaped (hyResume p k s) := by
  unfold hyResume
  dsimp only
  split
  · split
    · exact shape_credDrop (shape_modPort _ _ h)
    · exact shape_ite (fun _ => shape_setHy (shape_modPort _ _ h)) fun _ => shape_sendTx (shape_setHy (shape_modPort _ _ h))
  · exact shape_modPort _ _ h

theorem shape_resumeParked {p : Nat} (h : WellShaped s) : WellShaped (resumeParked p s) := by
  unfold resumeParked
  refine shape_ite (fun _ => h) fun _ => ?_
  split
  · exact h
  · exact shape_hyResume h

theorem shape_hvYield {p : Nat} (h : WellShaped s) : WellShaped (hvYield p s) := by
  unfold hvYield
  refine shape_ite (fun _ => shape_passFail (shape_crossBase (shape_prismTrack (shape_modPass h)))) fun _ => ?_
  refine shape_ite (fun _ => shape_modPass (shape_crossBase (shape_prismTrack (shape_modPass h)))) fun _ => ?_
  exact shape_resumeParked (shape_crossBase (shape_prismTrack (shape_modPass h)))

theorem shape_hvIsoDone {p code : Nat} {d : Bytes} {found : List IsoHandle} (h : WellShaped s) : WellShaped (hvIsoDone p code d found s) := by
  unfold hvIsoDone
  refine shape_ite (fun _ => shape_passFail (shape_hvRecord h)) fun _ => ?_
  refine shape_ite (fun _ => shape_passFail (shape_hvRecord h)) fun _ => ?_
  refine shape_ite (fun _ => shape_hvYield (shape_modPass (shape_hvRecord h))) fun _ => ?_
  exact shape_ite (fun _ => shape_hvYield (shape_modPass (shape_hvRecord h))) fun _ => shape_endPass (shape_hvRecord h)

theorem shape_nextSub {p vector : Nat} (h : WellShaped s) : WellShaped (nextSub p vector s) :=
  shape_hvYield (shape_startGuard (shape_modPass (shape_steer h)))

theorem shape_endSub {p : Nat} (h : WellShaped s) : WellShaped (endSub p s) := by
  unfold endSub
  split
  · exact h
  · exact shape_ite (fun _ => shape_nextSub h) fun _ => shape_endPass h

theorem shape_hvIso {p : Nat} (h : WellShaped s) : WellShaped (hvIso p s) := by
  unfold hvIso
  split
  · exact h
  · split
    · exact shape_endSub h
    · dsimp only
      split
      · exact shape_antiNext (shape_passTask (shape_modPass h))
      · exact shape_bRound (shape_drawn (shape_passTask (shape_modPass h)))
      · exact shape_vNext (shape_passTask (shape_modPass h))

theorem shape_hvRoundEnd {p : Nat} (h : WellShaped s) : WellShaped (hvRoundEnd p s) := by
  unfold hvRoundEnd
  split
  · exact h
  · exact shape_ite (fun _ => shape_hvYield (shape_modPass h)) fun _ => shape_endSub (shape_modPass h)

theorem shape_hvHold {p : Nat} {x : HyHandle} {t : State} (h : WellShaped s) (e : hvHold p x s = some t) : WellShaped t := by
  unfold hvHold at e
  split at e
  · exact shape_addHandle h e
  · cases e; exact shape_takeHandle h

theorem shape_modTag {t : HvTag} {f : InvEntry → InvEntry} (h : WellShaped s) : WellShaped (modTag t f s) := by
  unfold modTag
  split
  · exact h
  · exact shape_modInv h

theorem shape_reportTag {p : Nat} {t : HvTag} {data : Bytes} (h : WellShaped s) : WellShaped (reportTag p t data s) := by
  unfold reportTag
  refine shape_ite (fun _ => h) fun _ => ?_
  split
  · exact h
  · exact shape_reportInv h

theorem shape_dispose {p : Nat} {t : HvTag} (h : WellShaped s) : WellShaped (dispose p t s) := by
  unfold dispose
  split
  · exact shape_modPass h
  · refine shape_ite (fun _ => shape_modPass h) fun _ => ?_
    exact shape_ite (fun _ => shape_passHy (shape_modPass h)) fun _ => shape_modHandle (shape_modPass h)

theorem shape_treatTag {p : Nat} {t : HvTag} (h : WellShaped s) : WellShaped (treatTag p t s) :=
  shape_ite (fun _ => shape_passHy (shape_modPass h)) fun _ => shape_dispose (shape_reportTag h)

theorem shape_recordTag {p : Nat} {x y : HvTag} {t : State} (h : WellShaped s) (e : recordTag p x s = some (y, t)) : WellShaped t := by
  unfold recordTag at e
  split at e
  · cases e
  next e' => cases e; exact shape_countTag (shape_hearTag h e')

theorem shape_hvWorkOn {p : Nat} {w : HvWork} (h : WellShaped s) : WellShaped (hvWorkOn p w s) := by
  unfold hvWorkOn
  split
  · split
    · exact shape_passFail h
    · rename_i e
      have h := shape_hvHold h e
      exact shape_passHy (shape_modPass h)
  · dsimp only
    split
    · exact shape_passFail (shape_noteDesc h)
    · rename_i e
      have h := shape_recordTag (shape_noteDesc h) e
      split
      · exact shape_passFail (shape_reportTag h)
      · rename_i e
        have h := shape_hvHold h e
        exact shape_ite (fun _ => shape_passHy (shape_modPass h)) fun _ => shape_treatTag h

theorem shape_hvNext {p : Nat} (h : WellShaped s) : WellShaped (hvNext p s) := by
  unfold hvNext
  split
  · exact h
  · split
    · exact shape_hvWorkOn (shape_modPass h)
    · exact shape_passFail h
    · split
      · exact shape_hyResume (shape_modPass h)
      · exact shape_ite (fun _ => shape_sendBcast (shape_modPass h)) fun _ => shape_hvRoundEnd h

theorem shape_hvWindow {p : Nat} {w : Window} {rx : Bytes} {out : RxOut} {base : Nat} (h : WellShaped s) :
    WellShaped (hvWindow p w rx out base s) := by
  unfold hvWindow
  split
  · exact h
  · exact shape_hvNext (shape_modPass (shape_modAir (shape_quietAir h)))

theorem shape_readDone {p code : Nat} {data : Bytes} {t : HvTag} (h : WellShaped s) : WellShaped (readDone p code data t s) :=
  shape_dispose (shape_reportTag (shape_modTag h))

theorem shape_haltDone {p code : Nat} {t : HvTag} (h : WellShaped s) : WellShaped (haltDone p code t s) := by
  unfold haltDone
  refine shape_ite (fun _ => shape_modHandle (shape_countTag (shape_modPass h))) fun _ => ?_
  exact shape_modTag (shape_dropHandle (shape_countTag (shape_modPass h)))

theorem shape_ackDone {p code : Nat} {data : Bytes} {known : Bool} {t : HvTag} (h : WellShaped s) : WellShaped (ackDone p code data known t s) := by
  unfold ackDone
  split
  · exact shape_countTag (shape_modPass (shape_ite (fun _ => shape_reportTag h) fun _ => h))
  · refine shape_ite (fun _ => shape_treatTag (shape_modTag h)) fun _ => ?_
    dsimp only
    split
    · exact shape_passFail h
    · rename_i e
      exact shape_treatTag (shape_recordTag h e)

theorem shape_passStep {p : Nat} (h : WellShaped s) : WellShaped (passStep p s) := by
  unfold passStep
  split
  · exact h
  · split
    · refine shape_ite (fun _ => shape_passFail h) fun _ => ?_
      split
      · exact shape_passFail h
      · refine shape_ite (fun _ => shape_passFail h) fun _ => ?_
        exact shape_ite (fun _ => shape_modPass h) fun _ => shape_ite (fun _ => shape_hvQuery h) fun _ => shape_hvIso h
      · exact shape_hvNext (shape_modPass h)
      · exact shape_hvNext h
    · dsimp only
      split
      · exact shape_ite (fun _ => shape_modPass (shape_modPass h)) fun _ => shape_endPass (shape_modPass h)
      · exact shape_hvIsoDone (shape_modPass h)
      · exact shape_ackDone (shape_modPass h)
      · exact shape_ackDone (shape_modPass h)
      · exact shape_readDone (shape_modPass h)
      · exact shape_haltDone (shape_modPass h)
      · exact shape_modPass (shape_modPass h)

theorem shape_askField {p : Nat} (h : WellShaped s) : WellShaped (askField p s).2 := by
  unfold askField
  dsimp only
  split
  · exact h
  · split
    · exact h
    · exact shape_modRadio _ _ h
    · exact shape_startField h

theorem shape_startPass {p : Nat} {x : Option Hdr} (h : WellShaped s) : WellShaped (startPass p x s) := by
  unfold startPass
  extract_lets _ _ _ s1 s2 s3 _
  have h1 : WellShaped s1 := shape_ite (fun _ => shape_steer h) fun _ => h
  have h2 : WellShaped s2 := shape_ite (fun _ => shape_startGuard h1) fun _ => h1
  have h3 : WellShaped s3 := shape_modPort _ _ h2
  refine shape_ite (fun _ => ?_) fun _ => shape_modPass h3
  split
  · rename_i e
    exact shape_snd e (shape_askField (shape_passTask (shape_modPass h3)))
  · rename_i e
    exact shape_taskFail (shape_snd e (shape_askField (shape_passTask (shape_modPass h3))))

theorem shape_nextStart {p : Nat} (h : WellShaped s) : WellShaped (nextStart p s) := by
  unfold nextStart
  split
  · exact shape_ite (fun _ => shape_startPass (shape_modPort _ _ h)) fun _ => shape_fail _ _ _ _ (shape_modPort _ _ h)
  · exact h

theorem shape_gridStart {p : Nat} (h : WellShaped s) : WellShaped (gridStart p s) :=
  shape_ite (fun _ => shape_startPass h) fun _ => shape_modPort _ _ h

theorem shape_drivePass {n p : Nat} (h : WellShaped s) : WellShaped (drivePass n p s) := by
  induction n generalizing s with
  | zero => exact h
  | succ n ih =>
    have hc := shape_crossBase (p := p) h
    exact shape_ite (fun _ => ih (shape_passStep h)) fun _ => shape_ite (fun _ => h) fun _ => shape_ite (fun _ => hc) fun _ =>
      shape_ite (fun _ => ih (shape_nextStart hc)) fun _ => ih (shape_gridStart hc)

theorem shape_goOn {p : Nat} (h : WellShaped s) : WellShaped (goOn p s) := shape_settleIn (shape_offDue (shape_drivePass (shape_resumeParked h)))

theorem shape_harvestStart {hd : Hdr} {p : Nat} (h : WellShaped s) : WellShaped (harvestStart hd p s) := by
  unfold harvestStart
  refine shape_ite (fun _ => shape_fail _ _ _ _ h) fun _ => ?_
  exact shape_ite (fun _ => shape_goOn (shape_startPass h)) fun _ => shape_goOn (shape_modPort _ _ h)

theorem shape_stopPass {p code : Nat} (h : WellShaped s) : WellShaped (stopPass p code s) := by
  unfold stopPass
  split
  · exact h
  · split
    · exact shape_passFail (shape_modPort _ _ (shape_dropWant (shape_pressDrop h)))
    · exact shape_passFail h
    · exact shape_modPass h

theorem shape_harvestStop {hd : Hdr} {p : Nat} (h : WellShaped s) : WellShaped (harvestStop hd p s) :=
  shape_ite (fun _ => shape_ok _ _ _ h) fun _ => shape_goOn (shape_stopPass (shape_modPass h))

theorem shape_gridRun {p : Nat} (h : WellShaped s) : WellShaped (gridRun p s) := by
  unfold gridRun
  refine shape_ite (fun _ => h) fun _ => ?_
  exact shape_ite (fun _ => shape_modTimer _ _ h) fun _ => shape_goOn (shape_modPort _ _ (shape_modTimer _ _ h))

/-! ### The operations of Machine/LinkOps -/

theorem shape_modLink {f : Link → Link} (h : WellShaped s) : WellShaped (modLink f s) := shape_with h
theorem shape_sendCtl {dst : Src} {recs : List CtlRec} (h : WellShaped s) : WellShaped (sendCtl dst recs s) := shape_modLink h

theorem shape_sendHost {recs : List CtlRec} (h : WellShaped s) : WellShaped (sendHost recs s) := by
  unfold sendHost
  split
  · exact h
  · exact shape_sendCtl h

theorem shape_modCnt {f : LinkCnt → LinkCnt} (h : WellShaped s) : WellShaped (modCnt f s) := shape_modLink h
theorem shape_sendAck (h : WellShaped s) : WellShaped (sendAck s) := shape_modLink (shape_sendHost h)

theorem shape_sendNak (h : WellShaped s) : WellShaped (sendNak s) := by
  unfold sendNak
  split
  · exact h
  · exact shape_modLink (shape_modCnt (shape_sendHost h))

theorem shape_refuse {dst : Src} {seq code : Nat} (h : WellShaped s) : WellShaped (refuse dst seq code s) := shape_sendCtl (shape_modCnt h)
theorem shape_trackGap (h : WellShaped s) : WellShaped (trackGap s) := shape_modLink h
theorem shape_markRefused {queue seq alive : Nat} (h : WellShaped s) : WellShaped (markRefused queue seq alive s) := shape_trackGap (shape_modLink h)
theorem shape_takeCredit {queue limit : Nat} (h : WellShaped s) : WellShaped (takeCredit queue limit s) := shape_modLink h
theorem shape_raiseLimit {queue cells : Nat} (h : WellShaped s) : WellShaped (raiseLimit queue cells s) := shape_modLink h
theorem shape_sendDueCredits (h : WellShaped s) : WellShaped (sendDueCredits s) := shape_ite (fun _ => h) fun _ => shape_modLink (shape_sendHost h)

theorem shape_countForAck {ackReq : Bool} (h : WellShaped s) : WellShaped (countForAck ackReq s) :=
  shape_ite (fun _ => shape_sendAck (shape_modLink h)) fun _ => shape_modLink h

theorem shape_passIn {q cells : Nat} (h : WellShaped s) : WellShaped (passIn q cells s) :=
  shape_ite (fun _ => shape_raise _ _ _ (shape_modIn _ _ h)) fun _ => shape_modIn _ _ h

theorem shape_pushIn {q : Nat} {e : RingEntry} (h : WellShaped s) : WellShaped (pushIn q e s) := shape_modIn _ _ (shape_passIn h)
theorem shape_heard (h : WellShaped s) : WellShaped (heard s) := shape_modLink h
theorem shape_onAck {seq : Nat} (h : WellShaped s) : WellShaped (onAck seq s) := shape_modLink h
theorem shape_onNak {first count : Nat} (h : WellShaped s) : WellShaped (onNak first count s) := shape_modLink h

theorem shape_startDhcp (h : WellShaped s) : WellShaped (startDhcp s) := by
  unfold startDhcp
  refine shape_ite (fun _ => ?_) fun _ => shape_modLink h
  dsimp only
  split <;> exact shape_modLink (shape_with h)

theorem shape_takeLinkCfg (h : WellShaped s) : WellShaped (takeLinkCfg s) :=
  shape_ite (fun _ => shape_modLink h) fun _ => shape_startDhcp (shape_modLink h)

theorem shape_openSession {src : Src} {nonce grant : Nat} (h : WellShaped s) : WellShaped (openSession src nonce grant s) :=
  shape_sendCtl (shape_modLink (shape_takeLinkCfg h))

theorem shape_onHello {src : Src} {nonce grant : Nat} (h : WellShaped s) : WellShaped (onHello src nonce grant s) := by
  unfold onHello
  split
  · exact shape_openSession h
  · exact shape_ite (fun _ => shape_openSession h) fun _ => shape_refuse h

theorem shape_onRec {src : Src} {r : HostRec} (h : WellShaped s) : WellShaped (onRec src s r) := by
  unfold onRec
  split
  · exact shape_onHello h
  · exact shape_ite (fun _ => shape_onAck h) fun _ => h
  · exact shape_ite (fun _ => shape_onNak h) fun _ => h
  · exact shape_ite (fun _ => shape_takeCredit h) fun _ => h

theorem shape_emitFrame {retx : Bool} {f : SentFrame} (h : WellShaped s) : WellShaped (emitFrame retx f s) := by
  unfold emitFrame
  split
  · exact h
  · exact shape_modLink (shape_with h)

theorem shape_emitNew {q sel cells birth : Nat} {payload : Bytes} (h : WellShaped s) : WellShaped (emitNew q sel cells birth payload s) :=
  shape_emitFrame (shape_modLink h)

theorem shape_drainWaiting {q k : Nat} (h : WellShaped s) : WellShaped (drainWaiting q k s) := by
  induction k generalizing s with
  | zero => exact h
  | succ k ih =>
    unfold drainWaiting
    split
    · exact h
    · exact shape_ite (fun _ => ih (shape_pushOut _ _ (shape_modOut _ _ h))) fun _ => h

theorem shape_popOut {q n : Nat} (h : WellShaped s) : WellShaped (popOut q n s) := shape_drainWaiting (shape_modOut _ _ h)

theorem shape_latchNoCredit (h : WellShaped s) : WellShaped (latchNoCredit s) := by
  unfold latchNoCredit
  refine shape_foldl (fun s x h => ?_) _ h
  split
  · exact shape_modOut _ _ h
  · exact h

theorem shape_transmitNew (h : WellShaped s) : WellShaped (transmitNew s) := by
  unfold transmitNew
  extract_lets s1
  have h1 : WellShaped s1 := shape_latchNoCredit h
  split
  · exact shape_emitNew (shape_modLink h1)
  · exact shape_popOut (shape_emitNew (shape_modLink h1))
  · exact h1

theorem shape_transmitOne (h : WellShaped s) : WellShaped (transmitOne s) := by
  unfold transmitOne
  dsimp only
  split
  · exact shape_modLink (shape_with (shape_sendDueCredits h))
  · split
    · split
      · exact shape_modLink (shape_sendDueCredits h)
      · exact shape_emitFrame (shape_modLink (shape_modCnt (shape_modLink (shape_sendDueCredits h))))
    · exact shape_ite (fun _ => shape_sendDueCredits h) fun _ => shape_transmitNew (shape_sendDueCredits h)

end Sys2Proof.Machine
end

section
/-!
SUPPORT. The shape is kept by the operations of Cellar, of the port engine, of Lens and of the radio.
-/

namespace Sys2Proof.Machine

set_option Elab.async false

variable {s : State}

/-! ### The operations of Machine/Cellar -/

theorem shape_appendRec {n : Nat} {c : Cask} (h : WellShaped s) : WellShaped (appendRec n c s) := shape_modSec h

theorem shape_fillCask {n : Nat} {key : Bytes} {attr parent gen : Nat} (h : WellShaped s) : WellShaped (fillCask n key attr parent gen s) :=
  shape_appendRec h

theorem shape_emptyCask {n : Nat} (h : WellShaped s) : WellShaped (emptyCask n s) := by
  unfold emptyCask
  split
  · exact h
  · exact shape_appendRec h

theorem shape_zeroiseRevoked (h : WellShaped s) : WellShaped (zeroiseRevoked s) := shape_ports h (List.length_map _)
theorem shape_countDone (h : WellShaped s) : WellShaped (countDone s) := shape_with h

theorem shape_cellarOk {hd : Hdr} {op : Nat} {body : Bytes} (h : WellShaped s) : WellShaped (cellarOk hd op body s) :=
  shape_ok _ _ _ (shape_countDone h)

theorem shape_countRefused (h : WellShaped s) : WellShaped (countRefused s) := shape_with h

theorem shape_cellarFail {hd : Hdr} {op code cask : Nat} (h : WellShaped s) : WellShaped (cellarFail hd op code cask s) :=
  shape_fail _ _ _ _ (shape_countRefused h)

theorem shape_createCheck {hd : Hdr} {op n attr : Nat} {go : State → State} (h : WellShaped s) (hgo : ∀ t, WellShaped t → WellShaped (go t)) :
    WellShaped (createCheck hd op n attr s go) := by
  unfold createCheck
  refine shape_ite (fun _ => shape_cellarFail h) fun _ => ?_
  exact shape_ite (fun _ => shape_failRange _ _ _ (shape_countRefused h)) fun _ => hgo _ h

theorem shape_seedDrbg (h : WellShaped s) : WellShaped (seedDrbg s) := shape_drawn (shape_with h)

theorem shape_randomBytes {n : Nat} (h : WellShaped s) : WellShaped (randomBytes n s).2 :=
  shape_with (shape_ite (fun _ => shape_seedDrbg h) fun _ => h)

theorem shape_infoRun {hd : Hdr} {n : Nat} (h : WellShaped s) : WellShaped (infoRun hd n s) := shape_cellarOk h

theorem shape_importCask {hd : Hdr} {n kek attr : Nat} {wrapped : Bytes} (h : WellShaped s) : WellShaped (importCask hd n kek attr wrapped s) := by
  unfold importCask
  refine shape_ite (fun _ => shape_fail _ _ _ _ (shape_countRefused h)) fun _ => ?_
  split
  · exact shape_cellarFail h
  · refine shape_createCheck h (fun _ h => ?_)
    refine shape_ite (fun _ => shape_failRange _ _ _ h) fun _ => ?_
    split
    · exact shape_fail _ _ _ _ h
    · exact shape_cellarOk (shape_fillCask h)

theorem shape_generateCask {hd : Hdr} {n bits attr : Nat} (h : WellShaped s) : WellShaped (generateCask hd n bits attr s) := by
  unfold generateCask
  refine shape_ite (fun _ => shape_fail _ _ _ _ (shape_countRefused h)) fun _ => ?_
  exact shape_createCheck h (fun _ h => shape_ite (fun _ => shape_failRange _ _ _ h) fun _ => shape_cellarOk (shape_fillCask (shape_with (shape_ite
    (fun _ => shape_seedDrbg h) fun _ => h))))

theorem shape_deriveCask {hd : Hdr} {n parent attr : Nat} {label context : Bytes} (h : WellShaped s) :
    WellShaped (deriveCask hd n parent attr label context s) := by
  unfold deriveCask
  refine shape_ite (fun _ => shape_fail _ _ _ _ (shape_countRefused h)) fun _ => ?_
  split
  · exact shape_cellarFail h
  · exact shape_createCheck h (fun _ h => shape_ite (fun _ => shape_failRange _ _ _ h) fun _ => shape_ite (fun _ => shape_failRange _ _ _ h) fun _ =>
      shape_cellarOk (shape_fillCask h))

theorem shape_destroyCask {hd : Hdr} {n : Nat} (h : WellShaped s) : WellShaped (destroyCask hd n s) :=
  shape_ite (fun _ => shape_cellarOk h) fun _ => shape_cellarOk (shape_zeroiseRevoked (shape_emptyCask h))

theorem shape_encryptRun {hd : Hdr} {n mode : Nat} {iv data : Bytes} (h : WellShaped s) : WellShaped (encryptRun hd n mode iv data s) := by
  unfold encryptRun
  split
  · exact shape_cellarFail h
  · exact shape_ite (fun _ => shape_failRange _ _ _ h) fun _ => shape_cellarOk h

theorem shape_decryptRun {hd : Hdr} {n mode : Nat} {iv data : Bytes} (h : WellShaped s) : WellShaped (decryptRun hd n mode iv data s) := by
  unfold decryptRun
  split
  · exact shape_cellarFail h
  · exact shape_cellarOk h

theorem shape_wrapRun {hd : Hdr} {n target : Nat} (h : WellShaped s) : WellShaped (wrapRun hd n target s) := by
  unfold wrapRun
  split
  · exact shape_cellarFail h
  · split
    · exact shape_cellarFail h
    · exact shape_cellarOk h

theorem shape_attestRun {hd : Hdr} {n : Nat} {nonce : Bytes} (h : WellShaped s) : WellShaped (attestRun hd n nonce s) := by
  unfold attestRun
  split
  · exact shape_cellarFail h
  · exact shape_cellarOk h

theorem shape_listRun {hd : Hdr} (h : WellShaped s) : WellShaped (listRun hd s) := shape_cellarOk h

theorem shape_beginChange {hd : Hdr} {op : Nat} {program : Sec → Sec} (h : WellShaped s) : WellShaped (beginChange hd op program s) :=
  shape_zeroiseRevoked (shape_with (shape_modSec (shape_modSec h)))

theorem shape_lifecycleRun {hd : Hdr} {target confirm : Nat} (h : WellShaped s) : WellShaped (lifecycleRun hd target confirm s) := by
  unfold lifecycleRun
  refine shape_ite (fun _ => shape_fail _ _ _ _ h) fun _ => ?_
  exact shape_ite (fun _ => shape_beginChange h) fun _ => shape_ite (fun _ => shape_beginChange h) fun _ => shape_fail _ _ _ _ h

theorem shape_debugOpenRun {hd : Hdr} {confirm : Nat} (h : WellShaped s) : WellShaped (debugOpenRun hd confirm s) := by
  unfold debugOpenRun
  refine shape_ite (fun _ => shape_fail _ _ _ _ h) fun _ => shape_ite (fun _ => shape_fail _ _ _ _ h) fun _ => ?_
  exact shape_ite (fun _ => shape_fail _ _ _ _ h) fun _ => shape_fillCask (shape_with (shape_beginChange h))

theorem shape_changeDone (h : WellShaped s) : WellShaped (changeDone s) := by
  unfold changeDone
  split
  · exact h
  · exact h
  · refine shape_raise _ _ _ ?_
    split
    · exact shape_cellarOk (shape_with (shape_modSec h))
    · exact shape_with (shape_modSec h)

theorem shape_rollBack (h : WellShaped s) : WellShaped (rollBack s) := by
  unfold rollBack
  split
  · exact h
  · exact shape_ite (fun _ => h) fun _ => shape_raise _ _ _ (shape_modSec h)

theorem shape_scanLog (h : WellShaped s) : WellShaped (scanLog s) := shape_modSec h

theorem shape_recoverRun {torn : Option Nat} (h : WellShaped s) : WellShaped (recoverRun torn s) := by
  unfold recoverRun
  refine shape_ite (fun _ => h) fun _ => ?_
  extract_lets s1 s2 _ _ s3 _ s4
  have h1 : WellShaped s1 := by
    unfold s1
    split
    · exact shape_modSec h
    · exact h
  have h2 : WellShaped s2 := shape_seedDrbg (shape_rollBack h1)
  have h3 : WellShaped s3 := shape_scanLog (shape_modSec h2)
  have h4 : WellShaped s4 := shape_with h3
  exact shape_ite (fun _ => h4) fun _ => shape_raise _ _ _ (shape_foldl (fun _ _ h => shape_raise _ _ _ h) _ h4)

theorem shape_credChallenge {p op : Nat} {c : HyCmd} {fire : Option Nat} (h : WellShaped s) : WellShaped (credChallenge p op c fire s) := by
  unfold credChallenge
  refine shape_hyBegin ?_
  refine shape_ite (fun _ => shape_with (shape_ite (fun _ => shape_seedDrbg h) fun _ => h)) fun _ => ?_
  exact shape_drawn (shape_with (shape_ite (fun _ => shape_seedDrbg h) fun _ => h))

theorem shape_credGo {p op : Nat} {c : HyCmd} {stage : HyStage} {base : Nat} (h : WellShaped s) : WellShaped (credGo p op c stage base s) := by
  unfold credGo
  split
  · exact shape_credChallenge h
  · exact shape_hyGo h
  · exact shape_hyFail h
  · exact shape_credDrop h

theorem shape_credShadow {p op : Nat} {c : HyCmd} {base : Nat} (h : WellShaped s) : WellShaped (credShadow p op c base s) := by
  unfold credShadow
  split
  · exact shape_credGo h
  · exact shape_ite (fun _ => shape_credGo h) fun _ => shape_quietAir (shape_setHy h)

theorem shape_credOk {p : Nat} {body : Bytes} (h : WellShaped s) : WellShaped (credOk p body s) := shape_taskOk (shape_countDone h)

theorem shape_credReply {p op : Nat} {c : HyCmd} {payload : Bytes} {base : Nat} (h : WellShaped s) :
    WellShaped (credReply p op c payload base s) := by
  unfold credReply
  refine shape_ite (fun _ => shape_hyGo h) fun _ => shape_ite (fun _ => shape_hyStatus h) fun _ => ?_
  split
  · exact shape_ite (fun _ => shape_taskFail h) fun _ => shape_credGo h
  · exact shape_credShadow h
  · exact shape_credGo h
  · exact shape_ite (fun _ => shape_credGo h) fun _ => shape_credOk h
  · exact shape_ite (fun _ => shape_credOk h) fun _ => shape_hyFail h
  · exact h

theorem shape_placeRun {p : Nat} (h : WellShaped s) : WellShaped (placeRun p s) := by
  unfold placeRun
  split
  · refine shape_ite (fun _ => h) fun _ => ?_
    refine shape_ite (fun _ => shape_ite (fun _ => shape_credShadow h) fun _ => h) fun _ => ?_
    exact shape_ite (fun _ => shape_credShadow (shape_modPort _ _ h)) fun _ => shape_modPort _ _ h
  · exact h

/-! ### The operations of Machine/Engine -/

theorem shape_passClear {p base : Nat} (h : WellShaped s) : WellShaped (passClear p base s) := shape_modPass h

theorem shape_endDesc {p : Nat} {t : Task} {out : RxOut} (h : WellShaped s) : WellShaped (endDesc p t out s) := by
  unfold endDesc
  split
  · exact shape_ite (fun _ => shape_heardDesc h) fun _ => h
  · exact h

theorem shape_deliver {p : Nat} {w : Window} {rx : Option Bytes} {out : RxOut} {base : Nat} (h : WellShaped s) :
    WellShaped (deliver p w rx out base s) := by
  unfold deliver
  extract_lets s1 s2 s3
  have h1 : WellShaped s1 := shape_modAir (shape_closeRx (shape_disarm _ h))
  have h2 : WellShaped s2 := shape_ite (fun _ => shape_modTask h1) fun _ => h1
  have h3 : WellShaped s3 := by
    unfold s3
    dsimp only
    split
    · split
      · exact shape_taskFail (shape_endDesc h2)
      · split
        · exact shape_hyResult (fun _ _ _ _ _ h => shape_credReply h) (shape_ite (fun _ => shape_passClear h2) fun _ => h2)
        · exact shape_isoResult (shape_ite (fun _ => shape_passClear h2) fun _ => h2)
        · exact shape_ite (fun _ => shape_passClear h2) fun _ => h2
    · exact shape_ite (fun _ => shape_hvWindow h1) fun _ => shape_quietAir h1
  exact shape_freeQd (shape_goOn h3)

theorem shape_endQuiet {p : Nat} (h : WellShaped s) : WellShaped (endQuiet p s) := by
  unfold endQuiet
  split
  · exact shape_ite (fun _ => h) fun _ => shape_freeQd (shape_goOn (shape_taskFail h))
  · exact h

theorem shape_dpdSlice {lead q evm : Nat} (h : WellShaped s) : WellShaped (dpdSlice lead q evm s) := by
  unfold dpdSlice
  refine shape_ite (fun _ => shape_raise _ _ _ (shape_modRadio _ _ (shape_modSlice _ _ (shape_drawn h)))) fun _ => ?_
  exact shape_modSlice _ _ (shape_drawn h)

theorem shape_dpdAfter {p evm : Nat} (h : WellShaped s) : WellShaped (dpdAfter p evm s) :=
  shape_foldl (fun _ _ h => shape_ite (fun _ => shape_dpdSlice h) fun _ => shape_dpdSlice (shape_drawn h)) _ h

theorem shape_dpdUnheard {p : Nat} (h : WellShaped s) : WellShaped (dpdUnheard p s) := shape_ite (fun _ => shape_dpdAfter h) fun _ => h

theorem shape_windowEnd {p base : Nat} {w : Window} (h : WellShaped s) : WellShaped (windowEnd p base w s) := by
  unfold windowEnd
  dsimp only
  split <;> exact shape_deliver (shape_dpdUnheard h)

theorem shape_startRamp {p : Nat} (h : WellShaped s) : WellShaped (startRamp p s) := by
  unfold startRamp
  refine shape_ite (fun _ => h) fun _ => ?_
  exact shape_ite (fun _ => shape_armSoon h) fun _ => shape_ite (fun _ => shape_modRadio _ _ h) fun _ => shape_modRadio _ _ h

theorem shape_guardOver {p : Nat} (h : WellShaped s) : WellShaped (guardOver p s) := by
  unfold guardOver
  split
  · exact h
  · exact shape_ite (fun _ => h) fun _ => shape_goOn (shape_kick (shape_modRadio _ _ h))

theorem shape_armWindow {p action fire fin : Nat} {tx : Tx} (h : WellShaped s) : WellShaped (armWindow p action fire fin tx s) :=
  shape_ite (fun _ => shape_setGrid h) fun _ => shape_setTimer _ _ _ h

theorem shape_startDownlink {p fire : Nat} (h : WellShaped s) : WellShaped (startDownlink p fire s) := by
  unfold startDownlink
  split
  · exact h
  · refine shape_ite (fun _ => shape_modAir h) fun _ => ?_
    dsimp only
    split
    · exact shape_setTimer _ _ _ (shape_ite (fun _ => shape_modIso (shape_modAir h)) fun _ => shape_modAir h)
    · exact shape_armWindow (shape_ite (fun _ => shape_modIso (shape_modAir h)) fun _ => shape_modAir h)

theorem shape_fireB {p action fire : Nat} (h : WellShaped s) : WellShaped (fireB p action fire s) := by
  unfold fireB
  split
  · exact shape_startDownlink h
  · split
    · exact h
    · exact shape_armWindow (shape_openWindow (shape_trackMirror h))
  · exact shape_modAir h
  · exact shape_ite (fun _ => shape_deliver (shape_dpdUnheard (shape_trackMirror h))) fun _ => h
  · exact h

theorem shape_releaseQd {p : Nat} (h : WellShaped s) : WellShaped (releaseQd p s) := by
  unfold releaseQd
  refine shape_ite (fun _ => shape_armQd (shape_setQd h)) fun _ => ?_
  split
  · split
    · exact shape_modAir h
    · exact shape_ite (fun _ => shape_armSoon h) fun _ => shape_ite (fun _ => shape_modAir h) fun _ => shape_setQd h
  · exact shape_setQd h

theorem shape_fireA {p action : Nat} (h : WellShaped s) : WellShaped (fireA p action s) := by
  unfold fireA
  split
  · exact shape_guardOver h
  · exact shape_startRamp h
  · exact shape_interruptField h
  · exact shape_armQd (shape_setQd h)
  · exact shape_releaseQd h
  · exact h

theorem shape_fireOne {n : Nat} (h : WellShaped s) : WellShaped (fireOne n s) := by
  unfold fireOne
  refine shape_ite (fun _ => h) fun _ => ?_
  dsimp only
  split
  · refine shape_ite (fun _ => shape_armRunEnd (shape_fireA (shape_disarm _ h))) fun _ => ?_
    exact shape_ite (fun _ => shape_fireB (shape_disarm _ h)) fun _ => shape_ite (fun _ => shape_gridRun h) fun _ => h
  · exact h

theorem shape_timerFireRun {n : Nat} (h : WellShaped s) : WellShaped (timerFireRun n s) := by
  unfold timerFireRun
  refine shape_ite (fun _ => shape_ite (fun _ => shape_armRunEnd h) fun _ => h) fun _ => shape_fireOne ?_
  exact shape_foldl (fun _ _ h => shape_fireOne h) _ (shape_ite (fun _ => shape_armRunEnd h) fun _ => h)

theorem shape_underrunRun {p : Nat} (h : WellShaped s) : WellShaped (underrunRun p s) := by
  unfold underrunRun
  split
  · exact h
  · refine shape_goOn ?_
    exact shape_ite (fun _ => shape_stepFail (shape_countEngine h)) fun _ => shape_passFail (shape_quietAir (shape_countEngine h))

theorem shape_overrunRun {p : Nat} (h : WellShaped s) : WellShaped (overrunRun p s) := by
  unfold overrunRun
  split
  · exact h
  · dsimp only
    split
    · exact shape_countEngine h
    · refine shape_ite (fun _ => shape_windowEnd (shape_loseFrame (shape_countEngine h))) fun _ => ?_
      exact shape_endQuiet (shape_modAir (shape_loseFrame (shape_countEngine h)))

theorem shape_modWin {p : Nat} {f : Window → Window} (h : WellShaped s) : WellShaped (modWin p f s) := shape_modAir h
theorem shape_falseSync {p : Nat} (h : WellShaped s) : WellShaped (falseSync p s) := shape_modWin (shape_modRx h)
theorem shape_holdFrame {p : Nat} {x : Held} (h : WellShaped s) : WellShaped (holdFrame p x s) := shape_modWin h

theorem shape_syncRun {p : Nat} {h4 : Bool} {errs corr : Nat} {strength : Int} (h : WellShaped s) :
    WellShaped (syncRun p h4 errs corr strength s) := by
  unfold syncRun
  split
  · exact h
  · refine shape_ite (fun _ => h) fun _ => ?_
    dsimp only
    split
    · exact shape_holdFrame (shape_drawn h)
    · split
      · split
        · exact shape_holdFrame (shape_falseSync (shape_drawn h))
        · exact shape_holdFrame (shape_modWin (shape_modRx (shape_loseFrame (shape_drawn h))))
      · exact shape_ite (fun _ => shape_holdFrame (shape_modWin (shape_falseSync (shape_drawn h)))) fun _ => shape_drawn h

theorem shape_letGo {p : Nat} {f : Window → Window} (h : WellShaped s) : WellShaped (letGo p f s) := by
  unfold letGo
  dsimp only
  split
  · exact shape_ite (fun _ => shape_windowEnd (shape_modWin h)) fun _ => shape_endQuiet (shape_modWin h)
  · exact shape_modWin h

theorem shape_dateQd {p : Nat} {x : Held} (h : WellShaped s) : WellShaped (dateQd p x s) := by
  unfold dateQd
  split
  · exact shape_armSoon (shape_modAir h)
  · exact h

theorem shape_headerRun {p header check : Nat} (h : WellShaped s) : WellShaped (headerRun p header check s) := by
  unfold headerRun
  split
  · exact h
  · split
    · exact h
    · refine shape_ite (fun _ => h) fun _ => shape_ite (fun _ => shape_letGo (shape_falseSync h)) fun _ => ?_
      dsimp only
      split
      · exact shape_holdFrame (shape_dateQd (shape_drawn h))
      · exact shape_letGo (shape_loseFrame (shape_drawn h))

theorem shape_sofRun {p : Nat} {energy strength : Int} (h : WellShaped s) : WellShaped (sofRun p energy strength s) := by
  unfold sofRun
  split
  · exact h
  · exact shape_ite (fun _ => h) fun _ => shape_holdFrame (shape_drawn h)

theorem shape_agcRun {p : Nat} {level : Int} {clipped : Bool} (h : WellShaped s) : WellShaped (agcRun p level clipped s) := shape_modWin h

theorem shape_judge {p : Nat} {w : Window} {x : Held} {m : RxMeas} {envEvm code : Nat} {out : RxOut} (h : WellShaped s) :
    WellShaped (judge p w x m envEvm code out s) := by
  unfold judge
  refine shape_deliver ?_
  refine shape_ite (fun _ => shape_dpdAfter (shape_noteLevel (shape_noteFrame (shape_modRx h)))) fun _ => ?_
  exact shape_noteLevel (shape_noteFrame (shape_modRx h))

theorem shape_verdictRun {p : Nat} {f : RxFrame} {m : RxMeas} {envEvm : Nat} (h : WellShaped s) : WellShaped (verdictRun p f m envEvm s) := by
  unfold verdictRun
  split
  · exact h
  · split
    · exact h
    · split
      · exact h
      · split
        · exact h
        · exact shape_judge h

theorem shape_windowCloseRun {p : Nat} (h : WellShaped s) : WellShaped (windowCloseRun p s) := by
  unfold windowCloseRun
  split
  · exact h
  · exact shape_ite (fun _ => h) fun _ => shape_windowEnd h

theorem shape_busyRun {p : Nat} (h : WellShaped s) : WellShaped (busyRun p s) := shape_goOn (shape_resumeParked (shape_modPort _ _ h))

/-! ### The operations of Machine/LensOps -/

theorem shape_modLens {p : Nat} {f : Lens → Lens} (h : WellShaped s) : WellShaped (modLens p f s) := shape_modPort _ _ h

theorem shape_pulseTraces {p : Nat} (h : WellShaped s) : WellShaped (pulseTraces p s) :=
  shape_modPort _ _ (shape_modRadio _ _ (shape_modSlice _ _ (shape_drawn h)))

theorem shape_lensMeasureWork {p : Nat} (h : WellShaped s) : WellShaped (lensMeasureWork p s).2.2 := by
  unfold lensMeasureWork
  split
  · exact h
  · exact shape_pulseTraces (shape_modLens (shape_drawn h))

/-! ### The operations of Machine/RadioRun -/

theorem shape_unhold {p : Nat} (h : WellShaped s) : WellShaped (unhold p s) := shape_goOn (shape_modPort _ _ h)
theorem shape_modMirror {f : MirrorJob → MirrorJob} (h : WellShaped s) : WellShaped (modMirror f s) := shape_with h

theorem shape_endMirror (h : WellShaped s) : WellShaped (endMirror s) := by
  unfold endMirror
  split
  · exact h
  · refine shape_foldl (fun s x h => ?_) _ (shape_ite (fun _ => shape_foldl (fun _ _ h => shape_modRadio _ _ h) _ (shape_with h)) fun _ => shape_with
      h)
    exact shape_unhold h

theorem shape_failMirror {code : Nat} {d : Detail} (h : WellShaped s) : WellShaped (failMirror code d s) := by
  unfold failMirror
  split
  · exact h
  · exact shape_endMirror (shape_fail _ _ _ _ h)

theorem shape_askMirror (h : WellShaped s) : WellShaped (askMirror s) := by
  unfold askMirror
  split
  · exact h
  · refine shape_ite (fun _ => shape_endMirror (shape_ok _ _ _ h)) fun _ => ?_
    exact shape_ite (fun _ => shape_grant (shape_with h)) fun _ => shape_ite (fun _ => shape_failMirror h) fun _ => shape_with h

theorem shape_holdMirror {p : Nat} (h : WellShaped s) : WellShaped (holdMirror p s) := by
  unfold holdMirror
  split
  · exact h
  · refine shape_ite (fun _ => h) fun _ => shape_ite (fun _ => shape_failMirror h) fun _ => ?_
    exact shape_ite (fun _ => shape_askMirror (shape_modPort _ _ (shape_modMirror h))) fun _ => shape_modPort _ _ (shape_modMirror h)

theorem shape_noteField {p : Nat} {level : Int} (h : WellShaped s) : WellShaped (noteField p level s) :=
  shape_ite (fun _ => shape_raise _ _ _ (shape_modRx h)) fun _ => shape_modRx h

theorem shape_noteOff {p : Nat} {level : Int} (h : WellShaped s) : WellShaped (noteOff p level s) := shape_modRx h
theorem shape_noteProfile {p : Nat} {xs : List Int} (h : WellShaped s) : WellShaped (noteProfile p xs s) := shape_modRx h

theorem shape_measureOne {p : Nat} (h : WellShaped s) : WellShaped (measureOne p s).2 := by
  unfold measureOne
  refine shape_noteProfile ?_
  exact shape_ite (fun _ => shape_noteField (shape_drawn h)) fun _ => shape_noteOff (shape_drawn h)

theorem shape_endNoise (h : WellShaped s) : WellShaped (endNoise s) := by
  unfold endNoise
  split
  · exact h
  · exact shape_ite (fun _ => h) fun _ => shape_respondList (shape_with h)

theorem shape_noiseAt {p : Nat} (h : WellShaped s) : WellShaped (noiseAt p s) := by
  unfold noiseAt
  split
  · exact h
  · exact shape_ite (fun _ => h) fun _ => shape_endNoise (shape_with (shape_measureOne h))

theorem shape_measureNoiseRun {hd : Hdr} {ports : Nat} (h : WellShaped s) : WellShaped (measureNoiseRun hd ports s) :=
  shape_endNoise (shape_foldl (fun _ _ h => shape_noiseAt h) _ (shape_with h))

theorem shape_mirrorTrainRun {hd : Hdr} {ports timeoutUs : Nat} (h : WellShaped s) : WellShaped (mirrorTrainRun hd ports timeoutUs s) := by
  unfold mirrorTrainRun
  refine shape_ite (fun _ => shape_fail _ _ _ _ h) fun _ => ?_
  split
  · exact shape_fail _ _ _ _ h
  · exact shape_ite (fun _ => shape_askMirror (shape_with h)) fun _ => shape_foldl (fun _ _ h => shape_holdMirror h) _ (shape_with h)

theorem shape_trainingRun {coupling : List (Nat × Nat × Int)} (h : WellShaped s) : WellShaped (trainingRun coupling s) := by
  unfold trainingRun
  split
  · exact h
  · exact shape_ite (fun _ => h) fun _ => shape_endMirror (shape_ok _ _ _ (shape_with (shape_trainFilters h)))

theorem shape_noiseRun {p : Nat} {fieldOn : Bool} {level : Int} {profile : Option (List Int)} (h : WellShaped s) :
    WellShaped (noiseRun p fieldOn level profile s) := by
  unfold noiseRun
  refine shape_ite (fun _ => h) fun _ => ?_
  refine shape_ite (fun _ => ?_) fun _ => shape_ite (fun _ => h) fun _ => shape_noteOff h
  refine shape_ite (fun _ => h) fun _ => ?_
  dsimp only
  split
  · exact shape_ite (fun _ => shape_noteProfile (shape_noteField h)) fun _ => shape_noteField h
  · exact shape_noteField h

theorem shape_tuneNow {p : Nat} (h : WellShaped s) : WellShaped (tuneNow p s).2 :=
  shape_prismTnCheck (shape_tuneRan (shape_adaptSet (shape_autotune h)))

theorem shape_autotuneWork {p : Nat} (h : WellShaped s) : WellShaped (autotuneWork p s).2.2 := by
  unfold autotuneWork
  split
  · exact h
  · dsimp only
    split <;> exact shape_tuneNow h

theorem shape_wakeSlices {p : Nat} (h : WellShaped s) : WellShaped (wakeSlices p s) :=
  shape_foldl (fun _ _ h => shape_ite (fun _ => h) fun _ => shape_aim h) _ h

theorem shape_pendTask {hd : Hdr} {op p : Nat} (h : WellShaped s) : WellShaped (pendTask hd op p s) := shape_wakeSlices (shape_modPort _ _ h)

theorem shape_autotuneRun {hd : Hdr} {p : Nat} (h : WellShaped s) : WellShaped (autotuneRun hd p s) := by
  unfold autotuneRun
  refine shape_ite (fun _ => shape_fail _ _ _ _ h) fun _ => ?_
  refine shape_ite (fun _ => shape_pendTask h) fun _ => shape_respond _ _ _ _ (shape_settle ?_)
  split
  · exact h
  · split
    rename_i e
    have h := shape_snd e (shape_tuneNow h)
    split <;> exact h

theorem shape_calSynth {p : Nat} (h : WellShaped s) : WellShaped (calSynth p s) := by
  unfold calSynth
  split
  · exact shape_foldl (fun _ _ h => shape_ite (fun _ => shape_recal h) fun _ => shape_aim h) _ h
  · exact h
  · exact shape_rampDown (shape_modRadio _ _ h)

theorem shape_paWork {p : Nat} (h : WellShaped s) : WellShaped (paWork p s).2 := by
  unfold paWork
  split
  · exact h
  · refine shape_foldl (fun s x h => ?_) _ (shape_drawn h)
    exact shape_ite (fun _ => shape_countWear h) fun _ => shape_modRadio _ _ (shape_modSlice _ _ h)

theorem shape_calNext {p : Nat} (h : WellShaped s) : WellShaped (calNext p s) := by
  unfold calNext
  split
  · extract_lets put
    refine shape_ite (fun _ => shape_calSynth h) fun _ => shape_ite (fun _ => shape_wakeSlices h) fun _ => ?_
    split
    rename_i bad s1 e
    have h1 : WellShaped s1 := by
      refine shape_snd e ?_
      split
      · exact shape_paWork h
      · exact h
    split
    · exact shape_settle (shape_taskFail h1)
    · extract_lets s2 s3
      have h2 : WellShaped s2 := shape_modTask h1
      have h3 : WellShaped s3 := shape_ite (fun _ => shape_modRadio _ _ h2) fun _ => h2
      refine shape_ite (fun _ => shape_modRadio _ _ h2) fun _ => ?_
      split
      · exact shape_settle (shape_taskFail h3)
      · split
        rename_i found s4 e
        have h4 : WellShaped s4 := by
          refine shape_snd e ?_
          split
          · exact shape_tuneNow h3
          · exact h3
        exact shape_settle (shape_ite (fun _ => shape_taskOk (shape_adaptSet h4)) fun _ => shape_taskFail (shape_adaptSet h4))
  · exact h

theorem shape_calStepDone {p b evm : Nat} (h : WellShaped s) : WellShaped (calStepDone p b evm s) := by
  unfold calStepDone
  split
  · exact shape_ite (fun _ => h) fun _ => shape_goOn (shape_calNext (shape_modTask h))
  · exact h

theorem shape_calibrateRun {hd : Hdr} {p mask : Nat} (h : WellShaped s) : WellShaped (calibrateRun hd p mask s) :=
  shape_ite (fun _ => shape_fail _ _ _ _ h) fun _ => shape_calNext (shape_modPort _ _ h)

theorem shape_dpdRun {p : Nat} {amp phase taps : List Int} {evm : Nat} (h : WellShaped s) : WellShaped (dpdRun p amp phase taps evm s) :=
  shape_ite (fun _ => h) fun _ => shape_calStepDone (shape_modRadio _ _ (shape_modSlice _ _ (shape_modAir h)))

theorem shape_fieldOnRun {hd : Hdr} {p : Nat} (h : WellShaped s) : WellShaped (fieldOnRun hd p s) := by
  unfold fieldOnRun
  refine shape_ite (fun _ => shape_ok _ _ _ h) fun _ => ?_
  dsimp only
  split
  · rename_i e
    exact shape_snd e (shape_askField (shape_modPort _ _ h))
  · rename_i e
    have h := shape_snd e (shape_askField (shape_modPort _ _ h))
    exact shape_settle (shape_taskFail h)

theorem shape_endRunning {p code : Nat} (h : WellShaped s) : WellShaped (endRunning p code s) := by
  unfold endRunning
  dsimp only
  split
  · exact h
  · refine shape_ite (fun _ => h) fun _ => shape_ite (fun _ => shape_taskFail h) fun _ => ?_
    split
    · exact shape_ite (fun _ => shape_armSoon (shape_modTask h)) fun _ => shape_modTask h
    · exact shape_modTask h

theorem shape_fieldOffRun {hd : Hdr} {p : Nat} (h : WellShaped s) : WellShaped (fieldOffRun hd p s) := by
  unfold fieldOffRun
  extract_lets _ s1 s2 s3 s4 s5 _
  have h1 : WellShaped s1 := shape_foldl (fun _ _ h => shape_failParked h) _ h
  have h2 : WellShaped s2 := shape_modPort _ _ h1
  have h3 : WellShaped s3 := by
    unfold s3
    split
    · exact shape_taskFail (shape_ite (fun _ => shape_dropWant h2) fun _ => h2)
    · exact shape_endRunning h2
    · exact h2
  have h4 : WellShaped s4 := shape_pressDrop h3
  have h5 : WellShaped s5 := shape_ite (fun _ => shape_stopPass h4) fun _ => h4
  split
  · exact shape_goOn (shape_driveCommit (shape_ok _ _ _ (shape_settle (shape_dropWant h5))))
  · exact shape_goOn (shape_modRadio _ _ h5)

theorem shape_prismCalWork {p : Nat} (h : WellShaped s) : WellShaped (prismCalWork p s).2.2 := by
  unfold prismCalWork
  split
  · exact h
  · split
    · exact h
    · dsimp only
      split <;> exact shape_prismCal h

theorem shape_runPending {p : Nat} (h : WellShaped s) : WellShaped (runPending p s) := by
  unfold runPending
  split
  · exact h
  · split
    · dsimp only
      refine shape_goOn (shape_endTask ?_)
      split
      · exact shape_prismCalWork h
      · split
        · exact shape_lensMeasureWork h
        · exact shape_autotuneWork h
    · exact shape_ite (fun _ => shape_goOn (shape_calNext h)) fun _ => h
    · exact h

theorem shape_sliceRun {p : Nat} (h : WellShaped s) : WellShaped (sliceRun p s) := shape_tryArm (shape_runPending (shape_modSlice _ _ h))

theorem shape_lockRun {p : Nat} {margin : Int} (h : WellShaped s) : WellShaped (lockRun p margin s) := by
  unfold lockRun
  refine shape_ite (fun _ => h) fun _ => shape_tryArm (shape_ite (fun _ => ?_) fun _ => ?_)
  · exact shape_ite (fun _ => shape_prismCal (shape_modSlice _ _ h)) fun _ => shape_modSlice _ _ h
  · refine shape_ite (fun _ => ?_) fun _ => ?_
    · refine shape_ite (fun _ => ?_) fun _ => ?_
      · exact shape_calStepDone (shape_ite (fun _ => shape_prismCal (shape_modSlice _ _ h)) fun _ => shape_modSlice _ _ h)
      · exact shape_ite (fun _ => shape_prismCal (shape_modSlice _ _ h)) fun _ => shape_modSlice _ _ h
    · exact shape_runPending (shape_ite (fun _ => shape_prismCal (shape_modSlice _ _ h)) fun _ => shape_modSlice _ _ h)

theorem shape_lockTimeoutRun {p : Nat} (h : WellShaped s) : WellShaped (lockTimeoutRun p s) := by
  unfold lockTimeoutRun
  extract_lets _ _ _ _ s1 s2 s3
  have h1 : WellShaped s1 := shape_modSlice _ _ h
  have h2 : WellShaped s2 := shape_pressDrop h1
  have h3 : WellShaped s3 := shape_ite (fun _ => shape_taskFail h2) fun _ => h2
  split
  · exact h
  · refine shape_ite (fun _ => h) fun _ => ?_
    exact shape_goOn (shape_ite (fun _ => shape_fieldEnded h3) fun _ => shape_settle (shape_dropWant h3))

theorem shape_lockLostRun {p : Nat} {phaseErr : Int} (h : WellShaped s) : WellShaped (lockLostRun p phaseErr s) := by
  unfold lockLostRun
  exact shape_ite (fun _ => h) fun _ => shape_goOn (shape_raise _ _ _ (shape_modSlice _ _ (shape_cutField (shape_abortWork h))))

theorem shape_rampUpRun {p : Nat} (h : WellShaped s) : WellShaped (rampUpRun p s) := by
  unfold rampUpRun
  refine shape_ite (fun _ => h) fun _ => shape_goOn (shape_lateChannel (shape_calStepDone ?_))
  split
  · exact shape_taskOk (shape_tellBack (shape_ite (fun _ => shape_fieldUp h) fun _ => shape_prismCal (shape_fieldUp h)))
  · exact shape_tellBack (shape_ite (fun _ => shape_fieldUp h) fun _ => shape_prismCal (shape_fieldUp h))

theorem shape_rampDownRun {p : Nat} (h : WellShaped s) : WellShaped (rampDownRun p s) := by
  unfold rampDownRun
  split
  · dsimp only
    split
    · exact shape_restOff (shape_fieldDown (shape_modRadio _ _ h))
    · refine shape_ite (fun _ => shape_fieldDown (shape_modRadio _ _ h)) fun _ => ?_
      exact shape_resumeField (shape_retune (shape_modRadio _ _ (shape_fieldDown (shape_modRadio _ _ h))))
  · dsimp only
    split
    · split
      · rename_i e
        exact shape_snd e (shape_askField (shape_driveCommit (shape_fieldEnded h)))
      · rename_i e
        have h := shape_snd e (shape_askField (shape_driveCommit (shape_fieldEnded h)))
        exact shape_goOn (shape_taskFail h)
    · exact shape_goOn (shape_calNext (shape_driveCommit (shape_fieldEnded h)))
    · exact shape_goOn (shape_driveCommit (shape_fieldEnded h))
  · exact h

theorem shape_offMinRun {p : Nat} (h : WellShaped s) : WellShaped (offMinRun p s) := by
  unfold offMinRun
  split
  · exact h
  · exact shape_ite (fun _ => h) fun _ => shape_tryArm (shape_modRadio _ _ h)

theorem shape_grantRun (h : WellShaped s) : WellShaped (grantRun s) := by
  unfold grantRun
  split
  · exact h
  · refine shape_ite (fun _ => h) fun _ => ?_
    exact shape_ite (fun _ => shape_goOn (shape_driveCommit (shape_applySet (shape_grant h)))) fun _ => shape_grant h

theorem shape_endTone {p code : Nat} {d : Detail} (h : WellShaped s) : WellShaped (endTone p code d s) := by
  unfold endTone
  split
  · exact h
  · extract_lets _ s1 s2
    have h1 : WellShaped s1 := shape_with h
    have h2 : WellShaped s2 := shape_modPort _ _ (shape_ite (fun _ => shape_modRadio _ _ h1) fun _ => h1)
    exact shape_ite (fun _ => shape_ok _ _ _ h2) fun _ => shape_fail _ _ _ _ h2

theorem shape_pressTimeoutRun {p : Nat} (h : WellShaped s) : WellShaped (pressTimeoutRun p s) := by
  unfold pressTimeoutRun
  split
  · exact h
  · dsimp only
    split
    · exact shape_goOn (shape_driveCommit (shape_applySet (shape_with h)))
    · exact shape_endTone (shape_with h)
    · exact shape_failMirror (shape_with h)
    · refine shape_goOn (shape_settle ?_)
      exact shape_ite (fun _ => shape_taskFail (shape_modRadio _ _ (shape_with h))) fun _ => shape_modRadio _ _ (shape_with h)

theorem shape_shedOne {g : ShedGrant} (h : WellShaped s) : WellShaped (shedOne g s) := by
  unfold shedOne
  dsimp only
  split
  · exact shape_goOn (shape_failField h)
  · exact shape_goOn (shape_failField h)
  · exact shape_endTone h
  · exact shape_failMirror h

theorem shape_shedRun (h : WellShaped s) : WellShaped (shedRun s) :=
  shape_ite (fun _ => h) fun _ => shape_raise _ _ _ (shape_foldl (fun _ _ h => shape_shedOne h) _ h)

theorem shape_dutyRun {p : Nat} (h : WellShaped s) : WellShaped (dutyRun p s) := by
  unfold dutyRun
  dsimp only
  split
  · exact h
  · exact shape_ite (fun _ => h) fun _ => shape_goOn (shape_failField (shape_raise _ _ _ h))

theorem shape_mismatchRun {p vswr : Nat} (h : WellShaped s) : WellShaped (mismatchRun p vswr s) := by
  unfold mismatchRun
  exact shape_ite (fun _ => shape_modRadio _ _ h) fun _ => shape_goOn (shape_failField (shape_raise _ _ _ (shape_modRadio _ _ h)))

theorem shape_paLoopRun {p : Nat} (h : WellShaped s) : WellShaped (paLoopRun p s) :=
  shape_ite (fun _ => h) fun _ => shape_goOn (shape_failField (shape_countWear h))

theorem shape_creditLoop {p l : Nat} (h : WellShaped s) : WellShaped (creditLoop p l s) := by
  unfold creditLoop
  split
  · exact h
  · exact shape_modRadio _ _ h

theorem shape_loopRun {p : Nat} {err : Int} (h : WellShaped s) : WellShaped (loopRun p err s) := by
  unfold loopRun
  exact shape_ite (fun _ => h) fun _ => shape_ite (fun _ => shape_creditLoop (shape_modSlice _ _ h)) fun _ => shape_modSlice _ _ h

theorem shape_aerialOne {p ohm : Nat} (h : WellShaped s) : WellShaped (aerialOne p ohm s) := by
  unfold aerialOne
  refine shape_ite (fun _ => h) fun _ => shape_raise _ _ _ ?_
  refine shape_ite (fun _ => shape_goOn (shape_failField (shape_modRadio _ _ h))) fun _ => ?_
  split
  · refine shape_goOn (shape_settle ?_)
    exact shape_ite (fun _ => shape_taskFail (shape_dropWant (shape_modRadio _ _ h))) fun _ => shape_dropWant (shape_modRadio _ _ h)
  · exact shape_modRadio _ _ h

theorem shape_idSenseRun {ohms : List Nat} (h : WellShaped s) : WellShaped (idSenseRun ohms s) :=
  shape_ite (fun _ => h) fun _ => shape_foldl (fun _ _ h => shape_aerialOne h) _ h

theorem shape_trackOne {p q : Nat} {phase : Int} (h : WellShaped s) : WellShaped (trackOne p q phase s) := by
  unfold trackOne
  extract_lets s1 _ _ s2
  have h1 : WellShaped s1 := shape_modRadio _ _ h
  have h2 : WellShaped s2 := shape_modRadio _ _ (shape_drawn h1)
  exact shape_ite (fun _ => h1) fun _ => shape_ite (fun _ => shape_raise _ _ _ (shape_modRadio _ _ h2)) fun _ => h2

theorem shape_track {p : Nat} {phase : Int} (h : WellShaped s) : WellShaped (track p phase s) := by
  unfold track
  refine shape_ite (fun _ => h) fun _ => shape_prismTnCheck ?_
  exact shape_foldl (fun _ _ h => shape_ite (fun _ => shape_trackOne h) fun _ => shape_trackOne (shape_drawn h)) _ h

theorem shape_crossBoundary {p : Nat} (h : WellShaped s) : WellShaped (crossBoundary p s) := by
  unfold crossBoundary
  refine shape_ite (fun _ => h) fun _ => shape_holdSwap ?_
  exact shape_holdFw (shape_foldl (fun _ _ h => shape_holdMirror (shape_noiseAt h)) _ (shape_crossCore h))

theorem shape_resumePort {p : Nat} (h : WellShaped s) : WellShaped (resumePort p s) := by
  unfold resumePort
  refine shape_goOn (shape_kick ?_)
  split
  · exact shape_ite (fun _ => shape_modPass (shape_resumeParked h)) fun _ => shape_resumeParked h
  · exact shape_resumeParked h

theorem shape_boundaryRun {p : Nat} {phase : Int} (h : WellShaped s) : WellShaped (boundaryRun p phase s) := by
  unfold boundaryRun
  refine shape_ite (fun _ => h) fun _ => ?_
  exact shape_ite (fun _ => shape_resumePort h) fun _ => shape_resumePort (shape_crossBoundary (shape_prismTrack (shape_track h)))

theorem shape_prismCalRun {hd : Hdr} {p : Nat} (h : WellShaped s) : WellShaped (prismCalRun hd p s) :=
  shape_ite (fun _ => shape_fail _ _ _ _ h) fun _ => shape_ite (fun _ => shape_pendTask h) fun _ => shape_respond _ _ _ _ (shape_prismCalWork h)

theorem shape_prismVectorRun {hd : Hdr} {p vector : Nat} (h : WellShaped s) : WellShaped (prismVectorRun hd p vector s) := by
  unfold prismVectorRun
  refine shape_ite (fun _ => shape_fail _ _ _ _ h) fun _ => shape_ite (fun _ => shape_failRange _ _ _ h) fun _ => ?_
  exact shape_ok _ _ _ (shape_ite (fun _ => shape_applyVector (shape_modPort _ _ h)) fun _ => shape_modPort _ _ h)

end Sys2Proof.Machine
end

section
/-!
SUPPORT. The shape is kept by the operations of the module, its commands, firmware, spares, the cluster and diagnostics.
-/

namespace Sys2Proof.Machine

set_option Elab.async false

variable {s : State}

/-! ### The operations of Machine/ModOps -/

theorem shape_modMod {f : Mod → Mod} (h : WellShaped s) : WellShaped (modMod f s) := shape_with h
theorem shape_modNvm {f : Nvm → Nvm} (h : WellShaped s) : WellShaped (modNvm f s) := shape_with h
theorem shape_charge (h : WellShaped s) : WellShaped (charge s) := shape_modMod (shape_modNvm h)

theorem shape_moveTo {new : ModState} {cause : Nat} (h : WellShaped s) : WellShaped (moveTo new cause s) :=
  shape_raise _ _ _ (shape_modMod (shape_charge h))

theorem shape_haltPort {p : Nat} (h : WellShaped s) : WellShaped (haltPort p s) := by
  unfold haltPort
  refine shape_modRadio _ _ (shape_disarm _ ?_)
  refine shape_cutField (shape_abortWork (shape_modPort _ _ (shape_modRadio _ _ (shape_endTone ?_))))
  refine shape_foldl (fun s x h => ?_) _ (shape_foldl (fun _ _ h => shape_fail _ _ _ _ h) _ (shape_foldl (fun _ _ h => shape_fail _ _ _ _ h) _ h))
  exact shape_fail _ _ _ _ h

theorem shape_haltJobs (h : WellShaped s) : WellShaped (haltJobs s) := by
  unfold haltJobs
  extract_lets answer s1 s2 s3 s4 s5 s6 s7 s8 s9 s10 s11
  have ha : ∀ {o op t}, WellShaped t → WellShaped (answer o op t) := shape_failSome
  have h4 : WellShaped s4 := shape_failMirror (ha (ha (ha h)))
  have h6 : WellShaped s6 := shape_foldl (fun _ _ => ha) _ (shape_foldl (fun _ _ => ha) _ h4)
  have h7 : WellShaped s7 := by
    unfold s7
    split
    · exact shape_fail _ _ _ _ h6
    · exact h6
  have h9 : WellShaped s9 := shape_foldl (fun _ _ h => shape_fail _ _ _ _ h) _ (ha h7)
  have h10 : WellShaped s10 := shape_foldl (fun _ _ => ha) _ h9
  have h11 : WellShaped s11 := by
    unfold s11
    split
    · exact shape_fail _ _ _ _ h10
    · exact h10
  exact shape_with h11

theorem shape_enterHalted {code : Nat} (h : WellShaped s) : WellShaped (enterHalted code s) :=
  shape_ite (fun _ => h) fun _ => shape_moveTo (shape_modNvm (shape_modPower
    (shape_foldl (fun _ _ h => shape_haltPort h) _ (shape_haltJobs h)) fun _ => length_rails_from ..))

theorem shape_release (h : WellShaped s) : WellShaped (release s) :=
  shape_modPower (shape_modNvm (shape_modMod (shape_with h))) fun _ => length_upd ..

theorem shape_tryRelease (h : WellShaped s) : WellShaped (tryRelease s) := shape_ite (fun _ => shape_release h) fun _ => h
theorem shape_tellFw (h : WellShaped s) : WellShaped (tellFw s) := shape_foldl (fun _ _ h => shape_raise _ _ _ h) _ (shape_modMod h)

theorem shape_tryService (h : WellShaped s) : WellShaped (tryService s) := by
  unfold tryService
  refine shape_ite (fun _ => h) fun _ => shape_ite (fun _ => shape_enterHalted h) fun _ => ?_
  refine shape_foldl (fun s x h => ?_) _ (shape_tellFw (shape_moveTo (shape_modNvm (shape_modMod h))))
  exact shape_settle (shape_armCadence (shape_modRadio _ _ h))

theorem shape_renegotiate (h : WellShaped s) : WellShaped (renegotiate s) := shape_modLink h
theorem shape_enableVpa (h : WellShaped s) : WellShaped (enableVpa s) := shape_modPower h fun _ => length_rails_from ..
theorem shape_realignGrid {p : Nat} (h : WellShaped s) : WellShaped (realignGrid p s) := shape_modTimer _ _ h
theorem shape_wakePort {p : Nat} (h : WellShaped s) : WellShaped (wakePort p s) := shape_realignGrid (shape_modRadio _ _ h)

theorem shape_dozeExit (h : WellShaped s) : WellShaped (dozeExit s) := by
  unfold dozeExit
  refine shape_ite (fun _ => h) fun _ => ?_
  refine shape_foldl (fun s x h => ?_) _ (shape_enableVpa (shape_modLink (shape_ite (fun _ => shape_renegotiate (shape_modLink (shape_moveTo h))) fun
    _ => shape_modLink (shape_moveTo h))))
  exact shape_resumePort (shape_settle (shape_wakePort h))

theorem shape_takeWake (h : WellShaped s) : WellShaped (takeWake s) := shape_ite (fun _ => shape_dozeExit (shape_with h)) fun _ => h

theorem shape_dozeEnterRun {hd : Hdr} (h : WellShaped s) : WellShaped (dozeEnterRun hd s) := by
  unfold dozeEnterRun
  refine shape_foldl (fun s x h => ?_) _ (shape_modMod h)
  refine shape_goOn ?_
  split
  · exact shape_stopPass (shape_foldl (fun _ _ h => shape_fail _ _ _ _ h) _ (shape_modPort _ _ h))
  · exact shape_foldl (fun _ _ h => shape_fail _ _ _ _ h) _ (shape_modPort _ _ h)

theorem shape_dozeEnteredRun (h : WellShaped s) : WellShaped (dozeEnteredRun s) := by
  unfold dozeEnteredRun
  split
  · exact h
  · split
    · exact h
    · extract_lets s1 s2 s3 s4 s5
      have h1 : WellShaped s1 := shape_moveTo (shape_modMod h)
      have h3 : WellShaped s3 := shape_slices (shape_ok _ _ _ h1) (List.length_map _)
      have h4 : WellShaped s4 := shape_modPower h3 fun _ => length_rails_from ..
      have h5 : WellShaped s5 := shape_foldl (fun _ _ h => shape_ite (fun _ => shape_modRadio _ _ h) fun _ => h) _ h4
      exact shape_takeWake (shape_ite (fun _ => shape_renegotiate (shape_modLink h5)) fun _ => h5)

theorem shape_wakeRun (h : WellShaped s) : WellShaped (wakeRun s) := shape_takeWake (shape_with h)

/-! ### The operations of Machine/LensRun -/

theorem shape_countSkip {p : Nat} (h : WellShaped s) : WellShaped (countSkip p s) := shape_modLens h
theorem shape_armConfirm {p : Nat} (h : WellShaped s) : WellShaped (armConfirm p s) := shape_setTimer _ _ _ (shape_modLens h)
theorem shape_lensAnew {p : Nat} {m : Cpx} (h : WellShaped s) : WellShaped (lensAnew p m s) := shape_modLens h

theorem shape_lensAct {p : Nat} {m : Cpx} (h : WellShaped s) : WellShaped (lensAct p m s) := by
  unfold lensAct
  extract_lets _ _ _ _ s1 _ _
  have h1 : WellShaped s1 := shape_pulseTraces (shape_modLens (shape_drawn h))
  refine shape_ite (fun _ => shape_lensAnew h1) fun _ => ?_
  refine shape_ite (fun _ => shape_ite (fun _ => shape_armConfirm h1) fun _ => h1) fun _ => ?_
  exact shape_ite (fun _ => shape_armConfirm h1) fun _ => shape_ite (fun _ => shape_modLens h1) fun _ => h1

theorem shape_lensPulseRun {p : Nat} {m : Cpx} (h : WellShaped s) : WellShaped (lensPulseRun p m s) := by
  unfold lensPulseRun
  refine shape_ite (fun _ => h) fun _ => ?_
  exact shape_ite (fun _ => shape_countSkip (shape_modTimer _ _ h)) fun _ => shape_lensAct (shape_modTimer _ _ h)

theorem shape_lensDecide {p : Nat} {m : Cpx} (h : WellShaped s) : WellShaped (lensDecide p m s) := by
  unfold lensDecide
  extract_lets _ _ _ _ _ _ s1 s2
  have h1 : WellShaped s1 := shape_pulseTraces (shape_modLens (shape_drawn h))
  have h2 : WellShaped s2 := shape_raise _ _ _ (shape_modLens h1)
  refine shape_ite (fun _ => shape_ite (fun _ => shape_raise _ _ _ (shape_modLens h1)) fun _ => h1) fun _ => ?_
  exact shape_ite (fun _ => shape_ite (fun _ => shape_dozeExit h2) fun _ => h2) fun _ => shape_modLens h1

theorem shape_lensConfirmRun {p : Nat} {m : Cpx} (h : WellShaped s) : WellShaped (lensConfirmRun p m s) := by
  unfold lensConfirmRun
  refine shape_ite (fun _ => h) fun _ => ?_
  refine shape_ite (fun _ => shape_countSkip (shape_armCadence (shape_modLens h))) fun _ => ?_
  exact shape_lensDecide (shape_armCadence (shape_modLens h))

theorem shape_lensBaselineRun {hd : Hdr} {p : Nat} (h : WellShaped s) : WellShaped (lensBaselineRun hd p s) := by
  unfold lensBaselineRun
  refine shape_ite (fun _ => shape_fail _ _ _ _ h) fun _ => ?_
  exact shape_ok _ _ _ (shape_modLens (shape_ite (fun _ => shape_armCadence h) fun _ => h))

theorem shape_lensMeasureRun {hd : Hdr} {p : Nat} (h : WellShaped s) : WellShaped (lensMeasureRun hd p s) := by
  unfold lensMeasureRun
  refine shape_ite (fun _ => shape_fail _ _ _ _ h) fun _ => ?_
  refine shape_ite (fun _ => shape_pendTask h) fun _ => shape_respond _ _ _ _ ?_
  split
  · exact h
  · exact shape_pulseTraces (shape_modLens (shape_drawn h))

theorem shape_z8DetectedRun {p levelMv onset : Nat} (h : WellShaped s) : WellShaped (z8DetectedRun p levelMv onset s) := by
  unfold z8DetectedRun
  dsimp only
  split
  · exact h
  · refine shape_ite (fun _ => h) fun _ => ?_
    refine shape_ite (fun _ => shape_dozeExit (shape_raiseAt _ _ _ _ (shape_modPort _ _ h))) fun _ => ?_
    exact shape_raiseAt _ _ _ _ (shape_modPort _ _ h)

theorem shape_z8GoneRun {p : Nat} (h : WellShaped s) : WellShaped (z8GoneRun p s) := by
  unfold z8GoneRun
  dsimp only
  split
  · exact h
  · exact shape_ite (fun _ => h) fun _ => shape_raise _ _ _ (shape_modPort _ _ h)

theorem shape_clearSkipped {b : Nat} {c : Bool} (h : WellShaped s) : WellShaped (clearSkipped b c s) := shape_ite (fun _ => shape_modMod h) fun _ => h

theorem shape_noteSkipped (h : WellShaped s) : WellShaped (noteSkipped s) := by
  unfold noteSkipped
  refine shape_ite (fun _ => h) fun _ => shape_clearSkipped ?_
  exact shape_clearSkipped (shape_clearSkipped (shape_clearSkipped (shape_clearSkipped (shape_clearSkipped h))))

/-! ### The operations of Machine/PortCmd -/

theorem shape_beginTask {hd : Hdr} {op p : Nat} {proc : Proc} (h : WellShaped s) : WellShaped (beginTask hd op p proc s) := shape_modPort _ _ h

theorem shape_hyStart {hd : Hdr} {op p : Nat} {c : HyCmd} (h : WellShaped s) : WellShaped (hyStart hd op p c s) := by
  unfold hyStart
  split
  · exact shape_fail _ _ _ _ h
  · exact shape_hyBegin (shape_beginTask h)

theorem shape_hyRawRun {hd : Hdr} {p : Nat} {pre : HyPre} {type alive reply : Nat} {payload : Bytes} (h : WellShaped s) :
    WellShaped (hyRawRun hd p pre type alive reply payload s) := by
  unfold hyRawRun
  dsimp only
  split
  · exact shape_fail _ _ _ _ h
  · refine shape_ite (fun _ => shape_fail _ _ _ _ h) fun _ => ?_
    exact shape_ite (fun _ => shape_fail _ _ _ _ h) fun _ => shape_hyBegin (shape_beginTask h)

theorem shape_hyActivateRun {hd : Hdr} {p : Nat} {ident : Bytes} {wake : Bool} {dl ul : Nat} (h : WellShaped s) :
    WellShaped (hyActivateRun hd p ident wake dl ul s) := by
  unfold hyActivateRun
  dsimp only
  split
  · exact shape_fail _ _ _ _ h
  · exact shape_ite (fun _ => shape_fail _ _ _ _ h) fun _ => shape_hyBegin (shape_beginTask h)

theorem shape_hyForgetRun {hd : Hdr} {p handle : Nat} (h : WellShaped s) : WellShaped (hyForgetRun hd p handle s) := by
  unfold hyForgetRun
  refine shape_ite (fun _ => shape_ok _ _ _ (shape_clearInv (shape_modHy h))) fun _ => ?_
  exact shape_ite (fun _ => shape_fail _ _ _ _ h) fun _ => shape_ok _ _ _ (shape_dropHandle h)

theorem shape_hyTreeRun {hd : Hdr} {p mlen maxTags : Nat} {wake : Bool} {mask : Bytes} (h : WellShaped s) :
    WellShaped (hyTreeRun hd p mlen maxTags wake mask s) :=
  shape_ite (fun _ => shape_fail _ _ _ _ h) fun _ => shape_treeNext (shape_beginTask h)

theorem shape_hySetMapRun {hd : Hdr} {p handle : Nat} {map : List Nat} (h : WellShaped s) : WellShaped (hySetMapRun hd p handle map s) := by
  unfold hySetMapRun
  split
  · exact shape_fail _ _ _ _ h
  · refine shape_ite (fun _ => shape_fail _ _ _ _ h) fun _ => ?_
    refine shape_ite (fun _ => shape_ok _ _ _ (shape_modHandle h)) fun _ => ?_
    exact shape_ite (fun _ => shape_fail _ _ _ _ h) fun _ => shape_hyBegin (shape_beginTask h)

theorem shape_isoTask {hd : Hdr} {op p : Nat} {c : IsoCmd} {go : Nat → IsoCmd → State → State} (hgo : ∀ a b t, WellShaped t → WellShaped (go a b t))
    (h : WellShaped s) : WellShaped (isoTask hd op p c go s) :=
  hgo _ _ _ (shape_beginTask h)

theorem shape_isoOn {hd : Hdr} {op p handle kind : Nat} {permits : IsoHandle → Bool} {go : IsoHandle → State → State} (h : WellShaped s)
    (hgo : ∀ a t, WellShaped t → WellShaped (go a t)) : WellShaped (isoOn hd op p handle kind permits s go) := by
  unfold isoOn
  refine shape_ite (fun _ => shape_fail _ _ _ _ h) fun _ => ?_
  split
  · exact shape_fail _ _ _ _ h
  · exact shape_ite (fun _ => shape_fail _ _ _ _ h) fun _ => shape_ite (fun _ => hgo _ _ h) fun _ => shape_fail _ _ _ _ h

theorem shape_isoRawRun {hd : Hdr} {p bits rate : Nat} {parity check keep : Bool} {kind windowUs : Nat} {frame : Bytes} (h : WellShaped s) :
    WellShaped (isoRawRun hd p bits rate parity check keep kind windowUs frame s) := by
  unfold isoRawRun
  refine shape_ite (fun _ => shape_fail _ _ _ _ h) fun _ => shape_ite (fun _ => shape_failRange _ _ _ h) fun _ => ?_
  exact shape_isoTask (fun _ _ _ h => shape_isoBegin h) (shape_ite (fun _ => h) fun _ => shape_modIso h)

theorem shape_isoAAnticollRun {hd : Hdr} {p maxTags : Nat} {wakeAll : Bool} (h : WellShaped s) :
    WellShaped (isoAAnticollRun hd p maxTags wakeAll s) :=
  shape_ite (fun _ => shape_fail _ _ _ _ h) fun _ => shape_isoTask (fun _ _ _ h => shape_antiNext h) h

theorem shape_isoAActivateRun {hd : Hdr} {p handle : Nat} (h : WellShaped s) : WellShaped (isoAActivateRun hd p handle s) :=
  shape_isoOn h (fun _ _ h => shape_isoTask (fun _ _ _ h => shape_isoBegin h) h)

theorem shape_isoAHaltRun {hd : Hdr} {p handle : Nat} (h : WellShaped s) : WellShaped (isoAHaltRun hd p handle s) :=
  shape_isoOn h (fun _ _ h => shape_isoTask (fun _ _ _ h => shape_isoBegin h) h)

theorem shape_isoARatsRun {hd : Hdr} {p handle cid : Nat} (h : WellShaped s) : WellShaped (isoARatsRun hd p handle cid s) := by
  unfold isoARatsRun
  refine shape_isoOn h (fun _ _ h => ?_)
  split
  · exact shape_fail _ _ _ _ h
  · exact shape_isoTask (fun _ _ _ h => shape_isoBegin h) h

theorem shape_isoPpsRun {hd : Hdr} {p handle dsMax drMax : Nat} (h : WellShaped s) : WellShaped (isoPpsRun hd p handle dsMax drMax s) :=
  shape_isoOn h (fun _ _ h => shape_isoTask (fun _ _ _ h => shape_isoBegin h) h)

theorem shape_isoBRequestRun {hd : Hdr} {p afi : Nat} {wake : Bool} (h : WellShaped s) : WellShaped (isoBRequestRun hd p afi wake s) :=
  shape_ite (fun _ => shape_fail _ _ _ _ h) fun _ => shape_isoTask (fun _ _ _ h => shape_isoBegin h) h

theorem shape_isoBAnticollRun {hd : Hdr} {p afi nStart maxTags : Nat} {wakeAll attrib : Bool} (h : WellShaped s) :
    WellShaped (isoBAnticollRun hd p afi nStart maxTags wakeAll attrib s) :=
  shape_ite (fun _ => shape_fail _ _ _ _ h) fun _ => shape_isoTask (fun _ _ _ h => shape_bRound h) h

theorem shape_isoBAttribRun {hd : Hdr} {p handle cid dsMax drMax : Nat} (h : WellShaped s) :
    WellShaped (isoBAttribRun hd p handle cid dsMax drMax s) := by
  unfold isoBAttribRun
  refine shape_isoOn h (fun _ _ h => ?_)
  dsimp only
  split
  · split
    · exact shape_fail _ _ _ _ h
    · exact shape_isoTask (fun _ _ _ h => shape_isoBegin h) h
  · refine shape_ite (fun _ => shape_fail _ _ _ _ h) fun _ => ?_
    exact shape_ite (fun _ => shape_fail _ _ _ _ h) fun _ => shape_isoTask (fun _ _ _ h => shape_isoBegin h) h

theorem shape_isoBHaltRun {hd : Hdr} {p handle : Nat} (h : WellShaped s) : WellShaped (isoBHaltRun hd p handle s) :=
  shape_isoOn h (fun _ _ h => shape_isoTask (fun _ _ _ h => shape_isoBegin h) h)

theorem shape_isoApduRun {hd : Hdr} {p handle : Nat} {apdu : Bytes} (h : WellShaped s) : WellShaped (isoApduRun hd p handle apdu s) :=
  shape_isoOn h (fun _ _ h => shape_isoTask (fun _ _ _ h => shape_apduNext h) h)

theorem shape_isoDeselectRun {hd : Hdr} {p handle : Nat} (h : WellShaped s) : WellShaped (isoDeselectRun hd p handle s) :=
  shape_isoOn h (fun _ _ h => shape_isoTask (fun _ _ _ h => shape_blkBegin h) h)

theorem shape_isoForgetRun {hd : Hdr} {p handle : Nat} (h : WellShaped s) : WellShaped (isoForgetRun hd p handle s) := by
  unfold isoForgetRun
  refine shape_ite (fun _ => shape_fail _ _ _ _ h) fun _ => ?_
  refine shape_ite (fun _ => shape_ok _ _ _ (shape_modIso h)) fun _ => ?_
  exact shape_ite (fun _ => shape_fail _ _ _ _ h) fun _ => shape_ok _ _ _ (shape_modIso h)

theorem shape_isoVInventoryRun {hd : Hdr} {p afi : Nat} {useAfi slots16 quiet : Bool} {maskLen maxTags mask : Nat} (h : WellShaped s) :
    WellShaped (isoVInventoryRun hd p afi useAfi slots16 quiet maskLen maxTags mask s) :=
  shape_ite (fun _ => shape_fail _ _ _ _ h) fun _ => shape_isoTask (fun _ _ _ h => shape_vNext h) h

theorem shape_isoVCommandRun {hd : Hdr} {p handle code : Nat} {option writeClass repeatable : Bool} {mfg : Nat} {params : Bytes} (h : WellShaped s) :
    WellShaped (isoVCommandRun hd p handle code option writeClass repeatable mfg params s) := by
  unfold isoVCommandRun
  dsimp only
  split
  · refine shape_ite (fun _ => shape_fail _ _ _ _ h) fun _ => ?_
    exact shape_ite (fun _ => shape_fail _ _ _ _ h) fun _ => shape_isoTask (fun _ _ _ h => shape_isoBegin h) h
  · exact shape_isoOn h (fun _ _ h => shape_isoTask (fun _ _ _ h => shape_isoBegin h) h)

theorem shape_isoVSelectRun {hd : Hdr} {p handle : Nat} (h : WellShaped s) : WellShaped (isoVSelectRun hd p handle s) :=
  shape_isoOn h (fun _ _ h => shape_isoTask (fun _ _ _ h => shape_isoBegin h) h)

theorem shape_isoVQuietRun {hd : Hdr} {p handle : Nat} (h : WellShaped s) : WellShaped (isoVQuietRun hd p handle s) :=
  shape_isoOn h (fun _ _ h => shape_isoTask (fun _ _ _ h => shape_isoBegin h) h)

theorem shape_isoVResetRun {hd : Hdr} {p handle : Nat} (h : WellShaped s) : WellShaped (isoVResetRun hd p handle s) :=
  shape_isoOn h (fun _ _ h => shape_isoTask (fun _ _ _ h => shape_isoBegin h) h)

theorem shape_credWriteRun {hd : Hdr} {p handle cask slot format : Nat} (h : WellShaped s) :
    WellShaped (credWriteRun hd p handle cask slot format s) := by
  unfold credWriteRun
  dsimp only
  split
  · exact shape_fail _ _ _ _ h
  · refine shape_ite (fun _ => shape_fail _ _ _ _ h) fun _ => ?_
    refine shape_ite (fun _ => shape_fail _ _ _ _ h) fun _ => shape_ite (fun _ => shape_failRange _ _ _ h) fun _ => ?_
    refine shape_ite (fun _ => shape_failRange _ _ _ h) fun _ => ?_
    split
    · exact shape_fail _ _ _ _ (shape_countRefused h)
    · exact shape_hyBegin (shape_beginTask h)

theorem shape_credVerifyRun {hd : Hdr} {p handle cask slot : Nat} (h : WellShaped s) : WellShaped (credVerifyRun hd p handle cask slot s) := by
  unfold credVerifyRun
  dsimp only
  split
  · exact shape_fail _ _ _ _ h
  · exact shape_fail _ _ _ _ h
  · split
    · exact shape_fail _ _ _ _ (shape_countRefused h)
    · exact shape_ite (fun _ => shape_credChallenge (shape_beginTask h)) fun _ => shape_hyBegin (shape_beginTask h)

/-! ### The operations of Machine/AttrRead -/

theorem shape_queueStatusRun {hd : Hdr} {mask : Nat} {clear : Bool} (h : WellShaped s) : WellShaped (queueStatusRun hd mask clear s) := by
  unfold queueStatusRun
  refine shape_respondList ?_
  exact shape_ite (fun _ => shape_foldl (fun _ _ h => shape_modIn _ _ (shape_modOut _ _ h)) _ h) fun _ => h

theorem shape_attrGetRun {hd : Hdr} {staged : Bool} {reqs : List (Nat × Nat)} (h : WellShaped s) : WellShaped (attrGetRun hd staged reqs s) := by
  unfold attrGetRun
  split
  · exact shape_fail _ _ _ _ h
  · exact shape_respondParts _ _ _ (shape_drawn h)

/-! ### The operations of Machine/FwRun -/

theorem shape_modImage {i : Nat} {f : Image → Image} (h : WellShaped s) : WellShaped (modImage i f s) := shape_modNvm h

theorem shape_fwBeginRun {hd : Hdr} {size : Nat} (h : WellShaped s) : WellShaped (fwBeginRun hd size s) :=
  shape_ok _ _ _ (shape_with (shape_modImage (shape_modNvm h)))

theorem shape_fwDataRun {hd : Hdr} {off : Nat} {data : Bytes} (h : WellShaped s) : WellShaped (fwDataRun hd off data s) := by
  unfold fwDataRun
  refine shape_ite (fun _ => shape_fail _ _ _ _ h) fun _ => ?_
  exact shape_ite (fun _ => shape_failRange _ _ _ h) fun _ => shape_ok _ _ _ (shape_modImage h)

theorem shape_fwVerifyRun {hd : Hdr} (h : WellShaped s) : WellShaped (fwVerifyRun hd s) := by
  unfold fwVerifyRun
  refine shape_ite (fun _ => shape_fail _ _ _ _ h) fun _ => shape_ite (fun _ => shape_ok _ _ _ h) fun _ => ?_
  split
  · exact shape_fail _ _ _ _ (shape_ite (fun _ => h) fun _ => shape_modImage h)
  · exact shape_ok _ _ _ (shape_modImage (shape_with h))

theorem shape_fwStatusRun {hd : Hdr} (h : WellShaped s) : WellShaped (fwStatusRun hd s) := shape_ok _ _ _ h
theorem shape_activateImage {i : Nat} (h : WellShaped s) : WellShaped (activateImage i s) := shape_modNvm (shape_with h)
theorem shape_askHolds (h : WellShaped s) : WellShaped (askHolds s) := shape_foldl (fun _ _ h => shape_ite (fun _ => shape_holdFw h) fun _ => h) _ h

theorem shape_releaseFw (h : WellShaped s) : WellShaped (releaseFw s) := by
  unfold releaseFw
  split
  · exact h
  · exact shape_foldl (fun _ _ h => shape_resumePort (shape_unhold h)) _ (shape_modNvm (shape_with h))

theorem shape_startImage (h : WellShaped s) : WellShaped (startImage s) := shape_moveTo (shape_enableVpa (shape_modMod h))

theorem shape_switchImage {hd : Hdr} {rollback : Bool} (h : WellShaped s) : WellShaped (switchImage hd rollback s) := by
  unfold switchImage
  dsimp only
  split
  · refine shape_ite (fun _ => shape_startImage (shape_ok _ _ _ (shape_modMod (shape_activateImage h)))) fun _ => ?_
    exact shape_ok _ _ _ (shape_modMod (shape_activateImage h))
  · exact shape_ite (fun _ => shape_ok _ _ _ (shape_modNvm (shape_modMod h))) fun _ => shape_askHolds (shape_with h)

theorem shape_fwActivateRun {hd : Hdr} {atStart : Nat} (h : WellShaped s) : WellShaped (fwActivateRun hd atStart s) := by
  unfold fwActivateRun
  refine shape_ite (fun _ => shape_fail _ _ _ _ h) fun _ => ?_
  exact shape_ite (fun _ => shape_ok _ _ _ (shape_modNvm h)) fun _ => shape_switchImage h

theorem shape_fwRollbackRun {hd : Hdr} (h : WellShaped s) : WellShaped (fwRollbackRun hd s) := by
  unfold fwRollbackRun
  exact shape_ite (fun _ => shape_fail _ _ _ _ h) fun _ => shape_ite (fun _ => shape_fail _ _ _ _ h) fun _ => shape_switchImage h

theorem shape_restartCore (h : WellShaped s) : WellShaped (restartCore s) := shape_modMod (shape_with h)

theorem shape_portsHeldRun (h : WellShaped s) : WellShaped (portsHeldRun s) := by
  unfold portsHeldRun
  split
  · exact h
  · refine shape_ite (fun _ => h) fun _ => ?_
    exact shape_raise _ _ _ (shape_ok _ _ _ (shape_with (shape_releaseFw (shape_restartCore (shape_activateImage h)))))

theorem shape_holdTimeoutRun (h : WellShaped s) : WellShaped (holdTimeoutRun s) := by
  unfold holdTimeoutRun
  split
  · exact h
  · refine shape_ite (fun _ => h) fun _ => ?_
    exact shape_ite (fun _ => shape_fail _ _ _ _ (shape_with (shape_releaseFw h))) fun _ => shape_with (shape_releaseFw h)

theorem shape_activationRetryRun (h : WellShaped s) : WellShaped (activationRetryRun s) := by
  unfold activationRetryRun
  split
  · exact h
  · split
    · exact h
    · exact shape_ite (fun _ => h) fun _ => shape_askHolds (shape_with h)

/-! ### The operations of Machine/SpareRun -/

theorem shape_modSpares {f : Spares → Spares} (h : WellShaped s) : WellShaped (modSpares f s) := shape_with h
theorem shape_retire {kind inst why : Nat} (h : WellShaped s) : WellShaped (retire kind inst why s) := shape_modNvm h

theorem shape_noteWear {monitor inst : Nat} {value : Int} (h : WellShaped s) : WellShaped (noteWear monitor inst value s) := by
  unfold noteWear
  extract_lets _ s1
  have h1 : WellShaped s1 := shape_modSpares h
  exact shape_ite (fun _ => shape_slices h1 (length_upd ..)) fun _ => shape_ite (fun _ => shape_slices h1 (length_upd ..)) fun _ =>
    shape_ite (fun _ => shape_with h1) fun _ => h1

theorem shape_planSwap {kind inst : Nat} {x : Option Hdr} (h : WellShaped s) : WellShaped (planSwap kind inst x s) := shape_modSpares h

theorem shape_wearRun {monitor inst : Nat} {value : Int} (h : WellShaped s) : WellShaped (wearRun monitor inst value s) := by
  unfold wearRun
  refine shape_ite (fun _ => h) fun _ => ?_
  exact shape_ite (fun _ => shape_planSwap (shape_raise _ _ _ (shape_noteWear h))) fun _ => shape_raise _ _ _ (shape_noteWear h)

theorem shape_sleepSpare {i : Nat} (h : WellShaped s) : WellShaped (sleepSpare i s) :=
  shape_ite (fun _ => h) fun _ => shape_slices h (length_upd ..)

theorem shape_dropSwap {kind inst : Nat} (h : WellShaped s) : WellShaped (dropSwap kind inst s) := by
  unfold dropSwap
  refine shape_modSpares ?_
  split
  · exact shape_sleepSpare h
  · exact h

theorem shape_trimSwaps (h : WellShaped s) : WellShaped (trimSwaps s) := by
  unfold trimSwaps
  refine shape_foldl (fun s x h => ?_) _ h
  refine shape_ite (fun _ => h) fun _ => ?_
  dsimp only
  split
  · exact shape_fail _ _ _ _ (shape_dropSwap h)
  · exact shape_dropSwap h

theorem shape_uncoveredFault {kind : Nat} (h : WellShaped s) : WellShaped (uncoveredFault kind s) :=
  shape_ite (fun _ => h) fun _ => shape_enterHalted (shape_modNvm h)

theorem shape_standingFault {kind inst : Nat} (h : WellShaped s) : WellShaped (standingFault kind inst s) := shape_uncoveredFault (shape_with h)

theorem shape_swapPrism {l q : Nat} (h : WellShaped s) : WellShaped (swapPrism l q s) := by
  unfold swapPrism
  refine shape_ite (fun _ => h) fun _ => ?_
  exact shape_ite (fun _ => shape_modPort _ _ h) fun _ => shape_raise _ _ _ (shape_modPort _ _ (shape_drawn h))

theorem shape_mapSlice {p spare : Nat} (h : WellShaped s) : WellShaped (mapSlice p spare s) :=
  shape_modSlice _ _ (shape_modSpares (shape_modSlice _ _ h))

theorem shape_swapSlice {p spare : Nat} (h : WellShaped s) : WellShaped (swapSlice p spare s) := by
  unfold swapSlice
  dsimp only
  split
  · exact shape_settle (shape_tryArm (shape_swapPrism (shape_modRadio _ _ (shape_mapSlice (shape_disarm _ h)))))
  · exact shape_settle (shape_swapPrism (shape_mapSlice (shape_fieldEnded h)))
  · split
    · exact shape_swapPrism (shape_mapSlice (shape_fieldDown (shape_modRadio _ _ h)))
    · refine shape_resumeField ?_
      refine shape_ite (fun _ => shape_swapPrism (shape_mapSlice (shape_fieldDown (shape_modRadio _ _ h)))) fun _ => ?_
      exact shape_retune (shape_swapPrism (shape_mapSlice (shape_fieldDown (shape_modRadio _ _ h))))

theorem shape_swapEngine {p spare : Nat} (h : WellShaped s) : WellShaped (swapEngine p spare s) := shape_zeroiseBuf (shape_modSpares h)
theorem shape_swapCore (h : WellShaped s) : WellShaped (swapCore s) := shape_modMod (shape_with h)

theorem shape_takeSpare {kind inst spare why : Nat} (h : WellShaped s) : WellShaped (takeSpare kind inst spare why s) := by
  unfold takeSpare
  dsimp only
  split
  · exact shape_retire (shape_swapSlice h)
  · exact shape_retire (shape_swapEngine h)
  · exact shape_retire (shape_modSpares h)
  · exact shape_retire (shape_swapCore h)
  · exact shape_retire h

theorem shape_finishSwap {planned : Bool} {kind inst spare why : Nat} {hdr : Option Hdr} (h : WellShaped s) :
    WellShaped (finishSwap planned kind inst spare why hdr s) := by
  unfold finishSwap
  dsimp only
  split
  · exact shape_trimSwaps (shape_modSpares (shape_takeSpare (shape_dropSwap (shape_drawn h))))
  · exact shape_tellSwap (shape_trimSwaps (shape_takeSpare (shape_dropSwap (shape_drawn h))))

theorem shape_wakeSpare {kind inst : Nat} (h : WellShaped s) : WellShaped (wakeSpare kind inst s) := by
  unfold wakeSpare
  split
  · exact shape_slices h (length_upd ..)
  · exact h

theorem shape_swapPreparedRun {kind inst : Nat} (h : WellShaped s) : WellShaped (swapPreparedRun kind inst s) := by
  unfold swapPreparedRun
  split
  · exact h
  · refine shape_ite (fun _ => h) fun _ => ?_
    dsimp only
    split
    · refine shape_foldl (fun s x h => ?_) _ (shape_wakeSpare (shape_modSpares h))
      exact shape_ite (fun _ => shape_holdSwap h) fun _ => h
    · exact shape_wakeSpare (shape_modSpares h)

theorem shape_swapDeferRun {kind inst : Nat} (h : WellShaped s) : WellShaped (swapDeferRun kind inst s) := shape_modSpares h

theorem shape_plannedSwapRun {kind inst : Nat} {calOk : Bool} (h : WellShaped s) : WellShaped (plannedSwapRun kind inst calOk s) := by
  unfold plannedSwapRun
  split
  · exact h
  · split
    · extract_lets _ _ s1 s2 s3 s4
      have h1 : WellShaped s1 := shape_finishSwap h
      have h2 : WellShaped s2 := shape_foldl (fun _ _ h => shape_unhold h) _ h1
      have h3 : WellShaped s3 := shape_retire (shape_ite (fun _ => shape_sleepSpare h) fun _ => h)
      have h4 : WellShaped s4 := shape_modSpares h3
      refine shape_ite (fun _ => shape_foldl (fun _ _ h => shape_resumePort h) _ h2) fun _ => ?_
      refine shape_ite (fun _ => ?_) fun _ => shape_foldl (fun _ _ h => shape_unhold h) _ h4
      split
      · exact shape_uncoveredFault (shape_fail _ _ _ _ (shape_dropSwap h3))
      · exact shape_uncoveredFault (shape_dropSwap h3)
    · exact h

theorem shape_endSwap {p : Nat} {engine : Bool} (h : WellShaped s) : WellShaped (endSwap p engine s) := by
  unfold endSwap
  extract_lets _ s1 _ _ s2 s3
  have h1 : WellShaped s1 := by
    unfold s1
    split
    · exact shape_ite (fun _ => shape_dropWant h) fun _ => h
    · exact h
  have h2 : WellShaped s2 := shape_ite (fun _ => shape_modPort _ _ h1) fun _ => h1
  have h3 : WellShaped s3 := shape_ite (fun _ => shape_endCmds h2) fun _ => shape_abortWork h2
  exact shape_ite (fun _ => shape_dropWant h3) fun _ => h3

theorem shape_endCore {p : Nat} (h : WellShaped s) : WellShaped (endCore p s) := by
  unfold endCore
  extract_lets s1 s2 s3 s4
  have h1 : WellShaped s1 := shape_abortWork (shape_endSwap h)
  have h2 : WellShaped s2 := shape_foldl (fun _ _ h => shape_fail _ _ _ _ h) _ h1
  have h3 : WellShaped s3 := shape_foldl (fun _ _ h => shape_fail _ _ _ _ h) _ h2
  have h4 : WellShaped s4 := shape_modRadio _ _ (shape_modPort _ _ h3)
  exact shape_ite (fun _ => shape_dropWant h4) fun _ => h4

theorem shape_endRole {role : Nat} (h : WellShaped s) : WellShaped (endRole role s) := by
  unfold endRole
  extract_lets answer s1 s2 s3 s4 s5 s6 s7 s8 _ _ _ _ t1 t2 t3 _ u1 u2 u3
  have ha : ∀ {o op t}, WellShaped t → WellShaped (answer o op t) := shape_failSome
  have h4 : WellShaped s4 := shape_failMirror (ha (ha (ha h)))
  have h7 : WellShaped s7 := shape_foldl (fun _ _ => ha) _ (shape_foldl (fun _ _ => ha) _ (shape_foldl (fun _ _ => ha) _ h4))
  have h8 : WellShaped s8 := by
    refine shape_foldl (fun s x h => ?_) _ h7
    split
    · exact shape_fail _ _ _ _ h
    · exact shape_fail _ _ _ _ h
    · exact shape_fail _ _ _ _ h
    · exact h
  have ht1 : WellShaped t1 := by
    unfold t1
    split
    · exact shape_fail _ _ _ _ h
    · exact h
  have ht3 : WellShaped t3 := by
    unfold t3
    split
    · exact shape_fail _ _ _ _ (shape_with (shape_releaseFw ht1))
    · exact ht1
  have hu2 : WellShaped u2 := shape_foldl (fun _ _ h => shape_fail _ _ _ _ h) _ (ha h)
  have hu3 : WellShaped u3 := shape_foldl (fun _ _ h => shape_endTone h) _ hu2
  split
  · exact shape_with h8
  · exact shape_with ht3
  · exact shape_with hu3
  · exact h

theorem shape_endCellar (h : WellShaped s) : WellShaped (endCellar s) := by
  unfold endCellar
  extract_lets s1 s2
  have h1 : WellShaped s1 := shape_foldl (fun _ _ h =>
    shape_ite (fun _ => shape_goOn (shape_taskFail (shape_zeroiseBuf h))) fun _ => shape_zeroiseBuf h) _ h
  have h2 : WellShaped s2 := by
    unfold s2
    split
    · exact shape_fail _ _ _ _ h1
    · exact h1
  exact shape_with h2

theorem shape_endFault {kind inst : Nat} (h : WellShaped s) : WellShaped (endFault kind inst s) := by
  unfold endFault
  dsimp only
  split
  · exact shape_foldl (fun _ _ h => shape_endSwap h) _ h
  · exact shape_foldl (fun _ _ h => shape_endSwap h) _ h
  · refine shape_foldl (fun s x h => ?_) _ ?_
    · exact shape_endCore h
    · split
      · exact shape_endRole h
      · exact h
  · exact shape_endCellar h
  · exact shape_foldl (fun _ _ h => shape_endSwap h) _ h
  · exact h

theorem shape_drawSpare {kind inst : Nat} {calOk : Bool} (h : WellShaped s) : WellShaped (drawSpare kind inst calOk s).2 := by
  unfold drawSpare
  split
  · exact h
  · split
    · exact h
    · exact shape_retire h
  · exact h

theorem shape_haltFault {kind inst : Nat} (h : WellShaped s) : WellShaped (haltFault kind inst s) :=
  shape_ite (fun _ => shape_uncoveredFault (shape_retire h)) fun _ => shape_standingFault h

theorem shape_emergencyRun {kind inst : Nat} {calOk : Bool} (h : WellShaped s) : WellShaped (emergencyRun kind inst calOk s) := by
  unfold emergencyRun
  refine shape_ite (fun _ => h) fun _ => shape_ite (fun _ => shape_standingFault h) fun _ => ?_
  refine shape_ite (fun _ => shape_ite (fun _ => shape_trimSwaps (shape_retire h)) fun _ => h) fun _ => ?_
  dsimp only
  split
  · rename_i e
    have h := shape_snd e (shape_drawSpare (shape_endFault h))
    exact shape_foldl (fun _ _ h => shape_resumePort (shape_unhold h)) _ (shape_finishSwap h)
  · rename_i e
    exact shape_haltFault (shape_snd e (shape_drawSpare (shape_endFault h)))

theorem shape_wearTripRun {monitor inst : Nat} {value : Int} (h : WellShaped s) : WellShaped (wearTripRun monitor inst value s) := by
  unfold wearTripRun
  extract_lets s1 s2
  have h1 : WellShaped s1 := shape_wearRun h
  have h2 : WellShaped s2 := shape_ite (fun _ => shape_noteWear h1) fun _ => h1
  exact shape_ite (fun _ => shape_emergencyRun (shape_drawn h2)) fun _ => h2

theorem shape_swapRequestRun {hd : Hdr} {kind inst : Nat} (h : WellShaped s) : WellShaped (swapRequestRun hd kind inst s) := by
  unfold swapRequestRun
  split
  · exact shape_ite (fun _ => shape_fail _ _ _ _ h) fun _ => shape_modSpares h
  · exact shape_ite (fun _ => shape_planSwap h) fun _ => shape_fail _ _ _ _ h

theorem shape_spareFails {e : Nat × Nat} (h : WellShaped s) : WellShaped (spareFails s e) :=
  shape_ite (fun _ => shape_trimSwaps (shape_raise _ _ _ (shape_retire h))) fun _ => h

theorem shape_dailyRun {failed : List (Nat × Nat)} (h : WellShaped s) : WellShaped (dailyRun failed s) :=
  shape_ite (fun _ => h) fun _ => shape_foldl (fun _ _ h => shape_spareFails h) _ (shape_modSpares h)

theorem shape_selfTestRun {hd : Hdr} {groups : Nat} (h : WellShaped s) : WellShaped (selfTestRun hd groups s) := by
  unfold selfTestRun
  extract_lets _ _ s1 s2 _ _
  have h1 : WellShaped s1 := shape_drawn h
  have h2 : WellShaped s2 := by
    unfold s2
    refine shape_foldl (fun s x h => ?_) _ h1
    split
    · exact shape_spareFails h
    · exact h
  exact shape_ite (fun _ => shape_ok _ _ _ h2) fun _ => shape_respond _ _ _ _ h2

theorem shape_spareStatusRun {hd : Hdr} (h : WellShaped s) : WellShaped (spareStatusRun hd s) := shape_respondList h

theorem shape_wearReadRun {hd : Hdr} {monitor start count : Nat} (h : WellShaped s) : WellShaped (wearReadRun hd monitor start count s) :=
  shape_respondList (shape_drawn h)

theorem shape_eventLogRun {hd : Hdr} {start count : Nat} (h : WellShaped s) : WellShaped (eventLogRun hd start count s) := shape_respondList h
theorem shape_evLostRun (h : WellShaped s) : WellShaped (evLostRun s) := shape_ite (fun _ => h) fun _ => shape_raise _ _ _ (shape_with h)
theorem shape_clearPort {p : Nat} (h : WellShaped s) : WellShaped (clearPort p s) := shape_modPort _ _ h

theorem shape_countersRun {hd : Hdr} {ports : Nat} {links : Bool} (h : WellShaped s) : WellShaped (countersRun hd ports links s) := by
  unfold countersRun
  refine shape_ok _ _ _ ?_
  refine shape_ite (fun _ => shape_modLink (shape_foldl (fun _ _ h => shape_clearPort h) _ h)) fun _ => ?_
  exact shape_foldl (fun _ _ h => shape_clearPort h) _ h

/-! ### The operations of Machine/ClusterRun -/

theorem shape_modCluster {f : Cluster → Cluster} (h : WellShaped s) : WellShaped (modCluster f s) := shape_with h
theorem shape_decideRole (h : WellShaped s) : WellShaped (decideRole s) := shape_ite (fun _ => h) fun _ => shape_modTime h
theorem shape_slew {err : Int} {elapsedNs : Nat} (h : WellShaped s) : WellShaped (slew err elapsedNs s) := shape_drawn (shape_with h)

theorem shape_newOffset {offset : Int} {elapsedNs : Nat} (h : WellShaped s) : WellShaped (newOffset offset elapsedNs s) :=
  shape_ite (fun _ => shape_slew (shape_modTime h)) fun _ => shape_modTime h

theorem shape_syncKnown {src seq : Nat} {localNs origin : Int} (h : WellShaped s) : WellShaped (syncKnown src seq localNs origin s) :=
  shape_newOffset (shape_modTime h)

theorem shape_sendPtp {msg : PtpMsg} (h : WellShaped s) : WellShaped (sendPtp msg s) := shape_with h

theorem shape_ptpRun {msg : PtpMsg} (h : WellShaped s) : WellShaped (ptpRun msg s) := by
  unfold ptpRun
  dsimp only
  split
  · exact shape_ite (fun _ => h) fun _ => shape_decideRole (shape_modTime h)
  · exact shape_ite (fun _ => h) fun _ => shape_ite (fun _ => shape_modTime h) fun _ => shape_syncKnown h
  · refine shape_ite (fun _ => h) fun _ => ?_
    split
    · exact shape_ite (fun _ => shape_syncKnown h) fun _ => h
    · exact h
  · exact shape_ite (fun _ => h) fun _ => shape_sendPtp h
  · refine shape_ite (fun _ => h) fun _ => ?_
    split
    · exact shape_ite (fun _ => shape_modTime h) fun _ => h
    · exact h

theorem shape_syncIntervalRun (h : WellShaped s) : WellShaped (syncIntervalRun s) := by
  unfold syncIntervalRun
  refine shape_ite (fun _ => h) fun _ => ?_
  dsimp only
  split
  · refine shape_ite (fun _ => ?_) fun _ => ?_
    · exact shape_sendPtp (shape_modTime (shape_modTime (shape_sendPtp (shape_sendPtp (shape_decideRole h)))))
    · exact shape_modTime (shape_sendPtp (shape_sendPtp (shape_decideRole h)))
  · exact shape_sendPtp (shape_modTime (shape_decideRole h))
  · exact shape_decideRole h

theorem shape_lockChangeRun {lock : Nat} {offsetNs stepNs : Int} (h : WellShaped s) : WellShaped (lockChangeRun lock offsetNs stepNs s) := by
  unfold lockChangeRun
  refine shape_ite (fun _ => h) fun _ => shape_tellLock ?_
  split
  · exact shape_setLock (shape_ite (fun _ => shape_with (shape_modTime h)) fun _ => shape_modTime h)
  · exact shape_ite (fun _ => shape_with (shape_modTime h)) fun _ => shape_modTime h

theorem shape_headEdge {chainPs : Int} {gap : Nat} (h : WellShaped s) : WellShaped (headEdge chainPs gap s) :=
  shape_ite (fun _ => shape_modTime h) fun _ => shape_ite (fun _ => shape_modTime h) fun _ => shape_modTime h

theorem shape_followEdge {chainPs : Int} (h : WellShaped s) : WellShaped (followEdge chainPs s) := by
  unfold followEdge
  refine shape_ite (fun _ => shape_modTime (shape_modTime h)) fun _ => shape_ite (fun _ => ?_) fun _ => ?_
  · refine shape_ite (fun _ => shape_tellLock (shape_setLock (shape_slew (shape_modTime (shape_modTime h))))) fun _ => ?_
    exact shape_slew (shape_modTime (shape_modTime h))
  · split
    · refine shape_ite (fun _ => shape_tellLock (shape_setLock (shape_slew (shape_modTime (shape_modTime h))))) fun _ => ?_
      exact shape_slew (shape_modTime (shape_modTime h))
    · exact shape_slew (shape_modTime (shape_modTime h))

theorem shape_edgeRun {offsetPs : Int} (h : WellShaped s) : WellShaped (edgeRun offsetPs s) := by
  unfold edgeRun
  exact shape_ite (fun _ => h) fun _ => shape_modTime (shape_ite (fun _ => shape_headEdge h) fun _ => shape_followEdge h)

theorem shape_syncLossRun (h : WellShaped s) : WellShaped (syncLossRun s) := by
  unfold syncLossRun
  refine shape_ite (fun _ => h) fun _ => ?_
  refine shape_ite (fun _ => shape_modTime (shape_ite (fun _ => shape_tellLock (shape_setLock h)) fun _ => h)) fun _ => ?_
  exact shape_ite (fun _ => shape_tellLock (shape_setLock h)) fun _ => h

theorem shape_holdoverRun (h : WellShaped s) : WellShaped (holdoverRun s) := by
  unfold holdoverRun
  split
  · exact h
  · refine shape_ite (fun _ => h) fun _ => ?_
    exact shape_foldl (fun _ _ h => shape_ite (fun _ => shape_followRun h) fun _ => h) _ (shape_modTime h)

theorem shape_resumeRun {p : Nat} (h : WellShaped s) : WellShaped (resumeRun p s) := by
  unfold resumeRun
  dsimp only
  split
  · exact shape_setTimer _ _ _ (shape_resumeField (shape_foldl (fun _ _ h => shape_aim h) _ h))
  · exact shape_resumeField (shape_foldl (fun _ _ h => shape_aim h) _ h)

theorem shape_askWaiting {p : Nat} (h : WellShaped s) : WellShaped (askWaiting p s) := by
  unfold askWaiting
  split
  · refine shape_ite (fun _ => h) fun _ => ?_
    split
    · rename_i e
      exact shape_snd e (shape_askField (shape_modRadio _ _ h))
    · rename_i e
      have h := shape_snd e (shape_askField (shape_modRadio _ _ h))
      exact shape_goOn (shape_settle (shape_ite (fun _ => shape_taskFail h) fun _ => shape_endPass h))
  · exact h

theorem shape_runStart {p : Nat} (h : WellShaped s) : WellShaped (runStart p s) := by
  unfold runStart
  split
  · exact shape_enterOff h
  · dsimp only
    split
    · exact shape_armRunEnd (shape_tryArm (shape_askWaiting (shape_ite (fun _ => h) fun _ => shape_retune h)))
    · refine shape_ite (fun _ => shape_tryArm (shape_ite (fun _ => h) fun _ => shape_retune h)) fun _ => ?_
      exact shape_resumeRun (shape_ite (fun _ => h) fun _ => shape_retune h)
    · exact shape_armRunEnd (shape_ite (fun _ => h) fun _ => shape_changeChannel h)
    · exact shape_ite (fun _ => shape_armRunEnd h) fun _ => shape_interruptField (shape_modRadio _ _ h)
    · exact h

theorem shape_frameStartRun (h : WellShaped s) : WellShaped (frameStartRun s) := by
  unfold frameStartRun
  refine shape_ite (fun _ => h) fun _ => ?_
  refine shape_ite (fun _ => shape_ite (fun _ => shape_modTime h) fun _ => h) fun _ => ?_
  refine shape_foldl (fun s x h => ?_) _ (shape_reselect (shape_foldl (fun _ _ h => shape_runStart h) _ (shape_ite (fun _ => shape_modTime h) fun _
    => h)))
  exact shape_resumePort h

theorem shape_planLoadRun {hd : Hdr} {planId total off : Nat} {data : Bytes} (h : WellShaped s) :
    WellShaped (planLoadRun hd planId total off data s) := by
  unfold planLoadRun
  refine shape_ite (fun _ => shape_failRange _ _ _ h) fun _ => ?_
  refine shape_ite (fun _ => shape_failRange _ _ _ h) fun _ => ?_
  refine shape_ok _ _ _ (shape_modCluster (shape_ite (fun _ => h) fun _ => shape_modCluster ?_))
  split
  · exact shape_fail _ _ _ _ (shape_modCluster h)
  · exact h

theorem shape_planActivateRun {hd : Hdr} {planId due : Nat} (h : WellShaped s) : WellShaped (planActivateRun hd planId due s) := by
  unfold planActivateRun
  split
  · exact shape_respond _ _ _ _ h
  · refine shape_modCluster ?_
    split
    · exact shape_fail _ _ _ _ h
    · exact h

theorem shape_planForceRun (h : WellShaped s) : WellShaped (planForceRun s) := by
  unfold planForceRun
  split
  · exact h
  · refine shape_ite (fun _ => h) fun _ => ?_
    dsimp only
    split
    · exact shape_fail _ _ _ _ (shape_modCluster h)
    · exact shape_fail _ _ _ _ (shape_modCluster h)
    · refine shape_reselect ?_
      refine shape_foldl (fun s x h => ?_) _ (shape_raise _ _ _ (shape_ok _ _ _ (shape_modCluster (shape_modCluster h))))
      exact shape_ite (fun _ => shape_runStart h) fun _ => shape_ite (fun _ => shape_followRun h) fun _ => h

theorem shape_clusterStatusRun {hd : Hdr} (h : WellShaped s) : WellShaped (clusterStatusRun hd s) := shape_ok _ _ _ h

theorem shape_calToneRun {hd : Hdr} {p channel due durUs : Nat} (h : WellShaped s) : WellShaped (calToneRun hd p channel due durUs s) := by
  unfold calToneRun
  refine shape_ite (fun _ => shape_failRange _ _ _ h) fun _ => shape_ite (fun _ => shape_fail _ _ _ _ h) fun _ => ?_
  refine shape_ite (fun _ => shape_fail _ _ _ _ h) fun _ => shape_ite (fun _ => shape_fail _ _ _ _ h) fun _ => ?_
  refine shape_ite (fun _ => shape_fail _ _ _ _ h) fun _ => shape_ite (fun _ => shape_fail _ _ _ _ h) fun _ => ?_
  dsimp only
  split
  · rename_i e
    exact shape_snd e (shape_pressAskAt (shape_modPort _ _ h))
  · rename_i e
    exact shape_endTone (shape_snd e (shape_pressAskAt (shape_modPort _ _ h)))

theorem shape_calToneEndRun {p : Nat} (h : WellShaped s) : WellShaped (calToneEndRun p s) := by
  unfold calToneEndRun
  split
  · exact h
  · exact shape_ite (fun _ => h) fun _ => shape_ite (fun _ => shape_endTone h) fun _ => shape_endTone h

theorem shape_calListenRun {hd : Hdr} {ports due durUs srcModule srcPort : Nat} (h : WellShaped s) :
    WellShaped (calListenRun hd ports due durUs srcModule srcPort s) := by
  unfold calListenRun
  refine shape_ite (fun _ => shape_failRange _ _ _ h) fun _ => shape_ite (fun _ => shape_fail _ _ _ _ h) fun _ => ?_
  split
  · exact shape_fail _ _ _ _ h
  · exact shape_ite (fun _ => shape_fail _ _ _ _ h) fun _ => shape_modCluster h

theorem shape_calListenEndRun {couplings : List Int} (h : WellShaped s) : WellShaped (calListenEndRun couplings s) := by
  unfold calListenEndRun
  split
  · exact h
  · exact shape_ite (fun _ => h) fun _ => shape_respondList (shape_modCluster (shape_foldl (fun _ _ h => shape_modNvm h) _ h))

theorem shape_dedupImportRun {hd : Hdr} {recs : List DedupRec} (h : WellShaped s) : WellShaped (dedupImportRun hd recs s) :=
  shape_ite (fun _ => shape_fail _ _ _ _ h) fun _ => shape_importRun h

/-! ### The operations of Machine/DiagRun -/

theorem shape_modDiag {f : Diag → Diag} (h : WellShaped s) : WellShaped (modDiag f s) := shape_with h

theorem shape_captureArmRun {hd : Hdr} {buffer port point trigger samples before : Nat} (h : WellShaped s) :
    WellShaped (captureArmRun hd buffer port point trigger samples before s) := by
  unfold captureArmRun
  exact shape_ite (fun _ => shape_fail _ _ _ _ h) fun _ => shape_ite (fun _ => shape_fail _ _ _ _ h) fun _ => shape_modDiag h

theorem shape_captureFullRun {buffer trigTick : Nat} {samples : List Cpx} (h : WellShaped s) :
    WellShaped (captureFullRun buffer trigTick samples s) := by
  unfold captureFullRun
  split
  · exact h
  · exact shape_ite (fun _ => h) fun _ => shape_ok _ _ _ (shape_modDiag h)

theorem shape_captureReadRun {hd : Hdr} {buffer off len : Nat} (h : WellShaped s) : WellShaped (captureReadRun hd buffer off len s) :=
  shape_ite (fun _ => shape_fail _ _ _ _ h) fun _ => shape_respondParts _ _ _ h

theorem shape_triggerArmRun {hd : Hdr} {n due periodNs : Nat} (h : WellShaped s) : WellShaped (triggerArmRun hd n due periodNs s) :=
  shape_ite (fun _ => shape_fail _ _ _ _ h) fun _ => shape_ok _ _ _ (shape_modDiag h)

theorem shape_moduleInfoRun {hd : Hdr} (h : WellShaped s) : WellShaped (moduleInfoRun hd s) := shape_ok _ _ _ h
theorem shape_moduleStateRun {hd : Hdr} (h : WellShaped s) : WellShaped (moduleStateRun hd s) := shape_ok _ _ _ h
theorem shape_timeReadRun {hd : Hdr} (h : WellShaped s) : WellShaped (timeReadRun hd s) := shape_ok _ _ _ h

theorem shape_moduleResetRun {hd : Hdr} {confirm : Nat} (h : WellShaped s) : WellShaped (moduleResetRun hd confirm s) :=
  shape_ite (fun _ => shape_fail _ _ _ _ h) fun _ => shape_ok _ _ _ (shape_modMod h)

theorem shape_resetExecuteRun (h : WellShaped s) : WellShaped (resetExecuteRun s) := shape_ite (fun _ => h) fun _ => shape_resetBy _ h

end Sys2Proof.Machine
end

section
/-!
SUPPORT. The shape is kept where commands are admitted, by the rows of the link and of power and by those of the radio; with them every step keeps it.
-/

namespace Sys2Proof.Machine

set_option Elab.async false

variable {s : State}

/-! ### The operations of Machine/Admit -/

theorem shape_cmdGo {i : Instr} (h : WellShaped s) : WellShaped (cmdGo i s) := by
  unfold cmdGo
  split
  · exact shape_ok _ _ _ h
  · exact shape_moduleInfoRun h
  · exact shape_moduleStateRun h
  · exact shape_attrGetRun h
  · exact shape_attrSetRun h
  · exact shape_commitRun h
  · exact shape_discardRun h
  · exact shape_saveRun h
  · exact shape_dozeEnterRun h
  · exact shape_queueStatusRun h
  · exact shape_moduleResetRun h
  · exact shape_timeReadRun h
  · exact shape_fwBeginRun h
  · exact shape_fwDataRun h
  · exact shape_fwVerifyRun h
  · exact shape_fwActivateRun h
  · exact shape_fwStatusRun h
  · exact shape_fwRollbackRun h
  · exact shape_fieldOnRun h
  · exact shape_fieldOffRun h
  · exact shape_noteSkipped (shape_autotuneRun h)
  · exact shape_noteSkipped (shape_calibrateRun h)
  · exact shape_measureNoiseRun h
  · exact shape_mirrorTrainRun h
  · exact shape_isoRawRun h
  · exact shape_isoAAnticollRun h
  · exact shape_isoAActivateRun h
  · exact shape_isoAHaltRun h
  · exact shape_isoARatsRun h
  · exact shape_isoPpsRun h
  · exact shape_isoBRequestRun h
  · exact shape_isoBAnticollRun h
  · exact shape_isoBAttribRun h
  · exact shape_isoBHaltRun h
  · exact shape_isoApduRun h
  · exact shape_isoDeselectRun h
  · exact shape_isoForgetRun h
  · exact shape_isoVInventoryRun h
  · exact shape_isoVCommandRun h
  · exact shape_isoVSelectRun h
  · exact shape_isoVQuietRun h
  · exact shape_isoVResetRun h
  · exact shape_hyRawRun h
  · exact shape_hyActivateRun h
  · exact shape_hyStart h
  · exact shape_hyStart h
  · exact shape_hyStart h
  · exact shape_hyStart h
  · exact shape_hyStart h
  · exact shape_hyStart h
  · exact shape_hyStart h
  · exact shape_hyStart h
  · exact shape_hyForgetRun h
  · exact shape_hyTreeRun h
  · exact shape_hySetMapRun h
  · exact shape_harvestStart h
  · exact shape_harvestStop h
  · exact shape_clearRun h
  · exact shape_readTableRun h
  · exact shape_noteSkipped (shape_prismCalRun h)
  · exact shape_prismVectorRun h
  · exact shape_lensBaselineRun h
  · exact shape_lensMeasureRun h
  · exact shape_planLoadRun h
  · exact shape_planActivateRun h
  · exact shape_clusterStatusRun h
  · exact shape_calToneRun h
  · exact shape_calListenRun h
  · exact shape_dedupImportRun h
  · exact shape_infoRun h
  · exact shape_importCask h
  · exact shape_generateCask h
  · exact shape_deriveCask h
  · exact shape_destroyCask h
  · exact shape_encryptRun h
  · exact shape_decryptRun h
  · exact shape_wrapRun h
  · exact shape_attestRun h
  · exact shape_lifecycleRun h
  · exact shape_debugOpenRun h
  · exact shape_credWriteRun h
  · exact shape_credVerifyRun h
  · exact shape_listRun h
  · exact shape_selfTestRun h
  · exact shape_captureArmRun h
  · exact shape_captureReadRun h
  · exact shape_triggerArmRun h
  · exact shape_swapRequestRun h
  · exact shape_spareStatusRun h
  · exact shape_wearReadRun h
  · exact shape_eventLogRun h
  · exact shape_countersRun h
  · exact h

theorem shape_scheduleRun {t : Nat} {hd : Hdr} {action portNo due : Nat} {item : Bytes} (h : WellShaped s) :
    WellShaped (scheduleRun t hd action portNo due item s) := by
  unfold scheduleRun
  refine shape_ite (fun _ => shape_fail _ _ _ _ h) fun _ => ?_
  refine shape_ite (fun _ => shape_ok _ _ _ (shape_modDiag h)) fun _ => ?_
  split
  · exact shape_fail _ _ _ _ h
  · exact shape_ite (fun _ => shape_failRange _ _ _ h) fun _ => shape_ok _ _ _ (shape_modDiag h)

theorem shape_popIn {q : Nat} (h : WellShaped s) : WellShaped (popIn q s) := by
  unfold popIn
  split
  · exact h
  · dsimp only
    split
    · exact shape_raiseLimit (shape_modIn _ _ h)
    · exact shape_modIn _ _ h

theorem shape_badCheck {q : Nat} {x : Bytes} (h : WellShaped s) : WellShaped (badCheck q x s) := shape_fail _ _ _ _ (shape_modCnt h)

theorem shape_answerEntry {q code : Nat} {e : RingEntry} (h : WellShaped s) : WellShaped (answerEntry q code e s) := by
  unfold answerEntry
  split
  · exact h
  · exact h
  · exact shape_ite (fun _ => shape_fail _ _ _ _ h) fun _ => shape_badCheck h
  · split
    · exact shape_fail _ _ _ _ h
    · exact h

theorem shape_flushRing {q code : Nat} (h : WellShaped s) : WellShaped (flushRing q code s) :=
  shape_foldl (fun _ _ h => shape_answerEntry (shape_popIn h)) _ h

theorem shape_flushStarts {p code : Nat} (h : WellShaped s) : WellShaped (flushStarts p code s) :=
  shape_foldl (fun _ _ h => shape_fail _ _ _ _ h) _ (shape_modPort _ _ h)

theorem shape_portFlushRun {hd : Hdr} {mask : Nat} (h : WellShaped s) : WellShaped (portFlushRun hd mask s) :=
  shape_ok _ _ _ (shape_foldl (fun _ _ h => shape_flushStarts (shape_flushRing h)) _ h)

theorem shape_cmdWork {i : Instr} (h : WellShaped s) : WellShaped (cmdWork i s) := by
  unfold cmdWork
  split
  · exact shape_scheduleRun h
  · exact shape_portFlushRun h
  · exact shape_cmdGo h

theorem shape_cmdRun {i : Instr} (h : WellShaped s) : WellShaped (cmdRun i s) := by
  unfold cmdRun
  split
  · exact h
  · split
    · exact shape_fail _ _ _ _ h
    · exact shape_cmdWork h

theorem shape_beforeTurn {q : Nat} (h : WellShaped s) : WellShaped (beforeTurn q s) := shape_ite (fun _ => shape_crossBoundary h) fun _ => h

theorem shape_takeTurn {i : Instr} {op : Nat} {hd : Hdr} {turn : Turn} (h : WellShaped s) : WellShaped (takeTurn i op hd turn s) := by
  unfold takeTurn
  split
  · exact shape_cmdRun h
  · exact h
  · exact shape_fail _ _ _ _ h
  · exact shape_with h

theorem shape_heldTurn (h : WellShaped s) : WellShaped (heldTurn s) := by
  unfold heldTurn
  split
  · exact h
  · dsimp only
    split
    · exact shape_with h
    · split
      · exact h
      · exact shape_takeTurn (shape_with h)

theorem shape_wakeFor {op : Nat} (h : WellShaped s) : WellShaped (wakeFor op s) := shape_ite (fun _ => shape_dozeExit h) fun _ => h

theorem shape_arrive {i : Instr} {op : Nat} {hd : Hdr} (h : WellShaped s) : WellShaped (arrive i op hd s) := by
  unfold arrive
  refine shape_ite (fun _ => h) fun _ => ?_
  refine shape_ite (fun _ => shape_cmdRun (shape_passIn h)) fun _ => shape_ite (fun _ => ?_) fun _ => ?_
  · exact shape_takeTurn (shape_ite (fun _ => shape_beforeTurn (shape_passIn h)) fun _ => shape_passIn h)
  · exact shape_modIn _ _ (shape_ite (fun _ => shape_beforeTurn (shape_passIn h)) fun _ => shape_passIn h)

theorem shape_hostCmd {i : Instr} (h : WellShaped s) : WellShaped (hostCmd i s) := by
  unfold hostCmd
  split
  · exact h
  · exact shape_ite (fun _ => h) fun _ => shape_arrive (shape_wakeFor (shape_ite (fun _ => shape_heard h) fun _ => h))

theorem shape_markDone {q n : Nat} (h : WellShaped s) : WellShaped (markDone q n s) := shape_modIn _ _ h

theorem shape_actAhead {q n : Nat} {e : RingEntry} (h : WellShaped s) : WellShaped (actAhead q n e s) := by
  unfold actAhead
  dsimp only
  split
  · exact shape_cmdRun (shape_markDone h)
  · refine shape_ite (fun _ => shape_badCheck (shape_markDone h)) fun _ => ?_
    split
    · exact shape_fail _ _ _ _ (shape_markDone h)
    · exact shape_cmdRun (shape_markDone h)

theorem shape_dropDone {q k : Nat} (h : WellShaped s) : WellShaped (dropDone q k s) := by
  induction k generalizing s with
  | zero => exact h
  | succ k ih =>
    unfold dropDone
    split
    · exact shape_ite (fun _ => ih (shape_popIn h)) fun _ => h
    · exact h

theorem shape_popHead {q : Nat} (h : WellShaped s) : WellShaped (popHead q s) := by
  unfold popHead
  split
  · exact h
  · split
    · exact shape_popIn h
    · dsimp only
      split
      · exact shape_beforeTurn h
      · exact shape_takeTurn (shape_popIn (shape_beforeTurn h))
  · refine shape_ite (fun _ => shape_ite (fun _ => shape_badCheck (shape_popIn h)) fun _ => h) fun _ => ?_
    dsimp only
    split
    · exact shape_beforeTurn h
    · exact shape_fail _ _ _ _ (shape_popIn (shape_beforeTurn h))
    · exact shape_fail _ _ _ _ (shape_popIn (shape_beforeTurn h))
    · exact shape_takeTurn (shape_popIn (shape_beforeTurn h))

theorem shape_popPast {q : Nat} (h : WellShaped s) : WellShaped (popPast q s) := by
  unfold popPast
  split
  · exact h
  · exact shape_popHead h
  · split
    · exact h
    · split
      · exact h
      · dsimp only
        split
        · exact shape_beforeTurn h
        · exact shape_takeTurn (shape_markDone (shape_beforeTurn h))

theorem shape_itemPopRun {q : Nat} (h : WellShaped s) : WellShaped (itemPopRun q s) := by
  unfold itemPopRun
  refine shape_ite (fun _ => h) fun _ => ?_
  dsimp only
  split
  · split
    · exact shape_dropDone (shape_actAhead (shape_dropDone h))
    · exact shape_dropDone h
  · refine shape_ite (fun _ => shape_heldTurn (shape_dropDone h)) fun _ => ?_
    refine shape_ite (fun _ => shape_popHead (shape_dropDone h)) fun _ => shape_settleIn ?_
    exact shape_ite (fun _ => shape_popHead (shape_dropDone h)) fun _ => shape_popPast (shape_dropDone h)

theorem shape_scheduledRun {action : Nat} (h : WellShaped s) : WellShaped (scheduledRun action s) := by
  unfold scheduledRun
  split
  · exact h
  · refine shape_ite (fun _ => h) fun _ => ?_
    split
    · exact shape_modDiag h
    · split
      · exact h
      · refine shape_ite (fun _ => h) fun _ => ?_
        exact shape_ite (fun _ => shape_fail _ _ _ _ (shape_modDiag h)) fun _ => shape_arrive (shape_modDiag h)

/-! ### The operations of Machine/LinkRun -/

theorem shape_numberRefused {x : Head} (h : WellShaped s) : WellShaped (numberRefused x s) :=
  shape_ite (fun _ => shape_countForAck (shape_markRefused h)) fun _ => shape_markRefused h

theorem shape_refuseFrame {src : Src} {x : Head} {code : Nat} (h : WellShaped s) : WellShaped (refuseFrame src x code s) := by
  unfold refuseFrame
  refine shape_ite (fun _ => shape_refuse h) fun _ => ?_
  exact shape_ite (fun _ => shape_numberRefused (shape_refuse h)) fun _ => shape_refuse h

theorem shape_acceptFrame {x : Head} {items : List Bytes} (h : WellShaped s) : WellShaped (acceptFrame x items s) := by
  unfold acceptFrame
  refine shape_countForAck (shape_trackGap ?_)
  exact shape_foldl (fun _ _ h => shape_pushIn (shape_ite (fun _ => shape_wakeFor h) fun _ => h)) _ (shape_modLink h)

theorem shape_dataFrame {src : Src} {x : Head} {payload : Bytes} (h : WellShaped s) : WellShaped (dataFrame src x payload s) := by
  unfold dataFrame
  refine shape_ite (fun _ => shape_refuseFrame h) fun _ => ?_
  split
  · exact shape_sendAck (shape_modCnt h)
  · exact shape_sendNak (shape_modCnt h)
  · exact shape_sendNak (shape_modCnt h)
  · exact shape_numberRefused (shape_sendCtl (shape_modCnt h))
  · split
    · exact shape_refuseFrame h
    · exact shape_ite (fun _ => shape_acceptFrame h) fun _ => shape_refuse h

theorem shape_controlFrame {src : Src} {payload : Bytes} (h : WellShaped s) : WellShaped (controlFrame src payload s) := by
  unfold controlFrame
  split
  · exact shape_refuse h
  · exact shape_foldl (fun _ _ h => shape_onRec h) _ (shape_ite (fun _ => shape_heard h) fun _ => h)

theorem shape_hostFrameRun {src dst : Src} {vid : Nat} {x : Bytes} (h : WellShaped s) : WellShaped (hostFrameRun src dst vid x s) := by
  unfold hostFrameRun
  refine shape_ite (fun _ => h) fun _ => ?_
  refine shape_ite (fun _ => shape_modCnt h) fun _ => shape_ite (fun _ => shape_sendNak (shape_modCnt h)) fun _ => ?_
  refine shape_ite (fun _ => shape_sendNak (shape_modCnt h)) fun _ => ?_
  split
  · exact shape_refuseFrame h
  · refine shape_ite (fun _ => shape_controlFrame h) fun _ => ?_
    exact shape_ite (fun _ => shape_refuse h) fun _ => shape_dataFrame (shape_heard (shape_takeCredit h))

theorem shape_recordRun {src : Src} {r : HostRec} (h : WellShaped s) : WellShaped (recordRun src r s) := by
  unfold recordRun
  refine shape_ite (fun _ => h) fun _ => ?_
  exact shape_ite (fun _ => shape_refuse h) fun _ => shape_onRec (shape_ite (fun _ => shape_heard h) fun _ => h)

theorem shape_announce (h : WellShaped s) : WellShaped (announce s) := shape_sendCtl h

theorem shape_announceRun (h : WellShaped s) : WellShaped (announceRun s) := by
  unfold announceRun
  refine shape_ite (fun _ => h) fun _ => ?_
  dsimp only
  split
  · exact shape_modLink (shape_announce h)
  · exact shape_sendCtl (shape_modLink (shape_announce h))

theorem shape_announceHeard {id mac : Nat} (h : WellShaped s) : WellShaped (announceHeard id mac s) := by
  unfold announceHeard
  refine shape_ite (fun _ => h) fun _ => ?_
  exact shape_ite (fun _ => shape_announce h) fun _ => shape_announce (shape_raise _ _ _ (shape_with h))

theorem shape_echoRun {v6 : Bool} {addr : Nat} {data : Bytes} (h : WellShaped s) : WellShaped (echoRun v6 addr data s) :=
  shape_ite (fun _ => h) fun _ => shape_with h

theorem shape_neighborRun {v6 : Bool} {addr target : Nat} (h : WellShaped s) : WellShaped (neighborRun v6 addr target s) :=
  shape_ite (fun _ => h) fun _ => shape_with h

theorem shape_ackDelayRun (h : WellShaped s) : WellShaped (ackDelayRun s) := by
  unfold ackDelayRun
  split
  · exact shape_ite (fun _ => shape_sendAck h) fun _ => h
  · exact h

theorem shape_nakRepeatRun (h : WellShaped s) : WellShaped (nakRepeatRun s) := by
  unfold nakRepeatRun
  split
  · exact shape_ite (fun _ => shape_sendNak h) fun _ => h
  · exact h

theorem shape_retxRun (h : WellShaped s) : WellShaped (retxRun s) := by
  unfold retxRun
  split
  · exact h
  · exact shape_ite (fun _ => h) fun _ => shape_modLink h

theorem shape_staleRun {q : Nat} (h : WellShaped s) : WellShaped (staleRun q s) := by
  unfold staleRun
  split
  · exact shape_ite (fun _ => shape_modOut _ _ h) fun _ => h
  · exact h

theorem shape_transmitRun (h : WellShaped s) : WellShaped (transmitRun s) := shape_ite (fun _ => h) fun _ => shape_transmitOne h

theorem shape_pushStaged {p k : Nat} (h : WellShaped s) : WellShaped (pushStaged p k s) := by
  induction k generalizing s with
  | zero => exact h
  | succ k ih =>
    unfold pushStaged
    dsimp only
    split
    · exact shape_ite (fun _ => ih (shape_pushOut _ _ (shape_modOut _ _ h))) fun _ => shape_modOut _ _ h
    · split
      · exact ih (shape_modOut _ _ h)
      · exact h

theorem shape_refill {p k : Nat} (h : WellShaped s) : WellShaped (refill p k s) := by
  induction k generalizing s with
  | zero => exact h
  | succ k ih =>
    unfold refill
    dsimp only
    split
    · exact shape_ite (fun _ => ih (shape_modOut _ _ h)) fun _ => h
    · exact h

theorem shape_resultPushRun {p : Nat} (h : WellShaped s) : WellShaped (resultPushRun p s) := by
  unfold resultPushRun
  exact shape_ite (fun _ => shape_refill (shape_pushStaged h)) fun _ => shape_resumePort (shape_refill (shape_pushStaged h))

theorem shape_loseOn {p : Nat} (h : WellShaped s) : WellShaped (loseOn p s) := by
  unfold loseOn
  refine shape_goOn (shape_stopPass ?_)
  split
  · refine shape_taskFail ?_
    split
    · exact shape_dropWant (shape_modRadio _ _ (shape_modPort _ _ (shape_foldl (fun _ _ h => shape_failParked h) _ h)))
    · exact shape_modRadio _ _ (shape_modPort _ _ (shape_foldl (fun _ _ h => shape_failParked h) _ h))
  · exact shape_endRunning (shape_modRadio _ _ (shape_modPort _ _ (shape_foldl (fun _ _ h => shape_failParked h) _ h)))
  · exact shape_modRadio _ _ (shape_modPort _ _ (shape_foldl (fun _ _ h => shape_failParked h) _ h))

theorem shape_hostTimeoutRun (h : WellShaped s) : WellShaped (hostTimeoutRun s) := by
  unfold hostTimeoutRun
  refine shape_ite (fun _ => h) fun _ => shape_raise _ _ _ (shape_foldl (fun s x h => ?_) _ ?_)
  · exact shape_loseOn (shape_flushStarts h)
  · refine shape_foldl (fun s x h => ?_) _ (shape_with (shape_foldl (fun _ _ h => shape_flushRing h) _ (shape_modLink h)))
    split
    · exact shape_fail _ _ _ _ h
    · exact h

theorem shape_linkUpRun {speed : Nat} (h : WellShaped s) : WellShaped (linkUpRun speed s) := by
  unfold linkUpRun
  refine shape_ite (fun _ => h) fun _ => shape_raise _ _ _ ?_
  exact shape_ite (fun _ => shape_startDhcp (shape_requestPower (shape_modLink h))) fun _ => shape_modLink h

theorem shape_linkDownRun (h : WellShaped s) : WellShaped (linkDownRun s) := shape_renegotiate h

theorem shape_trainingFailRun (h : WellShaped s) : WellShaped (trainingFailRun s) := by
  unfold trainingFailRun
  exact shape_ite (fun _ => h) fun _ => shape_ite (fun _ => shape_modLink h) fun _ => shape_raise _ _ _ (shape_modLink h)

/-! ### The operations of Machine/PowerRun -/

theorem shape_grantAll {k : Nat} (h : WellShaped s) : WellShaped (grantAll k s) := by
  induction k generalizing s with
  | zero => exact h
  | succ k ih =>
    unfold grantAll
    split
    · exact h
    · exact shape_ite (fun _ => ih (shape_grantRun h)) fun _ => h

theorem shape_prismAll (h : WellShaped s) : WellShaped (prismAll s) := by
  unfold prismAll
  exact shape_ite (fun _ => h) fun _ => shape_foldl (fun _ _ h => shape_ite (fun _ => h) fun _ => shape_prismCal h) _ h

theorem shape_allocLowerRun {mw : Nat} (h : WellShaped s) : WellShaped (allocLowerRun mw s) :=
  shape_ite (fun _ => h) fun _ => shape_raise _ _ _ (shape_shedRun (shape_modPower (shape_with h)))

theorem shape_allocAckRun {inputMw : Nat} (h : WellShaped s) : WellShaped (allocAckRun inputMw s) := by
  unfold allocAckRun
  dsimp only
  split
  · exact shape_modPower h
  · exact shape_ite (fun _ => shape_modPower h) fun _ => shape_grantAll (shape_modPower (shape_with (shape_modPower h)))

theorem shape_allocHigherRun {mw : Nat} (h : WellShaped s) : WellShaped (allocHigherRun mw s) := by
  unfold allocHigherRun
  exact shape_ite (fun _ => h) fun _ => shape_prismAll (shape_grantAll (shape_raise _ _ _ (shape_modPower (shape_with h))))

theorem shape_piFailRun {mv : Nat} (h : WellShaped s) : WellShaped (piFailRun mv s) :=
  shape_ite (fun _ => h) fun _ => shape_ite (fun _ => shape_modPower h) fun _ => shape_afterReset _ _

theorem shape_piReturnRun {mv powerClass : Nat} (h : WellShaped s) : WellShaped (piReturnRun mv powerClass s) :=
  shape_ite (fun _ => h) fun _ => shape_modPower (shape_with h) fun _ => length_upd ..

theorem shape_enableRail {i : Nat} (h : WellShaped s) : WellShaped (enableRail i s) := shape_modRail _ _ h
theorem shape_disableFrom {i : Nat} (h : WellShaped s) : WellShaped (disableFrom i s) := shape_modPower h fun _ => length_rails_from ..

theorem shape_railUpRun {i : Nat} (h : WellShaped s) : WellShaped (railUpRun i s) := by
  unfold railUpRun
  refine shape_ite (fun _ => h) fun _ => shape_ite (fun _ => shape_modRail _ _ h) fun _ => ?_
  split
  · exact shape_ite (fun _ => shape_enableRail (shape_modRail _ _ h)) fun _ => shape_modRail _ _ h
  · exact shape_enableRail (shape_modRail _ _ h)
  · exact shape_tryRelease (shape_modRail _ _ h)

theorem shape_logRail {i kind : Nat} (h : WellShaped s) : WellShaped (logRail i kind s) := shape_modNvm h
theorem shape_railHalts (h : WellShaped s) : WellShaped (railHalts s) := shape_ite (fun _ => shape_modNvm h) fun _ => shape_enterHalted h

theorem shape_railFailRun {i kind : Nat} (h : WellShaped s) : WellShaped (railFailRun i kind s) := by
  unfold railFailRun
  refine shape_ite (fun _ => h) fun _ => ?_
  extract_lets s1 s2 _ _ s3 _
  have h1 : WellShaped s1 := shape_ite (fun _ => shape_logRail h) fun _ => h
  have h2 : WellShaped s2 := shape_ite (fun _ => shape_modRail _ _ h1) fun _ => h1
  have h3 : WellShaped s3 := shape_disableFrom h2
  split
  · exact shape_ite (fun _ => h2) fun _ => shape_modPower (shape_disableFrom h2)
  · refine shape_ite (fun _ => shape_resetBy _ h2) fun _ => ?_
    exact shape_ite (fun _ => h2) fun _ => shape_ite (fun _ => shape_modMod h3) fun _ => shape_modPower h3
  · exact shape_ite (fun _ => shape_resetBy _ h2) fun _ => shape_railHalts h2

theorem shape_railRetryRun (h : WellShaped s) : WellShaped (railRetryRun s) := by
  unfold railRetryRun
  split
  · exact h
  · refine shape_ite (fun _ => h) fun _ => ?_
    dsimp only
    split
    · exact shape_enableRail (shape_modPower h)
    · exact shape_enableRail (shape_modPower (shape_modPower h))
    · exact shape_modPower h

theorem shape_crystalRun (h : WellShaped s) : WellShaped (crystalRun s) :=
  shape_ite (fun _ => h) fun _ => shape_tryRelease (shape_enableRail (shape_modMod h))

theorem shape_strapRun {mvA mvB : Nat} (h : WellShaped s) : WellShaped (strapRun mvA mvB s) := by
  unfold strapRun
  refine shape_ite (fun _ => h) fun _ => ?_
  split <;> exact shape_tryRelease (shape_modMod (shape_with h))

theorem shape_cutAll (h : WellShaped s) : WellShaped (cutAll s) := by
  unfold cutAll
  refine shape_raise _ _ _ (shape_foldl (fun s x h => ?_) _ (shape_failMirror h))
  exact shape_goOn (shape_cutField (shape_endTone (shape_abortWork h)))

theorem shape_cutFrom {was : Bool} (h : WellShaped s) : WellShaped (cutFrom was s) := shape_ite (fun _ => h) fun _ => shape_cutAll h
theorem shape_cutEnds {was : Bool} (h : WellShaped s) : WellShaped (cutEnds was s) := shape_ite (fun _ => h) fun _ => shape_raise _ _ _ h

theorem shape_intlkRun {widthNs : Option Nat} (h : WellShaped s) : WellShaped (intlkRun widthNs s) := by
  unfold intlkRun
  extract_lets was
  split
  rename_i acts s1 e
  have h1 : WellShaped s1 := by
    refine shape_snd e ?_
    split
    · exact h
    · split
      · exact h
      · split
        · exact shape_drawn h
        · exact h
  exact shape_ite (fun _ => h1) fun _ => shape_cutFrom (shape_with h1)

theorem shape_intlkReleasedRun (h : WellShaped s) : WellShaped (intlkReleasedRun s) := shape_cutEnds (shape_with h)
theorem shape_holdReset (h : WellShaped s) : WellShaped (holdReset s) := shape_modMod h

theorem shape_leaveReset (h : WellShaped s) : WellShaped (leaveReset s) := by
  unfold leaveReset
  refine shape_ite (fun _ => shape_tryRelease (shape_modMod h)) fun _ => ?_
  refine shape_ite (fun _ => shape_enableRail (shape_modMod h)) fun _ => ?_
  exact shape_ite (fun _ => shape_enableRail (shape_modMod h)) fun _ => shape_tryRelease (shape_modMod h)

theorem shape_resetNRun (h : WellShaped s) : WellShaped (resetNRun s) :=
  shape_ite (fun _ => shape_with h) fun _ => shape_holdReset (shape_resetBy _ (shape_with h))

theorem shape_resetNReleasedRun (h : WellShaped s) : WellShaped (resetNReleasedRun s) :=
  shape_ite (fun _ => shape_leaveReset (shape_with h)) fun _ => shape_with h

theorem shape_vauxLowRun {mv : Nat} (h : WellShaped s) : WellShaped (vauxLowRun mv s) := by
  unfold vauxLowRun
  refine shape_ite (fun _ => h) fun _ => ?_
  exact shape_ite (fun _ => shape_leaveReset (shape_cutFrom (shape_with h))) fun _ => shape_cutFrom (shape_with h)

theorem shape_vauxReturnRun {mv : Nat} (h : WellShaped s) : WellShaped (vauxReturnRun mv s) := by
  unfold vauxReturnRun
  refine shape_ite (fun _ => h) fun _ => ?_
  refine shape_ite (fun _ => shape_holdReset (shape_resetBy _ (shape_cutEnds (shape_with h)))) fun _ => ?_
  exact shape_takeWake (shape_cutEnds (shape_with h))

theorem shape_pathRun {readings : List Nat} (h : WellShaped s) : WellShaped (pathRun readings s) := by
  unfold pathRun
  refine shape_ite (fun _ => h) fun _ => ?_
  extract_lets _ _ _ s1 s2 s3 _
  have h1 : WellShaped s1 := shape_modPower h
  have h2 : WellShaped s2 := shape_foldl (fun _ _ h => shape_raise _ _ _ h) _ h1
  have h3 : WellShaped s3 := shape_modPower h2
  refine shape_ite (fun _ => shape_ite (fun _ => shape_enterHalted h3) fun _ => h3) fun _ => ?_
  refine shape_ite (fun _ => shape_modPower h2) fun _ => ?_
  split
  · exact shape_modPower h2
  · exact shape_ite (fun _ => h2) fun _ => shape_modPower h2

theorem shape_bootImageRun {okA okB : Bool} (h : WellShaped s) : WellShaped (bootImageRun okA okB s) := by
  unfold bootImageRun
  refine shape_ite (fun _ => h) fun _ => ?_
  refine shape_ite (fun _ => shape_startImage h) fun _ => shape_ite (fun _ => ?_) fun _ => ?_
  · exact shape_startImage (shape_modMod (shape_modImage (shape_activateImage (shape_raise _ _ _ h))))
  · exact shape_modMod h

theorem shape_takeRoot {root : Bytes} {margin : Nat} (h : WellShaped s) : WellShaped (takeRoot root margin s) := shape_modMod (shape_with h)

theorem shape_rootRun {reading : Bytes} {margin : Nat} (h : WellShaped s) : WellShaped (rootRun reading margin s) := by
  unfold rootRun
  refine shape_ite (fun _ => h) fun _ => ?_
  refine shape_ite (fun _ => shape_takeRoot h) fun _ => shape_ite (fun _ => h) fun _ => ?_
  refine shape_ite (fun _ => shape_takeRoot h) fun _ => shape_ite (fun _ => shape_with h) fun _ => ?_
  dsimp only
  split
  · exact shape_finishSwap (shape_with h)
  · exact shape_uncoveredFault (shape_retire (shape_with h))

theorem shape_storeRun {torn : Option Nat} (h : WellShaped s) : WellShaped (storeRun torn s) := shape_tryService (shape_recoverRun h)
theorem shape_calClasses {cal : CalInput} (h : WellShaped s) : WellShaped (calClasses cal s) := shape_foldl (fun _ _ h => shape_modRadio _ _ h) _ h

theorem shape_calConfig (h : WellShaped s) : WellShaped (calConfig s) := by
  unfold calConfig
  extract_lets _ _ s1 s2 s3 s4
  have h1 : WellShaped s1 := by
    unfold s1
    split
    · exact shape_modMod h
    · split
      · exact shape_modMod h
      · exact shape_modMod (shape_with h)
  have h3 : WellShaped s3 := shape_modPower (shape_setVpa h1) fun _ => length_rails_from ..
  have h4 : WellShaped s4 := shape_requestPower h3
  exact shape_ite (fun _ => h4) fun _ => shape_takeLinkCfg h4

theorem shape_calSlice {skip : Bool} {p : Nat} (h : WellShaped s) : WellShaped (calSlice skip p s) := by
  unfold calSlice
  refine shape_modRadio _ _ ?_
  split
  · exact shape_setTn (shape_drawn (shape_adaptSet (shape_adaptSet (shape_modSlice _ _ h))))
  · exact shape_adaptSet (shape_adaptSet (shape_modSlice _ _ h))

theorem shape_calTune {skip : Bool} {p : Nat} (h : WellShaped s) : WellShaped (calTune skip p s) :=
  shape_ite (fun _ => h) fun _ => shape_ite (fun _ => shape_modRadio _ _ h) fun _ => shape_tuneOne h

theorem shape_calDpd {cal : CalInput} {skip : Bool} {p : Nat} (h : WellShaped s) : WellShaped (calDpd cal skip p s) := by
  unfold calDpd
  exact shape_ite (fun _ => h) fun _ => shape_ite (fun _ => shape_modRadio _ _ h) fun _ => shape_drawn (shape_modSlice _ _ h)

theorem shape_calNoise {cal : CalInput} {p : Nat} (h : WellShaped s) : WellShaped (calNoise cal p s) := by
  unfold calNoise
  dsimp only
  split
  · exact h
  · exact shape_modRx h

theorem shape_calLens {cal : CalInput} {skip : Bool} {p : Nat} (h : WellShaped s) : WellShaped (calLens cal skip p s) := by
  unfold calLens
  refine shape_ite (fun _ => h) fun _ => ?_
  split <;> exact shape_modLens h

theorem shape_calRun {cal : CalInput} (h : WellShaped s) : WellShaped (calRun cal s) := by
  unfold calRun
  refine shape_ite (fun _ => h) fun _ => shape_tryService (shape_noteSkipped (shape_selectAll (shape_modMod ?_)))
  refine shape_foldl (fun s x h => ?_) _ (shape_foldl (fun _ _ h => shape_calNoise h) _ (shape_foldl (fun _ _ h => shape_prismCal h) _ (shape_foldl
    (fun _ _ h => shape_calDpd h) _ (shape_ite (fun _ => shape_foldl (fun _ _ h => shape_calTune h) _ (shape_foldl (fun _ _ h => shape_calSlice h) _
    (shape_calConfig (shape_calClasses h)))) fun _ => shape_trainFilters (shape_with (shape_foldl (fun _ _ h => shape_calTune h) _ (shape_foldl (fun
    _ _ h => shape_calSlice h) _ (shape_calConfig (shape_calClasses h)))))))))
  exact shape_calLens h

/-! ### The operations of Machine/RadioEvents -/

theorem shape_faultAgain {inst : Nat} {mark : Slice → Option Nat} {u v : State} (h : WellShaped v) : WellShaped (faultAgain inst mark u v) := by
  unfold faultAgain
  split
  · exact shape_ite (fun _ => shape_emergencyRun (shape_drawn h)) fun _ => h
  · exact h

/-! ### The step -/

/-- What a command leads to keeps the shape where the state it is worked out as does. -/
theorem shape_of_next {u t : State} (e : (.next u : Host.Outcome State Fault Refusal) = .next t) (h : WellShaped u) : WellShaped t := by
  cases e; exact h

/-- Beyond the absolute maximum there is no next state. -/
theorem shape_execPiVoltageFail {n mv : Nat} {t : State} (h : WellShaped s) (e : execPiVoltageFail n mv s = .next t) : WellShaped t := by
  unfold execPiVoltageFail at e
  split at e
  · cases e
  · exact shape_of_next e (shape_piFailRun (shape_advance _ h))

/-- Every command keeps the shape: those of the host in their rings, and each event by its own work. -/
theorem shape_exec {i : Instr} {t : State} (h : WellShaped s) (e : exec i s = .next t) : WellShaped t := by
  have ha : ∀ n, WellShaped (advance n s) := fun n => shape_advance n h
  cases i with
  | nop | moduleInfo | moduleState | attrGet | attrSet | configCommit | configDiscard | configSave | dozeEnter | queueStatus | moduleReset
  | timeRead | schedule | portFlush | fwBegin | fwData | fwVerify | fwActivate | fwStatus | fwRollback | fieldOn | fieldOff | autotune
  | calibrateRadio | measureNoise | mirrorTrain | isoRawFrame | isoAAnticoll | isoAActivate | isoAHalt | isoARats | isoPps | isoBRequest
  | isoBAnticoll | isoBAttrib | isoBHalt | isoApdu | isoDeselect | isoForget | isoVInventory | isoVCommand | isoVSelect | isoVQuiet
  | isoVResetReady | hyRawFrame | hyActivate | hyRead | hyWrite | hySealedWrite | hyPageStatus | hyChallenge | hyHalt | hyRelease | hyResync
  | hyForget | hyTreeSearch | hySetMap | harvestStart | harvestStop | harvestClear | harvestReadTable | prismCalibrate | prismVector
  | lensBaseline | lensMeasure | planLoad | planActivate | clusterStatus | calTone | calListen | dedupImport | caskInfo | caskImport
  | caskGenerate | caskDerive | caskDestroy | caskEncrypt | caskDecrypt | caskWrap | attest | lifecycleSet | debugOpenSet | credWrite
  | credVerify | caskList | selfTest | captureArm | captureRead | triggerArm | swapRequest | spareStatus | wearRead | eventLogRead
  | countersClear =>
    exact shape_of_next e (shape_hostCmd (ha _))
  | dozeEntered => exact shape_of_next e (shape_dozeEnteredRun (ha _))
  | moduleResetExecute => exact shape_of_next e (shape_resetExecuteRun (ha _))
  | scheduledActionDue => exact shape_of_next e (shape_scheduledRun (ha _))
  | fwPortsHeld => exact shape_of_next e (shape_portsHeldRun (ha _))
  | fwHoldTimeout => exact shape_of_next e (shape_holdTimeoutRun (ha _))
  | mirrorTrainingStart => exact shape_of_next e (shape_noteSkipped (shape_trainingRun (ha _)))
  | planTakesForce => exact shape_of_next e (shape_planForceRun (ha _))
  | calToneEnd => exact shape_of_next e (shape_calToneEndRun (ha _))
  | calListenEnd => exact shape_of_next e (shape_calListenEndRun (ha _))
  | lifeCycleChangeComplete => exact shape_of_next e (shape_changeDone (ha _))
  | cellarResultPlaced => exact shape_of_next e (shape_placeRun (ha _))
  | captureBufferFull => exact shape_of_next e (shape_captureFullRun (ha _))
  | hostDataFrame => exact shape_of_next e (shape_hostFrameRun (ha _))
  | hello => exact shape_of_next e (shape_recordRun (ha _))
  | ack => exact shape_of_next e (shape_recordRun (ha _))
  | nak => exact shape_of_next e (shape_recordRun (ha _))
  | credit => exact shape_of_next e (shape_recordRun (ha _))
  | announceReceived => exact shape_of_next e (shape_announceHeard (ha _))
  | announceTimer => exact shape_of_next e (shape_announceRun (ha _))
  | ackDelayExpiry => exact shape_of_next e (shape_ackDelayRun (ha _))
  | nakRepeatExpiry => exact shape_of_next e (shape_nakRepeatRun (ha _))
  | retxTimeout => exact shape_of_next e (shape_retxRun (ha _))
  | staleTimer => exact shape_of_next e (shape_staleRun (ha _))
  | linkTransmit => exact shape_of_next e (shape_transmitRun (ha _))
  | itemPop => exact shape_of_next e (shape_itemPopRun (ha _))
  | resultPush => exact shape_of_next e (shape_resultPushRun (ha _))
  | hostTimeout => exact shape_of_next e (shape_hostTimeoutRun (ha _))
  | linkUp => exact shape_of_next e (shape_linkUpRun (ha _))
  | linkTrainingFail => exact shape_of_next e (shape_trainingFailRun (ha _))
  | powerAllocLower => exact shape_of_next e (shape_allocLowerRun (ha _))
  | powerAllocAck => exact shape_of_next e (shape_allocAckRun (ha _))
  | powerAllocHigher => exact shape_of_next e (shape_noteSkipped (shape_allocHigherRun (ha _)))
  | piVoltageFail t mv => exact shape_execPiVoltageFail h e
  | piVoltageReturn => exact shape_of_next e (shape_piReturnRun (ha _))
  | railInRegulation => exact shape_of_next e (shape_railUpRun (ha _))
  | railViolation => exact shape_of_next e (shape_railFailRun (ha _))
  | railRetryTimer => exact shape_of_next e (shape_railRetryRun (ha _))
  | strapRead => exact shape_of_next e (shape_strapRun (ha _))
  | resetNAsserted => exact shape_of_next e (shape_resetNRun (ha _))
  | resetNReleased => exact shape_of_next e (shape_resetNReleasedRun (ha _))
  | bootImageVerified => exact shape_of_next e (shape_bootImageRun (ha _))
  | rootReconstructed => exact shape_of_next e (shape_rootRun (ha _))
  | caskStoreRecovery => exact shape_of_next e (shape_storeRun (ha _))
  | calComplete => exact shape_of_next e (shape_calRun (ha _))
  | intlkNAsserted => exact shape_of_next e (shape_intlkRun (ha _))
  | intlkNReleased => exact shape_of_next e (shape_intlkReleasedRun (ha _))
  | vauxLow => exact shape_of_next e (shape_vauxLowRun (ha _))
  | wakeNAsserted => exact shape_of_next e (shape_wakeRun (ha _))
  | pathMonitorMeasurement => exact shape_of_next e (shape_pathRun (ha _))
  | timerFire => exact shape_of_next e (shape_noteSkipped (shape_timerFireRun (ha _)))
  | txUnderrun => exact shape_of_next e (shape_underrunRun (ha _))
  | rxOverrun => exact shape_of_next e (shape_overrunRun (ha _))
  | sliceTransitionComplete => exact shape_of_next e (shape_noteSkipped (shape_sliceRun (ha _)))
  | synthLocked => exact shape_of_next e (shape_noteSkipped (shape_lockRun (ha _)))
  | synthLockTimeout => exact shape_of_next e (shape_faultAgain (shape_lockTimeoutRun (ha _)))
  | synthLockLost => exact shape_of_next e (shape_faultAgain (shape_lockLostRun (ha _)))
  | rampUpComplete => exact shape_of_next e (shape_noteSkipped (shape_rampUpRun (ha _)))
  | guardTimeExpiry => exact shape_of_next e (shape_guardOver (ha _))
  | rampDownComplete => exact shape_of_next e (shape_noteSkipped (shape_rampDownRun (ha _)))
  | fieldOffMinExpiry => exact shape_of_next e (shape_noteSkipped (shape_offMinRun (ha _)))
  | pressGrant => exact shape_of_next e (shape_noteSkipped (shape_grantRun (ha _)))
  | pressTimeout => exact shape_of_next e (shape_pressTimeoutRun (ha _))
  | dutyLimitReached => exact shape_of_next e (shape_dutyRun (ha _))
  | portMismatch => exact shape_of_next e (shape_mismatchRun (ha _))
  | paLoopFailure => exact shape_of_next e (shape_paLoopRun (ha _))
  | powerLoopMeasurement => exact shape_of_next e (shape_loopRun (ha _))
  | aerialIdSense => exact shape_of_next e (shape_idSenseRun (ha _))
  | transactionBoundary => exact shape_of_next e (shape_noteSkipped (shape_boundaryRun (ha _)))
  | dpdLearning => exact shape_of_next e (shape_noteSkipped (shape_dpdRun (ha _)))
  | syncDetected => exact shape_of_next e (shape_syncRun (ha _))
  | headerVerdict => exact shape_of_next e (shape_headerRun (ha _))
  | isoSofDetected => exact shape_of_next e (shape_sofRun (ha _))
  | fastAgcBlock => exact shape_of_next e (shape_agcRun (ha _))
  | frameVerdict => exact shape_of_next e (shape_verdictRun (ha _))
  | receiveWindowClose => exact shape_of_next e (shape_windowCloseRun (ha _))
  | busyWaitExpiry => exact shape_of_next e (shape_busyRun (ha _))
  | noiseMeasurement => exact shape_of_next e (shape_noiseRun (ha _))
  | harvestGridTick => exact shape_of_next e (shape_gridRun (ha _))
  | tableAgeExpiry => exact shape_of_next e (shape_ageRun (ha _))
  | lensPulse => exact shape_of_next e (shape_noteSkipped (shape_lensPulseRun (ha _)))
  | lensConfirm => exact shape_of_next e (shape_noteSkipped (shape_lensConfirmRun (ha _)))
  | z8FieldDetected => exact shape_of_next e (shape_z8DetectedRun (ha _))
  | z8FieldGone => exact shape_of_next e (shape_z8GoneRun (ha _))
  | trellisFrameStart => exact shape_of_next e (shape_frameStartRun (ha _))
  | timeLockChange => exact shape_of_next e (shape_lockChangeRun (ha _))
  | syncInEdge => exact shape_of_next e (shape_edgeRun (ha _))
  | syncInLoss => exact shape_of_next e (shape_syncLossRun (ha _))
  | holdoverExpiry => exact shape_of_next e (shape_holdoverRun (ha _))
  | wearMonitorTrip => exact shape_of_next e (shape_wearTripRun (ha _))
  | swapPrepared => exact shape_of_next e (shape_swapPreparedRun (ha _))
  | plannedSwap => exact shape_of_next e (shape_plannedSwapRun (ha _))
  | swapDeferExpiry => exact shape_of_next e (shape_swapDeferRun (ha _))
  | emergencySwap => exact shape_of_next e (shape_emergencyRun (ha _))
  | dailySelfTest => exact shape_of_next e (shape_dailyRun (ha _))
  | evLost => exact shape_of_next e (shape_evLostRun (ha _))
  | linkDown => exact shape_of_next e (shape_linkDownRun (ha _))
  | vauxReturn => exact shape_of_next e (shape_vauxReturnRun (ha _))
  | crystalStable => exact shape_of_next e (shape_crystalRun (ha _))
  | fwActivationRetry => exact shape_of_next e (shape_activationRetryRun (ha _))
  | echoRequest => exact shape_of_next e (shape_echoRun (ha _))
  | neighborDiscovery => exact shape_of_next e (shape_neighborRun (ha _))
  | ieee1588Message => exact shape_of_next e (shape_ite (fun _ => ha _) fun _ => shape_ptpRun (ha _))
  | syncInterval => exact shape_of_next e (shape_ite (fun _ => ha _) fun _ => shape_syncIntervalRun (ha _))

/-- Settles O59: the front command of the queue keeps the shape, and so does idling. -/
theorem everyStepKeepsTheShape : Obligations.EveryStepKeepsTheShape := by
  unfold Obligations.EveryStepKeepsTheShape
  intro s t h e
  unfold step at e
  split at e
  · exact shape_of_next e h
  · exact shape_exec (shape_with h) e

/-- Settles O60: the lists of the reset state are made with these lengths, and its log is empty. -/
theorem resetIsWellShaped : Obligations.ResetIsWellShaped :=
  ⟨List.length_replicate, List.length_replicate, List.length_replicate, List.length_replicate, List.length_replicate,
    rfl, Nat.zero_le _⟩

end Sys2Proof.Machine
end


section
/-!
SUPPORT. What the aerial sense, AUTOTUNE, CALIBRATE_RADIO, the learning of the pre-distorter and the transaction boundary do in the states O18 speaks of.
-/

namespace Sys2Proof.Machine

set_option Elab.async false

variable {s : State}

/-! ### Aerial classes (Table 2-6) -/

theorem classOf_iff (ohm : Nat) :
    (classOf ohm = 0 ↔ ohm < 1000) ∧ (classOf ohm = 1 ↔ 9000 ≤ ohm ∧ ohm ≤ 11000) ∧ (classOf ohm = 2 ↔ 18000 ≤ ohm ∧ ohm ≤ 22000)
      ∧ (classOf ohm = 3 ↔ 42000 ≤ ohm ∧ ohm ≤ 52000) ∧ (classOf ohm = 4 ↔ 90000 ≤ ohm ∧ ohm ≤ 110000) ∧ (classOf ohm = 7 ↔ 200000 < ohm) := by
  simp only [classOf, Bool.and_eq_true, decide_eq_true_eq]
  split
  · omega
  · split
    · omega
    · split
      · omega
      · split
        · omega
        · split
          · omega
          · split <;> omega

/-- In SERVICE the ID sense takes every port. -/
theorem idSenseRun_service {ohms : List Nat} (h : s.mod.st = .service) :
    idSenseRun ohms s = ((List.range 64).zip ohms).foldl (fun s e => aerialOne e.1 e.2 s) s := by simp [idSenseRun, h]

/-- In BOOT it takes none. -/
theorem idSenseRun_boot {ohms : List Nat} (h : s.mod.st = .boot) : idSenseRun ohms s = s := by simp [idSenseRun, h]

/-! ### AUTOTUNE (R59, R71, R106) -/

theorem autotuneRun_not_owned {h : Hdr} {p : Nat} (ht : pAttr s A.tnAutotune p = 0) :
    autotuneRun h p s = fail h 0x22 E.resourceNotOwned { port := p } s := by simp [autotuneRun, ht]

/-- The cut bars the probes of a port whose field is off (R83). -/
theorem probeBar_interlock {p : Nat} (hf : (port s p).radio.phase = .off) (hi : interlocked s = true) :
    probeBar s p = some (E.interlock, { port := p }) := by simp [probeBar, hf, hi]

/-- Where neither the cut nor the reserve bars them, the probes run. -/
theorem probeBar_none {p : Nat} (hi : ¬ ((port s p).radio.phase = .off ∧ interlocked s = true)) (hr : reserveWithheld s = false) :
    probeBar s p = none := by simp [probeBar, hi, hr]

theorem autotuneRun_barred {h : Hdr} {p code : Nat} {d : Detail} (ht : pAttr s A.tnAutotune p ≠ 0) (hb : probeBar s p = some (code, d)) :
    autotuneRun h p s = respond h 0x22 code (d.bytes p) (settle p s) := by simp [autotuneRun, autotuneWork, ht, hb]

theorem autotuneRun_waits {h : Hdr} {p : Nat} (ht : pAttr s A.tnAutotune p ≠ 0) (hb : probeBar s p = none) (hn : notReady s p = true) :
    autotuneRun h p s = pendTask h 0x22 p s := by simp [autotuneRun, ht, hb, hn]

theorem autotuneRun_runs {h : Hdr} {p : Nat} (ht : pAttr s A.tnAutotune p ≠ 0) (hb : probeBar s p = none) (hn : notReady s p = false) :
    autotuneRun h p s = (let v := (tuneNow p s).2
      if (tuneNow p s).1 then ok h 0x22 (tuneBody v p) (settle p v)
      else respond h 0x22 E.tuneRange (({ port := p } : Detail).bytes p) (settle p v)) := by
  cases hf : (tuneNow p s).1 <;> simp [autotuneRun, autotuneWork, ht, hb, hn, hf, ok]

/-! ### CALIBRATE_RADIO and the pre-distorter (R59, R98) -/

theorem calibrateRun_not_owned {h : Hdr} {p mask : Nat} (hm : bit mask 3 = true) (ht : pAttr s A.tnAutotune p = 0) :
    calibrateRun h p mask s = fail h 0x23 E.resourceNotOwned { port := p } s := by simp [calibrateRun, hm, ht]

theorem calibrateRun_begins {h : Hdr} {p mask : Nat} (hm : ¬ (bit mask 3 = true ∧ pAttr s A.tnAutotune p = 0)) :
    calibrateRun h p mask s = calNext p (modPort p (fun x => { x with task := some { hdr := h, op := 0x23, proc := .calibrate mask 0 } }) s) := by
  simp [calibrateRun, hm]

/-- What a change of a port leaves as it was reads as before. -/
theorem port_modPort_keeps {α : Type} (g : Port → α) {f : Port → Port} (hf : ∀ x, g (f x) = g x) (p q : Nat) (s : State) :
    g (port (modPort q f s) p) = g (port s p) := by
  simp only [port, modPort, nth, upd, List.getElem?_modify]
  cases s.ports[p]? with
  | none => rfl
  | some x =>
    show g (if q = p then f x else x) = g x
    split
    · exact hf x
    · rfl

@[simp] theorem task_modRadio (p q : Nat) (f : Radio → Radio) (s : State) : (port (modRadio q f s) p).task = (port s p).task :=
  port_modPort_keeps (·.task) (f := fun x => { x with radio := f x.radio }) (fun _ => rfl) ..

@[simp] theorem task_modAir (p q : Nat) (f : Air → Air) (s : State) : (port (modAir q f s) p).task = (port s p).task :=
  port_modPort_keeps (·.task) (f := fun x => { x with air := f x.air }) (fun _ => rfl) ..

@[simp] theorem port_modSlice (p q : Nat) (f : Slice → Slice) (s : State) : port (modSlice q f s) p = port s p := rfl

/-- No command runs at a boundary. -/
theorem task_of_atBoundary {p : Nat} (h : atBoundary s p = true) : (port s p).task = none := by
  simp only [atBoundary, Bool.and_eq_true, Option.isNone_iff_eq_none] at h
  exact h.1.1.1.1

/-- With no command there is no step of a calibration to end. -/
theorem calStepDone_none {p b evm : Nat} (h : (port s p).task = none) : calStepDone p b evm s = s := by simp [calStepDone, h]

/-- A learning that is due at the boundary of a port with the field on takes the tables it finds, and its bursts end the plain carrier. -/
theorem dpdRun_learns {p evm : Nat} {amp phase taps : List Int} (hl : leadIn s s.cfg.running p = none) (hd : (port s p).radio.dpdDue = true)
    (hf : (port s p).radio.phase = .on) (hb : atBoundary s p = true) :
    dpdRun p amp phase taps evm s = modRadio p (fun r => { r with dpdDue := false }) (modSlice p (fun y => { y with
      dpdAmp := amp, dpdPhase := phase, dpdTaps := taps, dpdPower := some (port s p).radio.power, evm := evm, learnEvm := evm, evmRun := 0 })
      (modAir p (fun a => { a with idleSince := s.now }) s)) := by
  simp only [dpdRun, hl, Option.getD_none, hd, hf, hb, Bool.not_true, bne_self_eq_false, Bool.true_or, Bool.or_self, Bool.false_eq_true, if_false]
  exact calStepDone_none (by simp [task_of_atBoundary hb])

/-! ### The transaction boundary (R58, R107) -/

theorem boundaryRun_crosses {p : Nat} {phase : Int} (hd : s.mod.st ≠ .doze) (hb : atBoundary s p = true) :
    boundaryRun p phase s = resumePort p (crossBoundary p (prismTrack p (track p phase s))) := by simp [boundaryRun, hd, hb]

theorem boundaryRun_goes_on {p : Nat} {phase : Int} (hd : s.mod.st ≠ .doze) (hb : atBoundary s p = false) :
    boundaryRun p phase s = resumePort p s := by simp [boundaryRun, hd, hb]

/-- Settles O18: a command whose turn comes does its work, and the rest are rows of the environment. -/
theorem aerialsTuningAndBoundaries : Obligations.AerialsTuningAndBoundaries := by
  unfold Obligations.AerialsTuningAndBoundaries
  refine ⟨⟨fun t ohms s => ⟨fun h => congrArg Host.Outcome.next (idSenseRun_service h), fun h => congrArg Host.Outcome.next (idSenseRun_boot h)⟩,
    classOf_iff⟩, fun t h s => ⟨?_, ?_, ?_⟩, fun t p phase s hd => ⟨fun hb => ?_, fun hb => ?_⟩⟩
  · intro ht u v
    have hrun : exec (.autotune t h) s = .next (noteSkipped (autotuneRun h h.q u)) := congrArg Host.Outcome.next (hostCmd_works rfl ht)
    refine ⟨fun hn => ?_, fun hn hf hi => ?_, fun hn hb hw => ?_, fun hn hw hi hr => ?_⟩
    · rw [hrun, autotuneRun_not_owned hn]
    · rw [hrun, autotuneRun_barred hn (probeBar_interlock hf hi)]
    · rw [hrun, autotuneRun_waits hn hb hw]
      rfl
    · rw [hrun, autotuneRun_runs hn (probeBar_none hi hr) hw]
  · intro mask ht u
    have hrun : exec (.calibrateRadio t h mask) s = .next (noteSkipped (calibrateRun h h.q mask u)) :=
      congrArg Host.Outcome.next (hostCmd_works rfl ht)
    refine ⟨fun hm => ?_, fun hm hn => ?_⟩
    · rw [hrun, calibrateRun_begins hm]
    · rw [hrun, calibrateRun_not_owned hm hn]
  · intro p amp phase taps evm hl hd hf hb learnt
    exact congrArg (fun v => Host.Outcome.next (noteSkipped v)) (dpdRun_learns (s := advance t s) hl hd hf hb)
  · exact congrArg (fun v => Host.Outcome.next (noteSkipped v)) (boundaryRun_crosses (s := advance t s) hd hb)
  · exact congrArg (fun v => Host.Outcome.next (noteSkipped v)) (boundaryRun_goes_on (s := advance t s) hd hb)

end Sys2Proof.Machine

end


section
/-!
SUPPORT. What a firing timer releases, and what an underrun or overrun of an elastic buffer does.
-/

namespace Sys2Proof.Machine

set_option Elab.async false

variable {s : State}

/-! ### The timing bank (R38, R39) -/

/-- A timer that is not due releases nothing. -/
theorem fireOne_not_due {n : Nat} (h : timerDue s n = false) : fireOne n s = s := by simp [fireOne, h]

/-- A timer of the pool releases nothing. -/
theorem fireOne_pool {n : Nat} (h : 192 ≤ n) : fireOne n s = s := by simp [fireOne, Nat.not_lt.mpr h]

theorem timerFireRun_pool {n : Nat} (h : 192 ≤ n) : timerFireRun n s = s := by
  have hn : ¬ n < 192 := Nat.not_lt.mpr h
  simp [timerFireRun, hn, fireOne_pool h]

theorem timerFireRun_not_due {n : Nat} (hn : n % 3 ≠ 0) (h : timerDue s n = false) : timerFireRun n s = s := by
  simp [timerFireRun, hn, h]

/-- T_B that is due, with the other timers of its port not armed, releases its own action alone. -/
theorem timerFireRun_tB {p : Nat} (hp : p < 64) (h : timerDue s (tB p) = true) (ha : (timer s (tA p)).armed = false)
    (hc : (timer s (tC p)).armed = false) :
    timerFireRun (tB p) s = fireB p (timer s (tB p)).action (timer s (tB p)).fire (disarm (tB p) s) := by
  have hlt : 3 * p + 1 < 192 := by omega
  have hmod : (3 * p + 1) % 3 = 1 := by omega
  have hdiv : (3 * p + 1) / 3 = p := by omega
  simp only [tA, tB, tC] at h ha hc ⊢
  have hrange : (List.range 3).map (fun k => p * 3 + k) = [3 * p, 3 * p + 1, 3 * p + 2] := by
    simp [List.range_succ, Nat.mul_comm]
  simp [timerFireRun, fireOne, h, hlt, hmod, hdiv, hrange, ha, hc]

/-! ### The elastic buffers (R43 to R45) -/

theorem noteSignal_now (p handle mode : Nat) (x : Int) (xs : List Int) (s : State) : (noteSignal p handle mode x xs s).now = s.now := by
  unfold noteSignal
  split <;> rfl

theorem noteLevel_now (p handle : Nat) (accepted : Bool) (w : Window) (k : Held) (m : RxMeas) (s : State) :
    (noteLevel p handle accepted w k m s).now = s.now := by
  unfold noteLevel
  split
  · rfl
  · split <;> rfl

theorem noteFrame_now (p : Nat) (w : Window) (k : Held) (m : RxMeas) (s : State) : (noteFrame p w k m s).now = s.now := noteSignal_now ..

/-- Losing a frame takes no time. -/
theorem loseFrame_now (p code : Nat) (w : Window) (k : Held) (x : Option Int) (s : State) : (loseFrame p code w k x s).2.now = s.now := by
  unfold loseFrame
  dsimp only
  split
  · exact noteFrame_now ..
  · exact (noteLevel_now ..).trans (noteFrame_now ..)

/-- An underrun during a frame fails the command that runs. -/
theorem underrunRun_running {p : Nat} (hx : (port s p).air.txEnd.isSome = true) (ht : (port s p).task.isSome = true) :
    underrunRun p s = goOn p (stepFail p E.txUnderrun { port := p } (countEngine p s)) := by
  obtain ⟨e, he⟩ := Option.isSome_iff_exists.mp hx
  have ht' : (port (countEngine p s) p).task.isSome = true := ht
  simp only [underrunRun, he, ht', if_true]

/-- An overrun while a frame is held in an open window drops the frame, and the window stays open. -/
theorem overrunRun_held {p : Nat} {w : Window} {k : Held} (hw : (port s p).air.win = some w) (hk : w.held = some k) (hc : s.now < w.closeAt) :
    overrunRun p s = (let r := loseFrame p E.rxOverrun w k none (countEngine p s)
      endQuiet p (modAir p (fun a => { a with win := some { w with held := none, bad := some r.1 } }) r.2)) := by
  have hn : ¬ (loseFrame p E.rxOverrun w k none (countEngine p s)).2.now ≥ w.closeAt := by
    rw [loseFrame_now]
    exact Nat.not_le.mpr hc
  simp only [overrunRun, hw, hk, hn, if_false]

/-- Settles O20: what T_B releases by `timerFireRun_tB`; the buffers' rows by their conditions. -/
theorem timersAndElasticBuffers : Obligations.TimersAndElasticBuffers := by
  unfold Obligations.TimersAndElasticBuffers
  refine ⟨fun t s => ⟨?_, ?_⟩, fun t p s => ⟨?_, ?_⟩⟩
  · intro p n hn harm hfire hact ha hc
    have hdue : timerDue (advance t s) (tB p) = true := by
      rw [← hn]
      exact Bool.and_eq_true_iff.mpr ⟨harm, decide_eq_true hfire⟩
    have hrun := timerFireRun_tB p.isLt hdue ha hc
    rw [← hn, show (timer (advance t s) n).action = 0x03 from hact] at hrun
    exact congrArg (fun v => Host.Outcome.next (noteSkipped v)) hrun
  · rintro n (hn | ⟨hn, hfire⟩)
    · exact congrArg (fun v => Host.Outcome.next (noteSkipped v)) (timerFireRun_pool hn)
    · have hdue : timerDue (advance t s) n = false := Bool.and_eq_false_imp.mpr fun _ => decide_eq_false (Nat.not_le.mpr hfire)
      exact congrArg (fun v => Host.Outcome.next (noteSkipped v)) (timerFireRun_not_due hn hdue)
  · exact fun hx ht => congrArg Host.Outcome.next (underrunRun_running hx ht)
  · exact fun w k hw hk hc => congrArg Host.Outcome.next (overrunRun_held hw hk hc)

end Sys2Proof.Machine

end


section
/-!
SUPPORT. The interlock pin, VAUX, and the loop that sets VCORE from the path monitors.
-/

namespace Sys2Proof.Machine

set_option Elab.async false

variable {s : State}

/-! ### The interlock (R83, R84, R572) -/

/-- Where nothing cut the fields before, a cut takes them all. -/
theorem cutFrom_first (hp : s.mod.st ≠ .powerUp) : cutFrom false s = cutAll s := by simp [cutFrom, hp]

/-- The end of a cut is told, and nothing else happens. -/
theorem cutEnds_clear (hi : interlocked s = false) (hp : s.mod.st ≠ .powerUp) : cutEnds true s = raise Ev.interlock 0xFF [0, 0] s := by
  simp [cutEnds, hi, hp]

/-- INTLK_N that stays asserted, or a pulse of 1 µs or longer, acts. -/
theorem intlkRun_acts {width : Option Nat} (hw : ∀ w, width = some w → 1000 ≤ w) :
    intlkRun width s = cutFrom (interlocked s) { s with pins := { s.pins with intlk := true, intlkActs := true } } := by
  cases width with
  | none => simp [intlkRun]
  | some w =>
    have h : 1000 ≤ w := hw w rfl
    simp [intlkRun, show ¬ w < 200 by omega, show ¬ w < 1000 by omega]

/-- A pulse of less than 200 ns does not act. -/
theorem intlkRun_short {w : Nat} (hw : w < 200) : intlkRun (some w) s = s := by simp [intlkRun, hw]

/-- Outside DOZE nothing wakes. -/
theorem takeWake_awake (h : s.mod.st ≠ .doze) : takeWake s = s := by simp [takeWake, h]

/-! ### The path monitors (R31 to R33) -/

/-- The monitors above 810 ns, which count at 0.85 V alone (R33). -/
def highPaths (xs : List Nat) (s : State) : List Nat :=
  (List.range 8).filter fun k => s.power.vcoreMv = 850 ∧ 810 < nth xs k 0

/-- The readings are kept, and each monitor that crosses 810 ns is reported. -/
def pathsTold (xs : List Nat) (s : State) : State :=
  ((highPaths xs s).filter fun k => !bit s.power.above810 k).foldl
    (fun s k => raise Ev.vcoreCeiling 0xFF (le 2 (nth xs k 0) ++ [b8 k, 0]) s)
    { s with power := { s.power with paths := xs, above810 := maskOf (highPaths xs s) } }

/-- No monitor reads more than the slowest. -/
theorem nth_le_slowest (xs : List Nat) (k : Nat) : nth xs k 0 ≤ (slowest xs).1 := by
  have bound : ∀ (l : List (Nat × Nat)) (b : Nat × Nat),
      b.1 ≤ (l.foldl (fun b e => if e.1 > b.1 then e else b) b).1 ∧ ∀ e ∈ l, e.1 ≤ (l.foldl (fun b e => if e.1 > b.1 then e else b) b).1 := by
    intro l
    induction l with
    | nil => simp
    | cons x l ih =>
      intro b
      obtain ⟨h1, h2⟩ := ih (if x.1 > b.1 then x else b)
      have h3 : b.1 ≤ (if x.1 > b.1 then x else b).1 ∧ x.1 ≤ (if x.1 > b.1 then x else b).1 := by split <;> omega
      rw [List.foldl_cons]
      exact ⟨Nat.le_trans h3.1 h1, List.forall_mem_cons.mpr ⟨Nat.le_trans h3.2 h1, h2⟩⟩
  unfold nth
  cases h : xs[k]? with
  | none => exact Nat.zero_le _
  | some x => exact (bound xs.zipIdx (0, 0)).2 (x, k) (by simpa [List.mem_zipIdx_iff_getElem?] using h)

/-- At another voltage than 0.85 V no reading counts as high, and none of 810 ns or less does at any. -/
theorem highPaths_none {xs : List Nat} (h : s.power.vcoreMv ≠ 850 ∨ (slowest xs).1 ≤ 810) : highPaths xs s = [] := by
  refine List.filter_eq_nil_iff.mpr fun k _ => ?_
  have := nth_le_slowest xs k
  simp only [decide_eq_true_eq]
  omega

/-- Where no monitor has newly crossed, nothing is reported. -/
theorem pathsTold_quiet {xs : List Nat} (h : ∀ k ∈ highPaths xs s, bit s.power.above810 k = true) :
    pathsTold xs s = { s with power := { s.power with paths := xs, above810 := maskOf (highPaths xs s) } } := by
  have : ((highPaths xs s).filter fun k => !bit s.power.above810 k) = [] := by simpa [List.filter_eq_nil_iff] using h
  simp only [pathsTold, this, List.foldl_nil]

theorem pathsTold_none {xs : List Nat} (h : s.power.vcoreMv ≠ 850 ∨ (slowest xs).1 ≤ 810) :
    pathsTold xs s = { s with power := { s.power with paths := xs, above810 := 0 } } := by
  rw [pathsTold_quiet (by simp [highPaths_none h]), highPaths_none h]
  rfl

/-- A fold of operations that only send only sends. -/
theorem onlySent_foldl {α : Type} {f : State → α → State} (hf : ∀ s x, OnlySent s (f s x)) (xs : List α) (s : State) :
    OnlySent s (xs.foldl f s) := by
  induction xs generalizing s with
  | nil => exact OnlySent.refl s
  | cons x xs ih => exact (hf s x).trans (ih (f s x))

theorem onlySent_pathsTold (xs : List Nat) (s : State) :
    OnlySent { s with power := { s.power with paths := xs, above810 := maskOf (highPaths xs s) } } (pathsTold xs s) :=
  onlySent_foldl (fun _ _ => onlySent_raise ..) ..

/-- The loop, on a slowest reading of `m` ns. -/
def vcoreLoop (m : Nat) (s : State) : State :=
  if m > 720 then
    let s := modPower (fun w => { w with vcoreMv := min 850 (w.vcoreMv + 10), lowSince := none }) s
    if m > 900 then enterHalted 0 s else s
  else if m ≥ 650 then modPower (fun w => { w with lowSince := none }) s
  else
    match s.power.lowSince with
    | none => modPower (fun w => { w with lowSince := some s.now }) s
    | some t => if s.now < t + msT 1 then s else modPower (fun w => { w with vcoreMv := max 700 (w.vcoreMv - 5), lowSince := some s.now }) s

/-- PATH_MONITOR_MEASUREMENT outside POWER_UP reports the crossings and runs the loop. -/
theorem pathRun_eq {xs : List Nat} (hx : xs.length = 8) (hp : s.mod.st ≠ .powerUp) :
    pathRun xs s = vcoreLoop (slowest xs).1 (pathsTold xs s) := by
  have high : (if s.power.vcoreMv == 850 then (List.range 8).filter fun k => nth xs k 0 > 810 else []) = highPaths xs s := by
    by_cases h : s.power.vcoreMv = 850 <;> simp [highPaths, h]
  rw [pathRun, if_neg (by simp [hx, hp])]
  dsimp only
  rw [high]
  rfl

/-- Up to 900 ns the loop changes the power state alone, and there not what is noted of the crossings. -/
theorem vcoreLoop_power {m : Nat} (h : m ≤ 900) : ∃ w : Power, vcoreLoop m s = { s with power := w } ∧ w.above810 = s.power.above810 := by
  unfold vcoreLoop
  dsimp only
  split
  · rw [if_neg (by omega)]; exact ⟨_, rfl, rfl⟩
  · split
    · exact ⟨_, rfl, rfl⟩
    · split
      · exact ⟨_, rfl, rfl⟩
      · split <;> exact ⟨_, rfl, rfl⟩

/-- Above 720 ns the voltage rises. -/
theorem vcoreLoop_raises {m : Nat} (h : 720 < m) (h9 : m ≤ 900) :
    vcoreLoop m s = { s with power := { s.power with vcoreMv := min 850 (s.power.vcoreMv + 10), lowSince := none } } := by
  simp [vcoreLoop, h, Nat.not_lt.mpr h9, modPower]

/-- Above 900 ns the module enters HALTED after the same step. -/
theorem vcoreLoop_halts {m : Nat} (h : 900 < m) :
    vcoreLoop m s = enterHalted 0 { s with power := { s.power with vcoreMv := min 850 (s.power.vcoreMv + 10), lowSince := none } } := by
  simp [vcoreLoop, show 720 < m by omega, h, modPower]

/-- From 650 to 720 ns the voltage stays. -/
theorem vcoreLoop_keeps {m : Nat} (h : 650 ≤ m) (h7 : m ≤ 720) : vcoreLoop m s = { s with power := { s.power with lowSince := none } } := by
  simp [vcoreLoop, Nat.not_lt.mpr h7, h, modPower]

/-- Below 650 ns the 1 ms begins. -/
theorem vcoreLoop_begins {m : Nat} (h : m < 650) (hl : s.power.lowSince = none) :
    vcoreLoop m s = { s with power := { s.power with lowSince := some s.now } } := by
  rw [vcoreLoop, if_neg (by omega), if_neg (by omega), hl]
  rfl

/-- Once the 1 ms is over the voltage falls. -/
theorem vcoreLoop_falls {m n : Nat} (h : m < 650) (hl : s.power.lowSince = some n) (hn : n + msT 1 ≤ s.now) :
    vcoreLoop m s = { s with power := { s.power with vcoreMv := max 700 (s.power.vcoreMv - 5), lowSince := some s.now } } := by
  rw [vcoreLoop, if_neg (by omega), if_neg (by omega), hl]
  exact if_neg (Nat.not_lt.mpr hn)

theorem moveTo_st (new : ModState) (cause : Nat) (s : State) : (moveTo new cause s).mod.st = new := by rw [moveTo, raise_mod]; rfl

theorem enterHalted_st {code : Nat} (hp : s.mod.st ≠ .powerUp) : (enterHalted code s).mod.st = .halted := by
  unfold enterHalted
  split
  next h => simpa [hp] using h
  · exact moveTo_st ..

/-- Settles O53: what is told has the crossings of the step alone, and the loop leaves it as it is or halts the module. -/
theorem vcoreCeilingIsReportedOnce : Obligations.VcoreCeilingIsReportedOnce := by
  unfold Obligations.VcoreCeilingIsReportedOnce
  intro t xs s hx hp u m high w told
  have hrun : pathRun xs u = vcoreLoop m told := pathRun_eq hx hp
  have hsent : OnlySent w told := onlySent_pathsTold xs u
  have quiet : (∀ k ∈ high, bit s.power.above810 k = true) → told = w := pathsTold_quiet (s := u)
  have still : told = w → told.ev = s.ev ∧ told.outRings = s.outRings := fun ht => by rw [ht]; exact ⟨rfl, rfl⟩
  refine ⟨vcoreLoop m told, congrArg Host.Outcome.next hrun, fun h => ?_, fun h => ?_, fun h hk => ?_, fun h => ⟨0, ?_, ?_⟩⟩
  · obtain ⟨x, e, hw⟩ := vcoreLoop_power (s := told) h
    rw [e]
    exact ⟨hw.trans (congrArg Power.above810 hsent.power), rfl, rfl, hsent.mod⟩
  · obtain ⟨x, e, hw⟩ := vcoreLoop_power (s := told) (show m ≤ 900 by omega)
    have hn : high = [] := highPaths_none (s := u) (.inr h)
    have h0 : w.power.above810 = 0 := by show maskOf high = 0; rw [hn]; rfl
    rw [e]
    exact ⟨hw.trans ((congrArg Power.above810 hsent.power).trans h0), still (quiet (by simp [hn]))⟩
  · obtain ⟨x, e, -⟩ := vcoreLoop_power (s := told) h
    rw [e]
    refine still (quiet fun k hm => ?_)
    simp only [high, List.mem_filter, List.mem_range, decide_eq_true_eq] at hm
    exact hk k hm.1 hm.2.2
  · rw [vcoreLoop_halts h, show told.power.vcoreMv = s.power.vcoreMv from congrArg Power.vcoreMv hsent.power (a₂ := w.power)]
  · rw [vcoreLoop_halts h]
    exact enterHalted_st (by show told.mod.st ≠ _; rw [hsent.mod]; exact hp)

/-- Settles O52: the pins by `cutFrom` and `cutEnds`, the loop by its case for each range of the slowest reading. -/
theorem interlockAndCoreVoltage : Obligations.InterlockAndCoreVoltage := by
  unfold Obligations.InterlockAndCoreVoltage
  refine ⟨?_, ?_⟩
  · intro t s hp u
    refine ⟨fun hi => ?_, fun w hw hi => ?_, fun w hw => ?_, fun hi hc => ?_, fun mv hv hi => ?_, fun mv hv hl ha hr hs hc hi => ?_⟩
    · show Host.Outcome.next (intlkRun none u) = _
      rw [intlkRun_acts (by simp), show interlocked u = false from hi]
      exact congrArg Host.Outcome.next (cutFrom_first hp)
    · show Host.Outcome.next (intlkRun (some w) u) = _
      rw [intlkRun_acts (by simpa using hw), show interlocked u = false from hi]
      exact congrArg Host.Outcome.next (cutFrom_first hp)
    · exact congrArg Host.Outcome.next (intlkRun_short hw)
    · show Host.Outcome.next (cutEnds (interlocked u) _) = _
      rw [show interlocked u = true from hi]
      exact congrArg Host.Outcome.next (cutEnds_clear hc hp)
    · intro w
      have hw : cutFrom false { u with pins := { u.pins with vauxMv := mv } } = w := cutFrom_first hp
      show Host.Outcome.next (vauxLowRun mv u) = _
      rw [vauxLowRun, if_neg (by omega), show interlocked u = false from hi]
      dsimp only
      rw [hw]
    · show Host.Outcome.next (vauxReturnRun mv u) = _
      have hw : cutEnds true { u with pins := { u.pins with vauxMv := mv } } = raise Ev.interlock 0xFF [0, 0] { u with pins := { u.pins with vauxMv := mv } } :=
        cutEnds_clear hc hp
      rw [vauxReturnRun, if_neg (by omega), show interlocked u = true from hi]
      dsimp only
      rw [hw, if_neg, takeWake_awake]
      · rw [raise_mod]; simp [u, hs]
      · rw [(onlySent_raise ..).pins]; simp [u, hr]
  · intro t xs s hx hp u m w
    have hrun : exec (.pathMonitorMeasurement t xs) s = .next (vcoreLoop m (pathsTold xs u)) := congrArg Host.Outcome.next (pathRun_eq hx hp)
    have hlow : u.power.vcoreMv ≠ 850 ∨ m ≤ 810 → pathsTold xs u = w := pathsTold_none
    refine ⟨fun h h9 hv => ?_, fun h h7 => ?_, fun h hl => ?_, fun n h hl hn => ?_, fun h h9 hv => ?_, fun h hv => ?_⟩
    · rw [hrun, hlow (.inl (Nat.ne_of_lt hv))]
      exact congrArg Host.Outcome.next (vcoreLoop_raises h h9)
    · rw [hrun, hlow (.inr (by omega))]
      exact congrArg Host.Outcome.next (vcoreLoop_keeps h h7)
    · rw [hrun, hlow (.inr (by omega))]
      exact congrArg Host.Outcome.next (vcoreLoop_begins h hl)
    · rw [hrun, hlow (.inr (by omega))]
      exact congrArg Host.Outcome.next (vcoreLoop_falls h hl hn)
    · intro high r
      have hr : pathsTold xs u = r := by
        have : highPaths xs u = high := by simp [highPaths, high, u, hv]
        rw [pathsTold, this]
        rfl
      rw [hrun, hr]
      exact congrArg Host.Outcome.next (vcoreLoop_raises (by omega) h9)
    · rw [hrun, hlow (.inl hv)]
      exact congrArg Host.Outcome.next (vcoreLoop_halts h)

end Sys2Proof.Machine

end


section
/-!
SUPPORT. How Press answers a request, grants the head of its order and times a request out (R114, R115).
-/

namespace Sys2Proof.Machine

set_option Elab.async false

variable {s : State}

/-! ### Asking Press (R47, R114, R115) -/

/-- The request that Press notes for a port: its timeout runs from now. -/
def requestOf (prio p mw : Nat) (kind : ReqKind) (s : State) : PressReq :=
  ⟨p, mw, prio, s.now, s.now + usT (pAttrN s A.pressTimeoutUs p), kind⟩

/-- The order of Press with the request put in. -/
def asked (r : PressReq) (s : State) : State := { s with press := { s.press with waiting := reqInsert r s.press.waiting } }

/-- A request that becomes the head and fits is granted at once. -/
theorem pressAskAt_granted {prio p mw : Nat} {kind : ReqKind} {r : PressReq} (hr : r = requestOf prio p mw kind s)
    (hh : (reqInsert r s.press.waiting).head? = some r) (hf : pressFits s mw = true) :
    pressAskAt prio p mw kind s = (false, grant r (asked r s)) := by
  subst hr
  exact if_pos (Bool.and_eq_true_iff.mpr ⟨beq_iff_eq.mpr hh, hf⟩)

/-- Any other is not: it fails where it may not wait, and else takes its place in the order. -/
theorem pressAskAt_else {prio p mw : Nat} {kind : ReqKind} {r : PressReq} (hr : r = requestOf prio p mw kind s)
    (hn : ¬ ((reqInsert r s.press.waiting).head? = some r ∧ pressFits s mw = true)) :
    pressAskAt prio p mw kind s = if pAttrN s A.pressTimeoutUs p = 0 then (true, s) else (false, asked r s) := by
  subst hr
  refine (if_neg fun h => hn ?_).trans (by simp only [beq_iff_eq]; rfl)
  obtain ⟨h1, h2⟩ := Bool.and_eq_true_iff.mp h
  exact ⟨beq_iff_eq.mp h1, h2⟩

/-! ### The events of Press -/

/-- The head of the order is granted where it fits; only a raised set power goes on in a commit. -/
theorem grantRun_fits {r : PressReq} {rest : List PressReq} (hw : s.press.waiting = r :: rest) (hf : pressFits s r.mw = true)
    (hk : r.kind ≠ .raise) : grantRun s = grant r s := by
  simp [grantRun, hw, hf, hk]

/-- Where the head does not fit, nothing is granted. -/
theorem grantRun_full {r : PressReq} {rest : List PressReq} (hw : s.press.waiting = r :: rest) (hf : pressFits s r.mw = false) :
    grantRun s = s := by
  simp [grantRun, hw, hf]

/-- The request of a field whose deadline has come leaves the order, and the command that waits for the field fails. -/
theorem pressTimeoutRun_field {p : Nat} {r : PressReq} (hr : (s.press.waiting.find? fun x => x.port == p && x.deadline ≤ s.now) = some r)
    (hk : r.kind = .field) (ht : (port s p).task.isSome = true) :
    pressTimeoutRun p s = goOn p (settle p (taskFail p E.pressTimeout (pressDetail (pressTake r s) p r.mw)
      (modRadio p (fun x => { x with want := none }) (pressTake r s)))) := by
  have ht' : (port (modRadio p (fun x => { x with want := none }) (pressTake r s)) p).task.isSome = true := by
    rw [task_modRadio]; exact ht
  simp only [pressTake] at ht' ⊢
  simp only [pressTimeoutRun, hr, hk, ht', if_true]

/-- Settles O13: a request granted, refused or put into the order by the two lemmas of `pressAskAt`, and the events by theirs. -/
theorem pressGrantsInOrder : Obligations.PressGrantsInOrder := by
  unfold Obligations.PressGrantsInOrder
  refine ⟨fun prio p mw kind s => ⟨rfl, pressAskAt_granted rfl, fun hn h0 => ?_, fun hn h0 => ?_⟩,
    fun t s r rest => ⟨fun hw hf hk => ?_, fun hw hf => ?_, fun p hr hk => ?_⟩⟩
  · rw [pressAskAt_else rfl hn, if_pos h0]
  · rw [pressAskAt_else rfl hn, if_neg h0]
    rfl
  · exact congrArg (fun v => Host.Outcome.next (noteSkipped v)) (grantRun_fits (s := advance t s) hw hf hk)
  · exact congrArg (fun v => Host.Outcome.next (noteSkipped v)) (grantRun_full (s := advance t s) hw hf)
  · intro w ht
    rw [task_modRadio] at ht
    exact congrArg Host.Outcome.next (pressTimeoutRun_field (s := advance t s) hr hk ht)

end Sys2Proof.Machine

end


section
/-!
SUPPORT. What the operations of a field leave of a port as it was, and how a field comes down (R65, R81, R113).
-/

namespace Sys2Proof.Machine

set_option Elab.async false

variable {s : State}

/-! ### What an operation leaves as it was -/

/-- What every step of a fold leaves as it was, the fold leaves. -/
theorem foldl_keeps {α β : Type} (g : State → β) {f : State → α → State} (hf : ∀ s x, g (f s x) = g s) (xs : List α) (s : State) :
    g (xs.foldl f s) = g s := by
  induction xs generalizing s with
  | nil => rfl
  | cons x xs ih => exact (ih (f s x)).trans (hf s x)

theorem port_of_ports {s t : State} (h : t.ports = s.ports) (p : Nat) : port t p = port s p := by
  unfold port
  rw [h]

theorem ports_settle (p : Nat) (s : State) : (settle p s).ports = s.ports := by
  obtain ⟨a, ha⟩ := settle_slices p s
  rw [ha]

theorem ports_tellSwap (planned : Bool) (kind inst spare us ports portNo : Nat) (hdr : Option Hdr) (s : State) :
    (tellSwap planned kind inst spare us ports portNo hdr s).ports = s.ports := by
  cases hdr with
  | none => exact (onlySent_raise ..).ports
  | some h => exact (onlySent_ok ..).ports.trans (onlySent_raise ..).ports

theorem ports_tellBack (p : Nat) (s : State) : (tellBack p s).ports = s.ports := by
  unfold tellBack
  split
  · rfl
  · exact foldl_keeps State.ports (fun _ _ => ports_tellSwap ..) ..

theorem ports_retune (p channel : Nat) (s : State) : (retune p channel s).ports = s.ports := by
  refine foldl_keeps State.ports (fun s q => ?_) _ s
  split <;> rfl

section
variable {α : Type} (g : Port → α)

theorem modRadio_keeps {f : Radio → Radio} (hf : ∀ x, g { x with radio := f x.radio } = g x) (p q : Nat) (s : State) :
    g (port (modRadio q f s) p) = g (port s p) := port_modPort_keeps g hf ..

/-- Only the weights of the canceller and the free counter change. -/
theorem adaptSet_keeps (hrx : ∀ x r, g { x with rx := r } = g x) (damped : Bool) (p q : Nat) (s : State) :
    g (port (adaptSet damped p s) q) = g (port s q) := by
  unfold adaptSet
  split
  · rfl
  · exact foldl_keeps (fun t => g (port t q)) (fun _ _ => port_modPort_keeps g (fun _ => hrx _ _) ..) ..

theorem setQd_keeps (hqd : ∀ x b, g { x with radio := { x.radio with qdDamped := b } } = g x) (p q : Nat) (damped : Bool) (s : State) :
    g (port (setQd p damped s) q) = g (port s q) :=
  foldl_keeps (fun t => g (port t q)) (fun _ _ => port_modPort_keeps g (fun _ => hqd _ _) ..) ..

/-- An exchange that ends touches the air and the receive side of ports alone. -/
theorem closeRx_keeps (hair : ∀ x a, g { x with air := a } = g x) (hrx : ∀ x r, g { x with rx := r } = g x) (p q : Nat) (s : State) :
    g (port (closeRx p s) q) = g (port s q) := by
  unfold closeRx
  split
  · rfl
  · dsimp only
    have thaw : ∀ t : State, g (port (modAir p (fun a => { a with win := none, txEnd := none, idleSince := t.now }) t) q) = g (port t q) :=
      fun t => port_modPort_keeps g (fun _ => hair _ _) ..
    have fold := foldl_keeps (fun t => g (port t q))
      (f := fun t r => modRx r (fun x => { x with offset := x.offset.thaw s.now }) t) (fun _ _ => port_modPort_keeps g (fun _ => hrx _ _) ..)
      (group s p) s
    split
    · exact (adaptSet_keeps g hrx ..).trans ((thaw _).trans fold)
    · exact (thaw _).trans fold

theorem freeQd_keeps (hair : ∀ x a, g { x with air := a } = g x) (p q : Nat) (s : State) : g (port (freeQd p s) q) = g (port s q) := by
  unfold freeQd
  split
  · rfl
  · have clear : g (port (modAir p (fun a => { a with qdDue := none }) s) q) = g (port s q) := port_modPort_keeps g (fun _ => hair _ _) ..
    dsimp only
    split <;> exact clear

theorem quietAir_keeps (hair : ∀ x a, g { x with air := a } = g x) (hrx : ∀ x r, g { x with rx := r } = g x) (p q : Nat) (s : State) :
    g (port (quietAir p s) q) = g (port s q) :=
  (freeQd_keeps g hair ..).trans ((closeRx_keeps g hair hrx ..).trans (port_modPort_keeps g (fun _ => hair _ _) ..))

/-- A change of channel is noted in the radio as done, and the rest is the slices'. -/
theorem takeChannel_keeps (hch : ∀ x c, g { x with radio := { x.radio with newChannel := c } } = g x) (p q : Nat) (s : State) :
    g (port (takeChannel p s) q) = g (port s q) := by
  unfold takeChannel
  split
  · rfl
  · rw [port_of_ports (ports_retune ..)]
    exact port_modPort_keeps g (fun _ => hch _ _) ..

theorem closeSpan_keeps (hspan : ∀ x o l, g { x with radio := { x.radio with onSince := o, spans := l } } = g x) (p q : Nat) (s : State) :
    g (port (closeSpan p s) q) = g (port s q) := by
  refine port_modPort_keeps g (fun x => ?_) ..
  dsimp only
  split
  · rfl
  · exact hspan ..

end

theorem port_modRadio_self {p : Nat} (f : Radio → Radio) (hp : p < s.ports.length) :
    port (modRadio p f s) p = { port s p with radio := f (port s p).radio } := port_modPort_self _ s hp

theorem radio_modRadio_self {p : Nat} (f : Radio → Radio) (hp : p < s.ports.length) :
    (port (modRadio p f s) p).radio = f (port s p).radio := congrArg Port.radio (port_modRadio_self f hp)

/-- What a change of a port always makes of it, and a port that is not there has, holds after the change. -/
theorem port_modPort_makes {P : Port → Prop} {f : Port → Port} (hf : ∀ x, P (f x)) (h0 : P {}) (p : Nat) (s : State) :
    P (port (modPort p f s) p) := by
  by_cases hp : p < s.ports.length
  · rw [port_modPort_self f s hp]
    exact hf _
  · have : (s.ports.modify p f)[p]? = none := by simpa using hp
    simpa [port, modPort, nth, upd, this] using h0

/-! ### A field comes down (R65, R81, R113, R197, R287) -/

/-- Of the radio: the phase, the grant, the field-off minimum and the FIELD_OFFs that wait. -/
def fieldRest (x : Port) : FieldPhase × Nat × Option Nat × List Hdr := (x.radio.phase, x.radio.grantMw, x.radio.offUntil, x.radio.offHdrs)

/-- Of the tags in a field: their handles, and the page for one in the secure transmit buffer. -/
def tagsHeld (x : Port) : List IsoHandle × List HyHandle × Option KeyPage := (x.iso.handles, x.hy.handles, x.secBuf)

/-- A port whose handles are gone. -/
def bare (x : Port) : Port :=
  { x with iso := { x.iso with handles := [] }, hy := { x.hy with handles := [] }, secBuf := none, copy := ([], []) }

theorem port_releaseHandles (p q : Nat) (s : State) : port (releaseHandles p s) q = port (modPort p bare s) q := rfl

/-- A field at zero keeps its phase and its grant until it has ended. -/
theorem fieldDown_rest (p : Nat) (s : State) : fieldRest (port (fieldDown p s) p) = fieldRest (port s p) := by
  unfold fieldDown
  dsimp only
  rw [quietAir_keeps fieldRest (fun _ _ => rfl) (fun _ _ => rfl), port_releaseHandles, port_modPort_keeps fieldRest (f := bare) (fun _ => rfl),
    setQd_keeps fieldRest (fun _ _ => rfl)]
  refine Eq.trans (modRadio_keeps fieldRest (f := fun r => { r with guardUntil := none }) (fun _ => rfl) ..) ?_
  refine foldl_keeps (fun t => fieldRest (port t p)) (fun t q => ?_) ..
  exact (port_modPort_keeps fieldRest (f := fun x => { x with z8 := { x.z8 with blankUntil := s.now + blankTicks } }) (fun _ => rfl) ..).trans
    (closeSpan_keeps fieldRest (fun _ _ _ => rfl) q p t)

theorem fieldDown_guard (p : Nat) (s : State) : (port (fieldDown p s) p).radio.guardUntil = none := by
  unfold fieldDown
  dsimp only
  rw [quietAir_keeps (·.radio.guardUntil) (fun _ _ => rfl) (fun _ _ => rfl), port_releaseHandles,
    port_modPort_keeps (·.radio.guardUntil) (f := bare) (fun _ => rfl), setQd_keeps (·.radio.guardUntil) (fun _ _ => rfl)]
  exact port_modPort_makes (P := fun x => x.radio.guardUntil = none) (f := fun x => { x with radio := { x.radio with guardUntil := none } })
    (fun _ => rfl) rfl ..

theorem fieldDown_tags (p : Nat) (s : State) : tagsHeld (port (fieldDown p s) p) = ([], [], none) := by
  unfold fieldDown
  dsimp only
  rw [quietAir_keeps tagsHeld (fun _ _ => rfl) (fun _ _ => rfl), port_releaseHandles]
  exact port_modPort_makes (P := fun x => tagsHeld x = ([], [], none)) (f := bare) (fun _ => rfl) rfl ..

/-- The radio of a field that has ended, with its field-off minimum. -/
def ended (off : Nat) (r : Radio) : Radio :=
  { r with phase := .off, grantMw := 0, credit := none, offUntil := some off, offHdrs := [], want := none }

/-- Beside the answers that go out, the end of a field is its way to zero and the channel that waited. -/
theorem fieldEnded_keeps {α : Type} (g : Port → α) (hch : ∀ x c, g { x with radio := { x.radio with newChannel := c } } = g x) (p : Nat)
    (s : State) : g (port (fieldEnded p s) p) = g (port (fieldDown p (modRadio p (ended (s.now + usT (pAttrN s A.fieldOffMinUs p))) s)) p) := by
  unfold fieldEnded
  dsimp only
  rw [port_of_ports (ports_settle ..), port_of_ports (ports_tellBack ..),
    port_of_ports (foldl_keeps State.ports (fun _ _ => (onlySent_ok ..).ports) ..)]
  exact takeChannel_keeps g hch ..

theorem fieldEnded_rest {p : Nat} (hp : p < s.ports.length) :
    fieldRest (port (fieldEnded p s) p) = (.off, 0, some (s.now + usT (pAttrN s A.fieldOffMinUs p)), []) := by
  rw [fieldEnded_keeps fieldRest (fun _ _ => rfl), fieldDown_rest, port_modRadio_self _ hp]
  rfl

/-! ### The rows that end a ramp down and the field-off minimum -/

/-- A field that comes back leaves its gap on the channel in force, or on the one that waits. -/
theorem rampDownRun_restores {p ch : Nat} (hf : (port s p).radio.phase = .falling true)
    (hc : channelNow (fieldDown p (modRadio p (fun r => { r with phase := .gap }) s)) p = some ch)
    (hr : runClosing (fieldDown p (modRadio p (fun r => { r with phase := .gap }) s)) p = false) :
    rampDownRun p s = (let w := fieldDown p (modRadio p (fun r => { r with phase := .gap }) s)
      resumeField p (retune p ((port w p).radio.newChannel.getD ch) (modRadio p (fun r => { r with newChannel := none }) w))) := by
  simp only [rampDownRun, hf, hc, hr, Bool.false_eq_true, if_false]

/-- A field that does not come back has ended; a port that then runs nothing goes on. -/
theorem rampDownRun_ends {p : Nat} (hf : (port s p).radio.phase = .falling false)
    (ht : (port (driveCommit [p] (fieldEnded p s)) p).task = none) :
    rampDownRun p s = goOn p (driveCommit [p] (fieldEnded p s)) := by
  simp only [rampDownRun, hf, ht]

theorem offMinRun_over {p n : Nat} (ho : (port s p).radio.offUntil = some n) (hn : n ≤ s.now) :
    offMinRun p s = tryArm p (modRadio p (fun r => { r with offUntil := none }) s) := by
  simp only [offMinRun, ho, Nat.not_lt.mpr hn, if_false]

theorem offMinRun_runs {p n : Nat} (ho : (port s p).radio.offUntil = some n) (hn : s.now < n) : offMinRun p s = s := by
  simp only [offMinRun, ho, hn, if_true]

/-- Settles O15: the rows by their cases, and what has ended of a field by what each operation of its end leaves as it was. -/
theorem fieldComesDown : Obligations.FieldComesDown := by
  unfold Obligations.FieldComesDown
  refine ⟨fun t p s => ⟨?_, fun hf ht => ?_⟩, ?_, fun t p n s ho => ⟨fun hn => ?_, fun hn => ?_⟩⟩
  · intro ch hf w hc hr
    exact congrArg (fun v => Host.Outcome.next (noteSkipped v)) (rampDownRun_restores (s := advance t s) hf hc hr)
  · exact congrArg (fun v => Host.Outcome.next (noteSkipped v)) (rampDownRun_ends (s := advance t s) hf ht)
  · intro p s hp _ v
    have guard : (port v p).radio.guardUntil = none :=
      (fieldEnded_keeps (·.radio.guardUntil) (fun _ _ => rfl) p s).trans (fieldDown_guard ..)
    have tags : tagsHeld (port v p) = ([], [], none) := (fieldEnded_keeps tagsHeld (fun _ _ => rfl) p s).trans (fieldDown_tags ..)
    have rest : fieldRest (port v p) = _ := fieldEnded_rest hp
    simp only [fieldRest, tagsHeld, Prod.mk.injEq] at rest tags
    obtain ⟨phase, grant, off, hdrs⟩ := rest
    exact ⟨phase, grant, guard, off, hdrs, tags⟩
  · exact congrArg (fun v => Host.Outcome.next (noteSkipped v)) (offMinRun_over (s := advance t s) ho hn)
  · exact congrArg (fun v => Host.Outcome.next (noteSkipped v)) (offMinRun_runs (s := advance t s) ho hn)

end Sys2Proof.Machine

end


section
/-!
SUPPORT. How a field comes up: its carriers, its guard time, and what waits for them (R80, R85).
-/

namespace Sys2Proof.Machine

set_option Elab.async false

variable {s : State}

/-! ### A port without a set (R322) -/

theorem group_alone {p : Nat} (hm : members s p = []) : group s p = [p] := by simp [group, hm]

/-- A port that leads no set keeps its carrier on. -/
theorem carrierOff_alone {p q : Nat} (hm : members s p = []) : carrierOff s p q = false := by simp [carrierOff, hm]

theorem carriers_alone {p : Nat} (hm : members s p = []) : carriers p s = carrier p true s := by
  simp only [carriers, group_alone hm, List.foldl_cons, List.foldl_nil, carrierOff_alone hm, Bool.not_false]

/-! ### The carriers of a field (R85, R96, R324) -/

/-- What the carriers and the Q damping of a field leave: the clock, the configuration, the timers, and how many ports there are. -/
def fieldFrame (s : State) : Nat × ConfigStore × List Timer × Nat := (s.now, s.cfg, s.timers, s.ports.length)

theorem fieldFrame_modPort (p : Nat) (f : Port → Port) (s : State) : fieldFrame (modPort p f s) = fieldFrame s := by
  simp [fieldFrame]

theorem fieldFrame_carrier (q : Nat) (on : Bool) (s : State) : fieldFrame (carrier q on s) = fieldFrame s := by
  unfold carrier
  dsimp only
  split
  · exact fieldFrame_modPort ..
  · split
    · exact (fieldFrame_modPort .. : fieldFrame (closeSpan q s) = fieldFrame s)
    · rfl

/-- A carrier that comes on or goes off notes the span of field, and whether a learning is due. -/
theorem carrier_keeps {α : Type} (g : Port → α)
    (hspan : ∀ x o l d, g { x with radio := { x.radio with onSince := o, spans := l, dpdDue := d } } = g x) (p q : Nat) (on : Bool) (s : State) :
    g (port (carrier q on s) p) = g (port s p) := by
  unfold carrier
  dsimp only
  split
  · exact port_modPort_keeps g (fun _ => hspan _ _ _ _) ..
  · split
    · exact closeSpan_keeps g (fun x _ _ => hspan x _ _ _) ..
    · rfl

/-- A carrier that comes on begins its span of the duty window. -/
theorem carrier_begins {p : Nat} (hp : p < s.ports.length) (hs : (sliceAt s p).st ≠ .field) :
    (port (carrier p true s) p).radio.onSince = some s.now := by
  have hs' : ((sliceAt s p).st == SliceSt.field) = false := beq_eq_false_iff_ne.mpr hs
  simp only [carrier, hs', Bool.not_false, Bool.and_self, if_true]
  rw [modRadio, port_modPort_self _ _ (by exact hp)]

/-! ### The guard time (R80, R126) -/

/-- An attribute hangs on the configuration alone where its default does. -/
theorem pAttr_of_same {t : State} {id p : Nat} (hc : t.cfg = s.cfg) (hd : dfltOf t s.cfg.running id p = dfltOf s s.cfg.running id p) :
    pAttr t id p = pAttr s id p := by
  unfold pAttr cfg1 cfgVal
  rw [hc, hd]

/-- The guard time hangs on the configuration and on what the tags of the port have declared. -/
theorem guardTicks_of_same {t : State} {p : Nat} (hc : t.cfg = s.cfg) (hg : (port t p).hy.guardUs = (port s p).hy.guardUs) :
    guardTicks t p = guardTicks s p := by
  have protocol : pAttr t A.protocol p = pAttr s A.protocol p := pAttr_of_same hc rfl
  have guard : pAttr t A.fieldGuardUs p = pAttr s A.fieldGuardUs p := pAttr_of_same hc rfl
  simp only [guardTicks, pAttrN, protocol, guard, hg]

theorem timers_adaptSet (damped : Bool) (p : Nat) (s : State) : (adaptSet damped p s).timers = s.timers := by
  unfold adaptSet
  split
  · rfl
  · refine foldl_keeps State.timers (fun _ _ => ?_) _ (drawn s)
    rfl

/-- The guard time runs on the radio and on T_A. -/
theorem startGuard_radio {p : Nat} (hp : p < s.ports.length) :
    (port (startGuard p s) p).radio = { (port s p).radio with guardUntil := some (s.now + guardTicks s p) } := by
  unfold startGuard
  dsimp only
  rw [adaptSet_keeps (·.radio) (fun _ _ => rfl)]
  exact congrArg Port.radio (port_modPort_self _ s hp)

theorem startGuard_timer {p : Nat} (ht : tA p < s.timers.length) : timer (startGuard p s) (tA p) =
    { timer s (tA p) with armed := true, mode := 0, action := 0, fire := s.now + guardTicks s p } := by
  unfold startGuard
  dsimp only
  rw [timer, timers_adaptSet]
  exact nth_upd_self _ _ _ ht

/-! ### A field comes up -/

/-- The carriers of the field have come on. -/
def carried (p : Nat) (s : State) : State :=
  setQd p (pAttr (carriers p s) A.qdMode p == 1) (modAir p (fun a => { a with idleSince := s.now }) (carriers p s))

theorem carried_frame (p : Nat) (s : State) : fieldFrame (carried p s) = fieldFrame s := by
  refine (foldl_keeps fieldFrame (fun _ _ => fieldFrame_modPort ..) ..).trans ((fieldFrame_modPort ..).trans ?_)
  exact foldl_keeps fieldFrame (fun _ _ => fieldFrame_carrier ..) ..

theorem carried_frame_eqs (p : Nat) (s : State) :
    (carried p s).now = s.now ∧ (carried p s).cfg = s.cfg ∧ (carried p s).timers = s.timers ∧ (carried p s).ports.length = s.ports.length := by
  simpa only [fieldFrame, Prod.mk.injEq] using carried_frame p s

/-- Of the port itself the air side, the Q damping, the span of field and the learning that is due change. -/
theorem carried_keeps {α : Type} (g : Port → α) (hair : ∀ x a, g { x with air := a } = g x)
    (hqd : ∀ x b, g { x with radio := { x.radio with qdDamped := b } } = g x)
    (hspan : ∀ x o l d, g { x with radio := { x.radio with onSince := o, spans := l, dpdDue := d } } = g x) (p : Nat) (s : State) :
    g (port (carried p s) p) = g (port s p) := by
  unfold carried
  rw [setQd_keeps g hqd]
  exact (port_modPort_keeps g (fun _ => hair _ _) ..).trans (foldl_keeps (fun t => g (port t p)) (fun _ _ => carrier_keeps g hspan ..) ..)

theorem carried_begins {p : Nat} (hp : p < s.ports.length) (hm : members s p = []) (hs : (sliceAt s p).st ≠ .field) :
    (port (carried p s) p).radio.onSince = some s.now := by
  unfold carried
  rw [setQd_keeps (·.radio.onSince) (fun _ _ => rfl), carriers_alone hm]
  exact (port_modPort_keeps (·.radio.onSince) (f := fun x => { x with air := { x.air with idleSince := s.now } }) (fun _ => rfl) ..).trans
    (carrier_begins hp hs)

/-- The radio of a field that stands. -/
def standing (r : Radio) : Radio := { r with phase := .on, want := none }

theorem fieldUp_eq (p : Nat) (s : State) : fieldUp p s = startGuard p (modRadio p standing (carried p s)) := rfl

theorem standing_guard (p : Nat) (s : State) : guardTicks (modRadio p standing (carried p s)) p = guardTicks s p :=
  have ⟨_, cfg, _, _⟩ := carried_frame_eqs p s
  guardTicks_of_same cfg ((modRadio_keeps (·.hy.guardUs) (fun _ => rfl) ..).trans
    (carried_keeps (·.hy.guardUs) (fun _ _ => rfl) (fun _ _ => rfl) (fun _ _ _ _ => rfl) p s))

/-- A field that is at its set amplitude is on, with no request open and its guard time running. -/
theorem fieldUp_radio {p : Nat} (hp : p < s.ports.length) : (port (fieldUp p s) p).radio =
    { standing (port (carried p s) p).radio with guardUntil := some (s.now + guardTicks s p) } := by
  obtain ⟨now, -, -, len⟩ := carried_frame_eqs p s
  have hp' : p < (carried p s).ports.length := len ▸ hp
  rw [fieldUp_eq, startGuard_radio (by rw [modRadio, modPort_ports, length_upd]; exact hp'), radio_modRadio_self _ hp', standing_guard,
    show (modRadio p standing (carried p s)).now = s.now from now]

/-- The guard time runs on T_A from now. -/
theorem fieldUp_timer {p : Nat} (ht : tA p < s.timers.length) : timer (fieldUp p s) (tA p) =
    { timer s (tA p) with armed := true, mode := 0, action := 0, fire := s.now + guardTicks s p } := by
  obtain ⟨now, -, timers, -⟩ := carried_frame_eqs p s
  have same : (modRadio p standing (carried p s)).timers = s.timers := timers
  rw [fieldUp_eq, startGuard_timer (same ▸ ht), standing_guard, show (modRadio p standing (carried p s)).now = s.now from now, timer, same]
  rfl

/-! ### The rows of a ramp up and of the guard time -/

theorem guardOver_ends {p n : Nat} (hg : (port s p).radio.guardUntil = some n) (hn : n ≤ s.now) :
    guardOver p s = goOn p (kick p (modRadio p (fun r => { r with guardUntil := none }) s)) := by
  simp only [guardOver, hg, Nat.not_lt.mpr hn, if_false]

theorem guardOver_runs {p n : Nat} (hg : (port s p).radio.guardUntil = some n) (hn : s.now < n) : guardOver p s = s := by
  simp only [guardOver, hg, hn, if_true]

/-- Settles O14: the field by `fieldUp_radio`, with what its carriers leave and begin, and T_A by `fieldUp_timer`. -/
theorem fieldComesUp : Obligations.FieldComesUp := by
  unfold Obligations.FieldComesUp
  refine ⟨fun t p s hf => ?_, ?_, fun t p n s hg => ⟨fun hn => ?_, fun hn => ?_⟩⟩
  · have rising : ¬ ((port (advance t s) p).radio.phase != .rising) = true := by
      rw [show (port (advance t s) p).radio.phase = .rising from hf]
      decide
    exact congrArg (fun v => Host.Outcome.next (noteSkipped v)) (if_neg rising)
  · intro p s hp hm ht v
    have radio : (port v p).radio = _ := fieldUp_radio hp
    have power := carried_keeps (·.radio.power) (fun _ _ => rfl) (fun _ _ => rfl) (fun _ _ _ _ => rfl) p s
    rw [radio]
    exact ⟨rfl, rfl, power, fun hs => carried_begins hp hm hs, rfl, fieldUp_timer ht⟩
  · exact congrArg Host.Outcome.next (guardOver_ends (s := advance t s) hg hn)
  · exact congrArg Host.Outcome.next (guardOver_runs (s := advance t s) hg hn)

end Sys2Proof.Machine

end


section
/-!
SUPPORT. FIELD_ON and FIELD_OFF (R71, R78, R113, R603).
-/

namespace Sys2Proof.Machine

set_option Elab.async false

variable {s : State}

/-! ### FIELD_ON (R78, R113) -/

/-- FIELD_ON as the running command of a port. -/
def fieldOnTask (h : Hdr) (p : Nat) (s : State) : State :=
  modPort p (fun x => { x with task := some { hdr := h, op := 0x20, proc := .fieldOn } }) s

theorem fieldOnRun_on {h : Hdr} {p : Nat} (hf : (port s p).radio.phase = .on) : fieldOnRun h p s = ok h 0x20 [] s := by
  simp [fieldOnRun, hf]

/-- Where the field is off the command asks for it, and ends at once where the request fails. -/
theorem fieldOnRun_asks {h : Hdr} {p : Nat} (hf : (port s p).radio.phase ≠ .on) : fieldOnRun h p s =
    (askField p (fieldOnTask h p s)).1.elim (askField p (fieldOnTask h p s)).2
      fun e => settle p (taskFail p e.1 e.2 (askField p (fieldOnTask h p s)).2) := by
  simp only [fieldOnRun, fieldOnTask, beq_iff_eq, hf, if_false]
  generalize askField p _ = r
  obtain ⟨e, v⟩ := r
  cases e <;> rfl

theorem askField_starts {p : Nat} (hf : (port s p).radio.phase = .off) (hw : (port s p).radio.want = none) (ho : offRun s p = false) :
    askField p s = startField p s := by
  simp [askField, hf, hw, ho]

/-- The field of a port is wanted: the request is noted, and the slices of its group take their set powers and go to LISTEN. -/
def fieldWanted (p : Nat) (s : State) : State :=
  let v := modRadio p (fun r => { r with want := some ⟨false, false, s.now, true⟩ }) s
  (group v p).foldl (fun s q => aim q .listen (modRadio q (fun r => { r with power := pAttr s A.txPowerCdbm q }) s)) v

/-- A field that nothing bars is asked of Press at the set power of its group. -/
theorem startField_asks {p : Nat} (hb : fieldBar s p = none)
    (ha : (pressAsk p (fieldMw (fieldWanted p s) (fieldWanted p s).cfg.running p) .field (fieldWanted p s)).1 = false) :
    startField p s = (none, (pressAsk p (fieldMw (fieldWanted p s) (fieldWanted p s).cfg.running p) .field (fieldWanted p s)).2) := by
  obtain ⟨v, e⟩ : ∃ v, pressAsk p (fieldMw (fieldWanted p s) (fieldWanted p s).cfg.running p) .field (fieldWanted p s) = (false, v) :=
    ⟨_, Prod.ext ha rfl⟩
  rw [e, startField, hb]
  unfold fieldWanted at e
  dsimp only at e ⊢
  rw [e]

/-! ### FIELD_OFF (R71, R113, R603) -/

@[simp] theorem port_pressDrop (p q : Nat) (s : State) : port (pressDrop p s) q = port s q := rfl

theorem dropWant_none {p : Nat} (hw : (port s p).radio.want = none) : dropWant p s = s := by simp [dropWant, hw]

/-- A FIELD_OFF waits for the end of the field. -/
def offNoted (h : Hdr) (r : Radio) : Radio := { r with offHdrs := r.offHdrs ++ [h] }

/-- On a port that runs nothing FIELD_OFF takes back the request of its field; it is answered where there is no field, and else waits for its end. -/
theorem fieldOffRun_rest {h : Hdr} {p : Nat} (ht : (port s p).task = none) (hk : (port s p).parked = []) (hp : (port s p).pass = none) :
    fieldOffRun h p s =
      if (port s p).radio.phase = .off then goOn p (driveCommit [p] (ok h 0x21 [] (settle p (dropWant p (pressDrop p s)))))
      else goOn p (modRadio p (offNoted h) (pressDrop p s)) := by
  have parked : modPort p (fun x => { x with parked := x.parked.filter (·.task.ofPass) }) s = s := by
    refine modPort_self ?_
    rw [hk, List.filter_nil, ← hk]
  simp only [fieldOffRun, hk, List.filter_nil, List.foldl_nil]
  simp only [parked, ht, port_pressDrop, hp, Option.isSome_none, Option.isNone_none, Bool.false_eq_true, if_false, Bool.and_true, beq_iff_eq]
  rfl

/-- Whether a port waits for something is a matter of the ports and of the module's state. -/
theorem waitsForNothing_of_same {t : State} (hp : t.ports = s.ports) (hm : t.mod = s.mod) (p : Nat) :
    waitsForNothing t p = waitsForNothing s p := by
  simp only [waitsForNothing, port_of_ports hp, hm]

theorem waitsForNothing_parts {p : Nat} (hn : waitsForNothing s p = true) :
    (port s p).pass = none ∧ (port s p).starts = [] ∧ (port s p).gridDue = false ∧ (port s p).radio.offHdrs = [] ∧ s.mod.dozeHdr = none
      ∧ (port s p).radio.fallDue = false ∧ ((port s p).parked.any fun k => k.waited && !k.task.ofPass) = false := by
  simpa only [waitsForNothing, Bool.and_eq_true, Option.isNone_iff_eq_none, List.isEmpty_iff, Bool.not_eq_true', and_assoc] using hn

/-- Without field and request the port then goes on at rest. -/
theorem fieldOffRun_off {h : Hdr} {p : Nat} (hn : waitsForNothing s p = true) (ht : (port s p).task = none) (hk : (port s p).parked = [])
    (hc : s.cfg.committing = none) (hnew : (port s p).newCommit = false) (hf : (port s p).radio.phase = .off)
    (hw : (port s p).radio.want = none) : fieldOffRun h p s = settleIn p (ok h 0x21 [] (settle p (pressDrop p s))) := by
  obtain ⟨a, ha⟩ := settle_slices p (pressDrop p s)
  have sent := onlySent_ok h 0x21 [] (settle p (pressDrop p s))
  have ports : (ok h 0x21 [] (settle p (pressDrop p s))).ports = s.ports := sent.ports.trans (ports_settle ..)
  have mod : (ok h 0x21 [] (settle p (pressDrop p s))).mod = s.mod := sent.mod.trans (by rw [ha]; rfl)
  have cfg : (ok h 0x21 [] (settle p (pressDrop p s))).cfg = s.cfg := sent.cfg.trans (by rw [ha]; rfl)
  have pass : (port s p).pass = none := (waitsForNothing_parts hn).1
  rw [fieldOffRun_rest ht hk pass, if_pos hf, dropWant_none (s := pressDrop p s) hw, driveCommit_none (by rw [cfg]; exact hc)
    (by rw [port_of_ports ports]; exact hnew), goOn_idle (by rw [waitsForNothing_of_same ports mod]; exact hn)]

/-- A port without a pass, and without a command whose wait has ended, goes on with the FIELD_OFFs alone. -/
theorem goOn_offDue {p : Nat} (hp : (port s p).pass = none) (hs : (port s p).starts = []) (hg : (port s p).gridDue = false)
    (hk : ((port s p).parked.any fun k => k.waited && !k.task.ofPass) = false) : goOn p s = settleIn p (offDue p s) := by
  have : drivePass 64 p s = s := by simp [drivePass, passReady, hp, hs, hg]
  rw [goOn, resumeParked_none hk, this]

theorem ports_settleIn (p : Nat) (s : State) : (settleIn p s).ports = s.ports := by
  obtain ⟨a, ha⟩ := settleIn_slices p s
  rw [ha]

theorem outRings_settleIn (p : Nat) (s : State) : (settleIn p s).outRings = s.outRings := by
  obtain ⟨a, ha⟩ := settleIn_slices p s
  rw [ha]

theorem length_ports_modRadio (p : Nat) (f : Radio → Radio) (s : State) : (modRadio p f s).ports.length = s.ports.length := length_upd ..

/-- The ramp down of a field that is on starts. -/
theorem rampDown_on {p : Nat} {restore : Bool} (hp : p < s.ports.length) (hf : (port s p).radio.phase = .on) :
    (port (rampDown p restore s) p).radio = { (port s p).radio with phase := .falling restore, guardUntil := none } := by
  rw [rampDown, radio_modRadio_self _ hp, hf]

/-- Where a field stands, a FIELD_OFF that waits on a port without work lets it fall. -/
theorem offDue_falls {p : Nat} (hd : (port s p).radio.offHdrs ≠ []) (ht : (port s p).task = none) (hp : (port s p).pass = none)
    (hf : (port s p).radio.phase = .on) :
    offDue p s = rampDown p false (pressDrop p (modRadio p (fun r => { r with fallDue := false }) s)) := by
  have due : (port s p).radio.offHdrs.isEmpty = false := by simpa using hd
  have phase : (port (pressDrop p (modRadio p (fun r => { r with fallDue := false }) s)) p).radio.phase = .on :=
    (modRadio_keeps (·.radio.phase) (f := fun r => { r with fallDue := false }) (fun _ => rfl) p p s).trans hf
  have on_off : (FieldPhase.on == FieldPhase.off) = false := rfl
  have on_gap : (FieldPhase.on == FieldPhase.gap) = false := rfl
  have on_falling : (FieldPhase.on == FieldPhase.falling false) = false := rfl
  simp only [offDue, due, ht, hp, hf, on_falling, on_off, Bool.not_false, Bool.true_or, Bool.not_true, Option.isSome_none, Bool.or_self,
    Bool.false_eq_true, if_false, endField, phase, on_gap]

theorem offDue_falls_radio {p : Nat} (hd : (port s p).radio.offHdrs ≠ []) (ht : (port s p).task = none) (hp : (port s p).pass = none)
    (hf : (port s p).radio.phase = .on) (hlt : p < s.ports.length) : (port (offDue p s) p).radio =
      { (port s p).radio with phase := .falling false, guardUntil := none, fallDue := false } := by
  have radio : (port (pressDrop p (modRadio p (fun r => { r with fallDue := false }) s)) p).radio = { (port s p).radio with fallDue := false } := by
    rw [port_pressDrop, radio_modRadio_self _ hlt]
  have length : p < (pressDrop p (modRadio p (fun r => { r with fallDue := false }) s)).ports.length :=
    Nat.lt_of_lt_of_eq hlt (length_ports_modRadio p (fun r => { r with fallDue := false }) s).symm
  rw [offDue_falls hd ht hp hf, rampDown_on length (by rw [radio]; exact hf), radio]

/-- On a port whose field is on the ramp down starts, and the command waits for its end. -/
theorem fieldOffRun_on {h : Hdr} {p : Nat} (hn : waitsForNothing s p = true) (ht : (port s p).task = none) (hk : (port s p).parked = [])
    (hp : p < s.ports.length) (hf : (port s p).radio.phase = .on) :
    (port (fieldOffRun h p s) p).radio.phase = .falling false ∧ (port (fieldOffRun h p s) p).radio.offHdrs = [h]
      ∧ (fieldOffRun h p s).outRings = s.outRings := by
  obtain ⟨pass, starts, grid, hdrs, -, -, parked⟩ := waitsForNothing_parts hn
  have run : fieldOffRun h p s = goOn p (modRadio p (offNoted h) (pressDrop p s)) :=
    (fieldOffRun_rest ht hk pass).trans (if_neg (by rw [hf]; decide))
  generalize hr : modRadio p (offNoted h) (pressDrop p s) = r at run
  have port_r : port r p = { port s p with radio := offNoted h (port s p).radio } := by
    rw [← hr, port_modRadio_self (s := pressDrop p s) _ hp, port_pressDrop]
  have length_r : p < r.ports.length := by
    rw [← hr]
    exact Nat.lt_of_lt_of_eq hp (length_ports_modRadio p (offNoted h) (pressDrop p s)).symm
  have hdrs_r : (offNoted h (port s p).radio).offHdrs = [h] := by simp [offNoted, hdrs]
  have due : (port r p).radio.offHdrs ≠ [] := by simp [port_r, hdrs_r]
  have task_r : (port r p).task = none := by rw [port_r]; exact ht
  have pass_r : (port r p).pass = none := by rw [port_r]; exact pass
  have phase_r : (port r p).radio.phase = .on := by rw [port_r]; exact hf
  rw [goOn_offDue pass_r (by rw [port_r]; exact starts) (by rw [port_r]; exact grid) (by rw [port_r]; exact parked)] at run
  have rings : (offDue p r).outRings = s.outRings := by
    rw [offDue_falls due task_r pass_r phase_r, ← hr]
    simp only [rampDown, pressDrop, modRadio, modPort_outRings]
  rw [run, port_of_ports (ports_settleIn ..), offDue_falls_radio due task_r pass_r phase_r length_r, port_r, outRings_settleIn]
  exact ⟨rfl, hdrs_r, rings⟩

/-- Settles O12: the commands by what their work does in the state of their turn, the request by `startField_asks`. -/
theorem fieldsAreAskedFor : Obligations.FieldsAreAskedFor := by
  unfold Obligations.FieldsAreAskedFor
  refine ⟨?_, ?_, ?_⟩
  · intro t h s ht u w
    have run : exec (.fieldOn t h) s = .next (fieldOnRun h h.q u) := congrArg Host.Outcome.next (hostCmd_works rfl ht)
    refine ⟨fun hf => ?_, fun hf ha => ?_, fun code d hf ha => ?_⟩
    · rw [run, fieldOnRun_on hf]
    · have asks := fieldOnRun_asks (h := h) hf
      rw [show (askField h.q (fieldOnTask h h.q u)).1 = none from ha] at asks
      exact run.trans (congrArg Host.Outcome.next asks)
    · have asks := fieldOnRun_asks (h := h) hf
      rw [show (askField h.q (fieldOnTask h h.q u)).1 = some (code, d) from ha] at asks
      exact run.trans (congrArg Host.Outcome.next asks)
  · intro p s hb hf hw ho v w ha
    rw [askField_starts hf hw ho]
    exact startField_asks hb ha
  · intro t h s ht u hn htask hparked hc hnew hq
    have run : exec (.fieldOff t h) s = .next (fieldOffRun h h.q u) := congrArg Host.Outcome.next (hostCmd_works_ahead rfl ht)
    refine ⟨fun hf hw => ?_, fun hf => ⟨_, run, fieldOffRun_on hn htask hparked hq hf⟩⟩
    rw [run, fieldOffRun_off hn htask hparked hc hnew hf hw]

end Sys2Proof.Machine

end


section
/-!
SUPPORT. What ends a field that stands, and the power loop (R85, R87, R90, R91).
-/

namespace Sys2Proof.Machine

set_option Elab.async false

variable {s : State}

/-! ### What ends a field (R85, R90, R91) -/

/-- A full duty window fails the field. -/
theorem dutyRun_full {p lim : Nat} (hl : leadIn s s.cfg.running p = none) (hf : (port s p).radio.phase = .on)
    (hd : dutyLimit s p = some lim) (hn : lim ≤ dutyTicks s p) :
    dutyRun p s = goOn p (failField p E.dutyLimit { port := p } (raise Ev.dutyLimit p (le 2 (dutyTicks s p / 27120)) s)) := by
  simp [dutyRun, hl, hd, hf, Nat.not_lt.mpr hn]

/-- The mismatch of the load is noted. -/
theorem mismatchRun_low {p vswr : Nat} (hv : vswr ≤ 300) : mismatchRun p vswr s = modRadio p (fun r => { r with vswr := vswr }) s := by
  simp [mismatchRun, hv]

/-- Above 3.00 it fails a field that stands. -/
theorem mismatchRun_high {p vswr : Nat} (hl : leadIn s s.cfg.running p = none) (hf : (port s p).radio.phase = .on) (hv : 300 < vswr) :
    mismatchRun p vswr s = goOn p (failField p E.portMismatch { port := p, arg1 := (vswr : Int) }
      (raise Ev.portMismatch p (le 2 vswr) (modRadio p (fun r => { r with vswr := vswr }) s))) := by
  have phase : (port (modRadio p (fun r => { r with vswr := vswr }) s) p).radio.phase = .on :=
    (modRadio_keeps (·.radio.phase) (f := fun r => { r with vswr := vswr }) (fun _ => rfl) ..).trans hf
  simp [mismatchRun, hl, drives, phase, Nat.not_le.mpr hv]

/-- A failed power loop counts towards the PA monitor of the slice and fails the field. -/
theorem paLoopRun_fails {p : Nat} (hl : leadIn s s.cfg.running p = none) (hf : (port s p).radio.phase = .on)
    (hv : (port s p).radio.vswr ≤ 300) :
    paLoopRun p s = goOn p (failField p E.paLoop { port := p } (countWear 2 (sliceOf s p) s)) := by
  simp [paLoopRun, hl, hf, Nat.not_lt.mpr hv]

/-! ### The power loop (R87, R88, R325) -/

/-- What freezes the power loop of a port: a downlink frame, a window, a change of the Q damping, the 256 ticks after a change of the set's vector. -/
def loopFrozen (s : State) (p : Nat) : Bool :=
  ((port s p).air.txEnd.any fun e => s.now < e) || (port s p).air.win.isSome || qdMoves s p
    || (port s p).prism.movedAt.any fun b => s.now < b + 256

theorem loopFrozen_iff (s : State) (p : Nat) : loopFrozen s p = true ↔
    (∃ e, (port s p).air.txEnd = some e ∧ s.now < e) ∨ (port s p).air.win.isSome = true ∨ qdMoves s p = true
      ∨ ∃ b, (port s p).prism.movedAt = some b ∧ s.now < b + 256 := by
  simp [loopFrozen, Option.any_eq_true, or_assoc]

/-- One step of the loop on the slice of a port. -/
def loopStep (p : Nat) (err : Int) (s : State) (y : Slice) : Slice :=
  { y with drive := y.drive + max (-5) (min 5 (-err)), segments := 1 + Config.paSegments (port s p).radio.power % 8 }

/-- On a field that is on the loop takes its step where nothing freezes it, and a loop that has settled credits a lowered set power. -/
theorem loopRun_eq {p : Nat} {err : Int} (hl : leadIn s s.cfg.running p = none) (hf : (port s p).radio.phase = .on) :
    loopRun p err s = if loopFrozen s p then s
      else if mag err ≤ 10 then creditLoop p p (modSlice p (loopStep p err s) s) else modSlice p (loopStep p err s) s := by
  unfold loopRun loopFrozen loopStep
  simp only [hl, Option.getD_none, hf]
  cases (port s p).air.txEnd <;> cases (port s p).prism.movedAt <;> simp

theorem loopRun_frozen {p : Nat} {err : Int} (hl : leadIn s s.cfg.running p = none) (hf : (port s p).radio.phase = .on)
    (hm : loopFrozen s p = true) : loopRun p err s = s := by
  rw [loopRun_eq hl hf, if_pos hm]

theorem creditLoop_none {p l : Nat} (hc : (port s l).radio.credit = none) : creditLoop p l s = s := by simp [creditLoop, hc]

theorem loopRun_acts {p : Nat} {err : Int} (hl : leadIn s s.cfg.running p = none) (hf : (port s p).radio.phase = .on)
    (hm : ¬ loopFrozen s p = true) (hc : (port s p).radio.credit = none) : loopRun p err s = modSlice p (loopStep p err s) s := by
  rw [loopRun_eq hl hf, if_neg hm, creditLoop_none (s := modSlice p (loopStep p err s) s) hc, ite_self]

theorem sliceAt_modSlice_self {p : Nat} (f : Slice → Slice) (h : sliceOf s p < s.slices.length) : sliceAt (modSlice p f s) p = f (sliceAt s p) :=
  nth_upd_self _ _ _ h

/-- Settles O16: each row by what its run does on a field that is on. -/
theorem fieldFailuresAndPower : Obligations.FieldFailuresAndPower := by
  unfold Obligations.FieldFailuresAndPower
  refine ⟨?_, ?_⟩
  · intro t p s hf hl u
    refine ⟨fun lim hd hn => ?_, fun vswr hv => ?_, fun vswr hv => ?_, fun hv => ?_⟩
    · exact congrArg Host.Outcome.next (dutyRun_full (s := u) hl hf hd hn)
    · exact congrArg Host.Outcome.next (mismatchRun_high (s := u) hl hf hv)
    · exact congrArg Host.Outcome.next (mismatchRun_low (s := u) hv)
    · exact congrArg Host.Outcome.next (paLoopRun_fails (s := u) hl hf hv)
  · intro t p err s hl hf moves
    have frozen : loopFrozen (advance t s) p = true ↔ moves := loopFrozen_iff ..
    refine ⟨fun hm hc hs => ?_, fun hm => congrArg Host.Outcome.next (loopRun_frozen (s := advance t s) hl hf (frozen.mpr hm))⟩
    refine ⟨_, congrArg Host.Outcome.next (loopRun_acts (s := advance t s) hl hf (mt frozen.mp hm) hc), ?_, rfl⟩
    rw [sliceAt_modSlice_self (s := advance t s) _ hs]
    rfl

end Sys2Proof.Machine

end


section
/-!
SUPPORT. Slices: their transitions, the lock of their synthesisers, and what a lock that fails or is lost does (R63, R69, R72 to R74).
-/

namespace Sys2Proof.Machine

set_option Elab.async false

variable {s : State}

/-! ### Transitions and the lock (R63, R69, R71) -/

theorem sliceRun_alone {p : Nat} (hl : leadIn s s.cfg.running p = none) :
    sliceRun p s = tryArm p (runPending p (modSlice p (sliceStep s.now) s)) := by simp [sliceRun, hl]

theorem prismCal_alone {p : Nat} (hm : members s p = []) : prismCal p s = s := by simp [prismCal, hm]

/-- With no command nothing stands in the pending slot. -/
theorem runPending_none {p : Nat} (ht : (port s p).task = none) : runPending p s = s := by simp [runPending, ht]

/-- A synthesiser that calibrates locks; on a port without a set and without work nothing else changes before the ramp up is armed. -/
theorem lockRun_locks {p : Nat} {margin : Int} (hl : leadIn s s.cfg.running p = none) (hc : (sliceAt s p).calSince.isSome = true) :
    ∃ v, lockRun p margin s = tryArm p v
      ∧ (members s p = [] → (port s p).task = none → v = modSlice p (lockSlice margin) s) := by
  obtain ⟨n, hn⟩ := Option.isSome_iff_exists.mp hc
  unfold lockRun
  simp only [hl, hn, Option.isNone_some, Bool.false_eq_true, if_false, Option.getD_none]
  refine ⟨_, rfl, fun hm ht => ?_⟩
  have cal : prismCal p (modSlice p (lockSlice margin) s) = modSlice p (lockSlice margin) s := prismCal_alone hm
  have pend : runPending p (modSlice p (lockSlice margin) s) = modSlice p (lockSlice margin) s := runPending_none ht
  simp [cal, pend, ht]

/-- The 100 µs are over while a FIELD_ON waits: the slice goes towards STANDBY, and the command fails. -/
theorem lockTimeoutRun_fails {p n : Nat} {w : Want} {k : Task} (hl : leadIn s s.cfg.running p = none) (hc : (sliceAt s p).calSince = some n)
    (hw : (port s p).radio.want = some w) (hn : max n w.since + usT 100 ≤ s.now) (hf : (port s p).radio.phase = .off)
    (ht : (port s p).task = some k) (hk : k.proc = .fieldOn) :
    lockTimeoutRun p s = goOn p (settle p (dropWant p (taskFail p E.synthUnlocked { port := p } (pressDrop p
      (modSlice p (fun x => { x with target := .standby, calSince := none, locked := false, failAt := some s.now }) s))))) := by
  obtain ⟨hdr, op, rx, proc, ending, ofPass⟩ := k
  subst hk
  have off_gap : (FieldPhase.off == FieldPhase.gap) = false := rfl
  have due : ¬ s.now < max 0 (max n w.since) + usT 100 := by omega
  simp only [lockTimeoutRun, hl, Option.getD_none, hc, hw, ht, hf, due, off_gap, port_pressDrop, port_modSlice, Option.isSome_some, Bool.true_or,
    Bool.not_true, decide_false, Bool.or_self, Bool.false_eq_true, if_true, if_false]

/-! ### The lock is lost (R73, R74) -/

theorem lockLostRun_small {p : Nat} {phaseErr : Int} (h : phaseErr.natAbs ≤ 800) : lockLostRun p phaseErr s = s := by
  simp [lockLostRun, mag, h]

theorem lockLostRun_cuts {p : Nat} {phaseErr : Int} (hl : leadIn s s.cfg.running p = none) (hf : (port s p).radio.phase = .on)
    (h : 800 < phaseErr.natAbs) : lockLostRun p phaseErr s =
      (let w := cutField p (abortWork p E.synthUnlocked { port := p } s)
      goOn p (raise Ev.synthLockLost p (leI 2 phaseErr)
        (modSlice p (fun x => { x with locked := false, calSince := some w.now, lossAt := some w.now }) w))) := by
  simp [lockLostRun, mag, hl, hf, Nat.not_le.mpr h]

/-- A second mark within 1 s of the last is a slice fault. -/
theorem faultAgain_eq {inst a b : Nat} {mark : Slice → Option Nat} {u v : State} (ha : mark (nth u.slices inst {}) = some a)
    (hb : mark (nth v.slices inst {}) = some b) : faultAgain inst mark u v =
      if a < b ∧ b ≤ a + msT 1000 then emergencyRun 1 inst (Config.testPasses v.free inst) (drawn v) else v := by
  simp only [faultAgain, ha, hb, Bool.and_eq_true, decide_eq_true_eq]

/-- Without a new mark there is no fault. -/
theorem faultAgain_same (inst : Nat) (mark : Slice → Option Nat) (u : State) : faultAgain inst mark u u = u := by
  cases h : mark (nth u.slices inst {}) with
  | none => simp only [faultAgain, h]
  | some a => rw [faultAgain_eq h h, if_neg (by omega)]

/-- Settles O17: each row by its run on a port without a set, the slice fault by `faultAgain_eq`. -/
theorem slicesStepLockAndLose : Obligations.SlicesStepLockAndLose := by
  unfold Obligations.SlicesStepLockAndLose
  refine ⟨?_, ?_, fun inst a b mark u v ha hb => ⟨fun h h' => ?_, fun h => ?_⟩⟩
  · intro t p s hl u
    refine ⟨?_, fun margin hc hs => ?_, ?_⟩
    · exact congrArg (fun v => Host.Outcome.next (noteSkipped v)) (sliceRun_alone (s := u) hl)
    · obtain ⟨v, hv, alone⟩ := lockRun_locks (s := u) (margin := margin) hl hc
      refine ⟨v, congrArg (fun v => Host.Outcome.next (noteSkipped v)) hv, fun hm ht => ?_⟩
      have slice : sliceAt v p = lockSlice margin (sliceAt s p) := by
        rw [alone hm ht]
        exact sliceAt_modSlice_self (s := u) _ hs
      rw [slice, alone hm ht]
      exact ⟨rfl, rfl, rfl, rfl⟩
    · intro n w k hc hw hn hf x ht hk
      exact congrArg (fun v => Host.Outcome.next (faultAgain (sliceOf u p) Slice.failAt u v)) (lockTimeoutRun_fails (s := u) hl hc hw hn hf ht hk)
  · intro t p phaseErr s hl hf u w
    refine ⟨fun h => ?_, fun h => ?_⟩
    · exact congrArg (fun v => Host.Outcome.next (faultAgain (sliceOf u p) Slice.lossAt u v)) (lockLostRun_cuts (s := u) hl hf h)
    · show Host.Outcome.next (faultAgain (sliceOf u p) Slice.lossAt u (lockLostRun p phaseErr u)) = _
      rw [lockLostRun_small h, faultAgain_same]
  · rw [faultAgain_eq ha hb, if_pos ⟨h, h'⟩]
  · rw [faultAgain_eq ha hb, if_neg (by omega)]

end Sys2Proof.Machine

end


section
/-!
SUPPORT. The noise floors and Mirror's training (R137, R140, R141, R145, R146).
-/

namespace Sys2Proof.Machine

set_option Elab.async false

variable {s : State}

/-! ### The receive side of a port -/

theorem rx_modRx_self {p : Nat} (f : Rx → Rx) (hp : p < s.ports.length) : (port (modRx p f s) p).rx = f (port s p).rx :=
  congrArg Port.rx (port_modPort_self _ s hp)

theorem modRx_keeps {α : Type} (g : Port → α) {f : Rx → Rx} (hf : ∀ x, g { x with rx := f x.rx } = g x) (p q : Nat) (s : State) :
    g (port (modRx q f s) p) = g (port s p) := port_modPort_keeps g hf ..

/-- A port in no set leads itself. -/
theorem leadOf_alone {p : Nat} (hl : leadIn s s.cfg.running p = none) : leadOf s p = p := by simp [leadOf, hl]

/-! ### The noise floors (R137) -/

theorem rx_noteOff {p : Nat} {level : Int} (hp : p < s.ports.length) : (port (noteOff p level s) p).rx =
    { (port s p).rx with noise := some (mean8 (port s p).rx.noise level), noiseAt := some s.now } := rx_modRx_self _ hp

/-- Whether a floor is due again so many ms after it was last measured; before the first measurement it is. -/
def floorDue (last : Option Nat) (ms now : Nat) : Prop := ∀ n, last = some n → n + msT ms ≤ now

theorem floorDue_none (ms now : Nat) : floorDue none ms now := nofun

theorem floorDue_some {n ms now : Nat} (h : n + msT ms ≤ now) : floorDue (some n) ms now := fun _ e => Option.some.inj e ▸ h

/-- On a listening port without field, request and work a measurement that is due enters the field-off floor. -/
theorem noiseRun_off {p : Nat} {level : Int} {prof : Option (List Int)} (hs : s.mod.st = .service) (hl : listening s p = true)
    (hd : leadIn s s.cfg.running p = none) (hf : (port s p).radio.phase = .off) (hw : (port s p).radio.want = none)
    (ht : (port s p).task = none) (hn : floorDue (port s p).rx.noiseAt 100 s.now) :
    noiseRun p false level prof s = noteOff p level s := by
  cases hat : (port s p).rx.noiseAt with
  | none => simp [noiseRun, leadOf_alone hd, hs, hl, hf, hw, ht, hat]
  | some n => simp [noiseRun, leadOf_alone hd, hs, hl, hf, hw, ht, hat, hn n hat]

/-- In a carrier that has stood unmodulated for 80 µs a measurement that is due enters the field-on floor, and may form the profile too. -/
theorem noiseRun_field {p : Nat} {level : Int} {prof : Option (List Int)} (hs : s.mod.st = .service) (hl : listening s p = true)
    (hd : leadIn s s.cfg.running p = none) (hf : (port s p).radio.phase = .on) (hx : (port s p).air.txEnd = none)
    (hw : (port s p).air.win = none) (hi : (port s p).air.idleSince + usT 80 ≤ s.now) (hn : floorDue (port s p).rx.noiseFieldAt 10 s.now) :
    noiseRun p true level prof s = noteField p level s
      ∨ ∃ xs, noiseRun p true level prof s = noteProfile p xs (noteField p level s) := by
  have run : noiseRun p true level prof s = prof.elim (noteField p level s) fun xs =>
      if xs.length == 16 && (port s p).air.idleSince + usT 100 ≤ s.now then noteProfile p xs (noteField p level s) else noteField p level s := by
    cases hat : (port s p).rx.noiseFieldAt with
    | none => cases prof <;> simp [noiseRun, leadOf_alone hd, hs, hl, hf, hx, hw, hi, hat]
    | some n => cases prof <;> simp [noiseRun, leadOf_alone hd, hs, hl, hf, hx, hw, hi, hat, hn n hat]
  rw [run]
  cases prof with
  | none => exact .inl rfl
  | some xs =>
    rw [Option.elim_some]
    split
    · exact .inr ⟨xs, rfl⟩
    · exact .inl rfl

/-- Before that it is not taken. -/
theorem noiseRun_modulated {p : Nat} {level : Int} {prof : Option (List Int)} (hd : leadIn s s.cfg.running p = none)
    (hi : s.now < (port s p).air.idleSince + usT 80) : noiseRun p true level prof s = s := by
  simp [noiseRun, leadOf_alone hd, Nat.not_le.mpr hi]

/-- A level up to the alarm ends the run of high ones, and nothing is told. -/
theorem noteField_low {p : Nat} {level : Int} (ha : level ≤ pAttr s A.rxNoiseAlarmCdbm p) : noteField p level s = modRx p (fun r => { r with
    noiseField := some (mean8 r.noiseField level), noiseFieldAt := some s.now, noiseRun := 0,
    noiseTold := (port s p).rx.noiseTold && level > pAttr s A.rxNoiseAlarmCdbm p - 300 }) s := by
  simp [noteField, Int.not_lt.mpr ha]

/-- The field-on floor of a port, when it was measured, and its run above the alarm. -/
def fieldFloor (x : Port) : Option Int × Option Nat × Nat := (x.rx.noiseField, x.rx.noiseFieldAt, x.rx.noiseRun)

theorem fieldFloor_noteField {p : Nat} {level : Int} (hp : p < s.ports.length) (ha : level ≤ pAttr s A.rxNoiseAlarmCdbm p) :
    fieldFloor (port (noteField p level s) p) = (some (mean8 (port s p).rx.noiseField level), some s.now, 0) := by
  rw [noteField_low ha, fieldFloor, rx_modRx_self _ hp]

theorem fieldFloor_noteProfile (p : Nat) (xs : List Int) (s : State) :
    fieldFloor (port (noteProfile p xs s) p) = fieldFloor (port s p) := by
  refine modRx_keeps fieldFloor (fun _ => ?_) ..
  rfl

/-- A measurement that is taken gives that floor, with the profile or without. -/
theorem fieldFloor_noiseRun {p : Nat} {level : Int} {prof : Option (List Int)} (hp : p < s.ports.length) (hs : s.mod.st = .service)
    (hl : listening s p = true) (hd : leadIn s s.cfg.running p = none) (hf : (port s p).radio.phase = .on)
    (hx : (port s p).air.txEnd = none) (hw : (port s p).air.win = none) (hi : (port s p).air.idleSince + usT 80 ≤ s.now)
    (hn : floorDue (port s p).rx.noiseFieldAt 10 s.now) (ha : level ≤ pAttr s A.rxNoiseAlarmCdbm p) :
    fieldFloor (port (noiseRun p true level prof s) p) = (some (mean8 (port s p).rx.noiseField level), some s.now, 0) := by
  obtain run | ⟨xs, run⟩ := noiseRun_field (level := level) (prof := prof) hs hl hd hf hx hw hi hn
  · rw [run, fieldFloor_noteField hp ha]
  · rw [run, fieldFloor_noteProfile, fieldFloor_noteField hp ha]

/-! ### Mirror (R141, R145, R146) -/

/-- MIRROR_TRAIN is noted and takes its ports where no field bars it. -/
theorem mirrorTrainRun_takes {h : Hdr} {ports us : Nat} (hi : interlocked s = false) (hf : ∀ p ∈ portsOf ports, portFielded s p = false)
    (h0 : ports ≠ 0) : mirrorTrainRun h ports us s = (portsOf ports).foldl (fun s p => holdMirror p s)
      { s with mirrorJob := some { hdr := h, ports := ports, held := 0, timeout := usT us } } := by
  have none_fielded : (portsOf ports).find? (portFielded s) = none := List.find?_eq_none.mpr fun p hp => by simp [hf p hp]
  simp only [mirrorTrainRun, hi, none_fielded, beq_iff_eq, h0, Bool.false_eq_true, if_false]

/-- Of the couplings read, those into ports of the mask, from each other and from the fields that stand outside it (R145). -/
def measuredInto (ports : Nat) (coupling : List (Nat × Nat × Int)) (s : State) : List (Nat × Nat × Int) :=
  coupling.filter fun e => e.1 != e.2.1 && (bit ports e.1 || (sliceAt s e.1).st == .field) && bit ports e.2.1

/-- A training that Press has granted puts what it measured in the place of the old couplings and ends the command. -/
theorem trainingRun_granted {j : MirrorJob} {coupling : List (Nat × Nat × Int)} (hj : s.mirrorJob = some j) (hg : j.granted = true)
    (hd : s.mod.st ≠ .doze) : trainingRun coupling s =
      (let mine := measuredInto j.ports coupling s
      let w := trainFilters mine s
      endMirror (ok j.hdr 0x25 (le 8 j.ports) { w with
        coupling := (s.coupling.filter fun e => !(mine.any fun x => x.1 == e.1 && x.2.1 == e.2.1)) ++ mine,
        mod := { w.mod with trained := w.mod.trained ||| j.ports } })) := by
  have awake : (s.mod.st == ModState.doze) = false := beq_eq_false_iff_ne.mpr hd
  simp only [trainingRun, hj, hg, awake, Bool.not_true, Bool.or_self, Bool.false_eq_true, if_false, measuredInto]

/-- Without a grant no training runs. -/
theorem trainingRun_not_granted {coupling : List (Nat × Nat × Int)} (hg : (s.mirrorJob.map (·.granted)).getD false = false) :
    trainingRun coupling s = s := by
  cases hj : s.mirrorJob with
  | none => simp only [trainingRun, hj]
  | some j =>
    have : j.granted = false := by simpa [hj] using hg
    simp [trainingRun, hj, this]

/-- Settles O19: the commands by their work in the state of their turn, a measurement by `noiseRun_off` and `noiseRun_field`. -/
theorem noiseAndMirror : Obligations.NoiseAndMirror := by
  unfold Obligations.NoiseAndMirror
  refine ⟨⟨fun t h ports s ht => congrArg Host.Outcome.next (hostCmd_works rfl ht), ?_⟩, fun t s => ⟨?_, ?_, ?_⟩⟩
  · intro t p level prof s hs hl hd hp u
    refine ⟨fun hf hw hk => ?_, fun hf hx hw => ⟨fun hi hat hfloor ha => ?_, fun hi => ?_⟩⟩
    · have taken (hn : floorDue (port s p).rx.noiseAt 100 u.now) : ∃ v, exec (.noiseMeasurement t p false level prof) s = .next v
          ∧ (port v p).rx.noise = some (mean8 (port s p).rx.noise level) ∧ (port v p).rx.noiseAt = some u.now := by
        refine ⟨_, congrArg Host.Outcome.next (noiseRun_off (s := u) hs hl hd hf hw hk hn), ?_⟩
        rw [rx_noteOff (s := u) hp]
        exact ⟨rfl, rfl⟩
      refine ⟨fun hat hnoise => ?_, fun n old hat hnoise hn => ?_⟩
      · rw [hat, hnoise] at taken
        exact taken (floorDue_none _ _)
      · rw [hat, hnoise] at taken
        exact taken (floorDue_some hn)
    · have due : floorDue (port s p).rx.noiseFieldAt 10 u.now := hat ▸ floorDue_none _ _
      have floor : fieldFloor (port (noiseRun p true level prof u) p) = (some (mean8 (port s p).rx.noiseField level), some u.now, 0) :=
        fieldFloor_noiseRun (s := u) hp hs hl hd hf hx hw hi due ha
      rw [hfloor] at floor
      simp only [fieldFloor, Prod.mk.injEq] at floor
      exact ⟨_, rfl, floor⟩
    · exact congrArg Host.Outcome.next (noiseRun_modulated (s := u) hd hi)
  · intro h ports us ht u hi hf h0
    exact congrArg Host.Outcome.next ((hostCmd_works rfl ht).trans (mirrorTrainRun_takes hi hf h0))
  · intro j coupling hj hg hd
    exact congrArg (fun v => Host.Outcome.next (noteSkipped v)) (trainingRun_granted (s := advance t s) hj hg hd)
  · intro hg coupling
    exact congrArg (fun v => Host.Outcome.next (noteSkipped v)) (trainingRun_not_granted (s := advance t s) hg)

end Sys2Proof.Machine

end


section
/-!
SUPPORT. How a frame is found in an open window: syncs, headers, ISO starts of frame and the fast AGC (R124, R135, R152 to R159).
-/

namespace Sys2Proof.Machine

set_option Elab.async false

variable {s : State}

/-! ### The window of a port -/

theorem air_modAir_self {p : Nat} (f : Air → Air) (hp : p < s.ports.length) : (port (modAir p f s) p).air = f (port s p).air :=
  congrArg Port.air (port_modPort_self _ s hp)

/-- A change of the window changes the window that is open. -/
theorem win_modWin_self {p : Nat} {w : Window} (f : Window → Window) (hp : p < s.ports.length) (hw : (port s p).air.win = some w) :
    (port (modWin p f s) p).air.win = some (f w) := by
  rw [modWin, air_modAir_self _ hp, hw]
  rfl

@[simp] theorem length_ports_modWin (p : Nat) (f : Window → Window) (s : State) : (modWin p f s).ports.length = s.ports.length := length_upd ..

/-- A change of the window leaves what does not read the air side of a port. -/
theorem modWin_keeps {α : Type} (g : Port → α) (hg : ∀ x a, g { x with air := a } = g x) (p q : Nat) (f : Window → Window) (s : State) :
    g (port (modWin q f s) p) = g (port s p) := port_modPort_keeps g (fun _ => hg _ _) ..

/-! ### Syncs (R152, R153) -/

/-- The frame of a sync: an equaliser trains on it. -/
def syncFrame (p : Nat) (w : Window) (errs corr : Nat) (strength : Int) (s : State) : Held :=
  { tick := s.now, errs := errs, corr := corr, strength := strength, gain := w.gain, fast := w.fast, header := none,
    eq := trainEq s.free (w.mode - 0x10) s.now, paths := pathWeights s s.free p }

/-- A sync of the window's kind within the limits of the port is held in a window that holds no frame and is still open. -/
theorem syncRun_holds {p errs corr : Nat} {h4 : Bool} {strength : Int} {w : Window} (hw : (port s p).air.win = some w) (hm : 0x10 ≤ w.mode)
    (hc : s.now ≤ w.closeAt) (hh : w.held = none) (hk : h4 = true ↔ w.mode = 0x14) (he : errs ≤ pAttrN s A.rxSyncErrors p)
    (hr : pAttrN s A.rxSyncThreshold p ≤ corr) :
    syncRun p h4 errs corr strength s = holdFrame p (syncFrame p w errs corr strength s) (drawn s) := by
  have kind : (w.mode == 0x14) = h4 := Bool.eq_iff_iff.mpr (beq_iff_eq.trans hk.symm)
  simp only [syncRun, hw, hh, kind, Nat.not_lt.mpr hc, Nat.not_lt.mpr hm, he, hr, decide_true, decide_false, bne_self_eq_false,
    Bool.and_self, Bool.false_and, Bool.not_true, Bool.or_self, Bool.false_eq_true, if_false, syncFrame]

/-! ### Headers (R154, R155) -/

/-- A header whose check passes and that names an enabled mode and an admissible length is held with its frame. -/
theorem headerRun_holds {p header check : Nat} {w : Window} {k : Held} (hw : (port s p).air.win = some w) (hm : 0x10 ≤ w.mode)
    (hk : w.held = some k) (hn : k.header = none) (hc : check = crc16 (le 6 header)) (he : headerError s p header = none) :
    headerRun p header check s =
      (let k' := { k with header := some header, eq := headerEq s.free (hMode header) k.eq }
      holdFrame p k' (dateQd p k' (drawn s))) := by
  have same : headerError (drawn s) p header = none := he
  simp [headerRun, hw, hk, hn, hc, Nat.not_lt.mpr hm, same]

/-- A header whose check fails is a false sync. -/
theorem headerRun_false {p header check : Nat} {w : Window} {k : Held} (hw : (port s p).air.win = some w) (hm : 0x10 ≤ w.mode)
    (hk : w.held = some k) (hn : k.header = none) (hc : check ≠ crc16 (le 6 header)) :
    headerRun p header check s = letGo p id (falseSync p s) := by
  simp [headerRun, hw, hk, hn, hc, Nat.not_lt.mpr hm]

/-- Where nothing is ending the command of a port, the search goes on. -/
theorem endQuiet_search {p : Nat} (ht : ∀ x, (port s p).task = some x → x.ending = none) : endQuiet p s = s := by
  unfold endQuiet
  split
  · next h => cases ht _ h
  · rfl

/-- Before its close a window lets a frame go and stays open. -/
theorem letGo_open {p : Nat} {f : Window → Window} {w : Window} (hp : p < s.ports.length) (hw : (port s p).air.win = some w)
    (hc : s.now < (f w).closeAt) (ht : ∀ x, (port s p).task = some x → x.ending = none) :
    letGo p f s = modWin p (fun w => { f w with held := none }) s := by
  have win := win_modWin_self (fun w => { f w with held := none }) hp hw
  have now : ¬ (modWin p (fun w => { f w with held := none }) s).now ≥ (f w).closeAt := Nat.not_le.mpr hc
  simp only [letGo, win, now, if_false]
  exact endQuiet_search fun x hx => ht x ((modWin_keeps (·.task) (fun _ _ => rfl) ..).symm.trans hx)

/-- A false sync is counted in its window and for the port. -/
theorem falseSync_win {p : Nat} {w : Window} (hp : p < s.ports.length) (hw : (port s p).air.win = some w) :
    (port (falseSync p s) p).air.win = some { w with dropped := w.dropped + 1 } :=
  win_modWin_self _ (by simpa only [modRx, modPort, length_upd] using hp)
    ((modRx_keeps (·.air.win) (f := fun r => { r with falseSync := inc32 r.falseSync }) (fun _ => rfl) ..).trans hw)

theorem falseSync_rx {p : Nat} (hp : p < s.ports.length) :
    (port (falseSync p s) p).rx = { (port s p).rx with falseSync := inc32 (port s p).rx.falseSync } :=
  (modWin_keeps (·.rx) (fun _ _ => rfl) ..).trans (rx_modRx_self _ hp)

theorem falseSync_task (p : Nat) (s : State) : (port (falseSync p s) p).task = (port s p).task :=
  (modWin_keeps (·.task) (fun _ _ => rfl) ..).trans
    (modRx_keeps (·.task) (f := fun r => { r with falseSync := inc32 r.falseSync }) (fun _ => rfl) ..)

theorem length_ports_falseSync (p : Nat) (s : State) : (falseSync p s).ports.length = s.ports.length :=
  (length_ports_modWin ..).trans (length_upd ..)

/-- After a false sync before the close the window holds no frame. -/
theorem letGo_falseSync {p : Nat} {w : Window} (hp : p < s.ports.length) (hw : (port s p).air.win = some w) (hc : s.now < w.closeAt)
    (ht : ∀ x, (port s p).task = some x → x.ending = none) :
    (port (letGo p id (falseSync p s)) p).air.win = some { w with held := none, dropped := w.dropped + 1 }
      ∧ (port (letGo p id (falseSync p s)) p).rx.falseSync = inc32 (port s p).rx.falseSync := by
  have len : p < (falseSync p s).ports.length := (length_ports_falseSync p s).symm ▸ hp
  have win := falseSync_win hp hw
  rw [letGo_open (f := id) len win hc (by rw [falseSync_task]; exact ht), win_modWin_self _ len win, modWin_keeps (·.rx.falseSync) (fun _ _ => rfl),
    falseSync_rx hp]
  exact ⟨rfl, rfl⟩

/-! ### ISO starts of frame and the fast AGC (R135, R159) -/

/-- A start of frame 9 dB above the field-on floor, or any before there is one, is held. -/
theorem sofRun_holds {p : Nat} {energy strength : Int} {w : Window} (hw : (port s p).air.win = some w) (hh : w.held = none)
    (hc : s.now ≤ w.closeAt) (hm : w.mode < 0x10) (hf : ∀ f, (port s p).rx.noiseField = some f → f + 900 ≤ energy) :
    sofRun p energy strength s = holdFrame p
      { tick := s.now, errs := 0, corr := 0, strength := strength, gain := w.gain, fast := w.fast, header := some 0,
        paths := pathWeights s s.free p } (drawn s) := by
  cases hn : (port s p).rx.noiseField with
  | none => simp [sofRun, hw, hh, hn, Nat.not_lt.mpr hc, Nat.not_le.mpr hm]
  | some f => simp [sofRun, hw, hh, hn, Nat.not_lt.mpr hc, Nat.not_le.mpr hm, hf f hn]

theorem sofRun_weak {p : Nat} {energy strength f : Int} (hn : (port s p).rx.noiseField = some f) (he : energy < f + 900) :
    sofRun p energy strength s = s := by
  cases hw : (port s p).air.win with
  | none => simp only [sofRun, hw]
  | some w => simp [sofRun, hw, hn, Int.not_le.mpr he]

/-- A block that clips during the search takes 3 gain steps off. -/
theorem agcRun_clips {p : Nat} {level : Int} {w : Window} (hp : p < s.ports.length) (hw : (port s p).air.win = some w) (hf : w.fast = true)
    (hh : w.held = none) (hc : s.now ≤ w.closeAt) : (port (agcRun p level true s) p).air.win = some { w with gain := w.gain - 3 } := by
  rw [agcRun, win_modWin_self _ hp hw]
  simp [hf, hh, Nat.not_lt.mpr hc]

/-- Settles O28: each row of the environment by what its run does in the open window. -/
theorem framesAreFound : Obligations.FramesAreFound := by
  unfold Obligations.FramesAreFound
  constructor
  · intro t p w s hw hm u
    refine ⟨fun h4 errs corr strength hc hh hk he hr => ?_, fun k header check hk hn => ⟨fun hc he => ?_, fun hc hp hopen ht => ?_⟩⟩
    · exact congrArg Host.Outcome.next (syncRun_holds (s := u) hw hm hc hh hk he hr)
    · exact congrArg Host.Outcome.next (headerRun_holds (s := u) hw hm hk hn hc he)
    · exact ⟨_, congrArg Host.Outcome.next (headerRun_false (s := u) hw hm hk hn hc), letGo_falseSync (s := u) hp hw hopen ht⟩
  · intro t p w s hw hh u hopen
    refine ⟨fun energy strength hm hf => ?_, fun energy strength f hn he => ?_, fun level hf hp => ?_⟩
    · exact congrArg Host.Outcome.next (sofRun_holds (s := u) hw hh hopen hm hf)
    · exact congrArg Host.Outcome.next (sofRun_weak (s := u) hn he)
    · exact ⟨_, rfl, agcRun_clips (s := u) hp hw hf hh hopen⟩

end Sys2Proof.Machine

end


section
/-!
SUPPORT. The verdict on a frame, the end of a window without one, and the waits of R278 (R123, R173, R174).
-/

namespace Sys2Proof.Machine

set_option Elab.async false

variable {s : State}

/-- The verdict on a Hymond frame held with its header goes on with its measurements (R173). -/
theorem verdictRun_judges {p hd evm code : Nat} {f : RxFrame} {m : RxMeas} {out : RxOut} {w : Window} {k : Held}
    (hw : (port s p).air.win = some w) (hm : 0x10 ≤ w.mode) (hk : w.held = some k) (hh : k.header = some hd)
    (hv : hyVerdict hd f = some (code, out)) : verdictRun p f m evm s = judge p w k m evm code out s := by
  simp only [verdictRun, hw, hk, hh, Nat.not_lt.mpr hm, if_false, hv]

/-- A window that holds no frame ends once its time has come (R123). -/
theorem windowCloseRun_ends {p : Nat} {w : Window} (hw : (port s p).air.win = some w) (hh : w.held = none) (hc : w.closeAt ≤ s.now) :
    windowCloseRun p s = windowEnd p w.closeAt { w with closed := true } s := by
  simp [windowCloseRun, hw, hh, Nat.not_lt.mpr hc]

theorem windowCloseRun_open {p : Nat} {w : Window} (hw : (port s p).air.win = some w) (hc : s.now < w.closeAt ∨ w.held.isSome = true) :
    windowCloseRun p s = s := by
  simp [windowCloseRun, hw, hc]

/-! ### The verdict on a payload (R174, R245, R247) -/

/-- A payload has the length its header names and the check over both. -/
def PayloadGood (hd : Nat) (payload : Bytes) (check : Nat) : Prop := payload.length = hLen hd ∧ check = crc32c (le 6 hd ++ payload)

/-- A good payload of a frame type 9 to 11 passes, one of another type is E_HY_FRAME. -/
theorem hyVerdict_good {hd check : Nat} {payload : Bytes} (hg : PayloadGood hd payload check) : hyVerdict hd (.hymond payload check) =
    if 9 ≤ hType hd ∧ hType hd ≤ 11 then some (0, .hymond hd payload 0) else some (E.hyFrame, .rejected E.hyFrame hd) := by
  obtain ⟨hl, hc⟩ := hg
  simp [hyVerdict, hl, hc]

theorem hyVerdict_bad {hd check : Nat} {payload : Bytes} (hg : ¬ PayloadGood hd payload check) :
    hyVerdict hd (.hymond payload check) = some (E.rxCrc, .rejected E.rxCrc hd) := by
  have bad : (payload.length != hLen hd || check != crc32c (le 6 hd ++ payload)) = true := by
    rw [Bool.or_eq_true, bne_iff_ne, bne_iff_ne]
    exact Decidable.not_and_iff_not_or_not.mp hg
  simp only [hyVerdict, bad, if_true]

/-- Settles O29: each row by its condition, and a payload by whether it is good. -/
theorem framesAreJudged : Obligations.FramesAreJudged := by
  unfold Obligations.FramesAreJudged
  refine ⟨fun t p s => ⟨?_, ?_, ?_, rfl⟩, fun hd payload check => ⟨fun hg h9 h11 _ => ?_, fun hg ht _ => ?_, fun hg _ => hyVerdict_bad hg⟩⟩
  · intro w k hd f m evm code out hw hm hk hh hv
    exact congrArg Host.Outcome.next (verdictRun_judges (s := advance t s) hw hm hk hh hv)
  · intro w hw hh hc
    exact congrArg Host.Outcome.next (windowCloseRun_ends (s := advance t s) hw hh hc)
  · intro w hw hc
    exact congrArg Host.Outcome.next (windowCloseRun_open (s := advance t s) hw hc)
  · exact (hyVerdict_good hg).trans (if_pos ⟨h9, h11⟩)
  · exact (hyVerdict_good hg).trans (if_neg (by omega))

end Sys2Proof.Machine

end


section
/-!
SUPPORT. How the ISO commands begin: the check of type, handle and state that they share, and what each then does (R188, R199, R203 to R234).
-/

namespace Sys2Proof.Machine

set_option Elab.async false

variable {s : State} {h : Hdr} {p n : Nat} {x : IsoHandle}

/-! ### The turn of an ISO command -/

/-- What a command does in the state of its turn is the outcome of taking it. -/
theorem next_of_work {i : Instr} {t op : Nat} {r : State} (hh : cmdHead i = some (op, h)) (ht : turnComes i t op h s = true)
    (hw : cmdWork i (atTurn i t op h.q s) = r) : (Host.Outcome.next (hostCmd i (advance t s)) : Host.Outcome State Fault Refusal) = .next r :=
  congrArg Host.Outcome.next ((hostCmd_works hh ht).trans hw)

/-- A command to a handle of its type, or one of either type of ISO/IEC 14443 to a handle whose type the port runs, does its work in a state that
permits it. -/
theorem isoOn_permitted {op kind : Nat} {permits : IsoHandle → Bool} {go : IsoHandle → State → State} (hr : isoRuns? s p kind = true)
    (hx : isoHandle s p n = some x) (hk : x.kind = kind ∨ (kind = 3 ∧ isoRuns? s p x.kind = true)) (hp : permits x = true) :
    isoOn h op p n kind permits s go = go x s := by
  rcases hk with rfl | ⟨rfl, hxr⟩
  · simp [isoOn, hr, hx, hp]
  · simp [isoOn, hr, hx, hxr, hp]

/-! ### Commands that name no handle -/

/-- ISO_RAW_FRAME at a permitted rate sends its frame; without KEEP every handle of the port is first UNKNOWN (R233, R234). -/
theorem isoRawRun_begins {bits rate kind us : Nat} {parity check keep : Bool} {frame : Bytes} (hr : isoRuns? s p kind = true)
    (hrate : rate ≤ pAttrN s A.isoMaxRate p ∨ kind = 2) :
    isoRawRun h p bits rate parity check keep kind us frame s =
      isoTask h 0x40 p { stage := .raw, rate := rate, parity := parity, check := check, kind := kind, bits := bits, winUs := us, data := frame } isoBegin
        (if keep then s else modIso p (fun i => { i with handles := i.handles.map fun x => { x with st := .unknown } }) s) := by
  have hin : ¬ (rate > pAttrN s A.isoMaxRate p ∧ kind ≠ 2) := by omega
  simp [isoRawRun, hr, hin]

/-- On a port that runs the type no other branch is taken. -/
theorem ite_isoRuns {kind : Nat} {a b : State} (hr : isoRuns? s p kind = true) : (if !isoRuns? s p kind then a else b) = b := by
  rw [hr]
  rfl

/-- Settles O21: each command passes the check of its type and sends its first frame. -/
theorem isoSearchesBegin : Obligations.IsoSearchesBegin := by
  unfold Obligations.IsoSearchesBegin
  intro t h s
  refine ⟨?_, ?_, ?_, ?_, ?_⟩
  · intro bits rate parity check keep kind us frame ht u w c hr hrate
    exact next_of_work rfl ht (isoRawRun_begins hr hrate)
  · intro m w ht u c hr
    exact next_of_work rfl ht (ite_isoRuns hr)
  · intro afi w ht u c hr
    exact next_of_work rfl ht (ite_isoRuns hr)
  · intro afi n m w a ht u c hr
    exact next_of_work rfl ht (ite_isoRuns hr)
  · intro afi ua sl qu l m k ht u c hr
    exact next_of_work rfl ht (ite_isoRuns hr)

/-! ### The CID of ISO_A_RATS and ISO_B_ATTRIB (R212 to R214) -/

/-- ISO_A_RATS to an ACTIVE handle asks for its CID. -/
theorem isoARatsRun_active {ask : Nat} (hr : isoRuns? s p 0 = true) (hx : isoHandle s p n = some x) (hk : x.kind = 0) (hst : x.st = .active) :
    isoARatsRun h p n ask s = match pickCid s p ask with
      | none => fail h 0x44 E.isoCidFull { port := p, handle := n } s
      | some cid => isoTask h 0x44 p { stage := .rats, handle := n, cid := cid } isoBegin s :=
  isoOn_permitted hr hx (.inl hk) (by simp [hst])

/-- ISO_B_ATTRIB sends its frame with a CID and the divisors of R215. -/
def attribTask (h : Hdr) (p n ds dr cid : Nat) (x : IsoHandle) (s : State) : State :=
  isoTask h 0x48 p { stage := .attrib, handle := n, cid := cid, dsMax := (divisors s p x.rates ds dr).1, drMax := (divisors s p x.rates ds dr).2 }
    isoBegin s

/-- ISO_B_ATTRIB to a declared tag: with CID support it asks for its CID, without it needs a free one and no other tag in PROTOCOL. -/
theorem isoBAttribRun_declared {ask ds dr : Nat} (hr : isoRuns? s p 1 = true) (hx : isoHandle s p n = some x) (hk : x.kind = 1)
    (hst : x.st = .readyDeclared) :
    isoBAttribRun h p n ask ds dr s =
      if x.cidOk then
        match pickCid s p ask with
        | none => fail h 0x48 E.isoCidFull { port := p, handle := n } s
        | some cid => attribTask h p n ds dr cid x s
      else if (freeCid s p).isNone then fail h 0x48 E.isoCidFull { port := p, handle := n } s
      else if (port s p).iso.handles.any fun y => y.st == .protocol && y.h != n then fail h 0x48 E.isoActivation { port := p, handle := n } s
      else attribTask h p n ds dr 0 x s :=
  isoOn_permitted hr hx (.inl hk) (by simp [hst])

section
variable {ask ds dr : Nat} (hr : isoRuns? s p 1 = true) (hx : isoHandle s p n = some x) (hk : x.kind = 1) (hst : x.st = .readyDeclared)
include hr hx hk hst

theorem isoBAttribRun_cid {cid : Nat} (hc : x.cidOk = true) (hp : pickCid s p ask = some cid) :
    isoBAttribRun h p n ask ds dr s = attribTask h p n ds dr cid x s := by
  simp [isoBAttribRun_declared hr hx hk hst, hc, hp]

theorem isoBAttribRun_without_cid (hc : x.cidOk = false) (hf : freeCid s p ≠ none)
    (hy : ∀ y ∈ (port s p).iso.handles, y.st = .protocol → y.h = n) : isoBAttribRun h p n ask ds dr s = attribTask h p n ds dr 0 x s := by
  have alone : ((port s p).iso.handles.any fun y => y.st == .protocol && y.h != n) = false := by simpa using hy
  simp [isoBAttribRun_declared hr hx hk hst, hc, hf, alone]

theorem isoBAttribRun_full (hp : x.cidOk = true → pickCid s p ask = none) (hf : x.cidOk = false → freeCid s p = none) :
    isoBAttribRun h p n ask ds dr s = fail h 0x48 E.isoCidFull { port := p, handle := n } s := by
  rw [isoBAttribRun_declared hr hx hk hst]
  cases hc : x.cidOk with
  | true => simp [hp hc]
  | false => simp [hf hc]

end

/-! ### ISO_PPS (R215) -/

/-- ISO_PPS to a tag in PROTOCOL, before its first block, asks for the divisors of R215. -/
theorem isoPpsRun_protocol {ds dr : Nat} (hr : isoRuns? s p 0 = true) (hx : isoHandle s p n = some x) (hk : x.kind = 0) (hst : x.st = .protocol)
    (hu : x.used = false) : isoPpsRun h p n ds dr s =
      isoTask h 0x45 p { stage := .pps, handle := n, dsMax := (divisors s p x.rates ds dr).1, drMax := (divisors s p x.rates ds dr).2 } isoBegin s :=
  isoOn_permitted hr hx (.inl hk) (by simp [hst, hu])

/-! ### ISO_FORGET -/

theorem isoForgetRun_one (hp : pAttr s A.protocol p = 1 ∨ pAttr s A.protocol p = 2) (hn : n ≠ 0xFFFF) (hx : isoHandle s p n = some x) :
    isoForgetRun h p n s = ok h 0x4C [] (modIso p (fun i => { i with handles := i.handles.filter fun x => x.h != n }) s) := by
  have runs : (pAttr s A.protocol p == 1 || pAttr s A.protocol p == 2) = true := by simpa using hp
  simp [isoForgetRun, runs, hn, hx]

theorem isoForgetRun_all (hp : pAttr s A.protocol p = 1 ∨ pAttr s A.protocol p = 2) :
    isoForgetRun h p 0xFFFF s = ok h 0x4C [] (modIso p (fun i => { i with handles := [] }) s) := by
  have runs : (pAttr s A.protocol p == 1 || pAttr s A.protocol p == 2) = true := by simpa using hp
  simp [isoForgetRun, runs]

/-! ### ISO_V_COMMAND (R229 to R232) -/

/-- With a handle ISO_V_COMMAND is addressed to its tag. -/
theorem isoVCommandRun_addressed {code mfg : Nat} {option writeClass repeatable : Bool} {params : Bytes} (hn : n ≠ 0) :
    isoVCommandRun h p n code option writeClass repeatable mfg params s =
      isoOn h 0x51 p n 2 (fun x => x.st == .ready || x.st == .selected || x.st == .quiet) s fun _ s =>
        isoTask h 0x51 p { stage := .vCmd, handle := n, code := code, opt := option, rep := repeatable, mfg := mfg, data := params,
                           write := vWriteCodes.contains code || (code ≥ 0xA0 && writeClass) } isoBegin s :=
  if_neg (by simpa using hn)

/-- Settles O22: a held handle of the type, in a state that permits the command, passes the checks that the commands share. -/
theorem isoTagCommandsBegin : Obligations.IsoTagCommandsBegin := by
  unfold Obligations.IsoTagCommandsBegin
  intro t h n x s
  refine ⟨?_, ?_, ?_, ?_, ?_, ?_, ?_, ?_, ?_, ?_, ?_, ?_, ?_, ?_, ?_⟩
  · intro ht u hr hx hk hst c
    exact next_of_work rfl ht (isoOn_permitted hr hx (.inl hk) (by simpa using hst))
  · intro ht u hr hx hk hst c
    exact next_of_work rfl ht (isoOn_permitted hr hx (.inl hk) (by simpa using hst))
  · intro ask cid ht u hr hx hk hst hp c
    exact next_of_work rfl ht ((isoARatsRun_active hr hx hk hst).trans (by rw [hp]; rfl))
  · intro ask ht u hr hx hk hst hp
    exact next_of_work rfl ht ((isoARatsRun_active hr hx hk hst).trans (by rw [hp]))
  · intro ds dr ht u hr hx hk hst hu c
    exact next_of_work rfl ht (isoPpsRun_protocol hr hx hk hst hu)
  · intro ask cid ds dr ht u hr hx hk hst hc hp c
    exact next_of_work rfl ht (isoBAttribRun_cid hr hx hk hst hc hp)
  · intro ask ds dr ht u hr hx hk hst c
    exact ⟨fun hc hf hy => next_of_work rfl ht (isoBAttribRun_without_cid hr hx hk hst hc hf hy),
      fun hp hf => next_of_work rfl ht (isoBAttribRun_full hr hx hk hst hp hf)⟩
  · intro ht u hr hx hk hst c
    exact next_of_work rfl ht (isoOn_permitted hr hx (.inl hk) (by simpa using hst))
  · intro apdu ht u hr hx hxr hst c
    exact next_of_work rfl ht (isoOn_permitted hr hx (.inr ⟨rfl, hxr⟩) (by simpa using hst))
  · intro ht u hr hx hxr hst c
    exact next_of_work rfl ht (isoOn_permitted hr hx (.inr ⟨rfl, hxr⟩) (by simpa using hst))
  · intro ht u hp
    refine ⟨fun hn hx => next_of_work rfl ht (isoForgetRun_one hp hn hx), fun hn => ?_⟩
    subst hn
    exact next_of_work rfl ht (isoForgetRun_all hp)
  · intro code o w r m data ht u hr hx hn hk hst c
    exact next_of_work rfl ht ((isoVCommandRun_addressed hn).trans (isoOn_permitted hr hx (.inl hk) (by simpa [or_assoc] using hst)))
  · intro ht u hr hx hk hst c
    exact next_of_work rfl ht (isoOn_permitted hr hx (.inl hk) (by simpa [or_assoc] using hst))
  · intro ht u hr hx hk hst c
    exact next_of_work rfl ht (isoOn_permitted hr hx (.inl hk) (by simpa using hst))
  · intro ht u hr hx hk hst c
    exact next_of_work rfl ht (isoOn_permitted hr hx (.inl hk) (by simpa [or_assoc] using hst))

end Sys2Proof.Machine

end


section
/-!
SUPPORT. How the Hymond commands to a handle begin: the checks that they share, in their order, and the ACK to a tag known from a header alone (R288,
R291).
-/

namespace Sys2Proof.Machine

set_option Elab.async false

variable {s : State} {h : Hdr} {p op n : Nat}

/-! ### The checks of a tag command (R288, R291) -/

/-- A handle takes commands in HEARD and ACTIVE, and HY_RESYNC in UNKNOWN too. -/
theorem hyStateBar_eq_false {st : HySt} : hyStateBar op st = false ↔ st = .heard ∨ st = .active ∨ (st = .unknown ∧ op = 0x69) := by
  cases st <;> simp [hyStateBar]

theorem hyBar_not_held {dl ul : Nat} (hx : hyHandle s p n = none) : hyBar s p op n dl ul = some E.hyHandle := by
  simp only [hyBar, hx]

section
variable {dl ul : Nat} {x : HyHandle} (hx : hyHandle s p n = some x)
include hx

theorem hyBar_state (hst : hyStateBar op x.st = true) : hyBar s p op n dl ul = some E.hyState := by
  simp only [hyBar, hx, hst, if_true]

theorem hyBar_modes_off (hst : hyStateBar op x.st = false) (hm : modesOn s p dl ul = false) : hyBar s p op n dl ul = some E.hyMode := by
  simp [hyBar, hx, hst, hm]

/-- A descriptor that lacks what a command asks bars it with E_HY_MODE, like modes that are not enabled. -/
theorem hyBar_not_declared {d : Bytes} (hst : hyStateBar op x.st = false) (hd : x.desc = some d) (ha : descAllows d dl ul op = false) :
    hyBar s p op n dl ul = some E.hyMode := by
  simp [hyBar, hx, hst, hd, ha]

theorem hyBar_passes (hst : hyStateBar op x.st = false) (hm : modesOn s p dl ul = true) (hd : ∀ d, x.desc = some d → descAllows d dl ul op = true) :
    hyBar s p op n dl ul = none := by
  cases hdesc : x.desc with
  | none => simp [hyBar, hx, hst, hm, hdesc]
  | some d => simp [hyBar, hx, hst, hm, hdesc, hd d hdesc]

end

/-! ### The start of a tag command -/

/-- A tag command as it starts: with the identifier of its tag, or behind an ACK to a tag known from a header alone (R291). -/
def confirmedFirst (x : Option HyHandle) (c : HyCmd) : HyCmd :=
  let d := { c with ident := (x.bind (·.ident)).getD [] }
  if (x.bind (·.ident)).isSome then d else { d with after := d.stage, stage := .preAck }

theorem hyStart_begins {c : HyCmd} (hb : hyBar s p op c.handle c.dl c.ul = none) :
    hyStart h op p c s =
      hyBegin p (confirmedFirst (hyHandle s p c.handle) c) none (beginTask h op p (.hy (confirmedFirst (hyHandle s p c.handle) c)) s) := by
  simp only [hyStart, hb, confirmedFirst]

theorem hyStart_fails {c : HyCmd} {code : Nat} (hb : hyBar s p op c.handle c.dl c.ul = some code) :
    hyStart h op p c s = fail h op code { port := p, handle := c.handle } s := by
  simp only [hyStart, hb]

/-- A command whose work is the start of `c` begins `c` where nothing bars it, and else is answered with the code of its bar. -/
theorem tagCommand_starts {i : Instr} {t : Nat} {c : HyCmd} (hh : cmdHead i = some (op, h)) (ht : turnComes i t op h s = true)
    (hw : cmdWork i (atTurn i t op h.q s) = hyStart h op h.q c (atTurn i t op h.q s)) :
    let u := atTurn i t op h.q s
    let d := confirmedFirst (hyHandle u h.q c.handle) c
    let failed := fun code => fail h op code { port := h.q, handle := c.handle } u
    let outcome : Host.Outcome State Fault Refusal := .next (hostCmd i (advance t s))
    (hyBar u h.q op c.handle c.dl c.ul = none → outcome = .next (hyBegin h.q d none (beginTask h op h.q (.hy d) u)))
      ∧ ∀ code, hyBar u h.q op c.handle c.dl c.ul = some code → outcome = .next (failed code) ∧ OnlySent u (failed code) :=
  ⟨fun hb => next_of_work hh ht (hw.trans (hyStart_begins hb)),
    fun _ hb => ⟨next_of_work hh ht (hw.trans (hyStart_fails hb)), onlySent_fail ..⟩⟩

/-- Settles O24: the commands share `hyStart`, and its checks come in the order handle, state, modes, descriptor. -/
theorem hymondTagCommandsBegin : Obligations.HymondTagCommandsBegin := by
  unfold Obligations.HymondTagCommandsBegin
  refine ⟨?_, ?_⟩
  · intro t h pre s start bar meant
    refine ⟨?_, ?_, ?_, ?_, ?_, ?_, ?_, ?_⟩
    · exact fun addr count ht => tagCommand_starts rfl ht rfl
    · exact fun addr data ht => tagCommand_starts rfl ht rfl
    · exact fun page gen data ht => tagCommand_starts rfl ht rfl
    · exact fun page ht => tagCommand_starts rfl ht rfl
    · exact fun slot nonce ht => tagCommand_starts rfl ht rfl
    · exact fun ht => tagCommand_starts rfl ht rfl
    · exact fun ht => tagCommand_starts rfl ht rfl
    · exact fun ht => tagCommand_starts rfl ht rfl
  · intro s p op n dl ul x
    refine ⟨hyBar_not_held, ?_⟩
    intro hx taken
    refine ⟨?_, ?_, ?_, ?_⟩
    · exact fun hst => hyBar_state hx (by simpa using mt hyStateBar_eq_false.mp hst)
    · exact fun hst => hyBar_modes_off hx (hyStateBar_eq_false.mpr hst)
    · exact fun hst d => hyBar_not_declared hx (hyStateBar_eq_false.mpr hst)
    · exact fun hst => hyBar_passes hx (hyStateBar_eq_false.mpr hst)

end Sys2Proof.Machine

end


section
/-!
SUPPORT. How the Hymond commands begin that open no exchange on a held handle, and what HY_FORGET and HY_SET_MAP do to the handles (R288, R291, R293,
R295).
-/

namespace Sys2Proof.Machine

set_option Elab.async false

variable {s : State} {h : Hdr} {p n : Nat}

/-! ### HY_RAW_FRAME (R288, R291, R295) -/

/-- The command of HY_RAW_FRAME. -/
def rawFrame (s : State) (p : Nat) (pre : HyPre) (type alive reply : Nat) (payload : Bytes) : HyCmd :=
  { ofPre s p pre .raw with type := type, alive := alive, reply := reply, data := payload }

/-- The uplink mode of the answer to a raw frame: REPLY, or the mode of the command where REPLY is 0. -/
def replyMode (s : State) (p : Nat) (pre : HyPre) (reply : Nat) : Nat := if reply == 0 then resolveUl s p pre.ul else reply

section
variable {pre : HyPre} {type alive reply : Nat} {payload : Bytes}
  (hreply : modesOn s p (resolveDl s p pre.dl) (replyMode s p pre reply) = true)
  (hown : modesOn s p (resolveDl s p pre.dl) (resolveUl s p pre.ul) = true)
include hreply hown

theorem hyRawRun_other (htype : type ≠ 1) : hyRawRun h p pre type alive reply payload s =
    hyBegin p (rawFrame s p pre type alive reply payload) none (beginTask h 0x60 p (.hy (rawFrame s p pre type alive reply payload)) s) := by
  simp only [replyMode, beq_iff_eq] at hreply
  simp [hyRawRun, rawFrame, ofPre, htype, hreply, hown]

/-- A DL_CMD to a tag whose descriptor allows it goes out at once. -/
theorem hyRawRun_declared {d : Bytes} (hb : hyBar s p 0x60 pre.handle (resolveDl s p pre.dl) (resolveUl s p pre.ul) = none)
    (hd : (hyHandle s p pre.handle).bind (·.desc) = some d) (ha : descAllows d (resolveDl s p pre.dl) (replyMode s p pre reply) 0x60 = true) :
    hyRawRun h p pre 1 alive reply payload s =
      hyBegin p (rawFrame s p pre 1 alive reply payload) none (beginTask h 0x60 p (.hy (rawFrame s p pre 1 alive reply payload)) s) := by
  simp only [replyMode, beq_iff_eq] at hreply ha
  simp [hyRawRun, rawFrame, ofPre, hreply, hown, hb, hd, ha]

/-- A DL_CMD to a tag known from a header alone waits behind an ACK. -/
theorem hyRawRun_header_alone (hb : hyBar s p 0x60 pre.handle (resolveDl s p pre.dl) (resolveUl s p pre.ul) = none)
    (hd : (hyHandle s p pre.handle).bind (·.desc) = none) :
    let asked := { rawFrame s p pre 1 alive reply payload with
                   ul := replyMode s p pre reply, count := reply, gen := alive, after := .raw, stage := .preAck }
    hyRawRun h p pre 1 alive reply payload s = hyBegin p asked none (beginTask h 0x60 p (.hy asked) s) := by
  simp only [replyMode, beq_iff_eq] at hreply
  simp [hyRawRun, rawFrame, replyMode, ofPre, hreply, hown, hb, hd]

end

/-! ### HY_ACTIVATE and HY_TREE_SEARCH (R288, R291, R293) -/

/-- The query of HY_ACTIVATE. -/
def activateQuery (s : State) (p : Nat) (ident : Bytes) (wake : Bool) (dl ul : Nat) : HyCmd :=
  { stage := .query, handle := 0, dl := resolveDl s p dl, ul := resolveUl s p ul, ident := fit 16 ident, wake := wake }

/-- HY_ACTIVATE sends its query where no tag held under the identifier bars it. -/
theorem hyActivateRun_begins {ident : Bytes} {wake : Bool} {dl ul : Nat}
    (hheld : ∀ x, ((port s p).hy.handles.find? fun x => x.ident == some (fit 16 ident)) = some x → x.st ≠ .unknown ∧ (x.st = .halted → wake = true)
      ∧ ∀ d, x.desc = some d → descAllows d (resolveDl s p dl) (resolveUl s p ul) 0x61 = true)
    (hm : modesOn s p (resolveDl s p dl) (resolveUl s p ul) = true) :
    hyActivateRun h p ident wake dl ul s =
      hyBegin p (activateQuery s p ident wake dl ul) none (beginTask h 0x61 p (.hy (activateQuery s p ident wake dl ul)) s) := by
  cases hf : (port s p).hy.handles.find? fun x => x.ident == some (fit 16 ident) with
  | none => simp [hyActivateRun, activateQuery, hf, hm]
  | some x =>
    obtain ⟨hknown, hwake, hdesc⟩ := hheld x hf
    have hst : (x.st == .unknown || (x.st == .halted && !wake)) = false := by simpa [hknown] using hwake
    cases hd : x.desc with
    | none => simp [hyActivateRun, activateQuery, hf, hst, hd, hm]
    | some d => simp [hyActivateRun, activateQuery, hf, hst, hd, hm, hdesc d hd]

/-- In modes that are enabled no other branch is taken. -/
theorem ite_modesOn {dl ul : Nat} {a b : State} (hm : modesOn s p dl ul = true) : (if !modesOn s p dl ul then a else b) = b := by
  rw [hm]
  rfl

/-! ### HY_FORGET and HY_SET_MAP (R291, R295) -/

theorem hyForgetRun_all :
    hyForgetRun h p 0xFFFF s = ok h 0x6A [] (clearInv p (port s p).hy.handles (modHy p (fun y => { y with handles := [] }) s)) := rfl

theorem hyForgetRun_held (hn : n ≠ 0xFFFF) (hx : (hyHandle s p n).isSome = true) : hyForgetRun h p n s = ok h 0x6A [] (dropHandle p n s) := by
  have held : hyHandle s p n ≠ none := Option.isSome_iff_ne_none.mp hx
  simp [hyForgetRun, hn, held]

theorem hyForgetRun_not_held (hn : n ≠ 0xFFFF) (hx : hyHandle s p n = none) :
    hyForgetRun h p n s = fail h 0x6A E.hyHandle { port := p, handle := n } s := by
  simp [hyForgetRun, hn, hx]

section
variable {map : List Nat} {x : HyHandle} (hx : hyHandle s p n = some x) (hst : x.st = .heard ∨ x.st = .active)
include hx hst

/-- A tag whose descriptor is known is sent nothing. -/
theorem hySetMapRun_declared (hd : x.desc.isSome = true) :
    hySetMapRun h p n map s = ok h 0x6C [] (modHandle p n (fun x => { x with map := some map }) s) := by
  have takes : hyStateBar 0x6C x.st = false := hyStateBar_eq_false.mpr (hst.imp_right .inl)
  simp [hySetMapRun, hx, takes, hd]

/-- To a tag known from a header alone an ACK goes first, and the command holds the map meanwhile. -/
theorem hySetMapRun_header_alone (hd : x.desc = none) (hm : modesOn s p (resolveDl s p 0) (resolveUl s p 0) = true) :
    let c : HyCmd := { stage := .preAck, handle := n, dl := resolveDl s p 0, ul := resolveUl s p 0, map := some map }
    hySetMapRun h p n map s = hyBegin p c none (beginTask h 0x6C p (.hy c) s) := by
  have takes : hyStateBar 0x6C x.st = false := hyStateBar_eq_false.mpr (hst.imp_right .inl)
  simp [hySetMapRun, hx, takes, hd, hm]

end

/-- Settles O25: each command by what its work does past its checks. -/
theorem hymondSearchesAndLocalCommands : Obligations.HymondSearchesAndLocalCommands := by
  unfold Obligations.HymondSearchesAndLocalCommands
  intro t h s
  refine ⟨?_, ?_, ?_, ?_, ?_⟩
  · intro pre type alive reply x ht u c ul desc asked hreply hown
    refine ⟨fun htype => next_of_work rfl ht (hyRawRun_other hreply hown htype), fun htype hb => ?_⟩
    subst htype
    exact ⟨fun d hd ha => next_of_work rfl ht (hyRawRun_declared hreply hown hb hd ha),
      fun hd => next_of_work rfl ht (hyRawRun_header_alone hreply hown hb hd)⟩
  · intro ident wake dl ul ht u c hheld hm
    exact next_of_work rfl ht (hyActivateRun_begins hheld hm)
  · intro l m wake mask ht u c hm
    exact next_of_work rfl ht (ite_modesOn hm)
  · intro n ht u
    refine ⟨?_, ?_, ?_⟩
    · rintro rfl
      exact next_of_work rfl ht hyForgetRun_all
    · exact fun hn hx => next_of_work rfl ht (hyForgetRun_held hn hx)
    · exact fun hn hx => next_of_work rfl ht (hyForgetRun_not_held hn hx)
  · intro n m x ht u c hx hst
    exact ⟨fun hd => next_of_work rfl ht (hySetMapRun_declared hx hst hd),
      fun hd hm => next_of_work rfl ht (hySetMapRun_header_alone hx hst hd hm)⟩

end Sys2Proof.Machine

end


section
/-!
SUPPORT. Harvest passes asked for, stopped and due by the grid, and the inventory table (R59, R302, R304, R320, R432).
-/

namespace Sys2Proof.Machine

set_option Elab.async false

variable {s : State} {h : Hdr} {p : Nat}

/-! ### HARVEST_START, HARVEST_STOP and the grid (R59, R302, R304) -/

theorem harvestStart_starts (ha : hvAllowed s p = true) (hm : mayPass s p = true) (hs : (port s p).starts = []) :
    harvestStart h p s = goOn p (startPass p (some h) s) := by simp [harvestStart, ha, hm, hs]

theorem harvestStart_waits (ha : hvAllowed s p = true) (hm : ¬ (mayPass s p = true ∧ (port s p).starts = [])) :
    harvestStart h p s = goOn p (modPort p (fun x => { x with starts := x.starts ++ [h] }) s) := by simp [harvestStart, ha, hm]

theorem harvestStart_not_owned (ha : hvAllowed s p = false) : harvestStart h p s = fail h 0x80 E.resourceNotOwned { port := p } s := by
  simp [harvestStart, ha]

theorem harvestStop_idle (hp : (port s p).pass = none) : harvestStop h p s = ok h 0x81 [] s := by simp [harvestStop, hp]

theorem harvestStop_passing (hp : (port s p).pass ≠ none) :
    harvestStop h p s = goOn p (stopPass p E.hvStopped (modPass p (fun x => { x with stops := x.stops ++ [h] }) s)) := by simp [harvestStop, hp]

/-- A port that runs STANDING passes, in SERVICE with its host and no DOZE_ENTER waiting. -/
theorem hvStanding_service (hm : pAttr s A.hvMode p = 2) (hst : s.mod.st = .service) (ha : hvAllowed s p = true) (hl : s.link.hostLost = false)
    (hd : s.mod.dozeHdr = none) : hvStanding s p = true := by simp [hvStanding, hm, hst, ha, hl, hd]

@[simp] theorem port_modTimer (n q : Nat) (f : Timer → Timer) (s : State) : port (modTimer n f s) q = port s q := rfl

@[simp] theorem hvStanding_modTimer (n q : Nat) (f : Timer → Timer) (s : State) : hvStanding (modTimer n f s) q = hvStanding s q := rfl

/-- A tick that is due on a STANDING port without a pass asks for one, and the next follows a period later. -/
theorem gridRun_asks (hm : pAttr s A.hvMode p = 2) (hst : s.mod.st = .service) (harm : (timer s (tC p)).armed = true)
    (hact : (timer s (tC p)).action = 0x08) (hfire : (timer s (tC p)).fire ≤ s.now) (hp : (port s p).pass = none)
    (hs : (port s p).starts = []) (hstand : hvStanding s p = true) :
    gridRun p s = goOn p (modPort p (fun x => { x with gridDue := true }) (modTimer (tC p) (fun c => { c with fire := c.fire + c.period }) s)) := by
  simp [gridRun, hm, harm, hact, Nat.not_lt.mpr hfire, hst, hp, hs, hstand]

/-! ### The inventory table (R320, R432) -/

section
variable {start count : Nat}

/-- The entries of the table from START on. -/
def laterEntries (s : State) (start : Nat) : List (Nat × InvEntry) := s.inv.filter fun e => e.1 ≥ start

theorem readTableRun_last (hc : (laterEntries s start).length ≤ count) : readTableRun h start count s =
    ok h 0x83 (le 2 0xFFFF ++ [b8 (laterEntries s start).length, 0] ++ ((laterEntries s start).map fun e => e.2.bytes).flatten) s := by
  unfold laterEntries at *
  simp only [readTableRun, List.take_of_length_le hc, gt_iff_lt, Nat.not_lt.mpr hc, if_false]

theorem readTableRun_more {e : Nat × InvEntry} (hc : count < (laterEntries s start).length)
    (he : ((laterEntries s start).take count).getLast? = some e) : readTableRun h start count s =
    ok h 0x83 (le 2 (e.1 + 1) ++ [b8 count, 0] ++ (((laterEntries s start).take count).map fun e => e.2.bytes).flatten) s := by
  unfold laterEntries at *
  simp only [readTableRun, gt_iff_lt, hc, if_true, he, Option.map_some, Option.getD_some, List.length_take, Nat.min_eq_left (Nat.le_of_lt hc)]

end

/-- The age takes an entry of this index that has not been heard for that long, and no other. -/
theorem mem_inv_ageRun {i : Nat} (ha : mAttrN s A.hvTableAgeMs ≠ 0) (e : Nat × InvEntry) :
    e ∈ (ageRun i s).inv ↔ e ∈ s.inv ∧ ¬ (e.1 = i ∧ e.2.heardAt + msT (mAttrN s A.hvTableAgeMs) ≤ s.now) := by
  have kept : (ageRun i s).inv =
      s.inv.filter fun e => !(e.1 == i && decide (s.now ≥ e.2.heardAt + msT (mAttrN s A.hvTableAgeMs))) := by
    rw [ageRun, if_neg (mt beq_iff_eq.mp ha)]
    rfl
  rw [kept, List.mem_filter, Bool.not_eq_true', ← Bool.not_eq_true, Bool.and_eq_true, beq_iff_eq, decide_eq_true_eq]

/-- Beside the table nothing changes. -/
theorem ageRun_frame (i : Nat) (s : State) : ∃ x, ageRun i s = { s with inv := x } := by
  unfold ageRun
  dsimp only
  split
  · exact ⟨s.inv, rfl⟩
  · exact ⟨_, rfl⟩

/-- Settles O26: the commands by what their work does in the state of their turn, the tick and the age by their runs. -/
theorem harvestAndItsTable : Obligations.HarvestAndItsTable := by
  unfold Obligations.HarvestAndItsTable
  refine ⟨fun t s => ⟨?_, ?_, ?_⟩, fun t h s => ⟨?_, ?_, ?_⟩⟩
  · intro h ht u
    exact ⟨fun ha hm hs => next_of_work rfl ht (harvestStart_starts ha hm hs), fun ha hm => next_of_work rfl ht (harvestStart_waits ha hm),
      fun ha => next_of_work rfl ht (harvestStart_not_owned ha)⟩
  · intro h ho u
    have work : exec (.harvestStop t h) s = .next (harvestStop h h.q u) := congrArg Host.Outcome.next (hostCmd_works_ahead rfl ho)
    exact ⟨fun hp => work.trans (congrArg _ (harvestStop_idle hp)), fun hp => work.trans (congrArg _ (harvestStop_passing hp))⟩
  · intro p u c hm hst harm hact hfire hp hs ha hl hd w
    exact congrArg Host.Outcome.next
      (gridRun_asks (s := u) hm hst harm hact hfire hp hs (hvStanding_service (s := u) hm hst ha hl hd))
  · intro mask ht u
    exact next_of_work rfl ht rfl
  · intro start count ht u later
    exact ⟨fun hc => next_of_work rfl ht (readTableRun_last hc), fun e hc he => next_of_work rfl ht (readTableRun_more hc he)⟩
  · intro idx ha
    obtain ⟨x, frame⟩ := ageRun_frame idx (advance t s)
    have now : (ageRun idx (advance t s)).now = (advance t s).now := by rw [frame]
    refine ⟨ageRun idx (advance t s), rfl, by rw [frame]; rfl, fun e => ?_⟩
    rw [now]
    exact mem_inv_ageRun (s := advance t s) ha e

end Sys2Proof.Machine

end


section
/-!
SUPPORT. The Prism and Lens commands, the pulses of Lens, and the Z8 detector (R71, R325, R327, R332 to R340, R346).
-/

namespace Sys2Proof.Machine

set_option Elab.async false

variable {s : State} {h : Hdr} {p : Nat}

/-! ### PRISM_VECTOR (R325) -/

/-- Carriers that come on or go off change their ports and slices and nothing else. -/
theorem carrier_frame (q : Nat) (on : Bool) (s : State) :
    { carrier q on s with ports := [], slices := [] } = { s with ports := [], slices := [] } := by
  unfold carrier
  dsimp only
  split
  · rfl
  · split <;> rfl

/-- A set that moves to a vector changes ports and slices alone. -/
theorem steer_frame (p v : Nat) (s : State) : { steer p v s with ports := s.ports, slices := s.slices } = s := by
  have frame : { steer p v s with ports := [], slices := [] } = { s with ports := [], slices := [] } := by
    unfold steer
    dsimp only
    split
    · exact foldl_keeps (fun t => { t with ports := [], slices := [] }) (fun _ _ => carrier_frame ..) ..
    · rfl
  exact congrArg (fun t : State => { t with ports := s.ports, slices := s.slices }) frame

/-- The vector in force and the one that waits for a boundary. -/
def vectors (x : Port) : Nat × Option Nat := (x.prism.vector, x.prism.next)

theorem steer_vectors {v : Nat} (hp : p < s.ports.length) : vectors (port (steer p v s) p) = (v, none) := by
  unfold steer
  dsimp only
  split
  · rw [carriers, foldl_keeps (fun t => vectors (port t p)) (fun _ _ => carrier_keeps vectors (fun _ _ _ _ => rfl) ..), port_modPort_self _ _ hp]
    rfl
  · rw [port_modPort_self _ _ hp]
    rfl

/-- A vector that is asked for waits for the boundary of its port. -/
def vectorAsked (v : Nat) (x : Port) : Port := { x with prism := { x.prism with next := some v } }

theorem prismVectorRun_moves {v : Nat} (hm : members s p ≠ []) (hv : v < pAttrN s A.prismVectorCount p) (hb : atBoundary s p = true)
    (hp : p < s.ports.length) : prismVectorRun h p v s = ok h 0x89 [] (steer p v (modPort p (vectorAsked v) s)) := by
  have asked : port (modPort p (vectorAsked v) s) p = vectorAsked v (port s p) := port_modPort_self _ _ hp
  have boundary : atBoundary (modPort p (vectorAsked v) s) p = true := by
    unfold atBoundary
    rw [asked]
    exact hb
  have next : applyVector p (modPort p (vectorAsked v) s) = steer p v (modPort p (vectorAsked v) s) := by
    rw [applyVector, asked]
    rfl
  rw [prismVectorRun, if_neg (by simpa using hm), if_neg (by omega)]
  exact congrArg (ok h 0x89 []) ((if_pos boundary).trans next)

/-! ### PRISM_CALIBRATE (R71, R327) -/

section
variable (hm : members s p ≠ []) (hi : interlocked s = false) (hr : reserveWithheld s = false)
include hm hi hr

theorem prismCalRun_waits (hn : notReady s p = true) : prismCalRun h p s = pendTask h 0x88 p s := by
  simp [prismCalRun, hm, hi, hr, hn]

theorem prismCalRun_answers (hn : notReady s p = false) : prismCalRun h p s = if (port (prismCal p s) p).prism.failed
      then respond h 0x88 E.prismPhase (({ port := p } : Detail).bytes p) (prismCal p s)
      else ok h 0x88 (((port (prismCal p s) p).prism.err.map (leI 2)).flatten) (prismCal p s) := by
  cases hf : (port (prismCal p s) p).prism.failed <;> simp [prismCalRun, prismCalWork, hm, hi, hr, hn, hf, ok]

end

/-! ### LENS_BASELINE and LENS_MEASURE (R337, R346) -/

theorem lensBaselineRun_empties (he : pAttr s A.lensEnable p ≠ 0) (hc : (port s p).lens.confirming = false) :
    lensBaselineRun h p s = ok h 0x90 [] (modLens p lensEmpty s) := by simp [lensBaselineRun, he, hc]

/-- The measurement that LENS_MEASURE takes, a free value (R346). -/
def lensReading (s : State) (p : Nat) : Cpx :=
  (signed 16 (Config.lensSample s.free p 0 % 65536).toNat, signed 16 (Config.lensSample s.free p 1 % 65536).toNat)

section
variable (he : pAttr s A.lensEnable p ≠ 0) (hf : (port s p).radio.phase = .off) (hi : interlocked s = false) (hr : reserveWithheld s = false)
  (ho : offRun s p = false)
include hf hi hr ho

theorem lensBar_none : lensBar s p = none := by simp [lensBar, hf, hi, hr, ho]

include he

theorem lensMeasureRun_waits (hn : notReady s p = true) : lensMeasureRun h p s = pendTask h 0x91 p s := by
  simp [lensMeasureRun, he, lensBar_none hf hi hr ho, hn]

/-- On a slice that listens the measurement is taken at once, and its pulse leaves its traces. -/
theorem lensMeasureRun_measures (hn : notReady s p = false) : lensMeasureRun h p s =
    ok h 0x91 (leI 2 (lensReading s p).1 ++ leI 2 (lensReading s p).2
        ++ le 2 (detuneWord s.free (detune2 s.free (lensReading s p) (port s p).lens.base)) ++ [0, 0])
      (pulseTraces p (modLens p (fun l => { l with last := lensReading s p }) (drawn s))) := by
  simp [lensMeasureRun, he, lensMeasureWork, lensBar_none hf hi hr ho, hn, ok, lensReading]

end

/-! ### The pulses of Lens (R332 to R335) -/

section
variable {m : Cpx} (hl : lensRuns s p = true) (hd : timerDue s (tC p) = true)
include hl hd

theorem lensPulseRun_due (ha : (timer s (tC p)).action = 0x09) (hc : (port s p).lens.confirming = false) : lensPulseRun p m s =
    (let w := modTimer (tC p) (fun c => { c with fire := c.fire + c.period }) s
      if lensSkips w p then countSkip p w else lensAct p m w) := by simp [lensPulseRun, hl, hd, ha, hc]

theorem lensConfirmRun_due (hc : (port s p).lens.confirming = true) : lensConfirmRun p m s =
    (let w := armCadence p (modLens p (fun l => { l with confirming := false }) s)
      if lensSkips w p then countSkip p w else lensDecide p m w) := by simp [lensConfirmRun, hl, hd, hc]

end

/-! ### The Z8 detector (R339, R340) -/

/-- Whether a field is known to the detector. -/
def z8Known (b : Bool) (x : Port) : Port := { x with z8 := { x.z8 with present := b } }

theorem z8Wake_of_cfg {t : State} (hc : t.cfg = s.cfg) (p : Nat) : pAttr t A.z8Wake p = pAttr s A.z8Wake p := pAttr_of_same hc rfl

/-- In SERVICE a field that has stood long enough is known and told, and does not wake a port that asks for no wake. -/
theorem z8DetectedRun_new {levelMv onset e : Nat} (hst : s.mod.st = .service) (hb : blankEnd s p = some e) (he : pAttr s A.z8Enable p ≠ 0)
    (hw : pAttr s A.z8Wake p = 0) (hp : (port s p).z8.present = false) (hl : pAttrN s A.z8ThresholdMv p ≤ levelMv)
    (hn : max onset e + usT (pAttrN s A.z8MinUs p) ≤ s.now) :
    z8DetectedRun p levelMv onset s = raiseAt Ev.z8Field (tsAt s (max onset e)) p (le 2 levelMv) (modPort p (z8Known true) s) := by
  have sent := onlySent_raiseAt Ev.z8Field (tsAt s (max onset e)) p (le 2 levelMv) (modPort p (z8Known true) s)
  have no_wake : pAttr (raiseAt Ev.z8Field (tsAt s (max onset e)) p (le 2 levelMv) (modPort p (z8Known true) s)) A.z8Wake p ≠ 1 := by
    rw [z8Wake_of_cfg sent.cfg, z8Wake_of_cfg (modPort_cfg ..), hw]
    decide
  simp only [z8DetectedRun, hb, hst, beq_self_eq_true, Bool.true_or, Bool.not_true, Bool.false_or, Bool.or_eq_true, beq_iff_eq, he, hp,
    Bool.false_eq_true, decide_eq_true_eq, Nat.not_lt.mpr hl, Nat.not_lt.mpr hn, or_self, if_false]
  exact if_neg no_wake

/-- A field that is known is not told again. -/
theorem z8DetectedRun_known {levelMv onset : Nat} (hp : (port s p).z8.present = true) : z8DetectedRun p levelMv onset s = s := by
  cases hb : blankEnd s p <;> simp [z8DetectedRun, hb, hp]

section
variable {e : Nat} (hst : s.mod.st = .service) (hb : blankEnd s p = some e)
include hst hb

theorem z8GoneRun_gone (hp : (port s p).z8.present = true) (hn : e ≤ s.now) :
    z8GoneRun p s = raise Ev.z8FieldGone p [] (modPort p (z8Known false) s) := by
  simp only [z8GoneRun, hb, hst, hp, beq_self_eq_true, Bool.true_or, Bool.not_true, Bool.false_or, decide_eq_true_eq, Nat.not_lt.mpr hn, if_false]
  rfl

theorem z8GoneRun_blanked (hn : s.now < e) : z8GoneRun p s = s := by simp [z8GoneRun, hb, hst, hn]

end

/-- Settles O27: the commands by what their work does in the state of their turn, the pulses and the detector by their runs. -/
theorem prismLensAndZ8 : Obligations.PrismLensAndZ8 := by
  unfold Obligations.PrismLensAndZ8
  refine ⟨fun t h s => ⟨?_, ?_, ?_, ?_⟩, ?_, ?_⟩
  · intro v ht u hm hv hb hp
    have asked : h.q < (modPort h.q (vectorAsked v) u).ports.length := by rwa [modPort_ports, length_upd]
    obtain ⟨vector, next⟩ := Prod.mk.inj (steer_vectors (v := v) asked)
    exact ⟨steer h.q v (modPort h.q (vectorAsked v) u), next_of_work rfl ht (prismVectorRun_moves hm hv hb hp), vector, next,
      congrArg (fun t : State => { t with ports := u.ports, slices := u.slices }) (steer_frame h.q v (modPort h.q (vectorAsked v) u))⟩
  · intro ht u w hm hi hr
    exact ⟨fun hn => next_of_work rfl ht (congrArg noteSkipped (prismCalRun_waits hm hi hr hn)),
      fun hn => next_of_work rfl ht (congrArg noteSkipped (prismCalRun_answers hm hi hr hn))⟩
  · intro ht u he hc
    exact next_of_work rfl ht (lensBaselineRun_empties he hc)
  · intro ht u he hf hi hr ho
    refine ⟨fun hn => next_of_work rfl ht (lensMeasureRun_waits he hf hi hr ho hn), fun hn => ?_⟩
    exact ⟨lensReading u h.q, _, next_of_work rfl ht (lensMeasureRun_measures he hf hi hr ho hn)⟩
  · intro t p m s hl u hd
    exact ⟨fun ha hc => congrArg (fun v => Host.Outcome.next (noteSkipped v)) (lensPulseRun_due (s := u) hl hd ha hc),
      fun hc => congrArg (fun v => Host.Outcome.next (noteSkipped v)) (lensConfirmRun_due (s := u) hl hd hc)⟩
  · intro t p s hst u
    refine ⟨?_, ?_, ?_⟩
    · intro levelMv onset e hb he hw hp hlevel hn
      exact congrArg Host.Outcome.next (z8DetectedRun_new (s := u) hst hb he hw hp hlevel hn)
    · intro levelMv onset hp
      exact congrArg Host.Outcome.next (z8DetectedRun_known (s := u) hp)
    · intro e hb hp
      exact ⟨fun hn => congrArg Host.Outcome.next (z8GoneRun_gone (s := u) hst hb hp hn),
        fun hn => congrArg Host.Outcome.next (z8GoneRun_blanked (s := u) hst hb hn)⟩

end Sys2Proof.Machine

end


section
/-!
SUPPORT. How the module goes into DOZE and comes out of it (R342 to R344, R572).
-/

namespace Sys2Proof.Machine

set_option Elab.async false

variable {s : State} {p : Nat}

/-! ### DOZE_ENTER (R342) -/

/-- What DOZE_ENTER does on a port: the HARVEST_STARTs that wait and the pass end, and the port goes on. -/
def cancelPasses (p : Nat) (s : State) : State :=
  let v := flushStarts p E.cancelled s
  goOn p (if (port v p).pass.isSome then stopPass p E.cancelled v else v)

/-- A DOZE_ENTER waits. -/
def dozeNoted (h : Hdr) (s : State) : State := { s with mod := { s.mod with dozeHdr := some h } }

theorem dozeEnterRun_eq (h : Hdr) (s : State) :
    dozeEnterRun h s = (List.range 64).foldl (fun s p => cancelPasses p s) (dozeNoted h s) := rfl

/-- Where no HARVEST_START waits none is cancelled. -/
theorem flushStarts_none {code : Nat} (hs : (port s p).starts = []) : flushStarts p code s = s := by
  have cleared : modPort p (fun x => { x with starts := [] }) s = s := by
    refine modPort_self ?_
    rw [← hs]
  simp only [flushStarts, hs, List.foldl_nil, cleared]

/-- Without a pass a port only goes on. -/
theorem cancelPasses_none (hs : (port s p).starts = []) (hp : (port s p).pass = none) : cancelPasses p s = goOn p s := by
  simp [cancelPasses, flushStarts_none hs, hp]

/-- A port that works lets its command end before a DOZE_ENTER that waits acts on it. -/
theorem goOn_works (hp : (port s p).pass = none) (hs : (port s p).starts = []) (hg : (port s p).gridDue = false)
    (hk : ((port s p).parked.any fun k => k.waited && !k.task.ofPass) = false) (ht : (port s p).task.isSome = true) : goOn p s = s := by
  have off : offDue p s = s := by simp [offDue, ht]
  rw [goOn_offDue hp hs hg hk, off, settleIn_busy ht]

/-- While every port works DOZE_ENTER is only noted. -/
theorem dozeEnterRun_works {h : Hdr} (hw : ∀ p < 64, waitsForNothing s p = true ∧ (port s p).task.isSome = true) :
    dozeEnterRun h s = dozeNoted h s := by
  have stays : ∀ p < 64, cancelPasses p (dozeNoted h s) = dozeNoted h s := by
    intro p hp
    obtain ⟨hwait, ht⟩ := hw p hp
    obtain ⟨pass, starts, grid, -, -, -, parked⟩ := waitsForNothing_parts hwait
    rw [cancelPasses_none (s := dozeNoted h s) starts pass, goOn_works (s := dozeNoted h s) pass starts grid parked ht]
  rw [dozeEnterRun_eq]
  refine List.foldlRecOn (motive := fun v => v = dozeNoted h s) _ _ rfl ?_
  rintro _ rfl p hp
  exact stays p (List.mem_range.mp hp)

/-- Where every port is at rest DOZE_ENTER is noted, slices settle and Press gives up what it has kept. -/
theorem dozeEnterRun_rest {h : Hdr} (hc : s.cfg.committing = none) (hw : ∀ p < 64, waitsForNothing s p = true ∧ (port s p).radio.phase = .off
      ∧ (port s p).radio.want = none ∧ (port s p).newCommit = false) :
    ∃ a z, dozeEnterRun h s = { dozeNoted h s with slices := a, press := z } := by
  have goes_on : ∀ p < 64, ∀ a z, ∃ a' z', cancelPasses p { dozeNoted h s with slices := a, press := z }
      = { dozeNoted h s with slices := a', press := z' } := by
    intro p hp a z
    obtain ⟨hwait, phase, want, commit⟩ := hw p hp
    obtain ⟨pass, starts, grid, offs, -, fall, parked⟩ := waitsForNothing_parts hwait
    rw [cancelPasses_none (s := { dozeNoted h s with slices := a, press := z }) starts pass]
    exact goOn_rest (s := { dozeNoted h s with slices := a, press := z }) pass starts grid offs fall phase want parked hc commit
  rw [dozeEnterRun_eq]
  refine List.foldlRecOn (motive := fun v : State => ∃ (a : List Slice) (z : Press), v = { dozeNoted h s with slices := a, press := z }) _ _
    ⟨s.slices, s.press, rfl⟩ ?_
  rintro _ ⟨a, z, rfl⟩ p hp
  exact goes_on p (List.mem_range.mp hp) a z

/-! ### DOZE_ENTERED (R342, R343) -/

/-- DOZE_ENTER is answered as the module moves to DOZE. -/
def dozeAnswered (h : Hdr) (s : State) : State := ok h 0x08 [] (moveTo .doze 0 (modMod (fun m => { m with dozeHdr := none }) s))

/-- A slice in SLEEP. -/
def slept (x : Slice) : Slice := { x with st := .sleep, target := .sleep, locked := false, calSince := none }

/-- The module at rest in DOZE: slices and VPA rails are off, the Z8 detectors look, and the link is as link.doze_speed has it. -/
def dozing (h : Hdr) (s : State) : State :=
  let s := { dozeAnswered h s with slices := (dozeAnswered h s).slices.map slept }
  let s := modPower (fun w => { w with rails := w.rails.take 4 ++ (w.rails.drop 4).map fun _ => { en := false, reg := false, enAt := 0 } }) s
  let s := (List.range 64).foldl (fun s p =>
    if pAttr s A.z8Enable p != 0 then modRadio p (fun r => { r with qdDamped := false }) s else s) s
  if mAttr s A.linkDozeSpeed == 0 then renegotiate (modLink (fun l => { l with dropped := true }) s) else s

theorem dozeEnteredRun_quiet {h : Hdr} (hd : s.mod.dozeHdr = some h) (hst : s.mod.st = .service) (hq : allQuiet s = true) :
    dozeEnteredRun s = takeWake (dozing h s) := by
  simp only [dozeEnteredRun, hd, hst, hq, bne_self_eq_false, Bool.not_true, Bool.or_self, Bool.false_eq_true, if_false]
  rfl

theorem dozeEnteredRun_busy (hq : allQuiet s = false) : dozeEnteredRun s = s := by
  cases hd : s.mod.dozeHdr <;> simp [dozeEnteredRun, hd, hq]

/-- What the ports, the rails and the link leave as it is while they go to rest. -/
def dozeView (s : State) : Mod × Pins × List Slice × List OutRing := (s.mod, s.pins, s.slices, s.outRings)

theorem dozeView_dozing (h : Hdr) (s : State) : dozeView (dozing h s)
    = ((dozeAnswered h s).mod, (dozeAnswered h s).pins, (dozeAnswered h s).slices.map slept, (dozeAnswered h s).outRings) := by
  have link : ∀ v : State, dozeView (if mAttr v A.linkDozeSpeed == 0 then renegotiate (modLink (fun l => { l with dropped := true }) v) else v)
      = dozeView v := by
    intro v
    split <;> rfl
  unfold dozing
  dsimp only
  rw [link]
  exact foldl_keeps dozeView (fun v p => by split <;> rfl) ..

theorem dozeAnswered_mod (h : Hdr) (s : State) : (dozeAnswered h s).mod.st = .doze ∧ (dozeAnswered h s).mod.dozeHdr = none := by
  rw [dozeAnswered, (onlySent_ok ..).mod]
  refine ⟨moveTo_st .., ?_⟩
  rw [(onlySent_moveTo ..).mod]
  rfl

theorem dozeAnswered_pins (h : Hdr) (s : State) : (dozeAnswered h s).pins = s.pins :=
  (onlySent_ok ..).pins.trans (onlySent_moveTo ..).pins

/-- In DOZE nothing waits, every slice is in SLEEP, the pins are as they were, and DOZE_ENTER has its answer. -/
theorem dozing_parts (h : Hdr) (s : State) : (dozing h s).mod.st = .doze ∧ (dozing h s).mod.dozeHdr = none
    ∧ (∀ x ∈ (dozing h s).slices, x.st = .sleep) ∧ (dozing h s).pins = s.pins ∧ (dozing h s).outRings = (dozeAnswered h s).outRings := by
  obtain ⟨hmod, hpins, hslices, hout⟩ :
      (dozing h s).mod = _ ∧ (dozing h s).pins = _ ∧ (dozing h s).slices = _ ∧ (dozing h s).outRings = _ := by
    simpa only [dozeView, Prod.mk.injEq] using dozeView_dozing h s
  obtain ⟨st, hdr⟩ := dozeAnswered_mod h s
  refine ⟨by rw [hmod, st], by rw [hmod, hdr], fun x hx => ?_, hpins.trans (dozeAnswered_pins h s), hout⟩
  rw [hslices] at hx
  obtain ⟨y, -, rfl⟩ := List.mem_map.mp hx
  rfl

/-! ### A wake (R344, R572) -/

/-- The wake takes the assertion of WAKE_N. -/
def wakeTaken (s : State) : State := { s with pins := { s.pins with wakeN := false } }

theorem takeWake_wakes (hst : s.mod.st = .doze) (hw : s.pins.wakeN = true) (hv : 1500 ≤ s.pins.vauxMv) : takeWake s = dozeExit (wakeTaken s) := by
  simp [takeWake, hst, hw, hv, wakeTaken]

theorem takeWake_stays (hw : ¬ (s.pins.wakeN = true ∧ 1500 ≤ s.pins.vauxMv)) : takeWake s = s := by
  refine if_neg fun hc => hw ?_
  simp only [Bool.and_eq_true, decide_eq_true_eq] at hc
  exact hc.1

theorem wakeRun_wakes (hst : s.mod.st = .doze) (hv : 1500 ≤ s.pins.vauxMv) : wakeRun s = dozeExit (wakeTaken s) :=
  takeWake_wakes (s := { s with pins := { s.pins with wakeN := true } }) hst rfl hv

theorem wakeRun_stands (hn : ¬ (s.mod.st = .doze ∧ 1500 ≤ s.pins.vauxMv)) : wakeRun s = { s with pins := { s.pins with wakeN := true } } := by
  refine if_neg fun hc => hn ?_
  simp only [Bool.and_eq_true, decide_eq_true_eq, beq_iff_eq] at hc
  exact ⟨hc.2, hc.1.2⟩

/-- The link and the VPA rails come up. -/
def linkAndRails (s : State) : State :=
  let s := modLink (fun l => { l with only1000 := false, trainFails := 0 }) s
  enableVpa (modLink (fun l => { l with dropped := false }) (if s.link.dropped then renegotiate s else s))

/-- The module as it has moved to SERVICE, its ports not yet woken. -/
def awake (s : State) : State := linkAndRails (moveTo .service 0 s)

/-- A port as it comes out of DOZE. -/
def wakeOne (p : Nat) (s : State) : State := resumePort p (settle p (wakePort p s))

theorem dozeExit_eq (hst : s.mod.st = .doze) : dozeExit s = (List.range 64).foldl (fun s p => wakeOne p s) (awake s) := by
  simp only [dozeExit, hst, bne_self_eq_false, Bool.false_eq_true, if_false]
  rfl

/-- What the link and the rails leave as it is as they come up. -/
def wakeView (s : State) : Mod × Pins × ConfigStore × List Port := (s.mod, s.pins, s.cfg, s.ports)

theorem wakeView_linkAndRails (s : State) : wakeView (linkAndRails s) = wakeView s := by
  unfold linkAndRails
  dsimp only
  split <;> rfl

/-- What moving to SERVICE leaves as it is, beside the state it moves to. -/
theorem awake_parts (s : State) : (awake s).mod.st = .service ∧ (awake s).mod.dozeHdr = s.mod.dozeHdr ∧ (awake s).pins = s.pins
    ∧ (awake s).cfg = s.cfg ∧ (awake s).ports = s.ports := by
  have view : wakeView (awake s) = wakeView (moveTo .service 0 s) := wakeView_linkAndRails _
  obtain ⟨mod, pins, cfg, ports⟩ : (awake s).mod = _ ∧ (awake s).pins = _ ∧ (awake s).cfg = _ ∧ (awake s).ports = _ := by
    simpa only [wakeView, Prod.mk.injEq] using view
  have sent := onlySent_moveTo .service 0 s
  refine ⟨by rw [mod, moveTo_st], ?_, pins.trans sent.pins, cfg.trans sent.cfg, ports.trans sent.ports⟩
  rw [mod, sent.mod]
  rfl

/-- A port at rest: nothing runs, waits, or is sent. -/
def PortAtRest (x : Port) : Prop :=
  x.pass = none ∧ x.starts = [] ∧ x.gridDue = false ∧ x.radio.offHdrs = [] ∧ x.radio.fallDue = false ∧ x.task = none ∧ x.parked = []
    ∧ x.air.tx = none

theorem portAtRest_of_waits (hw : waitsForNothing s p = true) (ht : (port s p).task = none) (hk : (port s p).parked = [])
    (hx : (port s p).air.tx = none) : PortAtRest (port s p) := by
  obtain ⟨pass, starts, grid, offs, -, fall, -⟩ := waitsForNothing_parts hw
  exact ⟨pass, starts, grid, offs, fall, ht, hk, hx⟩

/-- A port at rest lets its slices settle and does nothing else. -/
theorem resumePort_rest (hr : PortAtRest (port s p)) (hd : s.mod.dozeHdr = none) : resumePort p s = settleIn p s := by
  obtain ⟨pass, starts, grid, offs, fall, -, parked, tx⟩ := hr
  have no_repeat : resumeParked p s = s := resumeParked_none (by simp [parked])
  have no_start : kick p s = s := by simp [kick, tx]
  simp only [resumePort, no_repeat, pass, no_start]
  exact goOn_idle (by simp [waitsForNothing, pass, starts, grid, offs, hd, fall, parked])

/-- A port with QD as port.qd.mode has it. -/
def woken (s : State) (p : Nat) (x : Port) : Port := { x with radio := { x.radio with qdDamped := pAttr s A.qdMode p == 1 } }

/-- A port at rest wakes with its QD, its timers and slices changed, and nothing else. -/
theorem wakeOne_rest (hr : PortAtRest (port s p)) (hd : s.mod.dozeHdr = none) :
    ∃ a z, wakeOne p s = { modPort p (woken s p) s with slices := a, timers := z } := by
  obtain ⟨a, settled⟩ := settle_slices p (wakePort p s)
  have still : PortAtRest (port (modPort p (woken s p) s) p) := (port_modPort_keeps PortAtRest (f := woken s p) (fun _ => rfl) ..).mpr hr
  have rest : PortAtRest (port (settle p (wakePort p s)) p) := by
    rw [settled]
    exact still
  have hdr : (settle p (wakePort p s)).mod.dozeHdr = none := by
    rw [settled]
    exact hd
  obtain ⟨a', resumed⟩ := settleIn_slices p (settle p (wakePort p s))
  refine ⟨a', (wakePort p s).timers, ?_⟩
  rw [wakeOne, resumePort_rest rest hdr, resumed, settled]
  rfl

/-- The first `n` ports have woken, and the rest of the module is as before. -/
structure Woken (n : Nat) (s v : State) : Prop where
  done : ∀ q < n, q < s.ports.length → port v q = woken s q (port s q)
  later : ∀ q, n ≤ q → port v q = port s q
  length : v.ports.length = s.ports.length
  mod : v.mod = s.mod
  pins : v.pins = s.pins
  cfg : v.cfg = s.cfg

theorem woken_of_cfg {t : State} (hc : t.cfg = s.cfg) (p : Nat) : woken t p = woken s p := by
  have qd : pAttr t A.qdMode p = pAttr s A.qdMode p := pAttr_of_same hc rfl
  funext x
  rw [woken, woken, qd]

theorem Woken.next {n : Nat} {v : State} (hv : Woken n s v) (hr : PortAtRest (port s n)) (hd : s.mod.dozeHdr = none) :
    Woken (n + 1) s (wakeOne n v) := by
  obtain ⟨a, z, eq⟩ := wakeOne_rest (p := n) (s := v) (by rw [hv.later n (Nat.le_refl n)]; exact hr) (by rw [hv.mod]; exact hd)
  rw [woken_of_cfg hv.cfg] at eq
  rw [eq]
  refine ⟨fun q hq hlen => ?_, fun q hq => ?_, (length_upd ..).trans hv.length, hv.mod, hv.pins, hv.cfg⟩
  · rcases Nat.lt_succ_iff_lt_or_eq.mp hq with hlt | rfl
    · exact (port_modPort_ne _ v (by omega)).trans (hv.done q hlt hlen)
    · rw [← hv.later q (Nat.le_refl q)]
      exact port_modPort_self _ v (hv.length ▸ hlen)
  · exact (port_modPort_ne _ v (by omega)).trans (hv.later q (by omega))

/-- Ports at rest wake one after the other. -/
theorem woken_range {n : Nat} (hr : ∀ p < n, PortAtRest (port s p)) (hd : s.mod.dozeHdr = none) :
    Woken n s ((List.range n).foldl (fun s p => wakeOne p s) s) := by
  induction n with
  | zero => exact ⟨by omega, fun _ _ => rfl, rfl, rfl, rfl, rfl⟩
  | succ n ih =>
    rw [List.range_succ, List.foldl_append, List.foldl_cons, List.foldl_nil]
    exact (ih fun p hp => hr p (by omega)).next (hr n (by omega)) hd

/-- A module whose ports are at rest is in SERVICE after a wake, and of each port QD has changed. -/
theorem dozeExit_rest (hst : s.mod.st = .doze) (hd : s.mod.dozeHdr = none) (hr : ∀ p < 64, PortAtRest (port s p)) :
    (dozeExit s).mod.st = .service ∧ (dozeExit s).pins = s.pins
      ∧ ∀ p < 64, p < s.ports.length → port (dozeExit s) p = woken s p (port s p) := by
  obtain ⟨st, hdr, pins, cfg, ports⟩ := awake_parts s
  have same : ∀ p, port (awake s) p = port s p := port_of_ports ports
  have woke := woken_range (s := awake s) (n := 64) (fun p hp => by rw [same]; exact hr p hp) (hdr.trans hd)
  rw [← dozeExit_eq hst] at woke
  refine ⟨by rw [woke.mod, st], woke.pins.trans pins, fun p hp hlen => ?_⟩
  rw [woke.done p hp (by rw [ports]; exact hlen), same, woken_of_cfg cfg]

/-- Settles O10: DOZE_ENTER by what it does on each port, DOZE_ENTERED by `dozing_parts`, and a wake by what each port at rest does as it wakes. -/
theorem dozeIsEnteredAndLeft : Obligations.DozeIsEnteredAndLeft := by
  unfold Obligations.DozeIsEnteredAndLeft
  refine ⟨?_, ?_, ?_⟩
  · intro t h s ht u noted
    have run : exec (.dozeEnter t h) s = .next (dozeEnterRun h u) := next_of_work rfl ht rfl
    rw [run]
    refine ⟨congrArg Host.Outcome.next (dozeEnterRun_eq h u), fun hw => congrArg Host.Outcome.next (dozeEnterRun_works hw), fun hc hw => ?_⟩
    obtain ⟨a, z, entered⟩ := dozeEnterRun_rest (h := h) hc fun p hp =>
      have ⟨wait, _, _, phase, want, commit⟩ := hw p hp
      ⟨wait, phase, want, commit⟩
    exact ⟨_, congrArg Host.Outcome.next entered, rfl⟩
  · intro t h s hd hst u
    obtain ⟨st, hdr, slices, pins, out⟩ := dozing_parts h u
    have run : allQuiet s = true → exec (.dozeEntered t) s = .next (takeWake (dozing h u)) := fun hq =>
      congrArg Host.Outcome.next (dozeEnteredRun_quiet (s := u) hd hst hq)
    refine ⟨fun hq hw => ?_, fun hq hw hv => ?_, fun hq => congrArg Host.Outcome.next (dozeEnteredRun_busy (s := u) hq)⟩
    · rw [run hq, takeWake_stays (by rw [pins]; exact hw)]
      exact ⟨_, rfl, st, hdr, slices, out⟩
    · rw [run hq, takeWake_wakes st (by rw [pins]; exact hw) (by rw [pins]; exact hv)]
      exact ⟨dozing h u, st, hdr, slices, rfl⟩
  · intro t s u
    refine ⟨fun hst hv => ?_, fun hn => ?_⟩
    · have run : exec (.wakeNAsserted t) s = .next (dozeExit (wakeTaken u)) := congrArg Host.Outcome.next (wakeRun_wakes (s := u) hst hv)
      refine ⟨run, fun hd hr => ?_⟩
      have rest : ∀ p < 64, PortAtRest (port s p) := fun p hp =>
        have ⟨wait, task, parked, tx⟩ := hr p hp
        portAtRest_of_waits wait task parked tx
      obtain ⟨st, pins, ports⟩ := dozeExit_rest (s := wakeTaken u) hst hd rest
      refine ⟨_, run, st, congrArg Pins.wakeN pins, fun p hp hlen => ?_⟩
      rw [ports p hp hlen, woken_of_cfg (t := wakeTaken u) (s := s) rfl]
      rfl
    · exact congrArg Host.Outcome.next (wakeRun_stands (s := u) hn)

end Sys2Proof.Machine

end


section
/-!
SUPPORT. How a mailbox frame reads back (R367, R368, Table 7-3).
-/

namespace Sys2Proof.Machine

set_option Elab.async false

/-! ### Little-endian fields (R15) -/

@[simp] theorem toNat_b8 (n : Nat) : (b8 n).toNat = n % 256 := BitVec.toNat_ofNat ..

@[simp] theorem length_le (k n : Nat) : (le k n).length = k := by
  induction k generalizing n with
  | zero => rfl
  | succ k ih => rw [le, List.length_cons, ih]

theorem ofLe_le (k n : Nat) : ofLe (le k n) = n % 256 ^ k := by
  induction k generalizing n with
  | zero => simp [le, ofLe, Nat.mod_one]
  | succ k ih => rw [le, ofLe, toNat_b8, ih, Nat.pow_succ', Nat.mod_mul]

/-! ### The parts of a frame -/

section
variable (flags queue alive seq limit id sel : Nat) (payload : Bytes)

/-- The 16 bytes before the payload. -/
def frameHead : Bytes :=
  [0x4A, 0x5A, 0x01, b8 flags, b8 queue, b8 alive] ++ le 2 seq ++ le 2 limit ++ le 2 payload.length ++ [b8 id, b8 sel, 0, 0]

theorem length_frameHead : (frameHead flags queue alive seq limit id sel payload).length = 16 := by simp [frameHead]

theorem frameBytes_eq : frameBytes flags queue alive seq limit id sel payload
    = frameHead flags queue alive seq limit id sel payload ++ payload
      ++ le 4 (crc32c (frameHead flags queue alive seq limit id sel payload ++ payload)) := rfl

theorem num_frameBytes_magic : num (frameBytes flags queue alive seq limit id sel payload) 0 2 = 0x5A4A := by
  simp [frameBytes_eq, frameHead, num, slice, ofLe]

/-- The header of a frame reads back, each field within its width. -/
theorem readHead_frameBytes : readHead (frameBytes flags queue alive seq limit id sel payload)
    = ⟨1, flags % 256, queue % 256, alive % 256, seq % 65536, limit % 65536, payload.length % 65536, id % 256, sel % 256, 0⟩ := by
  simp [readHead, frameBytes_eq, frameHead, num, slice, le, ofLe]
  omega

theorem length_frameBytes : (frameBytes flags queue alive seq limit id sel payload).length = 20 + payload.length := by
  simp only [frameBytes_eq, List.length_append, length_frameHead, length_le]
  omega

/-- The payload stands behind the header. -/
theorem slice_frameBytes : slice (frameBytes flags queue alive seq limit id sel payload) 16 payload.length = payload := by
  rw [slice, frameBytes_eq, List.append_assoc, List.drop_left' (length_frameHead ..), List.take_left]

/-- The check covers header and payload, and stands behind them. -/
theorem check_frameBytes : let x := frameBytes flags queue alive seq limit id sel payload
    crc32c (x.take (16 + payload.length)) = BitVec.ofNat 32 (num x (16 + payload.length) 4) := by
  intro x
  have covered : (frameHead flags queue alive seq limit id sel payload ++ payload).length = 16 + payload.length := by
    rw [List.length_append, length_frameHead]
  have end_check : slice x (16 + payload.length) 4 = le 4 (crc32c (x.take (16 + payload.length))) := by
    rw [show x = _ from frameBytes_eq .., slice, List.drop_left' covered, List.take_left' covered, List.take_of_length_le (Nat.le_of_eq (length_le ..))]
  rw [num, end_check, ofLe_le]
  exact BitVec.eq_of_toNat_eq (by simp)

end

/-- Settles O43: each field of the header is within its width, so it reads back as it was written; the check is taken over the same bytes. -/
theorem framesReadBack : Obligations.FramesReadBack := by
  unfold Obligations.FramesReadBack
  intro flags queue alive seq limit id sel payload hflags hqueue halive hseq hlimit hid hsel hlen x
  refine ⟨?_, length_frameBytes .., num_frameBytes_magic .., slice_frameBytes .., check_frameBytes ..⟩
  rw [show readHead x = _ from readHead_frameBytes ..]
  simp only [Nat.mod_eq_of_lt hflags, Nat.mod_eq_of_lt hqueue, Nat.mod_eq_of_lt halive, Nat.mod_eq_of_lt hseq, Nat.mod_eq_of_lt hlimit,
    Nat.mod_eq_of_lt hlen, Nat.mod_eq_of_lt hid, Nat.mod_eq_of_lt hsel]

end Sys2Proof.Machine

end


section
/-!
SUPPORT. What the control records of the host do (R359 to R361, R379, R383, R384).
-/

namespace Sys2Proof.Machine

set_option Elab.async false

variable {s : State} {src : Src}

/-! ### A record on an open cable -/

theorem recordRun_open {r : HostRec} (ho : cableOpen s = true) (hi : s.moduleId ≠ 0xFF) :
    recordRun src r s = onRec src (if fromSession s src then heard s else s) r := by simp [recordRun, ho, hi]

/-- A record of the session's host, which is heard by it. -/
theorem recordRun_session {r : HostRec} (ho : cableOpen s = true) (hi : s.moduleId ≠ 0xFF) (hf : fromSession s src = true) :
    recordRun src r s = onRec src (heard s) r := by rw [recordRun_open ho hi, if_pos hf]

/-- A record of another source. -/
theorem recordRun_other {r : HostRec} (ho : cableOpen s = true) (hi : s.moduleId ≠ 0xFF) (hf : fromSession s src = false) :
    recordRun src r s = onRec src s r := by rw [recordRun_open ho hi, hf, if_neg Bool.false_ne_true]

theorem fromSession_none (hn : s.link.session = none) : fromSession s src = false := by simp [fromSession, hn]

theorem fromSession_some {x : Session} (hx : s.link.session = some x) : fromSession s src = (x.src == src) := by simp [fromSession, hx]

theorem fromSession_heard (hf : fromSession s src = true) : fromSession (heard s) src = true := hf

theorem onHello_none {nonce grant : Nat} (hn : s.link.session = none) : onHello src nonce grant s = openSession src nonce grant s := by
  simp [onHello, hn]

theorem onHello_same {nonce grant : Nat} {x : Session} (hx : s.link.session = some x) (he : x.src = src) :
    onHello src nonce grant s = openSession src nonce grant s := by simp [onHello, hx, he]

/-- Another host has been heard within 2 s (R360). -/
theorem onHello_busy {nonce grant : Nat} {x : Session} (hx : s.link.session = some x) (he : x.src ≠ src)
    (hl : s.now < s.link.lastValid + msT 2000) : onHello src nonce grant s = refuse src 0 E.sessionBusy s := by
  simp [onHello, hx, he, Nat.not_le.mpr hl]

/-! ### Frames in the order of first sending (R361) -/

/-- A frame was first sent before another, or with it. -/
def bornBefore (f g : SentFrame) : Prop := f.birth ≤ g.birth

theorem putByBirth_perm (f : SentFrame) (fs : List SentFrame) : (putByBirth f fs).Perm (f :: fs) := by
  induction fs with
  | nil => exact .refl _
  | cons g fs ih =>
    rw [putByBirth]
    split
    · exact .refl _
    · exact (ih.cons g).trans (.swap f g fs)

theorem byBirth_perm (fs : List SentFrame) : (byBirth fs).Perm fs := by
  induction fs with
  | nil => exact .refl _
  | cons f fs ih => exact (putByBirth_perm f (byBirth fs)).trans (ih.cons f)

theorem putByBirth_sorted {f : SentFrame} {fs : List SentFrame} (h : fs.Pairwise bornBefore) : (putByBirth f fs).Pairwise bornBefore := by
  induction fs with
  | nil => exact List.pairwise_singleton ..
  | cons g fs ih =>
    obtain ⟨first, rest⟩ := List.pairwise_cons.mp h
    rw [putByBirth]
    split
    case isTrue hle => exact List.pairwise_cons.mpr ⟨List.forall_mem_cons.mpr ⟨hle, fun x hx => Nat.le_trans hle (first x hx)⟩, h⟩
    case isFalse hlt =>
      refine List.pairwise_cons.mpr ⟨fun x hx => ?_, ih rest⟩
      rcases List.mem_cons.mp ((putByBirth_perm f fs).mem_iff.mp hx) with rfl | hx
      · exact Nat.le_of_not_le hlt
      · exact first x hx

theorem byBirth_sorted (fs : List SentFrame) : (byBirth fs).Pairwise bornBefore := by
  induction fs with
  | nil => exact .nil
  | cons f fs ih => exact putByBirth_sorted ih

/-! ### Opening a session (R359, R361, R383) -/

/-- The frames a link keeps: those without an ACK, those of earlier sessions, and the control frames that wait. -/
def linkFrames (l : Link) : List SentFrame × List SentFrame × List CtlFrame := (l.replay, l.old, l.ctl)

theorem linkFrames_startDhcp (s : State) : linkFrames (startDhcp s).link = linkFrames s.link := by
  unfold startDhcp
  split
  · dsimp only
    split <;> rfl
  · rfl

/-- Taking the link settings in force keeps every frame. -/
theorem linkFrames_takeLinkCfg (s : State) : linkFrames (takeLinkCfg s).link = linkFrames s.link := by
  unfold takeLinkCfg
  dsimp only
  split
  · rfl
  · exact linkFrames_startDhcp _

/-- The host's frames that go again are those of both stores, in the order of first sending. -/
theorem openSession_old (nonce grant : Nat) : (openSession src nonce grant s).link.old = byBirth (s.link.replay ++ s.link.old) := by
  obtain ⟨replay, old, -⟩ : (takeLinkCfg s).link.replay = s.link.replay ∧ (takeLinkCfg s).link.old = s.link.old ∧ _ := by
    simpa only [linkFrames, Prod.mk.injEq] using linkFrames_takeLinkCfg s
  rw [← replay, ← old]
  rfl

/-- HELLO_ACK carries the credit of all 72 queues, and stands behind the control frames that wait. -/
theorem openSession_ctl (nonce grant : Nat) :
    ∃ c, (openSession src nonce grant s).link.ctl = s.link.ctl ++ [c] ∧ c.dst = src ∧ c.recs.length = 73 := by
  obtain ⟨-, -, ctl⟩ : _ ∧ _ ∧ (takeLinkCfg s).link.ctl = s.link.ctl := by
    simpa only [linkFrames, Prod.mk.injEq] using linkFrames_takeLinkCfg s
  rw [← ctl]
  exact ⟨_, rfl, rfl, by simp⟩

theorem nth_map_range {α : Type} (f : Nat → α) (d : α) {n q : Nat} (h : q < n) : nth ((List.range n).map f) q d = f q := by simp [nth, h]

theorem nth_replicate {α : Type} (a d : α) {n q : Nat} (h : q < n) : nth (List.replicate n a) q d = a := by simp [nth, h]

/-- The limits are the free cells of the inbound rings and the host's grant, and every ring's alive counter starts at 0. -/
theorem openSession_rings (nonce grant : Nat) {q : Nat} (h : q < 72) :
    let l := (openSession src nonce grant s).link
    nth l.rxLimit q 0 = freeIn s q ∧ nth l.txLimit q 0 = grant % 65536 ∧ nth l.rxAlive q 1 = 0 :=
  ⟨nth_map_range (freeIn s) 0 h, nth_replicate _ _ h, nth_replicate _ _ h⟩

/-! ### Limits and acknowledgements (R379, R384) -/

theorem takeLimit_cases (held new : Nat) : takeLimit held new = new % 65536 ∨ takeLimit held new = held := by
  unfold takeLimit
  dsimp only
  split
  · exact .inl rfl
  · exact .inr rfl

/-- A limit that is taken lies ahead of the one held. -/
theorem takeLimit_ahead {held new : Nat} (hn : takeLimit held new ≠ held) :
    (takeLimit held new + 65536 - held) % 65536 ≤ 32767 := by
  unfold takeLimit at hn ⊢
  dsimp only at hn ⊢
  split at hn
  case isTrue hd =>
    rw [if_pos hd]
    simp only [Bool.and_eq_true, decide_eq_true_eq] at hd
    omega
  case isFalse => exact absurd rfl hn

theorem mem_replay_onAck {seq : Nat} {f : SentFrame} :
    f ∈ (onAck seq s).link.replay ↔ f ∈ s.link.replay ∧ 32768 ≤ (seq + 65536 - f.seq) % 65536 := by
  simp [onAck, modLink, List.mem_filter]

/-- Settles O40: each record by its own lemma, on an open cable; and what opening a session, taking a limit and an ACK leave. -/
theorem sessionsCreditAndReplay : Obligations.SessionsCreditAndReplay := by
  unfold Obligations.SessionsCreditAndReplay
  refine ⟨?_, ?_⟩
  · intro t src s ho hi u
    have at_session : ∀ r, fromSession s src = true → recordRun src r u = onRec src (heard u) r := fun _ => recordRun_session (s := u) ho hi
    have at_other : ∀ r, fromSession s src = false → recordRun src r u = onRec src u r := fun _ => recordRun_other (s := u) ho hi
    have only_session : ∀ {a b : State}, fromSession s src = true → (if fromSession (heard u) src then a else b) = a := fun hf =>
      if_pos (fromSession_heard (s := u) hf)
    have not_other : ∀ {a b : State}, fromSession s src = false → (if fromSession u src then a else b) = b := fun hf =>
      if_neg (ne_true_of_eq_false hf)
    refine ⟨fun nonce grant => ⟨fun hn => ?_, fun x hx he => ?_, fun x hx he hl => ?_⟩, fun seq => ⟨fun hf => ?_, fun hf => ?_⟩,
      fun first n => ⟨fun hf => ?_, fun hf => ?_⟩, fun q limit => ⟨fun hf => ?_, fun hf => ?_⟩⟩
    · exact congrArg Host.Outcome.next ((at_other _ (fromSession_none hn)).trans (onHello_none (s := u) hn))
    · have hf : fromSession s src = true := by rw [fromSession_some hx, he, beq_self_eq_true]
      exact congrArg Host.Outcome.next ((at_session _ hf).trans (onHello_same (s := heard u) hx he))
    · have hf : fromSession s src = false := by rw [fromSession_some hx, beq_eq_false_iff_ne.mpr he]
      exact congrArg Host.Outcome.next ((at_other _ hf).trans (onHello_busy (s := u) hx he hl))
    · exact congrArg Host.Outcome.next ((at_session (.ack seq) hf).trans (only_session hf))
    · exact congrArg Host.Outcome.next ((at_other (.ack seq) hf).trans (not_other hf))
    · exact congrArg Host.Outcome.next ((at_session (.nak first n) hf).trans (only_session hf))
    · exact congrArg Host.Outcome.next ((at_other (.nak first n) hf).trans (not_other hf))
    · exact congrArg Host.Outcome.next ((at_session (.credit q limit) hf).trans (only_session hf))
    · exact congrArg Host.Outcome.next ((at_other (.credit q limit) hf).trans (not_other hf))
  · intro src nonce grant seq s v
    have old := byBirth_perm (s.link.replay ++ s.link.old)
    rw [← openSession_old (src := src) nonce grant] at old
    refine ⟨⟨rfl, rfl, rfl, rfl, fun f => old.mem_iff.trans List.mem_append, old.length_eq.trans List.length_append, ?_,
      fun q hq => openSession_rings nonce grant hq, openSession_ctl nonce grant⟩, fun held new _ => ⟨takeLimit_cases held new, takeLimit_ahead⟩,
      fun f => mem_replay_onAck⟩
    rw [show v.link.old = _ from openSession_old nonce grant]
    exact byBirth_sorted _

end Sys2Proof.Machine

end


section
/-!
SUPPORT. What sending, flushing and QUEUE_STATUS do to the rings (R398, R406, R419).
-/

namespace Sys2Proof.Machine

set_option Elab.async false

variable {s : State} {q : Nat}

/-! ### A response leaves every ring but its own and SQ2 (R406) -/

section
variable (hs : q ≠ sq2)
include hs

theorem outRing_recordEv_ne (code : Nat) (stamp : Int) (p : Nat) (args : Bytes) (s : State) :
    outRing (recordEv code stamp p args s) q = outRing s q := by
  unfold recordEv
  dsimp only
  split
  · rfl
  · exact outRing_modOut_ne _ s hs

theorem outRing_raiseAt_ne (code : Nat) (stamp : Int) (p : Nat) (args : Bytes) (s : State) :
    outRing (raiseAt code stamp p args s) q = outRing s q := by
  unfold raiseAt
  dsimp only
  split
  · exact (outRing_recordEv_ne hs ..).trans (outRing_recordEv_ne hs ..)
  · exact outRing_recordEv_ne hs ..

/-- Pushing an item changes its own ring, and SQ2 where a watermark is reported. -/
theorem outRing_pushOut (r : Nat) (it : Item) (s : State) : outRing (pushOut r it s) q = outRing (appendOut r it s) q := by
  unfold pushOut
  dsimp only
  split
  · exact outRing_raiseAt_ne hs ..
  · rfl

variable {r : Nat} (hr : q ≠ r)
include hr

theorem outRing_send_ne (it : Item) (s : State) : outRing (send r it s) q = outRing s q := by
  unfold send
  split
  · exact outRing_modOut_ne _ s hr
  · split
    · exact (outRing_pushOut hs ..).trans (outRing_modOut_ne _ s hr)
    · exact outRing_modOut_ne _ s hr

end

section
variable {h : Hdr} (hs : q ≠ sq2) (hr : q ≠ h.q)
include hs hr

theorem outRing_respond_ne (op status : Nat) (body : Bytes) (s : State) : outRing (respond h op status body s) q = outRing s q := by
  unfold respond
  split
  · rfl
  · exact outRing_send_ne hs hr ..

theorem outRing_respondParts_ne (op : Nat) : ∀ (parts : List Bytes) (s : State), outRing (respondParts h op parts s) q = outRing s q
  | [], s => outRing_respond_ne hs hr op 0 [] s
  | [x], s => outRing_respond_ne hs hr op 0 x s
  | x :: y :: rest, s => (outRing_respondParts_ne op (y :: rest) (respondMore h op x s)).trans (outRing_send_ne hs hr ..)

theorem outRing_respondList_ne (op size : Nat) (recs : List Bytes) (s : State) :
    outRing (respondList h op size recs s) q = outRing s q := outRing_respondParts_ne hs hr op ..

end

/-- What sends items leaves the inbound rings. -/
theorem inRing_of_onlySent {t : State} (h : OnlySent s t) (q : Nat) : inRing t q = inRing s q := by rw [inRing, h.inRings, inRing]

/-! ### QUEUE_STATUS with CLEAR (R398) -/

/-- A change that is made once or more for each named element. -/
theorem nth_foldl_upd {α : Type} {f : α → α} (hf : ∀ x, f (f x) = f x) {qs : List Nat} {xs : List α} {d : α} {q : Nat} (hq : q < xs.length)
    (hm : q ∈ qs ∨ f (nth xs q d) = nth xs q d) : nth (qs.foldl (fun xs p => upd xs p f) xs) q d = f (nth xs q d) := by
  induction qs generalizing xs with
  | nil => exact (hm.resolve_left List.not_mem_nil).symm
  | cons p ps ih =>
    rw [List.foldl_cons]
    by_cases hp : q = p
    · subst hp
      have made : nth (upd xs q f) q d = f (nth xs q d) := nth_upd_self xs f d hq
      rw [ih (by rwa [length_upd]) (.inr (by rw [made, hf])), made, hf]
    · have kept : nth (upd xs p f) q d = nth xs q d := nth_upd_ne xs f d hp
      rw [ih (by rwa [length_upd]) (by rw [kept]; exact hm.imp_left fun h => (List.mem_cons.mp h).resolve_left hp), kept]

/-- The latched flags of an inbound ring and of an outbound ring are cleared. -/
def clearIn (r : InRing) : InRing := { r with flags := clearFlags r.level }
def clearOut (r : OutRing) : OutRing := { r with flags := clearFlags r.level }

/-- The flags of the rings of some queue bytes are cleared. -/
def clearRings (qs : List Nat) (s : State) : State := qs.foldl (fun s q => modIn q clearIn (modOut q clearOut s)) s

theorem inRing_clearRings {qs : List Nat} (hm : q ∈ qs) (hq : q < s.inRings.length) : inRing (clearRings qs s) q = clearIn (inRing s q) := by
  have rings : (clearRings qs s).inRings = qs.foldl (fun xs p => upd xs p clearIn) s.inRings := (List.foldl_hom State.inRings fun _ _ => rfl).symm
  rw [inRing, rings]
  exact nth_foldl_upd (f := clearIn) (fun _ => rfl) hq (.inl hm)

theorem outRing_clearRings {qs : List Nat} (hm : q ∈ qs) (hq : q < s.outRings.length) : outRing (clearRings qs s) q = clearOut (outRing s q) := by
  have rings : (clearRings qs s).outRings = qs.foldl (fun xs p => upd xs p clearOut) s.outRings := (List.foldl_hom State.outRings fun _ _ => rfl).symm
  rw [outRing, rings]
  exact nth_foldl_upd (f := clearOut) (fun _ => rfl) hq (.inl hm)

/-! ### Emptying inbound rings (R419) -/

/-- What an operation makes of each element in turn, and no other undoes, holds of all of them at the end. -/
theorem foldl_makes {α : Type} {f : State → α → State} {P : α → State → Prop} (made : ∀ s x, P x (f s x)) (kept : ∀ s x y, P x s → P x (f s y))
    {xs : List α} {x : α} (hx : x ∈ xs) (s : State) : P x (xs.foldl f s) := by
  induction xs generalizing s with
  | nil => exact absurd hx List.not_mem_nil
  | cons y ys ih =>
    rcases List.mem_cons.mp hx with rfl | hy
    · exact List.foldlRecOn (motive := P x) ys f (made s x) fun v hv z _ => kept v x z hv
    · exact ih hy _

/-- Where an element differs from the one that stands for a missing one, the list holds it. -/
theorem lt_length_of_nth_ne {α : Type} {xs : List α} {i : Nat} {d : α} (h : nth xs i d ≠ d) : i < xs.length :=
  Nat.lt_of_not_le fun hn => h (by rw [nth, List.getElem?_eq_none hn, Option.getD_none])

/-- Taking the first item of a ring. -/
theorem items_popIn (q : Nat) (s : State) : (inRing (popIn q s) q).items = (inRing s q).items.tail := by
  unfold popIn
  split
  case h_1 he => rw [he, List.tail_nil]
  case h_2 e rest he =>
    have hq : q < s.inRings.length := lt_length_of_nth_ne (d := ({} : InRing)) fun hn =>
      List.cons_ne_nil e rest (he.symm.trans (congrArg InRing.items hn))
    have popped : (inRing (modIn q (fun r => { r with items := rest }) s) q).items = rest := congrArg InRing.items (inRing_modIn_self _ s hq)
    rw [he, List.tail_cons]
    cases e <;> exact popped

theorem inRing_popIn_ne {p : Nat} (hp : p ≠ q) (s : State) : inRing (popIn q s) p = inRing s p := by
  unfold popIn
  split
  · rfl
  · rename_i e rest _
    cases e <;> exact inRing_modIn_ne _ s hp

/-- Parts that answering and removing waiting items leave as they are. -/
def flushKeeps (s : State) : List Port × ConfigStore × Bool := (s.ports, s.cfg, s.link.hostLost)

theorem flushKeeps_popIn (q : Nat) (s : State) : flushKeeps (popIn q s) = flushKeeps s := by
  unfold popIn
  split
  · rfl
  · rename_i e rest _
    cases e <;> rfl

theorem flushKeeps_of_onlySent {t : State} (h : OnlySent s t) : flushKeeps t = flushKeeps s := by
  simp only [flushKeeps, h.ports, h.cfg, h.link]

/-- Answering an entry leaves the inbound rings as they are. -/
theorem answerEntry_keeps (q code : Nat) (e : RingEntry) (s : State) :
    (answerEntry q code e s).inRings = s.inRings ∧ flushKeeps (answerEntry q code e s) = flushKeeps s := by
  have fails : ∀ (h : Hdr) (op code : Nat) (d : Detail) (s : State),
      (fail h op code d s).inRings = s.inRings ∧ flushKeeps (fail h op code d s) = flushKeeps s := fun h op code d s =>
    ⟨(onlySent_fail h op code d s).inRings, flushKeeps_of_onlySent (onlySent_fail h op code d s)⟩
  unfold answerEntry
  split
  · exact ⟨rfl, rfl⟩
  · exact ⟨rfl, rfl⟩
  · split
    · exact fails ..
    · exact fails ..
  · split
    · exact fails ..
    · exact ⟨rfl, rfl⟩

theorem inRing_answerEntry (q code p : Nat) (e : RingEntry) (s : State) : inRing (answerEntry q code e s) p = inRing s p := by
  rw [inRing, (answerEntry_keeps q code e s).1, inRing]

/-- Answering as many entries as are given removes as many. -/
theorem items_answer (q code : Nat) (es : List RingEntry) (s : State) :
    (inRing (es.foldl (fun s e => answerEntry q code e (popIn q s)) s) q).items = (inRing s q).items.drop es.length := by
  induction es generalizing s with
  | nil => rfl
  | cons e es ih => rw [List.foldl_cons, ih, inRing_answerEntry, items_popIn, ← List.drop_one, List.drop_drop, List.length_cons, Nat.add_comm]

/-- A ring that is flushed is empty. -/
theorem items_flushRing (q code : Nat) (s : State) : (inRing (flushRing q code s) q).items = [] :=
  (items_answer q code _ s).trans (List.drop_eq_nil_of_le (Nat.le_refl _))

theorem inRing_flushRing_ne {p : Nat} (hp : p ≠ q) (code : Nat) (s : State) : inRing (flushRing q code s) p = inRing s p :=
  List.foldlRecOn (motive := fun v => inRing v p = inRing s p) _ _ rfl fun v hv _ _ =>
    (inRing_answerEntry ..).trans ((inRing_popIn_ne hp v).trans hv)

theorem flushKeeps_flushRing (q code : Nat) (s : State) : flushKeeps (flushRing q code s) = flushKeeps s :=
  foldl_keeps flushKeeps (fun v e => (answerEntry_keeps q code e _).2.trans (flushKeeps_popIn q v)) _ s

/-- A ring that is empty stays so while rings are flushed. -/
theorem items_flushRing_nil {p : Nat} (hp : (inRing s p).items = []) (q code : Nat) : (inRing (flushRing q code s) p).items = [] := by
  by_cases h : p = q
  · subst h
    exact items_flushRing ..
  · rw [inRing_flushRing_ne h, hp]

/-- Ending the HARVEST_STARTs that wait on a port sends answers and changes that port. -/
theorem onlySent_flushStarts (p code : Nat) (s : State) : OnlySent (modPort p (fun x => { x with starts := [] }) s) (flushStarts p code s) :=
  onlySent_foldl (fun s h => onlySent_fail h 0x80 code { port := p } s) ..

theorem starts_flushStarts (p code : Nat) (s : State) : (port (flushStarts p code s) p).starts = [] := by
  rw [port, (onlySent_flushStarts p code s).ports]
  exact port_modPort_makes (P := fun x => x.starts = []) (fun _ => rfl) rfl p s

/-- Where no HARVEST_START waits, none waits after those of a port have ended. -/
theorem starts_flushStarts_nil {p : Nat} (hp : (port s p).starts = []) (r code : Nat) : (port (flushStarts r code s) p).starts = [] := by
  by_cases h : p = r
  · subst h
    exact starts_flushStarts ..
  · rw [port, (onlySent_flushStarts r code s).ports]
    exact (congrArg Port.starts (port_modPort_ne _ s h)).trans hp

theorem inRing_flushStarts (p code q : Nat) (s : State) : inRing (flushStarts p code s) q = inRing s q :=
  inRing_of_onlySent (onlySent_flushStarts p code s) q

/-- Nothing waits on a port. -/
def PortFlushed (p : Nat) (s : State) : Prop := (inRing s p).items = [] ∧ (port s p).starts = []

theorem portFlushRun_flushes {h : Hdr} {mask p : Nat} (hp : p < 64) (hm : bit mask p = true) (s : State) :
    PortFlushed p (portFlushRun h mask s) := by
  have named : p ∈ portsOf mask := List.mem_filter.mpr ⟨List.mem_range.mpr hp, hm⟩
  obtain ⟨items, starts⟩ : PortFlushed p ((portsOf mask).foldl (fun s p => flushStarts p E.cancelled (flushRing p E.cancelled s)) s) := by
    refine foldl_makes (P := PortFlushed) (fun s p => ⟨?_, starts_flushStarts ..⟩) (fun s p r hpr => ⟨?_, starts_flushStarts_nil ?_ ..⟩) named s
    · rw [inRing_flushStarts, items_flushRing]
    · rw [inRing_flushStarts, items_flushRing_nil hpr.1]
    · rw [port_of_ports (congrArg Prod.fst (flushKeeps_flushRing r E.cancelled s)), hpr.2]
  have answered := onlySent_ok h 0x0E (le 2 ((portsOf mask).map (waitingOn s)).sum ++ [0, 0])
    ((portsOf mask).foldl (fun s p => flushStarts p E.cancelled (flushRing p E.cancelled s)) s)
  refine ⟨(congrArg InRing.items (inRing_of_onlySent answered p)).trans items, ?_⟩
  rw [show port (portFlushRun h mask s) p = _ from port_of_ports answered.ports p]
  exact starts

/-- Settles O6: each command's work at its turn. Clearing flags leaves every level as it is, and no flush fills what another has emptied. -/
theorem queuesAreReportedAndFlushed : Obligations.QueuesAreReportedAndFlushed := by
  unfold Obligations.QueuesAreReportedAndFlushed
  refine ⟨fun t h mask s => ⟨fun ht => next_of_work rfl ht rfl, fun ht => ?_⟩, fun t h mask s ht => ?_⟩
  · intro u
    refine ⟨_, next_of_work rfl ht rfl, fun q hq hm => ?_⟩
    have named : q ∈ (List.range 72).filter (bit mask) := List.mem_filter.mpr ⟨List.mem_range.mpr hq, hm⟩
    refine ⟨fun hl => ?_, fun hr hs hl => ?_⟩
    · exact congrArg InRing.flags ((inRing_of_onlySent (onlySent_respondList ..) q).trans (inRing_clearRings named hl))
    · exact congrArg OutRing.flags ((outRing_respondList_ne hs hr ..).trans (outRing_clearRings named hl))
  · exact ⟨_, next_of_work rfl ht rfl, fun p hp hm => portFlushRun_flushes hp hm _⟩

end Sys2Proof.Machine

end


section
/-!
SUPPORT. The checks of a host frame in their order (R355, R357, R370 to R377).
-/

namespace Sys2Proof.Machine

set_option Elab.async false

variable {s : State} {src dst : Src} {x : Bytes}

/-! ### A datagram and its frame (Table 7-5, checks 1 to 3) -/

/-- The datagram is for link.udp_port of an address of the module's own. -/
def forModule (s : State) (dst : Src) : Prop := dst.port = s.link.udpPort ∧ ownAddr s dst.addr = true

/-- The bytes are a mailbox frame whose length and check are right. -/
def FrameWhole (x : Bytes) : Prop :=
  20 ≤ x.length ∧ num x 0 2 = 0x5A4A ∧ x.length = 20 + (readHead x).len ∧ (readHead x).len ≤ 1408
    ∧ crc32c (x.take (16 + (readHead x).len)) = BitVec.ofNat 32 (num x (16 + (readHead x).len) 4)

/-- What becomes of a whole frame, by the checks on its header (Table 7-5, checks 4 to 9). -/
def judgeHead (src : Src) (x : Bytes) (s : State) : State :=
  let h := readHead x
  let payload := slice x 16 h.len
  match headError s h with
  | some code => refuseFrame src h code s
  | none =>
    if h.queue == 0xFF then controlFrame src payload s
    else if !fromSession s src then refuse src h.seq E.noSession s
    else dataFrame src h payload (heard (takeCredit h.queue h.limit s))

theorem hostFrameRun_ignored {vid : Nat} (hi : vid ≠ 0 ∨ ¬ forModule s dst) : hostFrameRun src dst vid x s = s := by
  refine if_pos ?_
  simp only [Bool.or_eq_true, bne_iff_ne, Bool.not_eq_true', ← Bool.not_eq_true]
  by_cases hv : vid = 0
  · have hn : ¬ (dst.port = s.link.udpPort ∧ ownAddr s dst.addr = true) := hi.resolve_left (not_not_intro hv)
    by_cases hp : dst.port = s.link.udpPort
    · exact .inr fun ho => hn ⟨hp, ho⟩
    · exact .inl (.inr hp)
  · exact .inl (.inl (.inr hv))

section
variable (ho : cableOpen s = true) (hm : forModule s dst)
include ho hm

/-- An untagged datagram for the module passes to the checks of its frame. -/
theorem not_ignored : (!cableOpen s || (0 : Nat) != 0 || dst.port != s.link.udpPort || !ownAddr s dst.addr) = false := by
  obtain ⟨hp, ha⟩ := hm
  simp [ho, hp, ha]

theorem hostFrameRun_foreign (hf : x.length < 20 ∨ num x 0 2 ≠ 0x5A4A) :
    hostFrameRun src dst 0 x s = modCnt (fun c => { c with rxForeign := inc32 c.rxForeign }) s := by
  simp only [hostFrameRun, not_ignored ho hm, Bool.false_eq_true, if_false]
  exact if_pos (by simpa using hf)

/-- A whole frame is judged next by its header (checks 4 to 9). -/
theorem hostFrameRun_whole (hw : FrameWhole x) : hostFrameRun src dst 0 x s = judgeHead src x s := by
  obtain ⟨hl, hmagic, hlen, hmax, hcrc⟩ := hw
  have foreign : (decide (x.length < 20) || num x 0 2 != 0x5A4A) = false := by simp [hl, hmagic]
  have wrong_length : (x.length != 20 + (readHead x).len || decide ((readHead x).len > 1408)) = false := by simp [hlen, hmax]
  have wrong_check : (crc32c (x.take (16 + (readHead x).len)) != BitVec.ofNat 32 (num x (16 + (readHead x).len) 4)) = false := by simp [hcrc]
  simp only [hostFrameRun, not_ignored ho hm, foreign, wrong_length, wrong_check, Bool.false_eq_true, if_false]
  rfl

variable (hw : FrameWhole x)
include hw

theorem hostFrameRun_refused {code : Nat} (he : headError s (readHead x) = some code) :
    hostFrameRun src dst 0 x s = refuseFrame src (readHead x) code s := by simp only [hostFrameRun_whole ho hm hw, judgeHead, he]

variable (he : headError s (readHead x) = none) (hq : (readHead x).queue ≠ 0xFF)
include he hq

theorem hostFrameRun_no_session (hf : fromSession s src = false) :
    hostFrameRun src dst 0 x s = refuse src (readHead x).seq E.noSession s := by
  simp [hostFrameRun_whole ho hm hw, judgeHead, he, hq, hf]

theorem hostFrameRun_data (hf : fromSession s src = true) : hostFrameRun src dst 0 x s =
    dataFrame src (readHead x) (slice x 16 (readHead x).len) (heard (takeCredit (readHead x).queue (readHead x).limit s)) := by
  simp [hostFrameRun_whole ho hm hw, judgeHead, he, hq, hf]

end

/-! ### A data frame of the session's host (checks 10 to 14) -/

section
variable {h : Head} {payload : Bytes} (ho : queueOpen s h.queue = true)
include ho

theorem dataFrame_duplicate (hv : seqVerdict s.link h.queue h.seq h.alive = .duplicate) :
    dataFrame src h payload s = sendAck (modCnt (fun c => { c with rxDup := inc32 c.rxDup }) s) := by simp [dataFrame, ho, hv]

theorem dataFrame_accepted {items : List Bytes} (hv : seqVerdict s.link h.queue h.seq h.alive = .fresh)
    (hi : splitItems (payload.length + 1) payload = some items)
    (hc : creditAllows (nth s.link.rxLimit h.queue 0) (nth s.link.rxCells h.queue 0) (frameCells items) = true)
    (hr : frameCells items ≤ freeIn s h.queue) : dataFrame src h payload s = acceptFrame h items s := by
  simp [dataFrame, ho, hv, hi, hc, hr]

end

/-- The payload of a whole frame is as long as its header says. -/
theorem FrameWhole.length_payload (hw : FrameWhole x) : (slice x 16 (readHead x).len).length = (readHead x).len := by
  obtain ⟨-, -, hlen, -, -⟩ := hw
  rw [slice, List.length_take, List.length_drop, hlen]
  omega

/-- Settles O41: the checks of a frame in their order, each case by its lemma. -/
theorem hostFramesAreChecked : Obligations.HostFramesAreChecked := by
  unfold Obligations.HostFramesAreChecked
  intro t src dst x s ho u ours hd good
  refine ⟨fun vid hi => congrArg Host.Outcome.next (hostFrameRun_ignored (s := u) hi),
    fun hm hf => congrArg Host.Outcome.next (hostFrameRun_foreign (s := u) ho hm hf),
    fun hm hw code he => congrArg Host.Outcome.next (hostFrameRun_refused (s := u) ho hm hw he),
    fun hm hw he hq hf => congrArg Host.Outcome.next (hostFrameRun_no_session (s := u) ho hm hw he hq hf), ?_⟩
  intro hm hw he hq hf w hopen
  have checked : exec (.hostDataFrame t src 0 ⟨dst, x⟩) s = .next (dataFrame src hd (slice x 16 hd.len) w) :=
    congrArg Host.Outcome.next (hostFrameRun_data (s := u) ho hm hw he hq hf)
  rw [checked]
  refine ⟨fun hv => congrArg Host.Outcome.next (dataFrame_duplicate hopen hv), fun items hv hi hc hr => ?_⟩
  have split : splitItems ((slice x 16 hd.len).length + 1) (slice x 16 hd.len) = some items := by
    rw [FrameWhole.length_payload hw]
    exact hi
  exact congrArg Host.Outcome.next (dataFrame_accepted hopen hv split hc hr)

end Sys2Proof.Machine

end


section
/-!
SUPPORT. The timers of the link (R358, R375, R377, R379, R395).
-/

namespace Sys2Proof.Machine

set_option Elab.async false

variable {s : State} {n : Nat}

theorem ackDelayRun_due (hd : s.link.ackDue = some n) (hn : n ≤ s.now) : ackDelayRun s = sendAck s := by simp [ackDelayRun, hd, hn]

theorem ackDelayRun_early (hd : s.link.ackDue = some n) (hn : s.now < n) : ackDelayRun s = s := by
  simp [ackDelayRun, hd, Nat.not_le.mpr hn]

theorem nakRepeatRun_due (hd : s.link.nakDue = some n) (hn : n ≤ s.now) : nakRepeatRun s = sendNak s := by simp [nakRepeatRun, hd, hn]

theorem nakRepeatRun_early (hd : s.link.nakDue = some n) (hn : s.now < n) : nakRepeatRun s = s := by
  simp [nakRepeatRun, hd, Nat.not_le.mpr hn]

/-- The frames that go again once the oldest has waited too long: it, and those marked before. -/
def resendOldest (f : SentFrame) (l : Link) : Link :=
  { l with resend := (l.replay.map (·.seq)).filter fun n => n == f.seq || l.resend.contains n }

theorem retxRun_due {f : SentFrame} {fs : List SentFrame} (hr : s.link.replay = f :: fs)
    (hn : f.sentAt + usT (mAttrN s A.linkRetxTimeoutUs) ≤ s.now) : retxRun s = modLink (resendOldest f) s := by
  unfold retxRun
  rw [hr]
  exact if_neg (Nat.not_lt.mpr hn)

theorem mem_resendOldest {f : SentFrame} {fs : List SentFrame} {l : Link} (hr : l.replay = f :: fs) : f.seq ∈ (resendOldest f l).resend := by
  simp [resendOldest, hr]

theorem staleRun_due {q : Nat} (hd : (outRing s q).staleAt = some n) (hn : n ≤ s.now) (hi : (outRing s q).items ≠ []) :
    staleRun q s = modOut q (fun r => { r with staleFired := true }) s := by simp [staleRun, hd, hn, hi]

/-- Without an IPv4 address the announcement goes to the nodes of IPv6 alone. -/
theorem announceRun_due (ho : cableOpen s = true) (hs : s.link.session = none) (hn : s.link.announceAt ≤ s.now) (hm : s.link.ipv4Mode = 0) :
    announceRun s = modLink (fun l => { l with announceAt := s.now + msT 1000 }) (announce s) := by
  have waits : (!cableOpen s || s.link.session.isSome || decide (s.now < s.link.announceAt)) = false := by simp [ho, hs, hn]
  have no_address : ipv4Of (modLink (fun l => { l with announceAt := s.now + msT 1000 }) (announce s)) = none := by
    simp [ipv4Of, announce, sendCtl, modLink, hm]
  simp only [announceRun, waits, Bool.false_eq_true, if_false, no_address]

theorem announceRun_session (hs : s.link.session.isSome = true) : announceRun s = s := by simp [announceRun, hs]

/-- Settles O44: each timer by its lemmas, in the state the clock has moved to. -/
theorem linkTimersAct : Obligations.LinkTimersAct := by
  unfold Obligations.LinkTimersAct
  intro t s u
  refine ⟨fun n hd => ⟨fun hn => congrArg Host.Outcome.next (ackDelayRun_due (s := u) hd hn),
      fun hn => congrArg Host.Outcome.next (ackDelayRun_early (s := u) hd hn)⟩,
    fun n hd => ⟨fun hn => congrArg Host.Outcome.next (nakRepeatRun_due (s := u) hd hn),
      fun hn => congrArg Host.Outcome.next (nakRepeatRun_early (s := u) hd hn)⟩,
    fun f fs hr hn => ?_, fun q n hd hn hi => congrArg Host.Outcome.next (staleRun_due (s := u) hd hn hi),
    fun ho hs hn hm => congrArg Host.Outcome.next (announceRun_due (s := u) ho hs hn hm),
    fun _ hs => congrArg Host.Outcome.next (announceRun_session (s := u) hs)⟩
  exact ⟨_, congrArg Host.Outcome.next (retxRun_due (s := u) hr hn), mem_resendOldest (l := u.link) hr, rfl, rfl⟩

end Sys2Proof.Machine

end


section
/-!
SUPPORT. One turn of the link transmit arbiter (R361, R374, R379, R601).
-/

namespace Sys2Proof.Machine

set_option Elab.async false

variable {s : State}

/-! ### What leaves in a turn -/

theorem transmitRun_open (hs : s.link.speed ≠ 0) (hp : s.mod.st ≠ .powerUp) (hr : s.mod.resetDue = 0) : transmitRun s = transmitOne s := by
  simp [transmitRun, hs, hp, hr]

theorem sendDueCredits_none (hc : ∀ e ∈ s.link.creditDue, s.now < e.2) : sendDueCredits s = s := by
  have none_due : (s.link.creditDue.filter fun e => decide (e.2 ≤ s.now)) = [] := by
    simpa [List.filter_eq_nil_iff] using hc
  simp only [sendDueCredits, none_due, List.isEmpty_nil, if_true]

/-- The bytes of a control frame. -/
def ctlBytes (s : State) (c : CtlFrame) : Bytes := frameBytes (frameFlags s false) 0xFF 0 0 0 s.moduleId 0 (c.recs.map CtlRec.bytes).flatten

/-- The bytes of a data frame, with the present limit of its queue number. -/
def dataBytes (s : State) (retx : Bool) (f : SentFrame) : Bytes :=
  frameBytes (frameFlags s retx) f.queue f.alive f.seq (nth s.link.rxLimit f.queue 0) s.moduleId f.sel f.payload

/-- A frame's limit counts as its advertisement (R383). -/
def advertised (f : SentFrame) (l : Link) : Link := { l with creditDue := l.creditDue.filter fun e => e.1 != f.queue }

theorem emitFrame_session {retx : Bool} {f : SentFrame} {x : Session} (hx : s.link.session = some x) :
    emitFrame retx f s = { s with sent := .frame s.link.udpPort x.src (dataBytes s retx f) :: s.sent, link := advertised f s.link } := by
  unfold emitFrame
  rw [hx]
  rfl

section
variable (hc : ∀ e ∈ s.link.creditDue, s.now < e.2)
include hc

theorem transmitOne_control {c : CtlFrame} {rest : List CtlFrame} (hl : s.link.ctl = c :: rest) : transmitOne s =
    { s with sent := .frame s.link.udpPort c.dst (ctlBytes s c) :: s.sent, link := { s.link with ctl := rest } } := by
  unfold transmitOne
  rw [sendDueCredits_none hc]
  simp only [hl]
  rfl

/-- The link as a frame is sent again. -/
def retransmitted (now n : Nat) (rest : List Nat) (l : Link) : Link :=
  { l with resend := rest, cnt := { l.cnt with retx := inc32 l.cnt.retx },
           replay := l.replay.map fun g => if g.seq == n then { g with sentAt := now } else g }

theorem transmitOne_retransmission {n : Nat} {rest : List Nat} {f : SentFrame} {x : Session} (hl : s.link.ctl = [])
    (hr : s.link.resend = n :: rest) (hf : (s.link.replay.find? fun f => f.seq == n) = some f) (hx : s.link.session = some x) :
    let w : State := { s with link := retransmitted s.now n rest s.link }
    transmitOne s = { w with sent := .frame s.link.udpPort x.src (dataBytes w true f) :: s.sent, link := advertised f w.link } := by
  intro w
  have again : transmitOne s = emitFrame true f w := by
    unfold transmitOne
    rw [sendDueCredits_none hc]
    simp only [hl, hr]
    rw [show (modLink (fun l => { l with resend := rest }) s).link.replay.find? (fun f => f.seq == n) = some f from hf]
    rfl
  rw [again]
  exact emitFrame_session (s := w) hx

theorem transmitOne_new {x : Session} (hl : s.link.ctl = []) (hr : s.link.resend = []) (hx : s.link.session = some x) :
    transmitOne s = transmitNew s := by
  unfold transmitOne
  rw [sendDueCredits_none hc]
  simp [hl, hr, hx]

end

/-! ### New data frames (R374, R379) -/

/-- Latching NO_CREDIT changes outbound rings and nothing else. -/
theorem latchNoCredit_frame (s : State) : ∃ rings, latchNoCredit s = { s with outRings := rings } := by
  refine List.foldlRecOn (motive := fun v : State => ∃ rings : List OutRing, v = { s with outRings := rings }) _ _ ⟨s.outRings, rfl⟩ ?_
  rintro _ ⟨rings, rfl⟩ q -
  split
  · exact ⟨_, rfl⟩
  · exact ⟨rings, rfl⟩

theorem onlySent_drainWaiting (q n : Nat) (s : State) : OnlySent s (drainWaiting q n s) := by
  induction n generalizing s with
  | zero => exact .refl s
  | succ n ih =>
    rw [drainWaiting]
    split
    · exact .refl s
    · split
      · exact ((onlySent_modOut ..).trans (onlySent_pushOut ..)).trans (ih _)
      · exact .refl s

theorem onlySent_popOut (q n : Nat) (s : State) : OnlySent s (popOut q n s) := (onlySent_modOut ..).trans (onlySent_drainWaiting ..)

/-- A data frame under the next sequence and its queue's next alive counter. -/
def newFrame (q sel cells birth : Nat) (payload : Bytes) (s : State) : SentFrame :=
  ⟨s.link.txSeq, q, nth s.link.txAlive q 0, sel, payload, cells, s.now, birth⟩

/-- The link as it takes a new frame: the frame is counted, and enters the replay store. -/
def counting (f : SentFrame) (l : Link) : Link :=
  { l with txSeq := (l.txSeq + 1) % 65536, txAlive := upd l.txAlive f.queue fun a => (a + 1) % 256,
           txCells := upd l.txCells f.queue fun c => c + f.cells, replay := l.replay ++ [f], rr := f.queue }

/-- Between `s` and `v` a new data frame of the payload given has left for `dst` under the next sequence, and is in the replay store. -/
structure NewFrameSent (s v : State) (dst : Src) (payload b : Bytes) : Prop where
  sent : v.sent = .frame s.link.udpPort dst b :: s.sent
  seq : (readHead b).seq = s.link.txSeq % 65536
  payload : slice b 16 payload.length = payload
  txSeq : v.link.txSeq = (s.link.txSeq + 1) % 65536
  replay : v.link.replay.length = s.link.replay.length + 1
  old : v.link.old = s.link.old

section
variable {x : Session} (hx : s.link.session = some x)
include hx

theorem emitNew_session (q sel cells birth : Nat) (payload : Bytes) :
    let f := newFrame q sel cells birth payload s
    let w : State := { s with link := counting f s.link }
    emitNew q sel cells birth payload s =
      { w with sent := .frame s.link.udpPort x.src (dataBytes w false f) :: s.sent, link := advertised f w.link } := by
  intro f w
  exact emitFrame_session (s := w) hx

theorem emitNew_sends (q sel cells birth : Nat) (payload : Bytes) :
    ∃ b, NewFrameSent s (emitNew q sel cells birth payload s) x.src payload b := by
  rw [emitNew_session hx]
  exact ⟨_, rfl, congrArg Head.seq (readHead_frameBytes ..), slice_frameBytes .., rfl, List.length_append, rfl⟩

/-- The ring served next sends a run of its items, which leave the ring. -/
theorem transmitNew_run {q : Nat} {xs : List OutItem} (hp : pickRing (latchNoCredit s) = some (q, .run xs)) :
    ∃ w b, NewFrameSent s w x.src (xs.map (·.bytes)).flatten b ∧ OnlySent w (transmitNew s) := by
  obtain ⟨rings, latched⟩ := latchNoCredit_frame s
  obtain ⟨b, left⟩ := emitNew_sends (s := { s with outRings := rings, link := { s.link with born := s.link.born + 1 } }) hx q
    (((xs.head?).map (·.sel)).getD 0) (runCells xs) s.link.born (xs.map (·.bytes)).flatten
  refine ⟨_, b, ⟨left.sent, left.seq, left.payload, left.txSeq, left.replay, left.old⟩, ?_⟩
  unfold transmitNew
  dsimp only
  rw [hp, latched]
  exact onlySent_popOut ..

/-- It sends a frame of an earlier session, which leaves those that wait. -/
theorem transmitNew_old {q : Nat} {f : SentFrame} (hp : pickRing (latchNoCredit s) = some (q, .old f)) :
    ∃ b, NewFrameSent { s with link := { s.link with old := s.link.old.erase f } } (transmitNew s) x.src f.payload b := by
  obtain ⟨rings, latched⟩ := latchNoCredit_frame s
  obtain ⟨b, left⟩ := emitNew_sends (s := { s with outRings := rings, link := { s.link with old := s.link.old.erase f } }) hx q
    f.sel f.cells f.birth f.payload
  refine ⟨b, ?_⟩
  unfold transmitNew
  dsimp only
  rw [hp, latched]
  exact ⟨left.sent, left.seq, left.payload, left.txSeq, left.replay, left.old⟩

end

/-- Settles O45: the arbiter's turn by what waits, with no credit due. -/
theorem linkTransmitsInOrder : Obligations.LinkTransmitsInOrder := by
  unfold Obligations.LinkTransmitsInOrder
  intro t s hs hp hr hc u
  have run : exec (.linkTransmit t) s = .next (transmitOne u) := congrArg Host.Outcome.next (transmitRun_open (s := u) hs hp hr)
  rw [run]
  refine ⟨fun c rest hl => ?_, fun n rest f x hl hre hf hx => ?_, fun q xs x hl hre hx hseq hpick => ?_, fun q f x hl hre hx hseq hpick => ?_⟩
  · rw [transmitOne_control (s := u) hc hl]
    exact ⟨_, ctlBytes u c, rfl, rfl, rfl, congrArg Head.queue (readHead_frameBytes ..), rfl⟩
  · rw [transmitOne_retransmission (s := u) hc hl hre hf hx]
    exact ⟨_, _, rfl, rfl, rfl, rfl, rfl, slice_frameBytes .., rfl⟩
  · obtain ⟨w, b, left, popped⟩ := transmitNew_run (s := u) hx hpick
    rw [transmitOne_new (s := u) hc hl hre hx]
    exact ⟨_, b, rfl, popped.sent.trans left.sent, (congrArg Link.txSeq popped.link).trans left.txSeq, left.seq.trans (Nat.mod_eq_of_lt hseq),
      (congrArg (·.replay.length) popped.link).trans left.replay⟩
  · obtain ⟨b, left⟩ := transmitNew_old (s := u) hx hpick
    rw [transmitOne_new (s := u) hc hl hre hx]
    exact ⟨_, b, rfl, left.sent, left.old, left.txSeq, left.payload⟩

end Sys2Proof.Machine

end


section
/-!
SUPPORT. The link itself and what the module's addresses answer (R351 to R356, R446).
-/

namespace Sys2Proof.Machine

set_option Elab.async false

variable {s : State}

/-! ### The link (R351, R353, R363) -/

theorem linkUpRun_up {v : Nat} (hp : s.mod.st ≠ .powerUp) (ha : (advertOf s).contains v = true) (hv : v ≠ s.link.speed) :
    let w : State := { s with link := { s.link with speed := v, trainFails := 0, announceAt := s.now } }
    linkUpRun v s = raise Ev.linkSpeed 0xFF [b8 s.link.speed, b8 v] (if s.link.speed = 0 then startDhcp (requestPower w) else w) := by
  have taken : (s.mod.st == .powerUp || !(advertOf s).contains v || v == s.link.speed) = false := by
    rw [ha]
    simp [hp, hv]
  simp only [linkUpRun, taken, Bool.false_eq_true, if_false, beq_iff_eq]
  rfl

section
variable (hp : s.mod.st ≠ .powerUp) (ha : (advertOf s).contains 3 = true)
include hp ha

/-- A training at 2.5GBASE-T is counted, or the third in a row acts. -/
theorem trainingFailRun_advertised : trainingFailRun s =
    if s.link.trainFails < 2 then modLink (fun l => { l with trainFails := l.trainFails + 1 }) s
    else raise Ev.linkSpeed 0xFF [3, 2] (modLink (fun l => { l with trainFails := 0, only1000 := true }) s) := by
  have trains : (s.mod.st == .powerUp || !(advertOf s).contains 3) = false := by
    rw [ha]
    simp [hp]
  simp only [trainingFailRun, trains, Bool.false_eq_true, if_false]

theorem trainingFailRun_counts (hn : s.link.trainFails < 2) :
    trainingFailRun s = modLink (fun l => { l with trainFails := l.trainFails + 1 }) s := by rw [trainingFailRun_advertised hp ha, if_pos hn]

theorem trainingFailRun_third (hn : 2 ≤ s.link.trainFails) : trainingFailRun s =
    raise Ev.linkSpeed 0xFF [3, 2] (modLink (fun l => { l with trainFails := 0, only1000 := true }) s) := by
  rw [trainingFailRun_advertised hp ha, if_neg (Nat.not_lt.mpr hn)]

end

/-- A link that has advertised 2.5GBASE-T and then has only 1000BASE-T left advertises that alone. -/
theorem advertOf_only1000 (ha : (advertOf s).contains 3 = true) :
    advertOf { s with link := { s.link with trainFails := 0, only1000 := true } } = [2] := by
  have not_dropped : (s.mod.st == .doze && s.link.dropped) = false := by
    refine Bool.eq_false_iff.mpr fun hd => ?_
    rw [advertOf, if_pos hd] at ha
    exact absurd ha (by decide)
  simp only [advertOf, not_dropped, Bool.false_eq_true, if_false, Bool.true_or, if_true]

/-! ### Neighbours (R356, R446) -/

section
variable {mac : Nat} (ho : cableOpen s = true) (hi : s.moduleId ≠ 0xFF) (hm : mac ≠ s.nvm.mac)
include ho hi hm

/-- An ANNOUNCE of another module with the module's own ID. -/
theorem announceHeard_clash : announceHeard s.moduleId mac s =
    if s.cluster.clashes.contains mac then announce s
    else announce (raise Ev.idClash 0xFF (le 6 mac) { s with cluster := { s.cluster with clashes := mac :: s.cluster.clashes } }) := by
  have clash : (!cableOpen s || s.moduleId != s.moduleId || s.moduleId == 0xFF || mac == s.nvm.mac) = false := by simp [ho, hi, hm]
  simp only [announceHeard, clash, Bool.false_eq_true, if_false]

theorem announceHeard_first (hc : s.cluster.clashes.contains mac = false) : announceHeard s.moduleId mac s =
    announce (raise Ev.idClash 0xFF (le 6 mac) { s with cluster := { s.cluster with clashes := mac :: s.cluster.clashes } }) := by
  rw [announceHeard_clash ho hi hm, hc, if_neg Bool.false_ne_true]

theorem announceHeard_again (hc : s.cluster.clashes.contains mac = true) : announceHeard s.moduleId mac s = announce s := by
  rw [announceHeard_clash ho hi hm, if_pos hc]

end

section
variable {addr : Nat} (ho : cableOpen s = true)
include ho

theorem echoRun_v6 {data : Bytes} (hd : data.length ≤ 1452) :
    echoRun true addr data s = { s with sent := .echoReply true addr data :: s.sent } := by
  have answered : (!cableOpen s || (!true && (ipv4Of s).isNone) || decide (data.length > 1452)) = false := by
    rw [ho, decide_eq_false (Nat.not_lt.mpr hd)]
    rfl
  exact if_neg (ne_true_of_eq_false answered)

theorem neighborRun_v6 : neighborRun true addr (linkLocal s) s = { s with sent := .neighbor true addr (linkLocal s) s.nvm.mac :: s.sent } := by
  simp [neighborRun, ho]

theorem neighborRun_v4 {a n : Nat} (ha : ipv4Of s = some (a, n)) :
    neighborRun false addr a s = { s with sent := .neighbor false addr a s.nvm.mac :: s.sent } := by simp [neighborRun, ho, ha]

end

/-- Whether the clock has moved past the end of a DHCP exchange decides whether its lease is held; a lease that is held stays held. -/
theorem ipv4Of_advance {t : Nat} {a : Nat × Nat} (ha : ipv4Of s = some a) : ipv4Of (advance t s) = some a := by
  by_cases hm : s.link.ipv4Mode = 1
  · cases hl : s.link.lease with
    | none => simp [ipv4Of, hm, hl] at ha
    | some l =>
      have held : l.2.2 ≤ s.now ∧ (l.1, l.2.1) = a := by simpa [ipv4Of, hm, hl] using ha
      have still : l.2.2 ≤ max s.now t := Nat.le_trans held.1 (Nat.le_max_left ..)
      simp only [ipv4Of, advance_link, advance_now, hm, hl, beq_self_eq_true, if_true, ge_iff_le, still, held.2]
  · have later : ¬ (advance t s).link.ipv4Mode = 1 := hm
    simp only [ipv4Of, beq_iff_eq, hm, later, if_false] at ha ⊢
    exact ha

/-- Settles O47: the link and each answer by its lemmas. -/
theorem linkAndNeighbours : Obligations.LinkAndNeighbours := by
  unfold Obligations.LinkAndNeighbours
  refine ⟨fun t s => ?_, fun t s ho => ?_⟩
  · intro u
    refine ⟨fun v hp ha hv => congrArg Host.Outcome.next (linkUpRun_up (s := u) hp ha hv), rfl, fun hp ha => ⟨fun hn => ?_, fun hn => ⟨?_, ?_⟩⟩⟩
    · exact congrArg Host.Outcome.next (trainingFailRun_counts (s := u) hp ha hn)
    · exact congrArg Host.Outcome.next (trainingFailRun_third (s := u) hp ha hn)
    · exact advertOf_only1000 (s := u) ha
  · intro u
    refine ⟨fun mac hi hm => ⟨fun hc => ?_, fun hc => ?_⟩, fun addr data hd => ?_, fun addr => ?_, fun addr a n ha => ?_⟩
    · exact congrArg Host.Outcome.next (announceHeard_first (s := u) ho hi hm hc)
    · exact congrArg Host.Outcome.next (announceHeard_again (s := u) ho hi hm hc)
    · exact congrArg Host.Outcome.next (echoRun_v6 (s := u) ho hd)
    · exact congrArg Host.Outcome.next (neighborRun_v6 (s := u) ho)
    · exact congrArg Host.Outcome.next (neighborRun_v4 (s := u) ho (ipv4Of_advance ha))

end Sys2Proof.Machine

end


section
/-!
SUPPORT. The power allocation, and the supply as it fails and returns (R364, R365, R416, R559, R566).
-/

namespace Sys2Proof.Machine

set_option Elab.async false

variable {s : State} {mw : Nat}

/-! ### The allocation (R364, R365) -/

theorem allocLowerRun_takes (hl : lldpReaches s = true) (hm : mw < s.power.allocMw) : allocLowerRun mw s =
    raise Ev.powerAlloc 0xFF (allocArgs (allocNow s) mw) (shedRun { s with
      press := { s.press with stopped := true }, power := { s.power with allocPending := some mw } }) := by
  have taken : (!lldpReaches s || decide (mw ≥ s.power.allocMw)) = false := by simp [hl, hm]
  simp only [allocLowerRun, taken, Bool.false_eq_true, if_false]
  rfl

section
variable {new : Nat} (hn : s.power.allocPending = some new)
include hn

theorem allocAckRun_waits (hm : new ≤ mw) : allocAckRun mw s = { s with power := { s.power with inputMw := mw } } := by
  simp [allocAckRun, modPower, hn, hm]

theorem allocAckRun_acknowledges (hm : mw < new) (hp : s.mod.st ≠ .powerUp) (hr : s.mod.resetDue = 0) : allocAckRun mw s =
    grantAll s.press.waiting.length { s with
      press := { s.press with stopped := false }, sent := .lldp new new :: s.sent,
      power := { s.power with inputMw := mw, allocMw := new, allocPending := none } } := by
  simp [allocAckRun, modPower, hn, Nat.not_le.mpr hm, hp, hr]

end

/-- A higher allocation, or the old one again while a lower one waits. -/
theorem allocHigherRun_takes (hl : lldpReaches s = true) (hm : s.power.allocMw < mw ∨ (s.power.allocPending.isSome = true ∧ mw = s.power.allocMw))
    (hr : s.mod.resetDue = 0) :
    let w := raise Ev.powerAlloc 0xFF (allocArgs (allocNow s) mw) { s with
      press := { s.press with stopped := false }, sent := .lldp mw mw :: s.sent, power := { s.power with allocMw := mw, allocPending := none } }
    allocHigherRun mw s = prismAll (grantAll w.press.waiting.length w) := by
  have wanted : (decide (mw > s.power.allocMw) || (s.power.allocPending.isSome && mw == s.power.allocMw)) = true := by simpa using hm
  have taken : (!lldpReaches s || s.mod.resetDue != 0
      || !(decide (mw > s.power.allocMw) || (s.power.allocPending.isSome && mw == s.power.allocMw))) = false := by simp only [hl, hr, wanted]; rfl
  simp only [allocHigherRun, taken, Bool.false_eq_true, if_false]
  rfl

/-! ### The supply fails (R559, R565, R566) -/

variable {mv : Nat}

theorem piFailRun_holds (hl : 40000 ≤ mv) (hh : mv ≤ 60000) : piFailRun mv s = s := by simp [piFailRun, hl, hh]

theorem piFailRun_fails (hm : mv < 40000 ∨ 60000 < mv) (hf : s.power.failed = false) :
    piFailRun mv s = afterReset 1 { s with power := { s.power with piMv := mv } } := by
  have outside : (decide (40000 ≤ mv) && decide (mv ≤ 60000)) = false := by
    simpa only [Bool.and_eq_false_iff, decide_eq_false_iff_not, Nat.not_le] using hm
  simp only [piFailRun, outside, Bool.false_eq_true, if_false]
  exact if_neg (ne_true_of_eq_false hf)

/-- Raising the image floor changes the floor alone, and never lowers it. -/
theorem raiseFloor_keeps (i : Nat) (n : Nvm) : (n.raiseFloor i).saved = n.saved
    ∧ (n.raiseFloor i).sec = { n.sec with svnFloor := (n.raiseFloor i).sec.svnFloor } ∧ n.sec.svnFloor ≤ (n.raiseFloor i).sec.svnFloor := by
  unfold Nvm.raiseFloor
  dsimp only
  split
  · exact ⟨rfl, rfl, Nat.le_max_left ..⟩
  · exact ⟨rfl, rfl, Nat.le_refl _⟩

/-- A reset keeps the saved configuration, and of the security state all but the image floor, which may rise. -/
theorem nvmAfter_keeps (m : Mod) (n : Nvm) : (nvmAfter m n).saved = n.saved
    ∧ (nvmAfter m n).sec = { n.sec with svnFloor := (nvmAfter m n).sec.svnFloor } ∧ n.sec.svnFloor ≤ (nvmAfter m n).sec.svnFloor := by
  unfold nvmAfter
  dsimp only
  split
  · exact ⟨rfl, rfl, Nat.le_refl _⟩
  · exact raiseFloor_keeps ..

/-- Loss of power is the lowest cause, so it is the cause of the reset whatever the state. -/
theorem afterReset_power_cause (hc : 1 ≤ s.mod.resetCause) : (afterReset 1 s).mod.resetCause = 1 := by
  show (if s.mod.st == .powerUp then min 1 s.mod.resetCause else 1) = 1
  rw [Nat.min_eq_left hc, ite_self]

theorem afterReset_power_failed (hc : 1 ≤ s.mod.resetCause) : (afterReset 1 s).power.failed = true := by
  show ((if s.mod.st == .powerUp then min 1 s.mod.resetCause else 1) == 1) = true
  rw [Nat.min_eq_left hc, ite_self]
  rfl

/-! ### The supply returns (R362, R363, R559) -/

/-- The class that physical classification gives. -/
def classGiven (cls : Nat) : Nat := if cls ≥ 8 then 8 else 6

theorem classAlloc_given (cls : Nat) : classAlloc (classGiven cls) = if 8 ≤ cls then 71300 else 51000 := by
  unfold classGiven
  split <;> rfl

theorem piReturnRun_starts {cls : Nat} (hl : 42000 ≤ mv) (hh : mv ≤ 60000) (hf : s.power.failed = true) : piReturnRun mv cls s =
    modPower (fun w => { w with
      piMv := mv, failed := false, physClass := classGiven cls, allocMw := classAlloc (classGiven cls),
      rails := upd w.rails 0 fun _ => { en := true, reg := false, enAt := 0 } }) { s with now := 0 } := by
  have back : (decide (mv < 42000) || decide (mv > 60000) || !s.power.failed) = false := by simp [hl, hh, hf]
  simp only [piReturnRun, back, Bool.false_eq_true, if_false]
  rfl

/-- Settles O48: the allocation by its lemmas; what a failed supply leaves is what a reset by it leaves. -/
theorem supplyAndAllocation : Obligations.SupplyAndAllocation := by
  unfold Obligations.SupplyAndAllocation
  refine ⟨fun t mw s => ?_, fun t mv cls s => ⟨fun hm => if_pos hm, fun hm hout hf hc => ?_, fun hl hh => ?_, fun hl hh hf => ?_⟩⟩
  · intro u
    refine ⟨fun hl hm => congrArg Host.Outcome.next (allocLowerRun_takes (s := u) hl hm), fun new hn hp => ⟨fun hm => ?_, fun hm hr => ?_⟩,
      fun hl hm hr => congrArg (fun v => Host.Outcome.next (noteSkipped v)) (allocHigherRun_takes (s := u) hl hm hr)⟩
    · exact congrArg Host.Outcome.next (allocAckRun_waits (s := u) hn hm)
    · exact congrArg Host.Outcome.next (allocAckRun_acknowledges (s := u) hn hm hp hr)
  · have run : exec (.piVoltageFail t mv) s = .next (piFailRun mv (advance t s)) := if_neg (Nat.not_lt.mpr hm)
    obtain ⟨saved, sec, floor⟩ := nvmAfter_keeps s.mod (charge { advance t s with power := { s.power with piMv := mv } }).nvm
    rw [run, piFailRun_fails (s := advance t s) hout hf]
    exact ⟨_, rfl, rfl, afterReset_power_cause (s := { advance t s with power := { s.power with piMv := mv } }) hc,
      afterReset_power_failed (s := { advance t s with power := { s.power with piMv := mv } }) hc, rfl, rfl, rfl, rfl, sec, floor, saved, rfl⟩
  · have run : exec (.piVoltageFail t mv) s = .next (piFailRun mv (advance t s)) := if_neg (by omega)
    rw [run, piFailRun_holds hl hh]
  · refine ⟨_, congrArg Host.Outcome.next (piReturnRun_starts (s := advance t s) hl hh hf), rfl, rfl, rfl, classAlloc_given cls, fun hr => ?_⟩
    exact nth_upd_self _ _ _ hr

end Sys2Proof.Machine

end


section
/-!
SUPPORT. ITEM_POP, RESULT_PUSH and the loss of the host (R278, R387, R394, R399, R402, R412).
-/

namespace Sys2Proof.Machine

set_option Elab.async false

variable {s : State}

/-! ### ITEM_POP (R387, R412) -/

section
variable {q : Nat}

/-- Where the entry at the head is not marked done, none is dropped. -/
theorem dropDone_none (hd : ∀ e ∈ (inRing s q).items.head?, e.isDone = false) (n : Nat) : dropDone q n s = s := by
  cases n with
  | zero => rfl
  | succ n =>
    rw [dropDone]
    split
    case h_1 e rest he =>
      rw [hd e (by rw [he]; rfl), if_neg Bool.false_ne_true]
    case h_2 => rfl

theorem head_not_done {i : Instr} {n : Nat} {rest : List RingEntry} (hi : (inRing s q).items = .cmd i n false :: rest) :
    ∀ e ∈ (inRing s q).items.head?, e.isDone = false := by
  rw [hi]
  rintro _ ⟨⟩
  rfl

theorem itemPopRun_stalled (hs : stalled s q = true) : itemPopRun q s = s := by simp [itemPopRun, hs]

section
variable (hp : s.mod.st ≠ .powerUp) (hr : s.mod.resetDue = 0) (hs : stalled s q = false)
  (hd : ∀ e ∈ (inRing s q).items.head?, e.isDone = false) (ho : canOvertake s q = false ∨ ∀ e ∈ (inRing s q).items, overtaker e = false)
include hp hr hs hd ho

/-- Where no command overtakes, what waited for a commit or the ring itself is looked at. -/
theorem itemPopRun_in_order : itemPopRun q s =
    if heldReady s q then heldTurn s
    else if q ≥ 64 then popHead q s
    else settleIn q (if (port s q).parked.isEmpty then popHead q s else popPast q s) := by
  have acts : (s.mod.st == .powerUp || s.mod.resetDue != 0 || stalled s q) = false := by simp [hp, hr, hs]
  have no_overtaker : (if canOvertake s q then (inRing s q).items.findIdx? overtaker else none) = none := by
    rcases ho with hc | hn
    · rw [hc, if_neg Bool.false_ne_true]
    · rw [List.findIdx?_eq_none_iff.mpr hn, ite_self]
  simp only [itemPopRun, acts, Bool.false_eq_true, if_false, dropDone_none hd, no_overtaker]

theorem itemPopRun_held (hh : heldReady s q = true) : itemPopRun q s = heldTurn s := by rw [itemPopRun_in_order hp hr hs hd ho, if_pos hh]

variable (hh : heldReady s q = false)
include hh

/-- The head of the ring takes its turn, and the slices of a port settle. -/
theorem itemPopRun_head (hk : q < 64 → (port s q).parked = []) :
    itemPopRun q s = if q < 64 then settleIn q (popHead q s) else popHead q s := by
  rw [itemPopRun_in_order hp hr hs hd ho, hh, if_neg Bool.false_ne_true]
  by_cases hq : q < 64
  · rw [if_neg (Nat.not_le.mpr hq), if_pos hq, hk hq, List.isEmpty_nil, if_pos rfl]
  · rw [if_pos (Nat.le_of_not_lt hq), if_neg hq]

/-- While commands of a port wait by R278, its ring may be taken out of order. -/
theorem itemPopRun_past (hq : q < 64) (hk : (port s q).parked ≠ []) : itemPopRun q s = settleIn q (popPast q s) := by
  rw [itemPopRun_in_order hp hr hs hd ho, hh, if_neg Bool.false_ne_true, if_neg (Nat.not_le.mpr hq),
    if_neg (mt List.isEmpty_iff.mp hk)]

end

section
variable {i : Instr} {n op : Nat} {h : Hdr} {rest : List RingEntry} (hi : (inRing s q).items = .cmd i n false :: rest)
  (hh : cmdHead i = some (op, h))
include hi hh

theorem popHead_runs (ht : turnOf (beforeTurn q s) op q (some i) = .run) : popHead q s = cmdRun i (popIn q (beforeTurn q s)) := by
  simp only [popHead, hi, hh, ht, takeTurn]

theorem popHead_waits (ht : turnOf (beforeTurn q s) op q (some i) = .wait) : popHead q s = beforeTurn q s := by
  simp only [popHead, hi, hh, ht]

theorem popHead_fails {code : Nat} {d : Detail} (ht : turnOf (beforeTurn q s) op q (some i) = .fail code d) :
    popHead q s = fail h op code d (popIn q (beforeTurn q s)) := by
  simp only [popHead, hi, hh, ht, takeTurn]

end

/-- The second command of a ring runs past a first that is barred (R278). -/
theorem popPast_second {i j : Instr} {n m op : Nat} {h : Hdr} {rest : List RingEntry}
    (hi : (inRing s q).items = .cmd i n false :: .cmd j m false :: rest) (hb : parkedBars s q (some i) = true)
    (hj : parkedBars s q (some j) = false) (hh : cmdHead j = some (op, h)) (ht : turnOf (beforeTurn q s) op q (some j) = .run) :
    popPast q s = cmdRun j (markDone q 1 (beforeTurn q s)) := by
  have second : ((inRing s q).items.findIdx? fun e => !e.isDone && !parkedBars s q (entryCmd s.now q e)) = some 1 := by
    simp [hi, List.findIdx?_cons, RingEntry.isDone, entryCmd, hb, hj]
  have entry : ((inRing s q).items[1]?).bind (entryCmd s.now q) = some j := by simp [hi, entryCmd]
  simp only [popPast, second, entry, hh, ht, takeTurn]

/-- Only the ring of SQ0 is followed by what waited for a commit. -/
theorem heldReady_port (hq : q < 64) : heldReady s q = false := by
  have hn : q ≠ 0x40 := by omega
  simp [heldReady, hn]

theorem canOvertake_held (hh : heldReady s q = true) : canOvertake s q = false := by
  simp only [heldReady, Bool.and_eq_true, beq_iff_eq] at hh
  obtain ⟨⟨rfl, -⟩, -⟩ := hh
  rfl

end

/-! ### RESULT_PUSH (R394) -/

/-- What a change of an outbound ring leaves as it was reads as before. -/
theorem outRing_modOut_keeps {α : Type} (g : OutRing → α) {f : OutRing → OutRing} (hf : ∀ r, g (f r) = g r) (p q : Nat) (s : State) :
    g (outRing (modOut q f s) p) = g (outRing s p) := by
  simp only [outRing, modOut, nth, upd, List.getElem?_modify]
  cases s.outRings[p]? with
  | none => rfl
  | some x =>
    show g (if q = p then f x else x) = g x
    split
    · exact hf x
    · rfl

/-- The results of a port that have yet to enter its ring. -/
def unsentOf (r : OutRing) : List Item × List Item := (r.staging, r.waiting)

theorem unsentOf_appendOut (p q : Nat) (it : Item) (s : State) : unsentOf (outRing (appendOut q it s) p) = unsentOf (outRing s p) := by
  refine outRing_modOut_keeps unsentOf (fun r => ?_) p q s
  dsimp only
  split
  · rfl
  · split <;> rfl

/-- The one staged result of a port enters its ring. -/
def pushedOne (p : Nat) (it : Item) (s : State) : State := pushOut p it (modOut p (fun r => { r with staging := [] }) s)

section
variable {p : Nat} {it : Item} (hq : p ≠ sq2) (hs : (outRing s p).staging = [it]) (hw : (outRing s p).waiting = [])
include hq hs hw

theorem unsentOf_pushedOne : unsentOf (outRing (pushedOne p it s) p) = ([], []) := by
  have there : p < s.outRings.length := lt_length_of_nth_ne (d := ({} : OutRing)) fun hn =>
    List.cons_ne_nil it [] (hs.symm.trans (congrArg OutRing.staging hn))
  rw [pushedOne, outRing_pushOut hq, unsentOf_appendOut, outRing_modOut_self _ s there, unsentOf, hw]

/-- Staged results with none waiting: one that fits is pushed, nothing is left, and the port goes on. -/
theorem resultPushRun_one (hf : fitsOut s p it = true) (hp : s.mod.st ≠ .powerUp) :
    resultPushRun p s = resumePort p (pushedOne p it s) := by
  obtain ⟨staging, waiting⟩ : (outRing (pushedOne p it s) p).staging = [] ∧ (outRing (pushedOne p it s) p).waiting = [] := by
    simpa only [unsentOf, Prod.mk.injEq] using unsentOf_pushedOne hq hs hw
  have nothing_left : pushStaged p 2 (pushedOne p it s) = pushedOne p it s := by
    rw [pushStaged]
    simp only [staging, waiting]
  have pushed : pushStaged p 3 s = pushedOne p it s := by
    rw [pushStaged]
    simp only [hs, hf, if_true]
    exact nothing_left
  have refilled : refill p 3 (pushedOne p it s) = pushedOne p it s := by
    rw [refill]
    simp only [waiting]
  have awake : ((pushedOne p it s).mod.st == .powerUp) = false := by
    rw [pushedOne, (onlySent_pushOut ..).mod]
    exact beq_eq_false_iff_ne.mpr hp
  simp only [resultPushRun, hs, hw, List.length_singleton, List.length_nil, Nat.add_zero, Nat.mul_one, Nat.reduceAdd, pushed, refilled, awake,
    Bool.false_eq_true, if_false]

end

/-! ### The loss of the host (R399, R402) -/

/-- Every inbound ring is emptied, with the host lost. -/
def ringsLost (s : State) : State :=
  (List.range 72).foldl (fun s q => flushRing q E.hostLost s) { s with link := { s.link with hostLost := true } }

/-- A command that a commit held ends with the host lost. -/
def endHeld (s : State) (i : Instr) : State := match cmdHead i with | some (op, h) => fail h op E.hostLost {} s | none => s

/-- The commands that a commit held end with the host lost. -/
def heldLost (s : State) : State := s.cfg.held.foldl endHeld { s with cfg := { s.cfg with held := [] } }

/-- The work of every port ends with the host lost. -/
def portsLost (s : State) : State := (List.range 64).foldl (fun s p => loseOn p (flushStarts p E.hostLost s)) s

theorem flushKeeps_ringsLost (s : State) : flushKeeps (ringsLost s) = (s.ports, s.cfg, true) := by
  rw [ringsLost, foldl_keeps flushKeeps (fun v q => flushKeeps_flushRing q E.hostLost v)]
  rfl

theorem items_ringsLost {q : Nat} (hq : q < 72) (s : State) : (inRing (ringsLost s) q).items = [] :=
  foldl_makes (P := fun q s => (inRing s q).items = []) (fun v q => items_flushRing q E.hostLost v)
    (fun _ _ r hv => items_flushRing_nil hv r E.hostLost) (List.mem_range.mpr hq) _

theorem onlySent_endHeld (s : State) (i : Instr) : OnlySent s (endHeld s i) := by
  unfold endHeld
  split
  · exact onlySent_fail ..
  · exact .refl s

theorem onlySent_heldLost (s : State) : OnlySent { s with cfg := { s.cfg with held := [] } } (heldLost s) :=
  onlySent_foldl onlySent_endHeld ..

section
variable {x : Session} (hx : s.link.session = some x) (hl : s.link.hostLost = false) (hp : s.mod.st ≠ .powerUp)
  (hm : mAttrN s A.linkHostTimeoutMs ≠ 0) (hn : s.link.lastValid + msT (mAttrN s A.linkHostTimeoutMs) ≤ s.now)
include hx hl hp hm hn

theorem hostTimeoutRun_loses : let w := portsLost (heldLost (ringsLost s))
    hostTimeoutRun s = raise Ev.hostLost 0xFF (leI 8 w.link.lastValidTs ++ le 2 (waitingAll s)) w := by
  have due : (mAttrN s A.linkHostTimeoutMs == 0 || s.link.session.isNone || s.link.hostLost
      || decide (s.now < s.link.lastValid + msT (mAttrN s A.linkHostTimeoutMs)) || s.mod.st == .powerUp) = false := by
    simp [hx, hl, hp, hm, hn]
  simp only [hostTimeoutRun, due, Bool.false_eq_true, if_false, portsLost, heldLost, ringsLost]
  -- With the ranges closed, the two sides are compared fold by fold and no fold is evaluated.
  generalize List.range 72 = rings
  generalize List.range 64 = ports
  rfl

end

theorem hostTimeoutRun_early (hn : s.now < s.link.lastValid + msT (mAttrN s A.linkHostTimeoutMs)) : hostTimeoutRun s = s := by
  simp [hostTimeoutRun, hn]

/-- Settles O46: a pop by what stands at the head of its ring, a push by what is staged, and the loss of the host step by step. -/
theorem ringsAndALostHost : Obligations.RingsAndALostHost := by
  unfold Obligations.RingsAndALostHost
  refine ⟨fun t s hp => ?_, fun t s => ?_⟩
  · intro u
    refine ⟨fun q i n op h rest hr hi hh ho hs hheld hk => ?_, fun q hs => congrArg Host.Outcome.next (itemPopRun_stalled (s := u) hs),
      fun q hr hs hd hheld => ?_, fun q i n j m op h rest hr hs hq hk hi ho hb hj hh => ?_, fun p it hs hw hf => ?_⟩
    · intro w after
      have run : exec (.itemPop t q) s = .next (after (popHead q u)) :=
        congrArg Host.Outcome.next (itemPopRun_head (s := u) hp hr hs (head_not_done (s := u) hi) ho hheld hk)
      rw [run]
      refine ⟨fun ht => ?_, fun ht => ?_, fun code d ht => ?_⟩
      · rw [popHead_runs (s := u) hi hh ht]
      · rw [popHead_waits (s := u) hi hh ht]
      · rw [popHead_fails (s := u) hi hh ht]
    · exact congrArg Host.Outcome.next (itemPopRun_held (s := u) hp hr hs (fun e he => hd e (List.mem_of_mem_head? he))
        (.inl (canOvertake_held (s := u) hheld)) hheld)
    · intro w ht
      have run : exec (.itemPop t q) s = .next (settleIn q (popPast q u)) :=
        congrArg Host.Outcome.next (itemPopRun_past (s := u) hp hr hs (head_not_done (s := u) hi) (.inr ho) (heldReady_port hq) hq hk)
      rw [run, popPast_second (s := u) hi hb hj hh ht]
    · exact congrArg Host.Outcome.next (resultPushRun_one (s := u) (by have := p.isLt; unfold sq2; omega) hs hw hf hp)
  · -- Each stage of the loss is named in turn and kept closed, so that no fold over the rings or the ports is evaluated.
    intro u a
    have lost := @hostTimeoutRun_loses u
    have keeps := flushKeeps_ringsLost u
    have items : ∀ q < 72, (inRing (ringsLost u) q).items = [] := fun q hq => items_ringsLost hq u
    have rings : a = ringsLost u := rfl
    rw [← rings] at lost keeps items
    clear_value a
    obtain ⟨-, cfg, hostLost⟩ : _ ∧ a.cfg = u.cfg ∧ a.link.hostLost = true := by simpa only [flushKeeps, Prod.mk.injEq] using keeps
    intro b
    have ended : b = heldLost a := by
      have held : s.cfg.held = a.cfg.held := (congrArg ConfigStore.held cfg).symm
      show s.cfg.held.foldl endHeld { a with cfg := { a.cfg with held := [] } } = _
      rw [held]
      rfl
    rw [← ended] at lost
    have sent := onlySent_heldLost a
    rw [← ended] at sent
    clear_value b
    intro w
    have worked : w = portsLost b := rfl
    rw [← worked] at lost
    clear_value w
    refine ⟨fun x hx hl hp hm hn => ⟨congrArg Host.Outcome.next (lost hx hl hp hm hn), (congrArg Link.hostLost sent.link).trans hostLost,
      congrArg ConfigStore.held sent.cfg, fun q hq => ?_⟩, fun hn => congrArg Host.Outcome.next (hostTimeoutRun_early (s := u) hn)⟩
    rw [inRing_of_onlySent sent]
    exact items q hq

end Sys2Proof.Machine

end


section
/-!
SUPPORT. What becomes of the command at the head of its queue (R392, R411, R412, R414, R427).
-/

namespace Sys2Proof.Machine

set_option Elab.async false

variable {s : State} {op q : Nat} {i : Option Instr}

/-! ### Checks 2 and 3 of R411 -/

section
variable (ho : queueOpen s q = true) (hs : stalled s q = false) (hp : q < 64 → portBusy s q = false ∧ parkedBars s q i = false)
  (hw : 64 ≤ q → sysWaits s q = false)
include ho hs hp hw

theorem turnOf_undefined (hd : opDefined op = false) : turnOf s op q i = .fail E.opcode {} := by
  rcases Nat.lt_or_ge q 64 with hq | hq
  · obtain ⟨busy, bars⟩ := hp hq
    simp [turnOf, ho, hs, hd, hq, busy, bars]
  · simp [turnOf, ho, hs, hd, hw hq, Nat.not_lt.mpr hq]

theorem turnOf_wrong_queue (hd : opDefined op = true) (ht : queueTakes op q = false) : turnOf s op q i = .fail E.wrongQueue {} := by
  rcases Nat.lt_or_ge q 64 with hq | hq
  · obtain ⟨busy, bars⟩ := hp hq
    simp [turnOf, ho, hs, hd, ht, hq, busy, bars]
  · simp [turnOf, ho, hs, hd, ht, hw hq, Nat.not_lt.mpr hq]

end

/-! ### HALTED (R414) -/

/-- Past those checks a command of a system queue that its state fails is told the state. -/
theorem turnOf_state_fails (hq : 64 ≤ q) (ho : queueOpen s q = true) (hs : stalled s q = false) (hw : sysWaits s q = false)
    (hd : opDefined op = true) (ht : queueTakes op q = true) (hv : stateVerdict s op = .fails) :
    turnOf s op q i = .fail E.moduleState { arg1 := (s.mod.st.code : Int) } := by
  simp [turnOf, ho, hs, hd, ht, hv, hw, Nat.not_lt.mpr hq]

/-- HALTED runs what R414 names for any state or for HALTED. -/
theorem stateVerdict_halted (hm : s.mod.st = .halted) (ha : runsAny op = false) (hh : runsHalted op = false) : stateVerdict s op = .fails := by
  simp [stateVerdict, hm, ha, hh]

/-! ### When a command of a system queue runs -/

/-- A choice whose first alternative does not run the command runs it by the second. -/
theorem ite_eq_run {c : Prop} [Decidable c] {a b : Turn} (ha : a ≠ .run) : (if c then a else b) = .run ↔ ¬ c ∧ b = .run := by
  by_cases hc : c <;> simp [hc, ha]

/-- Where the state runs the opcode, each branch of `turnOf` before the last, which runs the command, is one thing that bars it. -/
theorem turnOf_system_run (hq : 64 ≤ q) : turnOf s op q i = .run ↔
    queueOpen s q = true ∧ stalled s q = false ∧ sysWaits s q = false ∧ opDefined op = true ∧ queueTakes op q = true ∧ stateVerdict s op = .runs
      ∧ cellarWaits s op = false ∧ ¬ (s.cfg.committing.isSome = true ∧ 5 ≤ op ∧ op ≤ 7) := by
  cases hv : stateVerdict s op with
  | waits => simp [turnOf, Nat.not_lt.mpr hq, hv, ite_eq_run]
  | fails => simp [turnOf, Nat.not_lt.mpr hq, hv, ite_eq_run]
  | runs => simp [turnOf, Nat.not_lt.mpr hq, hv, within, ite_eq_run, and_assoc]

/-- Settles O3: the branches of `turnOf` in their order, and HALTED by what it fails. -/
theorem turnOfACommand : Obligations.TurnOfACommand := by
  unfold Obligations.TurnOfACommand
  refine ⟨fun s op q i hq => turnOf_system_run hq, fun s op q i ho hs hp hw => ⟨turnOf_undefined ho hs hp hw, turnOf_wrong_queue ho hs hp hw⟩,
    fun s op q i hm hq ho hs hw hd ht ha hh => ?_⟩
  have fails : stateVerdict s op = .fails := stateVerdict_halted hm ha hh
  rw [turnOf_state_fails hq ho hs hw hd ht fails, hm]
  rfl

end Sys2Proof.Machine

end


section
/-!
SUPPORT. What a response and an event leave in the outbound rings (R388, R392, R405, R406).
-/

namespace Sys2Proof.Machine

set_option Elab.async false

variable {s : State} {q : Nat}

/-! ### The items of an outbound ring -/

theorem items_appendOut (hq : q < s.outRings.length) (it : Item) :
    (outRing (appendOut q it s) q).items = (outRing s q).items ++ [⟨mAttrN s A.linkItemCheck, itemBytes (mAttrN s A.linkItemCheck) it⟩] := by
  unfold appendOut
  rw [outRing_modOut_self _ s hq]
  split
  · rfl
  · split <;> rfl

/-- A ring keeps its items at its head when an item is appended to any ring. -/
theorem items_grow_appendOut (r : Nat) (it : Item) (s : State) : (outRing s q).items <+: (outRing (appendOut r it s) q).items := by
  by_cases hr : q = r
  · subst hr
    by_cases hq : q < s.outRings.length
    · exact ⟨_, (items_appendOut hq it).symm⟩
    · have absent : outRing s q = {} := by simp [outRing, nth, Nat.le_of_not_lt hq]
      rw [absent]
      exact ⟨_, List.nil_append _⟩
  · have kept : outRing (appendOut r it s) q = outRing s q := outRing_modOut_ne _ s hr
    exact ⟨[], by rw [kept, List.append_nil]⟩

theorem items_grow_recordEv (code : Nat) (stamp : Int) (p : Nat) (args : Bytes) (s : State) :
    (outRing s q).items <+: (outRing (recordEv code stamp p args s) q).items := by
  unfold recordEv
  dsimp only
  split
  · exact ⟨[], List.append_nil _⟩
  · exact items_grow_appendOut sq2 _ s

theorem items_grow_raise (code p : Nat) (args : Bytes) (s : State) : (outRing s q).items <+: (outRing (raise code p args s) q).items := by
  unfold raise raiseAt
  dsimp only
  split
  · exact (items_grow_recordEv ..).trans (items_grow_recordEv ..)
  · exact items_grow_recordEv ..

/-- A pushed item follows the items of its ring; on SQ2 a report of its watermark may follow it (R396). -/
theorem items_pushOut (hq : q < s.outRings.length) (it : Item) : ∃ more, (outRing (pushOut q it s) q).items
    = (outRing s q).items ++ ⟨mAttrN s A.linkItemCheck, itemBytes (mAttrN s A.linkItemCheck) it⟩ :: more := by
  have grows : (outRing (appendOut q it s) q).items <+: (outRing (pushOut q it s) q).items := by
    unfold pushOut
    dsimp only
    split
    · exact items_grow_raise ..
    · exact ⟨[], List.append_nil _⟩
  obtain ⟨more, reported⟩ := grows
  exact ⟨more, by rw [← reported, items_appendOut hq, List.append_assoc, List.singleton_append]⟩

/-! ### What a ring takes of an item that is sent (R389, R392, R394) -/

theorem send_port (hq : q < s.outRings.length) (hp : q < 64) (it : Item) :
    (outRing (send q it s) q).staging = (outRing s q).staging ++ [it] ∨ (outRing (send q it s) q).waiting = (outRing s q).waiting ++ [it] := by
  rw [send, if_pos hp, outRing_modOut_self _ s hq]
  split
  · exact .inl rfl
  · exact .inr rfl

theorem send_system (hq : q < s.outRings.length) (hp : 64 ≤ q) (it : Item) :
    (∃ more, (outRing (send q it s) q).items
        = (outRing s q).items ++ ⟨mAttrN s A.linkItemCheck, itemBytes (mAttrN s A.linkItemCheck) it⟩ :: more)
      ∨ (outRing (send q it s) q).waiting = (outRing s q).waiting ++ [it] := by
  rw [send, if_neg (Nat.not_lt.mpr hp)]
  split
  · exact .inl (items_pushOut hq it)
  · rw [outRing_modOut_self _ s hq]
    exact .inr rfl

/-! ### QUIET (R405, R406) -/

section
variable {h : Hdr} {op status : Nat} {body : Bytes}

theorem respond_quiet (hq : h.quiet = true) (hs : status = 0) (hb : body = []) : respond h op status body s = s := by simp [respond, hq, hs, hb]

theorem respond_sends (hn : ¬ (h.quiet = true ∧ status = 0 ∧ body = [])) :
    respond h op status body s = send h.q { op := op, flags := 0, tag := h.tag, status := status, body := body } s := by
  rw [respond, if_neg]
  simpa using hn

end

/-- Settles O4: a response is one item that is sent, and sending touches its own ring and SQ2. -/
theorem responsesSendAndQuietIsSilent : Obligations.ResponsesSendAndQuietIsSilent := by
  unfold Obligations.ResponsesSendAndQuietIsSilent
  exact ⟨fun h op status body s => ⟨onlySent_respond .., fun q hq hs => outRing_respond_ne hs hq ..⟩,
    fun h op status body s => ⟨respond_quiet, respond_sends⟩⟩

/-- Settles O56: an answered command sends one item, which the ring of its queue takes, and events are recorded on SQ2. -/
theorem answersKeepToTheirQueue : Obligations.AnswersKeepToTheirQueue := by
  unfold Obligations.AnswersKeepToTheirQueue
  refine ⟨fun h op status body s hq answered => ?_, fun q x => rfl, fun code stamp p args s q hs => outRing_raiseAt_ne hs ..⟩
  intro it v old new
  have sent : v = send h.q it s := respond_sends answered
  refine ⟨fun q hr hs => outRing_respond_ne hs hr .., fun hp => ?_, fun hp => ?_⟩
  · simpa only [new, sent] using send_port hq hp it
  · simpa only [new, sent] using send_system hq hp it

end Sys2Proof.Machine

end


section
/-!
SUPPORT. The reports of the system queues, and SCHEDULE (R417, R418, R421, R423, R425).
-/

namespace Sys2Proof.Machine

set_option Elab.async false

variable {s : State}

/-! ### The reports -/

/-- Settles O5: each command does its work in the state of its turn, and the work of each report is its answer. -/
theorem reportsAnswer : Obligations.ReportsAnswer := by
  unfold Obligations.ReportsAnswer
  refine ⟨fun t h s => ⟨fun body ht => ?_, fun ht => ?_, fun ht => ?_, fun ht => ?_, fun ht => ?_⟩, fun t h staged reqs s => ?_⟩
  · exact congrArg Host.Outcome.next (hostCmd_works rfl ht)
  · exact congrArg Host.Outcome.next (hostCmd_works rfl ht)
  · exact congrArg Host.Outcome.next (hostCmd_works rfl ht)
  · exact congrArg Host.Outcome.next (hostCmd_works rfl ht)
  · exact congrArg Host.Outcome.next (hostCmd_works rfl ht)
  · intro u ht hb
    have hrun : exec (.attrGet t h staged reqs) s = .next (attrGetRun h staged reqs u) := congrArg Host.Outcome.next (hostCmd_works rfl ht)
    rw [hrun, attrGetRun, hb]
    rfl

/-! ### SCHEDULE (R417) -/

section
variable {t action p due : Nat} {h : Hdr} {item : Bytes} (ha : action < mAttrN s A.moduleSchedCount)
include ha

theorem scheduleRun_clears (hd : due = 0) : scheduleRun t h action p due item s
    = ok h 0x0D [] (modDiag (fun d => { d with scheds := s.diag.scheds.filter fun x => x.action != action }) s) := by
  simp only [scheduleRun, ge_iff_le, Nat.not_le.mpr ha, if_false, hd, beq_self_eq_true, if_true]

theorem scheduleRun_sets {i : Instr} (hd : due ≠ 0) (hw : ts s + 100000 ≤ (due : Int)) (he : embedded t p item s = .ok i) :
    scheduleRun t h action p due item s
      = ok h 0x0D [] (modDiag (fun d => { d with scheds := (s.diag.scheds.filter fun x => x.action != action) ++ [⟨action, p, due, item⟩] }) s) := by
  simp only [scheduleRun, ge_iff_le, Nat.not_le.mpr ha, if_false, beq_iff_eq, hd, he, Int.not_lt.mpr hw]

end

/-! ### A scheduled action whose time has come (R418) -/

/-- Past the waits of R418, the action leaves the list and its command arrives. -/
theorem scheduledRun_arrives {x : Sched} {i : Instr} {op : Nat} {h : Hdr} (hx : (s.diag.scheds.find? fun y => y.action == x.action) = some x)
    (hm : s.mod.st ≠ .halted) (hd : tickOf s x.due ≤ s.now) (he : embedded s.now x.port x.item s = .ok i) (hh : cmdHead i = some (op, h))
    (hc : (inRing s x.port).level + cmdCells i ≤ inCap x.port) (hl : s.link.hostLost = false) (hr : s.mod.resetDue = 0) :
    scheduledRun x.action s = arrive i op h (modDiag (fun d => { d with scheds := d.scheds.filter fun y => y.action != x.action }) s) := by
  have acts : (s.mod.st == .halted || s.mod.resetDue != 0 || decide (s.now < tickOf s x.due)) = false := by simp [hm, hr, hd]
  have hears : (modDiag (fun d => { d with scheds := d.scheds.filter fun y => y.action != x.action }) s).link.hostLost = false := hl
  simp only [scheduledRun, hx, acts, he, hh, gt_iff_lt, Nat.not_lt.mpr hc, hears, Bool.false_eq_true, if_false]

/-- Settles O9: SCHEDULE by its work at its turn, and the action by `scheduledRun_arrives` at the time the clock has moved to. -/
theorem scheduledActions : Obligations.ScheduledActions := by
  unfold Obligations.ScheduledActions
  refine ⟨fun t h action p due item s => ?_, fun t x i op h s => ?_⟩
  · intro u others ht ha
    have hrun : exec (.schedule t h action p due item) s = .next (scheduleRun t h action p due item u) :=
      congrArg Host.Outcome.next (hostCmd_works rfl ht)
    refine ⟨fun hd => ?_, fun hd hw ⟨i, he⟩ => ?_⟩
    · rw [hrun, scheduleRun_clears ha hd]
      rfl
    · rw [hrun, scheduleRun_sets ha hd hw he]
      rfl
  · intro u hx hm hd he hh hc hl hr
    exact congrArg Host.Outcome.next (scheduledRun_arrives (s := u) hx hm hd he hh hc hl hr)

end Sys2Proof.Machine

end


section
/-!
SUPPORT. Firmware: what a load and its check do, and the steps of an activation in service (R420, R520 to R522, R546, R547).
-/

namespace Sys2Proof.Machine

set_option Elab.async false

variable {s : State} {h : Hdr}

/-! ### FW_DATA and FW_VERIFY (R420, R521, R522) -/

section
variable {off : Nat} {data : Bytes}

theorem fwDataRun_closed (ho : s.fwOpen = false) : fwDataRun h off data s = fail h 0x11 E.fwSequence {} s := by simp [fwDataRun, ho]

theorem fwDataRun_beyond (ho : s.fwOpen = true) (hs : (nth s.nvm.images (otherSlot s) {}).size < off + data.length) :
    fwDataRun h off data s = failRange h 0x11 8 s := by simp [fwDataRun, ho, hs]

theorem fwDataRun_writes (ho : s.fwOpen = true) (hs : off + data.length ≤ (nth s.nvm.images (otherSlot s) {}).size) :
    fwDataRun h off data s
      = ok h 0x11 [] (modImage (otherSlot s) (fun x => { x with state := 1, chunks := (off, data) :: x.chunks }) s) := by
  simp [fwDataRun, ho, Nat.not_lt.mpr hs]

end

section
variable {x : Image} (hx : x = nth s.nvm.images (otherSlot s) {})
include hx

theorem fwVerifyRun_again (hv : x.state = 2) (hf : s.nvm.sec.svnFloor ≤ x.svn) :
    fwVerifyRun h s = ok h 0x12 (le 2 x.version ++ [0, 0]) s := by
  subst hx
  simp [fwVerifyRun, hv, Nat.not_lt.mpr hf]

theorem fwVerifyRun_below_floor (hv : x.state = 2) (hf : x.svn < s.nvm.sec.svnFloor) : fwVerifyRun h s = fail h 0x12 E.fwImage {} s := by
  subst hx
  simp [fwVerifyRun, hv, hf]

theorem fwVerifyRun_holds (hv : x.state ≠ 2) (he : verifyError s x = none) :
    fwVerifyRun h s = ok h 0x12 (le 2 (num (x.bytes.getD []) 4 2) ++ [0, 0])
      (modImage (otherSlot s) (fun y => { y with state := 2, version := num (x.bytes.getD []) 4 2 }) { s with fwOpen := false }) := by
  subst hx
  simp [fwVerifyRun, hv, he]

theorem fwVerifyRun_fails {code : Nat} (hv : x.state ≠ 2) (he : verifyError s x = some code) :
    fwVerifyRun h s = fail h 0x12 code {} (if x.bytes.isNone then s else modImage (otherSlot s) (fun y => { y with state := 4 }) s) := by
  subst hx
  simp [fwVerifyRun, hv, he]

end

/-! ### FW_ACTIVATE and FW_ROLLBACK (R420, R522, R547) -/

section
variable {rollback : Bool}

/-- In SERVICE every port is asked to hold. -/
theorem switchImage_service (hm : s.mod.st = .service) :
    switchImage h rollback s = askHolds { s with act := some ⟨h, rollback, 0, none, 0, 0, none⟩ } := by simp [switchImage, hm]

/-- In HALTED the module resets into the image. -/
theorem switchImage_halted (hm : s.mod.st = .halted) :
    switchImage h rollback s = ok h (if rollback then 0x15 else 0x13) [] (modNvm (fun n => { n with markNext := some (otherSlot s) })
      (modMod (fun m => { m with resetDue := 5, resetQ := h.q, fwNews := [(if rollback then 2 else 1, otherSlot s)] }) s)) := by
  simp [switchImage, hm]

end

section
variable {x : Image} (hx : x = nth s.nvm.images (otherSlot s) {})
include hx

theorem fwActivateRun_unverified {w : Nat} (hv : x.state ≠ 2) : fwActivateRun h w s = fail h 0x13 E.fwSequence {} s := by
  subst hx
  simp [fwActivateRun, hv]

theorem fwActivateRun_at_start (hv : x.state = 2) :
    fwActivateRun h 1 s = ok h 0x13 [] (modNvm (fun n => { n with markNext := some (otherSlot s) }) s) := by
  subst hx
  simp [fwActivateRun, hv]

theorem fwActivateRun_now (hv : x.state = 2) : fwActivateRun h 0 s = switchImage h false s := by
  subst hx
  simp [fwActivateRun, hv]

theorem fwRollbackRun_unverified (hv : x.state ≠ 2) : fwRollbackRun h s = fail h 0x15 E.fwSequence {} s := by
  subst hx
  simp [fwRollbackRun, hv]

theorem fwRollbackRun_below_floor (hv : x.state = 2) (hf : x.svn < s.nvm.sec.svnFloor) : fwRollbackRun h s = fail h 0x15 E.fwImage {} s := by
  subst hx
  simp [fwRollbackRun, hv, hf]

theorem fwRollbackRun_now (hv : x.state = 2) (hf : s.nvm.sec.svnFloor ≤ x.svn) : fwRollbackRun h s = switchImage h true s := by
  subst hx
  simp [fwRollbackRun, hv, Nat.not_lt.mpr hf]

end

/-! ### The activation in service (R546) -/

section
variable {a : Activation} (ha : s.act = some a)
include ha

/-- With all 64 ports held and no change of the life cycle, the other image runs. -/
theorem portsHeldRun_switches (hr : a.retryAt = none) (hp : (portsOf a.held).length = 64) (hc : s.cellar.change = none) :
    portsHeldRun s =
      (let v := ok a.hdr (if a.rollback then 0x15 else 0x13) [] { releaseFw (restartCore (activateImage (otherSlot s) s)) with act := none }
       raise Ev.firmware 0xFF (fwArgs v (if a.rollback then 2 else 1) (otherSlot s)) v) := by
  simp [portsHeldRun, ha, hr, hp, hc]

section
variable {f : Nat} (hf : a.firstHold = some f) (hr : a.retryAt = none) (hp : (portsOf a.held).length ≠ 64) (hl : f + fwHoldTicks s ≤ s.now)
include hf hr hp hl

/-- Some port has held for the whole time and not all of them do: the held ports resume, and the tries are counted. -/
theorem holdTimeoutRun_late : holdTimeoutRun s =
    if a.tries + 1 ≥ 10 then fail a.hdr (if a.rollback then 0x15 else 0x13) E.portBusy
      { port := ((List.range 64).find? fun p => !bit a.held p).getD 0 } { releaseFw s with act := none }
    else { releaseFw s with
      act := some { a with held := 0, since := 0, firstHold := none, tries := a.tries + 1, retryAt := some (s.now + msT 100) } } := by
  have acts : (a.retryAt.isSome || (portsOf a.held).length == 64 || !decide (s.now ≥ f + fwHoldTicks s)) = false := by
    rw [hr, beq_false_of_ne hp, decide_eq_true hl]
    rfl
  simp only [holdTimeoutRun, ha, hf, acts, Bool.false_eq_true, if_false]

theorem holdTimeoutRun_again (ht : a.tries < 9) : holdTimeoutRun s = { releaseFw s with
    act := some { a with held := 0, since := 0, firstHold := none, tries := a.tries + 1, retryAt := some (s.now + msT 100) } } :=
  (holdTimeoutRun_late ha hf hr hp hl).trans (if_neg (by omega))

theorem holdTimeoutRun_gives_up (ht : 9 ≤ a.tries) : holdTimeoutRun s = fail a.hdr (if a.rollback then 0x15 else 0x13) E.portBusy
    { port := ((List.range 64).find? fun p => !bit a.held p).getD 0 } { releaseFw s with act := none } :=
  (holdTimeoutRun_late ha hf hr hp hl).trans (if_pos (by omega))

end

theorem activationRetryRun_asks {r : Nat} (hr : a.retryAt = some r) (hn : r ≤ s.now) :
    activationRetryRun s = askHolds { s with act := some { a with retryAt := none, held := 0, since := 0, firstHold := none } } := by
  simp [activationRetryRun, ha, hr, Nat.not_lt.mpr hn]

end

/-- Settles O11: each command by its work at its turn, and the steps of an activation by the lemmas of their events. -/
theorem firmwareIsLoadedAndActivated : Obligations.FirmwareIsLoadedAndActivated := by
  unfold Obligations.FirmwareIsLoadedAndActivated
  refine ⟨fun t h s => ⟨fun size ht => ?_, fun off data ht => ?_, fun ht => ?_, fun w ht => ?_, fun ht => ?_⟩, fun t a s ha => ?_⟩
  · intro u
    have hrun : exec (.fwBegin t h size) s = .next (fwBeginRun h size u) := congrArg Host.Outcome.next (hostCmd_works rfl ht)
    rw [hrun]
    clear_value u
    rfl
  · intro u size
    have hrun : exec (.fwData t h off data) s = .next (fwDataRun h off data u) := congrArg Host.Outcome.next (hostCmd_works rfl ht)
    rw [hrun]
    exact ⟨fun ho hs => congrArg Host.Outcome.next (fwDataRun_writes ho hs), fun ho => congrArg Host.Outcome.next (fwDataRun_closed ho),
      fun ho hs => congrArg Host.Outcome.next (fwDataRun_beyond ho hs)⟩
  · intro u x v marked
    have hrun : exec (.fwVerify t h) s = .next (fwVerifyRun h u) := congrArg Host.Outcome.next (hostCmd_works rfl ht)
    rw [hrun]
    refine ⟨fun hv hf => congrArg Host.Outcome.next (fwVerifyRun_again rfl hv hf),
      fun hv hf => congrArg Host.Outcome.next (fwVerifyRun_below_floor rfl hv hf), fun hv => ?_⟩
    cases he : verifyError u x with
    | none => exact congrArg Host.Outcome.next (fwVerifyRun_holds rfl hv he)
    | some code => exact congrArg Host.Outcome.next (fwVerifyRun_fails rfl hv he)
  · intro u x
    have hrun : exec (.fwActivate t h w) s = .next (fwActivateRun h w u) := congrArg Host.Outcome.next (hostCmd_works rfl ht)
    rw [hrun]
    refine ⟨fun hv => congrArg Host.Outcome.next (fwActivateRun_unverified rfl hv), ?_, ?_, ?_⟩
    · rintro hv rfl
      exact congrArg Host.Outcome.next (fwActivateRun_at_start rfl hv)
    · rintro hv rfl hm
      exact congrArg Host.Outcome.next ((fwActivateRun_now rfl hv).trans (switchImage_service hm))
    · rintro hv rfl hm
      exact congrArg Host.Outcome.next ((fwActivateRun_now rfl hv).trans (switchImage_halted hm))
  · intro u x
    have hrun : exec (.fwRollback t h) s = .next (fwRollbackRun h u) := congrArg Host.Outcome.next (hostCmd_works rfl ht)
    rw [hrun]
    exact ⟨fun hv => congrArg Host.Outcome.next (fwRollbackRun_unverified rfl hv),
      fun hv hf => congrArg Host.Outcome.next (fwRollbackRun_below_floor rfl hv hf),
      fun hv hf hm => congrArg Host.Outcome.next ((fwRollbackRun_now rfl hv hf).trans (switchImage_service hm)),
      fun hv hf hm => congrArg Host.Outcome.next ((fwRollbackRun_now rfl hv hf).trans (switchImage_halted hm))⟩
  · intro u op
    have hu : u.act = some a := ha
    refine ⟨fun hr hp hc => ?_, fun f hf hr hp hl => ⟨fun ht => ?_, fun ht => ?_⟩, fun r hr hn => ?_⟩
    · exact congrArg Host.Outcome.next (portsHeldRun_switches hu hr hp hc)
    · exact congrArg Host.Outcome.next (holdTimeoutRun_again hu hf hr hp hl ht)
    · exact congrArg Host.Outcome.next (holdTimeoutRun_gives_up hu hf hr hp hl ht)
    · exact congrArg Host.Outcome.next (activationRetryRun_asks hu hr hn)

end Sys2Proof.Machine

end


section
/-!
SUPPORT. SELF_TEST and COUNTERS_CLEAR (R436, R539), and the captures and triggers of diagnostics (R436).
-/

namespace Sys2Proof.Machine

set_option Elab.async false

variable {s : State} {h : Hdr}

/-! ### SELF_TEST (R539) -/

/-- The groups of a self-test that fail: those with a free spare whose free value says so. -/
def failingGroups (groups : Nat) (s : State) : List Nat :=
  (List.range 8).filter fun i => bit groups i && !Config.testPasses s.free i && !(groupSpares s i).isEmpty

/-- The first spare of a group that has failed is retired. -/
def retireFirst (s : State) (group : Nat) : State :=
  match groupSpares s group with
  | x :: _ => spareFails s x
  | [] => s

/-- The module once each failing group has lost its spare. -/
def afterTest (groups : Nat) (s : State) : State := (failingGroups groups s).foldl retireFirst (drawn s)

theorem selfTestRun_eq (g : Nat) : selfTestRun h g s =
    let failed := maskOf (failingGroups g s)
    if failed == 0 then ok h 0xE0 (le 4 (g ^^^ failed) ++ le 4 failed) (afterTest g s)
    else respond h 0xE0 E.selfTest (le 4 (g ^^^ failed) ++ le 4 failed ++ ({} : Detail).bytes h.q) (afterTest g s) := rfl

theorem selfTestRun_passes {g : Nat} (hf : maskOf (failingGroups g s) = 0) :
    selfTestRun h g s = ok h 0xE0 (le 4 g ++ le 4 0) (afterTest g s) := by
  rw [selfTestRun_eq, hf]
  dsimp only
  rw [Nat.xor_zero, beq_self_eq_true, if_pos rfl]

theorem selfTestRun_fails {g failed : Nat} (hm : maskOf (failingGroups g s) = failed) (hf : failed ≠ 0) :
    selfTestRun h g s = respond h 0xE0 E.selfTest (le 4 (g ^^^ failed) ++ le 4 failed ++ ({} : Detail).bytes h.q) (afterTest g s) := by
  rw [selfTestRun_eq, hm]
  exact if_neg (mt beq_iff_eq.mp hf)

/-! ### COUNTERS_CLEAR -/

/-- A port with its counters at 0. -/
def zeroed (x : Port) : Port := { x with
  rx := { x.rx with falseSync := 0, crcFail := 0, preempted := 0, clipped := 0 },
  hy := { x.hy with stale := 0, busyWire := 0, retries := 0 },
  inserted := 0, lost := 0, lens := { x.lens with unconfirmed := 0, skipped := 0 } }

/-- Clearing a port leaves its counters, and those already at 0 of any port, at 0. -/
theorem zeroed_clearPort {p q : Nat} (hz : p = q ∨ zeroed (port s p) = port s p) : zeroed (port (clearPort q s) p) = port (clearPort q s) p := by
  have cleared : clearPort q s = modPort q zeroed s := rfl
  rw [cleared]
  by_cases hp : p = q
  · subst hp
    by_cases hl : p < s.ports.length
    · rw [port_modPort_self zeroed s hl]
      rfl
    · have absent : port (modPort p zeroed s) p = {} := by simp [port, nth, modPort, Nat.le_of_not_lt hl]
      rw [absent]
      rfl
  · rw [port_modPort_ne zeroed s hp]
    exact hz.resolve_left hp

/-- The ports of a mask have their counters cleared, one after the other. -/
def portsCleared (ports : Nat) (s : State) : State := (portsOf ports).foldl (fun s p => clearPort p s) s

theorem zeroed_portsCleared {ports p : Nat} (hp : p < 64) (hb : bit ports p = true) (s : State) :
    zeroed (port (portsCleared ports s) p) = port (portsCleared ports s) p :=
  foldl_makes (f := fun s p => clearPort p s) (P := fun p s => zeroed (port s p) = port s p) (fun _ _ => zeroed_clearPort (.inl rfl))
    (fun _ _ _ hz => zeroed_clearPort (.inr hz)) (List.mem_filter.mpr ⟨List.mem_range.mpr hp, hb⟩) s

theorem link_portsCleared (ports : Nat) (s : State) : (portsCleared ports s).link = s.link :=
  foldl_keeps State.link (f := fun s p => clearPort p s) (fun _ _ => rfl) _ s

theorem countersRun_clears (ports : Nat) (links : Bool) (s : State) :
    (links = true → (countersRun h ports links s).link.cnt = {}) ∧ (links = false → (countersRun h ports links s).link = s.link)
      ∧ ∀ p < 64, bit ports p = true → zeroed (port (countersRun h ports links s) p) = port (countersRun h ports links s) p := by
  cases links with
  | false =>
    have sent : OnlySent (portsCleared ports s) (countersRun h ports false s) := onlySent_ok ..
    refine ⟨fun hn => absurd hn Bool.false_ne_true, fun _ => sent.link.trans (link_portsCleared ports s), fun p hp hb => ?_⟩
    rw [port_of_ports sent.ports]
    exact zeroed_portsCleared hp hb s
  | true =>
    have sent : OnlySent (modLink (fun l => { l with cnt := {} }) (portsCleared ports s)) (countersRun h ports true s) := onlySent_ok ..
    refine ⟨fun _ => congrArg Link.cnt sent.link, fun hn => absurd hn.symm Bool.false_ne_true, fun p hp hb => ?_⟩
    rw [port_of_ports sent.ports]
    exact zeroed_portsCleared hp hb s

/-! ### Captures and triggers (R436) -/

theorem captureArmRun_arms {buffer p point trigger n before : Nat} (he : capEnabled s buffer = true)
    (ht : trigger < 0x10 ∨ trigEnabled s (trigger - 0x10) = true) (hf : nth s.diag.arms buffer none = none) :
    captureArmRun h buffer p point trigger n before s = modDiag (fun d => { d with
      arms := upd d.arms buffer fun _ => some { hdr := h, port := p, point := point, trigger := trigger, samples := n, before := before },
      samples := upd d.samples buffer fun _ => [] }) s := by
  have triggered : (decide (0x10 ≤ trigger) && !trigEnabled s (trigger - 0x10)) = false := by
    rcases ht with low | enabled
    · rw [decide_eq_false (Nat.not_le.mpr low), Bool.false_and]
    · rw [enabled, Bool.not_true, Bool.and_false]
  simp only [captureArmRun, he, ge_iff_le, triggered, hf, Bool.not_true, Bool.or_self, Option.isSome_none, Bool.false_eq_true, if_false]

theorem captureFullRun_answers {buffer trig : Nat} {xs : List Cpx} {a : CapArm} (ha : nth s.diag.arms buffer none = some a)
    (hl : xs.length = a.samples) (ht : trig ≤ s.now) :
    captureFullRun buffer trig xs s = ok a.hdr 0xE1 (leI 8 (tsAt s trig))
      (modDiag (fun d => { d with arms := upd d.arms buffer fun _ => none, samples := upd d.samples buffer fun _ => xs }) s) := by
  have full : (xs.length != a.samples || decide (s.now < trig)) = false := by simp [hl, ht]
  simp only [captureFullRun, ha, gt_iff_lt, full, Bool.false_eq_true, if_false]
  rfl

theorem captureReadRun_reads {buffer off n : Nat} (he : capEnabled s buffer = true) : captureReadRun h buffer off n s
    = respondParts h 0xE2 (byteParts (slice (sampleBytes (nth s.diag.samples buffer [])) off n)) s := by simp [captureReadRun, he]

theorem triggerArmRun_arms {n due ns : Nat} (he : trigEnabled s n = true) : triggerArmRun h n due ns s
    = ok h 0xE3 [] (modDiag (fun d => { d with triggers := upd d.triggers n fun _ => some (ns, due) }) s) := by simp [triggerArmRun, he]

/-- Settles O36: each command by its work at its turn, and a full buffer by `captureFullRun_answers`. -/
theorem diagnosticsAndCaptures : Obligations.DiagnosticsAndCaptures := by
  unfold Obligations.DiagnosticsAndCaptures
  refine ⟨fun t h s => ⟨fun g ht => ?_, fun ht => ?_, fun m a n ht => ?_, fun a n ht => ?_, fun ports links ht => ?_⟩,
    fun t h s => ⟨fun b p point trigger n before ht => ?_, fun b trig xs a ha => ?_, fun b off n ht => ?_, fun n due ns ht => ?_⟩⟩
  · intro u bad w failed
    have hrun : exec (.selfTest t h g) s = .next (selfTestRun h g u) := congrArg Host.Outcome.next (hostCmd_works rfl ht)
    rw [hrun]
    split
    · exact congrArg Host.Outcome.next (selfTestRun_passes ‹failed = 0›)
    · exact congrArg Host.Outcome.next (selfTestRun_fails rfl ‹failed ≠ 0›)
  · exact congrArg Host.Outcome.next (hostCmd_works rfl ht)
  · exact congrArg Host.Outcome.next (hostCmd_works rfl ht)
  · exact congrArg Host.Outcome.next (hostCmd_works rfl ht)
  · intro u
    have hrun : exec (.countersClear t h ports links) s = .next (countersRun h ports links u) := congrArg Host.Outcome.next (hostCmd_works rfl ht)
    obtain ⟨linked, unlinked, zeros⟩ := countersRun_clears (h := h) ports links u
    refine ⟨_, hrun, linked, unlinked, fun p hp hb => ?_⟩
    rw [← zeros p hp hb]
    exact ⟨rfl, rfl, rfl⟩
  · intro u arm he htrig hf
    have hrun : exec (.captureArm t h b p point trigger n before) s = .next (captureArmRun h b p point trigger n before u) :=
      congrArg Host.Outcome.next (hostCmd_works rfl ht)
    rw [hrun, captureArmRun_arms he htrig hf]
    rfl
  · intro u hl ht
    exact congrArg Host.Outcome.next (captureFullRun_answers (s := u) ha hl ht)
  · intro u he
    have hrun : exec (.captureRead t h b off n) s = .next (captureReadRun h b off n u) := congrArg Host.Outcome.next (hostCmd_works rfl ht)
    rw [hrun, captureReadRun_reads he]
  · intro u he
    have hrun : exec (.triggerArm t h n due ns) s = .next (triggerArmRun h n due ns u) := congrArg Host.Outcome.next (hostCmd_works rfl ht)
    rw [hrun, triggerArmRun_arms he]
    rfl

end Sys2Proof.Machine

end


section
/-!
SUPPORT. The cluster commands: plans, their activation and the frame at which they take force, the tones and listens of cluster calibration, and the
-/

namespace Sys2Proof.Machine

set_option Elab.async false

variable {s : State} {h : Hdr}

/-! ### Plans (R461 to R463) -/

section
variable {id total off : Nat} {data : Bytes} (ht : total ≤ 82204) (ho : off + data.length ≤ total)
include ht ho

theorem planLoadRun_begins (hs : s.cluster.staged = none) : planLoadRun h id total off data s =
    ok h 0xA0 [] (modCluster (fun c => { c with staged := some ⟨id, total, [(off, data)]⟩ }) s) := by
  simp [planLoadRun, Nat.not_lt.mpr ht, Nat.not_lt.mpr ho, hs, modCluster]

theorem planLoadRun_adds {x : Staged} (hs : s.cluster.staged = some x) (hx : x.id = id) : planLoadRun h id total off data s =
    ok h 0xA0 [] (modCluster (fun c => { c with staged := some ⟨id, total, (off, data) :: x.chunks⟩ }) s) := by
  simp [planLoadRun, Nat.not_lt.mpr ht, Nat.not_lt.mpr ho, hs, hx]

theorem planLoadRun_replaces {x : Staged} (hs : s.cluster.staged = some x) (hx : x.id ≠ id) (hp : s.cluster.pending = none) :
    planLoadRun h id total off data s = ok h 0xA0 [] (modCluster (fun c => { c with staged := some ⟨id, total, [(off, data)]⟩ }) s) := by
  simp [planLoadRun, Nat.not_lt.mpr ht, Nat.not_lt.mpr ho, hs, hx, hp, modCluster]

end

theorem planActivateRun_first {id due : Nat} (hp : s.cluster.pending = none) : planActivateRun h id due s = match planError s id due with
    | none => modCluster (fun c => { c with pending := some (id, due, h) }) s
    | some (code, d) => respond h 0xA1 code d s := by
  unfold planActivateRun
  cases planError s id due <;> simp [hp]

section
variable {id due : Nat} (hp : s.cluster.pending = some (id, due, h))
include hp

theorem planForceRun_early (hn : s.now < tickOf s due) : planForceRun s = s := by
  simp [planForceRun, hp, hn]

/-- The staged plan has become the active one. -/
def planActive (id : Nat) (b : Bytes) (s : State) : State := modCluster (fun c => { c with active := some (id, b), staged := none, pending := none }) s

/-- PLAN_ACTIVATE has been answered with the frame number, and EV_PLAN_ACTIVE raised. -/
def planTold (h : Hdr) (id : Nat) (s : State) : State :=
  raise Ev.planActive 0xFF (le 4 id ++ le 8 (frameNo s)) (ok h 0xA1 (le 8 (frameNo s)) s)

theorem planForceRun_takes {b : Bytes} (hn : tickOf s due ≤ s.now) (hl : s.time.lock ≠ 0) (hb : s.cluster.staged.bind Staged.bytes = some b) :
    planForceRun s = reselect ((List.range 64).foldl (fun s p =>
      if stepped s p && !isFollower s p then runStart p s else if atBoundary s p then followRun p s else s) (planTold h id (planActive id b s))) := by
  simp [planForceRun, hp, Nat.not_lt.mpr hn, hl, hb, planTold, planActive, modCluster]

theorem planForceRun_lost (hn : tickOf s due ≤ s.now) (hl : s.time.lock = 0) (hh : ∀ n, s.time.holdUntil = some n → n ≤ s.now) :
    planForceRun s = fail h 0xA1 E.timeUnlocked {} (modCluster (fun c => { c with pending := none }) s) := by
  cases hu : s.time.holdUntil with
  | none => simp [planForceRun, hp, Nat.not_lt.mpr hn, hl, hu]
  | some n => simp [planForceRun, hp, Nat.not_lt.mpr hn, hl, hu, hh n hu]

end

/-! ### Tones (R446, R470) -/

/-- A tone of a port has been noted, and Press has been asked for its 10 mW at priority 7. -/
def toneAsked (t : Tone) (p : Nat) (s : State) : Bool × State := pressAskAt 7 p 10 .tone (modPort p (fun x => { x with tone := some t }) s)

theorem calToneRun_asks {p ch due us : Nat} (hd : ts s + 1000000 ≤ (due : Int)) (hl : s.time.lock ≠ 0) (hf : hasField s p = false)
    (ht : (port s p).tone = none) (hm : bit (mAttrN s A.moduleTxChannelMask) ch = true) (hg : planGives s p ch due us = true)
    (hc : s.cluster.clashes = []) (hi : interlocked s = false) : calToneRun h p ch due us s =
      let asked := toneAsked ⟨h, ch, due, us, false, (s.moduleId, p)⟩ p s
      if asked.1 then endTone p E.pressTimeout (pressDetail asked.2 p 10) asked.2 else asked.2 := by
  simp only [calToneRun, Int.not_lt.mpr hd, hf, ht, hm, hg, hc, hi, beq_eq_false_iff_ne.mpr hl, Option.isSome_none, Bool.not_true, List.isEmpty_nil,
    Bool.or_self, Bool.false_eq_true, if_false, ← toneAsked.eq_1]
  generalize toneAsked ⟨h, ch, due, us, false, (s.moduleId, p)⟩ p s = asked
  obtain ⟨_ | _, v⟩ := asked
  · rfl
  · rfl

/-- The requests of a port's tone have left Press. -/
def tonePassed (p : Nat) (s : State) : State :=
  { s with press := { s.press with waiting := s.press.waiting.filter fun r => r.port != p || r.kind != .tone } }

section
variable {p : Nat} {x : Tone} (hx : (port s p).tone = some x) (hn : tickOf s (x.due + 1000 * x.durUs) ≤ s.now)
include hx hn

theorem calToneEndRun_granted (hg : x.granted = true) (hf : hasField s p = false) : calToneEndRun p s =
    ok x.hdr 0xA3 [] (modPort p (fun x => { x with tone := none }) (modRadio p (fun r => { r with auxMw := r.auxMw - 10 }) (tonePassed p s))) := by
  simp [calToneEndRun, hx, Nat.not_lt.mpr hn, hg, hf, endTone, tonePassed]

theorem calToneEndRun_waiting (hg : x.granted = false) : calToneEndRun p s =
    fail x.hdr 0xA3 E.pressTimeout (pressDetail s p 10) (modPort p (fun x => { x with tone := none }) (tonePassed p s)) := by
  simp [calToneEndRun, hx, Nat.not_lt.mpr hn, hg, endTone, tonePassed, E.pressTimeout]

end

/-! ### Listens (R446, R471, R472) -/

theorem calListenRun_waits {ports due us m p : Nat} (hd : ts s + 1000000 ≤ (due : Int)) (hl : s.time.lock ≠ 0)
    (hf : ∀ q ∈ portsOf ports, hasField s q = false) (hc : s.cluster.clashes = []) : calListenRun h ports due us m p s =
      modCluster (fun c => { c with listens := c.listens ++ [⟨h, ports, due, us, m, p⟩] }) s := by
  have quiet : (portsOf ports).find? (hasField s) = none := List.find?_eq_none.mpr fun q hq => by simp [hf q hq]
  simp [calListenRun, Int.not_lt.mpr hd, hl, quiet, hc]

/-- The module with other coupling tables and other listens. -/
def listensNoted (x : List (List (Int × Nat × Nat))) (ls : List Listen) (s : State) : State :=
  { s with nvm := { s.nvm with xcoupling := x }, cluster := { s.cluster with listens := ls } }

section
variable (x : List (List (Int × Nat × Nat))) (ls : List Listen)

/-! What is sent depends neither on the coupling tables nor on the listens. -/

theorem recordEv_listensNoted (code : Nat) (stamp : Int) (p : Nat) (args : Bytes) (s : State) :
    recordEv code stamp p args (listensNoted x ls s) = listensNoted x ls (recordEv code stamp p args s) := by
  have folds (it : Item) : foldsNow (listensNoted x ls s) code it = foldsNow s code it := rfl
  have number : (listensNoted x ls s).ev = s.ev := rfl
  simp only [recordEv, folds, number]
  split
  · rfl
  · rfl

theorem raise_listensNoted (code p : Nat) (args : Bytes) (s : State) :
    raise code p args (listensNoted x ls s) = listensNoted x ls (raise code p args s) := by
  have ring (r : State) (q : Nat) : outRing (listensNoted x ls r) q = outRing r q := rfl
  have stamp (r : State) : ts (listensNoted x ls r) = ts r := rfl
  simp only [raise, raiseAt, recordEv_listensNoted, ring, stamp]
  split
  · rfl
  · rfl

theorem pushOut_listensNoted (q : Nat) (it : Item) (s : State) : pushOut q it (listensNoted x ls s) = listensNoted x ls (pushOut q it s) := by
  have ring (r : State) (q : Nat) : outRing (listensNoted x ls r) q = outRing r q := rfl
  have append : appendOut q it (listensNoted x ls s) = listensNoted x ls (appendOut q it s) := rfl
  simp only [pushOut, append, raise_listensNoted, ring]
  split
  · rfl
  · rfl

theorem send_listensNoted (q : Nat) (it : Item) (s : State) : send q it (listensNoted x ls s) = listensNoted x ls (send q it s) := by
  have ring : outRing (listensNoted x ls s) q = outRing s q := rfl
  have room : fitsOut (listensNoted x ls s) q it = fitsOut s q it := rfl
  simp only [send, pushOut_listensNoted, ring, room]
  split
  · rfl
  · split
    · rfl
    · rfl

theorem respond_listensNoted (h : Hdr) (op status : Nat) (body : Bytes) (s : State) :
    respond h op status body (listensNoted x ls s) = listensNoted x ls (respond h op status body s) := by
  simp only [respond, send_listensNoted]
  split
  · rfl
  · rfl

theorem respondParts_listensNoted (h : Hdr) (op : Nat) : ∀ (parts : List Bytes) (s : State),
    respondParts h op parts (listensNoted x ls s) = listensNoted x ls (respondParts h op parts s)
  | [], s => respond_listensNoted x ls h op 0 [] s
  | [b], s => respond_listensNoted x ls h op 0 b s
  | b :: c :: rest, s => by
    have more : respondMore h op b (listensNoted x ls s) = listensNoted x ls (respondMore h op b s) := send_listensNoted ..
    simp only [respondParts, more, respondParts_listensNoted h op (c :: rest)]

theorem respondList_listensNoted (h : Hdr) (op size : Nat) (recs : List Bytes) (s : State) :
    respondList h op size recs (listensNoted x ls s) = listensNoted x ls (respondList h op size recs s) := respondParts_listensNoted ..

end

/-- Noting couplings changes the tables and nothing else. -/
theorem notedCouplings_eq (limit : Int) (m p : Nat) (es : List (Nat × Int)) (s : State) : ∃ x, es.foldl (fun s e =>
    modNvm (fun n => { n with xcoupling := upd n.xcoupling e.1 (noteCoupling limit e.2 m p) }) s) s = listensNoted x s.cluster.listens s := by
  induction es generalizing s with
  | nil => exact ⟨_, rfl⟩
  | cons e es ih => exact ih _

/-- The couplings of a listen within the bounds of R471. -/
def bounded (ks : List Int) : List Int := ks.map fun k => max (-9000) (min (-1000) k)

theorem calListenEndRun_ends {l : Listen} {ks : List Int} (hl : s.cluster.listens = [l]) (hk : ks.length = (portsOf l.ports).length)
    (hn : tickOf s (l.due + 1000 * l.durUs) ≤ s.now) :
    ∃ x, calListenEndRun ks s = listensNoted x [] (respondList l.hdr 0xA4 2 ((bounded ks).map (leI 2)) s) := by
  have due : (s.cluster.listens.find? fun l => tickOf s (l.due + 1000 * l.durUs) ≤ s.now) = some l := by simp [hl, hn]
  obtain ⟨x, noted⟩ := notedCouplings_eq (mAttr s A.clusterAdjacentCdb) l.module l.port ((portsOf l.ports).zip (bounded ks)) s
  refine ⟨x, ?_⟩
  have left : modCluster (fun c => { c with listens := c.listens.erase l }) (listensNoted x s.cluster.listens s) = listensNoted x [] s := by
    simp [modCluster, listensNoted, hl]
  simp only [calListenEndRun, due, hk, bne_self_eq_false, Bool.false_eq_true, if_false]
  rw [← bounded, noted, left, respondList_listensNoted]

/-! ### The import (R446, R475) -/

theorem dedupImportRun_takes {recs : List DedupRec} (hc : s.cluster.clashes = []) : dedupImportRun h recs s =
    let r := recs.foldl (fun (a : Nat × State) r => (a.1 + bnat (importRec r a.2).1, (importRec r a.2).2)) (0, s)
    ok h 0xA5 (le 2 r.1 ++ [0, 0]) r.2 := by
  simp [dedupImportRun, hc, importRun]

/-- Settles O30: each command by its work at its turn, each end by its row; a listen's answer by `respondList_listensNoted`. -/
theorem plansCalibrationAndImport : Obligations.PlansCalibrationAndImport := by
  unfold Obligations.PlansCalibrationAndImport
  refine ⟨fun t h s => ⟨fun id total off data ht => ?_, fun id total off data x ht => ?_, fun id due ht => ?_, fun ht => ?_⟩,
    fun t id due h b s hp => ⟨fun hn => ?_, fun hn hl hb => ?_, fun hn hl hh => ?_⟩,
    fun t h s => ⟨fun p ch power due us ht => ?_, fun p x hx => ?_, fun ports due us m p ht => ?_, fun l ks hl hk => ?_, fun recs ht => ?_⟩⟩
  · intro u old hlen hoff hid
    have hrun : exec (.planLoad t h id total off data) s = .next (planLoadRun h id total off data u) := congrArg Host.Outcome.next (hostCmd_works rfl ht)
    rw [hrun]
    cases hs : u.cluster.staged with
    | none =>
      have fresh : old = [] := by simp only [old, hs]
      rw [planLoadRun_begins hlen hoff hs, fresh]
      rfl
    | some x =>
      have kept : old = x.chunks := by simp only [old, hs]
      rw [planLoadRun_adds hlen hoff hs (hid x hs), kept]
      rfl
  · intro u hlen hoff hs hx hp
    have hrun : exec (.planLoad t h id total off data) s = .next (planLoadRun h id total off data u) := congrArg Host.Outcome.next (hostCmd_works rfl ht)
    rw [hrun, planLoadRun_replaces hlen hoff hs hx hp]
    rfl
  · intro u hp
    have hrun : exec (.planActivate t h id due) s = .next (planActivateRun h id due u) := congrArg Host.Outcome.next (hostCmd_works rfl ht)
    rw [hrun, planActivateRun_first hp]
    rfl
  · exact congrArg Host.Outcome.next (hostCmd_works rfl ht)
  · exact congrArg Host.Outcome.next (planForceRun_early (s := advance t s) hp hn)
  · exact congrArg Host.Outcome.next (planForceRun_takes (s := advance t s) hp hn hl hb)
  · exact congrArg Host.Outcome.next (planForceRun_lost (s := advance t s) hp hn hl hh)
  · intro u hd hl hf htone hm hg hc hi asked
    have hrun : exec (.calTone t h p ch power due us) s = .next (calToneRun h p ch due us u) := congrArg Host.Outcome.next (hostCmd_works rfl ht)
    rw [hrun, calToneRun_asks hd hl hf htone hm hg hc hi]
    exact ⟨fun hn => congrArg Host.Outcome.next (if_neg (Bool.eq_false_iff.mp hn)), fun hy => congrArg Host.Outcome.next (if_pos hy)⟩
  · intro u w hn
    exact ⟨fun hg hf => congrArg Host.Outcome.next (calToneEndRun_granted (s := u) hx hn hg hf),
      fun hg => congrArg Host.Outcome.next (calToneEndRun_waiting (s := u) hx hn hg)⟩
  · intro u hd hl hf hc
    have hrun : exec (.calListen t h ports due us m p) s = .next (calListenRun h ports due us m p u) :=
      congrArg Host.Outcome.next (hostCmd_works rfl ht)
    rw [hrun, calListenRun_waits hd hl hf hc]
    rfl
  · intro u held hn
    obtain ⟨x, hrun⟩ := calListenEndRun_ends (s := u) hl hk hn
    exact ⟨_, congrArg Host.Outcome.next hrun, rfl, rfl⟩
  · intro u r hc
    have hrun : exec (.dedupImport t h recs) s = .next (dedupImportRun h recs u) := congrArg Host.Outcome.next (hostCmd_works rfl ht)
    rw [hrun, dedupImportRun_takes hc]

end Sys2Proof.Machine
end


section
/-!
SUPPORT. IEEE 1588: the role of the module, the messages it takes and those it sends (R448, R449).
-/

namespace Sys2Proof.Machine

set_option Elab.async false

variable {s : State}

/-! ### The role and the messages of IEEE 1588 (R448, R449) -/

/-- Deciding the role changes the time unit and nothing else. -/
theorem decideRole_time (s : State) : ∃ x : Time, decideRole s = { s with time := x } := by
  unfold decideRole
  dsimp only
  split
  · exact ⟨_, rfl⟩
  · exact ⟨_, rfl⟩

theorem sent_sendPtp (msg : PtpMsg) (s : State) : ∃ more, (sendPtp msg s).sent = more ++ s.sent :=
  ⟨(if (ipv4Of s).isSome then [Sent.ptp true msg] else []) ++ [.ptp false msg], by simp [sendPtp]⟩

theorem electRole_master : electRole s = 1 ↔ match bestForeign s with
    | some f => clockBetter (ownClock s) f = true
    | none => ¬ (s.time.role = 0 ∧ s.now < s.time.since + announceTimeout) := by
  unfold electRole
  cases bestForeign s <;> simp

section
variable {src seq d : Nat} (hp : s.mod.st ≠ .powerUp) (hr : s.mod.resetDue = 0) (hd : d = mAttrN s A.clusterPtpDomain)
include hp hr hd

theorem ptpRun_announce {p1 cls p2 : Nat} (hm : src ≠ s.nvm.mac) : ptpRun (.announce d src p1 cls p2) s =
    decideRole (modTime (fun x => { x with foreign := ⟨src, p1, cls, p2, s.now⟩ :: x.foreign.filter fun g => g.src != src }) s) := by
  simp [ptpRun, hp, hr, hd, hm]

theorem ptpRun_sync_two_step {origin : Int} (hm : master s = some src) :
    ptpRun (.sync d src seq true origin) s = modTime (fun x => { x with sync := some (src, seq, ts s, none) }) s := by
  simp [ptpRun, hp, hr, hd, hm]

theorem ptpRun_sync_one_step {origin : Int} (hm : master s = some src) :
    ptpRun (.sync d src seq false origin) s = syncKnown src seq (ts s) origin s := by
  simp [ptpRun, hp, hr, hd, hm]

theorem ptpRun_delayReq (hm : s.time.role = 1) : ptpRun (.delayReq d src seq) s = sendPtp (.delayResp d src seq (ts s)) s := by
  simp [ptpRun, hp, hr, hd, hm]

end

theorem ptpRun_delayReq_foreign {d src seq : Nat} (hd : d ≠ mAttrN s A.clusterPtpDomain) : ptpRun (.delayReq d src seq) s = s := by
  simp [ptpRun, hd]

/-! ### The interval of Sync and Delay_Req (R448) -/

theorem syncIntervalRun_early (hd : syncDue s = false) : syncIntervalRun s = s := by
  simp [syncIntervalRun, hd]

/-- The Sync of a master and its Follow_Up have left. -/
def syncSent (s : State) : State :=
  let d := mAttrN s A.clusterPtpDomain
  let n := s.time.syncSeq
  modTime (fun x => { x with syncSeq := (n + 1) % 65536, syncAt := some s.now })
    (sendPtp (.followUp d s.nvm.mac n (ts s)) (sendPtp (.sync d s.nvm.mac n true (ts s)) s))

section
variable (hl : s.link.speed ≠ 0) (hp : s.mod.st ≠ .powerUp) (hr : s.mod.resetDue = 0) (hd : syncDue s = true)
include hl hp hr hd

theorem interval_not_barred : (s.mod.st == .powerUp || s.link.speed == 0 || s.mod.resetDue != 0 || !syncDue s) = false := by
  simp [hl, hp, hr, hd]

theorem syncIntervalRun_slave (hs : (decideRole s).time.role = 2) : syncIntervalRun s =
    let w := decideRole s
    sendPtp (.delayReq (mAttrN w A.clusterPtpDomain) w.nvm.mac w.time.delaySeq) (modTime (fun x => { x with
      delaySeq := (w.time.delaySeq + 1) % 65536, syncAt := some w.now, delayReq := some (w.time.delaySeq, ts w) }) w) := by
  simp only [syncIntervalRun, interval_not_barred hl hp hr hd, hs, Bool.false_eq_true, if_false]

/-- A master sends Sync and Follow_Up, and then its Announce where that is due. -/
theorem syncIntervalRun_master (hm : (decideRole s).time.role = 1) :
    syncIntervalRun s = syncSent (decideRole s)
      ∨ ∃ msg last, syncIntervalRun s = sendPtp msg (modTime (fun x => { x with annAt := last }) (syncSent (decideRole s))) := by
  simp only [syncIntervalRun, interval_not_barred hl hp hr hd, hm, Bool.false_eq_true, if_false]
  cases (decideRole s).time.annAt with
  | none => exact .inr ⟨_, _, rfl⟩
  | some last =>
    dsimp only
    split
    · exact .inr ⟨_, _, rfl⟩
    · exact .inl rfl

/-- What a master has sent at its interval begins with Sync and Follow_Up. -/
theorem syncIntervalRun_master_sends (hm : (decideRole s).time.role = 1) :
    (syncIntervalRun s).time.syncSeq = ((decideRole s).time.syncSeq + 1) % 65536
      ∧ ∃ more, (syncIntervalRun s).sent = more ++ (syncSent (decideRole s)).sent := by
  rcases syncIntervalRun_master hl hp hr hd hm with hrun | ⟨msg, last, hrun⟩
  · rw [hrun]
    exact ⟨rfl, [], rfl⟩
  · rw [hrun]
    exact ⟨rfl, sent_sendPtp msg _⟩

end

/-! ### The rows on a link that is up -/

theorem exec_ieee1588Message (hl : s.link.speed ≠ 0) (t : Nat) (msg : PtpMsg) :
    exec (.ieee1588Message t msg) s = .next (ptpRun msg (advance t s)) :=
  congrArg Host.Outcome.next (if_neg (mt beq_iff_eq.mp hl))

theorem exec_syncInterval (hl : s.link.speed ≠ 0) (t : Nat) : exec (.syncInterval t) s = .next (syncIntervalRun (advance t s)) :=
  congrArg Host.Outcome.next (if_neg (mt beq_iff_eq.mp hl))

/-- Settles O55: each message by its lemma, and the interval by the role decided anew, which changes the time unit alone. -/
theorem timeMessagesAct : Obligations.TimeMessagesAct := by
  unfold Obligations.TimeMessagesAct
  intro t s hl hp hr u d leave
  have received (msg : PtpMsg) : exec (.ieee1588Message t msg) s = .next (ptpRun msg u) := exec_ieee1588Message hl t msg
  have interval : exec (.syncInterval t) s = .next (syncIntervalRun u) := exec_syncInterval hl t
  obtain ⟨x, decided⟩ := decideRole_time u
  refine ⟨fun src p1 cls p2 hm => ?_, fun src seq origin hm => ?_, fun src seq origin hm => ?_, fun src seq hm => ?_,
    fun d2 src seq hd => ?_, ⟨fun hd => ?_, fun hd hs => ?_, fun hd hm => ?_⟩, electRole_master⟩
  · exact (received _).trans (congrArg Host.Outcome.next (ptpRun_announce (s := u) hp hr rfl hm))
  · exact (received _).trans (congrArg Host.Outcome.next (ptpRun_sync_two_step (s := u) hp hr rfl hm))
  · exact (received _).trans (congrArg Host.Outcome.next (ptpRun_sync_one_step (s := u) hp hr rfl hm))
  · exact (received _).trans (congrArg Host.Outcome.next (ptpRun_delayReq (s := u) hp hr rfl hm))
  · exact (received _).trans (congrArg Host.Outcome.next (ptpRun_delayReq_foreign (s := u) hd))
  · exact interval.trans (congrArg Host.Outcome.next (syncIntervalRun_early hd))
  · rw [interval, syncIntervalRun_slave (s := u) hl hp hr hd hs, decided]
    rfl
  · obtain ⟨hseq, more, hsent⟩ := syncIntervalRun_master_sends (s := u) hl hp hr hd hm
    refine ⟨_, more, interval, hseq, hsent.trans ?_⟩
    rw [decided]
    rfl

end Sys2Proof.Machine
end


section
/-!
SUPPORT. The frame starts of a plan, the lock of the time unit and its holdover, and the SYNC chain (R142, R450 to R458, R466, R469).
-/

namespace Sys2Proof.Machine

set_option Elab.async false

variable {s : State}

/-! ### Frame starts (R142, R458, R466) -/

/-- The ports that take the run of their plan at a frame start. -/
def steppedPorts (s : State) : List Nat := (List.range 64).filter fun p => stepped s p && !isFollower s p

/-- With a lock the time is no longer lost (R469). -/
def timeKnown (s : State) : State := if 0 < s.time.lock then modTime (fun x => { x with lostTime := false }) s else s

theorem reselect_eq (s : State) : reselect s = if (List.range 64).map (chanOf s) = s.cluster.chans then s else selectAll s := by
  simp [reselect]

theorem frameStartRun_off_tick (hn : frameTick s ≠ s.now) : frameStartRun s = s := by
  simp [frameStartRun, hn]

section
variable (hm : s.mod.st = .service) (he : mAttr s A.clusterTrellisEnable ≠ 0) (ha : (planOf s).isSome = true) (hn : frameTick s = s.now)
include hm he ha hn

theorem frameStartRun_none (hs : steppedPorts s = []) : frameStartRun s = timeKnown s := by
  have : planOf s ≠ none := Option.isSome_iff_ne_none.mp ha
  simp [frameStartRun, hm, he, this, hn, ← steppedPorts.eq_1, hs, timeKnown]

theorem frameStartRun_begins (hs : steppedPorts s ≠ []) : frameStartRun s =
    (steppedPorts s).foldl (fun s p => resumePort p s) (reselect ((steppedPorts s).foldl (fun s p => runStart p s) (timeKnown s))) := by
  have : planOf s ≠ none := Option.isSome_iff_ne_none.mp ha
  simp [frameStartRun, hm, he, this, hn, ← steppedPorts.eq_1, hs, timeKnown]

end

/-! ### The lock (R450, R451, R457) -/

theorem passed_iff {since : Option Nat} {ticks : Nat} : passed s since ticks = true ↔ ∀ a, since = some a → a + ticks ≤ s.now := by
  cases since <;> simp [passed]

theorem mayLock_iff {offset : Int} : mayLock s offset = true ↔ mag offset ≤ 25 ∧ ∀ a, s.time.outAt = some a → a + msT 10000 ≤ s.now := by
  simp [mayLock, passed_iff]

/-- While an Announce is heard, the lock may be left only for the offset (R450). -/
theorem mayUnlock_of_heard {offset : Int} (hb : (bestForeign s).isSome = true) :
    mayUnlock s offset = true ↔ 100 < mag offset ∧ ∀ a, s.time.nearAt = some a → a + msT 1000 ≤ s.now := by
  have : bestForeign s ≠ none := Option.isSome_iff_ne_none.mp hb
  simp [mayUnlock, passed_iff, this]

theorem mayUnlock_of_far {offset : Int} (hf : 100 < mag offset) (hn : ∀ a, s.time.nearAt = some a → a + msT 1000 ≤ s.now) :
    mayUnlock s offset = true := by
  simp [mayUnlock, passed_iff.mpr hn, hf]

section
variable {offset step : Int}

theorem lockChangeRun_first (hp : s.mod.st ≠ .powerUp) (hl : s.time.lock = 0) (he : s.time.everLocked = false) (hs : step ≠ 0)
    (hm : mayLock s offset = true) :
    lockChangeRun 1 offset step s = tellLock (setLock 1 { s with time := { s.time with offsetNs := offset }, timeOff := s.timeOff + step }) := by
  simp [lockChangeRun, hp, hl, he, hs, hm, modTime]

variable (he : s.time.everLocked = true) (hs : mag step ≤ 1000000)
include he hs

theorem lockChangeRun_not_gained (hm : mayLock s offset = false) : lockChangeRun 1 offset step s = s := by
  simp [lockChangeRun, he, Nat.not_lt.mpr hs, hm]

theorem lockChangeRun_not_lost (hm : mayUnlock s offset = false) : lockChangeRun 0 offset step s = s := by
  simp [lockChangeRun, he, Nat.not_lt.mpr hs, hm]

variable (hp : s.mod.st ≠ .powerUp)
include hp

theorem lockChangeRun_regained (hl : s.time.lock = 0) (hm : mayLock s offset = true) :
    lockChangeRun 1 offset step s = tellLock (setLock 1 { s with time := { s.time with offsetNs := offset } }) := by
  simp [lockChangeRun, hp, hl, he, Nat.not_lt.mpr hs, hm, modTime]

theorem lockChangeRun_lost (hl : s.time.lock ≠ 0) (hm : mayUnlock s offset = true) :
    lockChangeRun 0 offset step s = tellLock (setLock 0 { s with time := { s.time with offsetNs := offset } }) := by
  simp [lockChangeRun, hp, hl, he, Nat.not_lt.mpr hs, hm, modTime]

end

/-- Telling the lock leaves the time unit as it is. -/
theorem time_tellLock (s : State) : (tellLock s).time = s.time := (onlySent_raise ..).time

theorem now_tellLock (s : State) : (tellLock s).now = s.now := (onlySent_raise ..).now

/-! ### Holdover (R457, R469) -/

theorem holdoverRun_early {n : Nat} (hh : s.time.holdUntil = some n) (hn : s.now < n) : holdoverRun s = s := by
  simp [holdoverRun, hh, hn]

theorem foldl_fixed_mem {α β : Type} {f : β → α → β} {xs : List α} {b : β} (hf : ∀ x ∈ xs, f b x = b) : xs.foldl f b = b := by
  induction xs with
  | nil => rfl
  | cons x xs ih =>
    rw [List.foldl_cons, hf x List.mem_cons_self]
    exact ih fun y hy => hf y (List.mem_cons_of_mem x hy)

theorem holdoverRun_ends {n : Nat} (hh : s.time.holdUntil = some n) (hn : n ≤ s.now) (hl : s.time.lock = 0)
    (hs : ∀ p < 64, stepped s p = false) : holdoverRun s = modTime (fun x => { x with holdUntil := none, lostTime := true }) s := by
  simp only [holdoverRun, hh, hl, Nat.not_lt.mpr hn, bne_self_eq_false, decide_false, Bool.or_self, Bool.false_eq_true, if_false]
  refine foldl_fixed_mem fun p hp => ?_
  have still : stepped (modTime (fun x => { x with holdUntil := none, lostTime := true }) s) p = false := hs p (List.mem_range.mp hp)
  simp [still]

/-! ### The SYNC chain (R452 to R456) -/

section
variable (hc : chained s = true) (hp : s.mod.st ≠ .powerUp)
include hc hp

theorem syncLossRun_leaves {a : Nat} (ha : s.time.edgeAt = some a) (h3 : msT 3 ≤ s.now - a) (h10 : s.now - a < msT 10) (hl : s.time.lock = 2) :
    syncLossRun s = tellLock (setLock 1 s) := by
  simp [syncLossRun, hc, hp, ha, hl, h3, Nat.not_le.mpr h10]

theorem syncLossRun_heads {a : Nat} (ha : s.time.edgeAt = some a) (h10 : msT 10 ≤ s.now - a) (hl : s.time.lock ≠ 2) (hh : s.time.head = false) :
    syncLossRun s = modTime (fun x => { x with head := true, goodSince := none }) s := by
  simp [syncLossRun, hc, hp, ha, hl, h10, hh]

/-- The phase of an edge on SYNC_IN in ps (R454). -/
def chainPhase (ps : Int) (s : State) : Int := ps / 10 * 10 - mAttr s A.clusterSyncInDelay

theorem edgeRun_follows {ps : Int} (hh : s.time.head = false) :
    edgeRun ps s = modTime (fun x => { x with edgeAt := some (followEdge (chainPhase ps s) s).now }) (followEdge (chainPhase ps s) s) := by
  simp [edgeRun, hc, hp, hh, chainPhase]

end

theorem followEdge_unlocked {phase : Int} (hl : s.time.lock = 0) :
    followEdge phase s = modTime (fun x => { x with chainNs := phase / 1000, chainSince := none }) s := by
  simp [followEdge, modTime, hl]

/-- An edge at LOCK 2 whose offset differs from that of IEEE 1588 has been noted and slewed away (R454, R456). -/
def edgeApart (phase : Int) (s : State) : State :=
  let since := if mag phase ≤ 1000 then some (s.time.chainSince.getD s.now) else none
  slew (phase / 1000) 1000000 (modTime (fun x => { x with chainNs := phase / 1000, chainSince := since, apart := s.time.apart + 1 }) s)

@[simp] theorem time_slew (err : Int) (elapsed : Nat) (s : State) : (slew err elapsed s).time = s.time := rfl

theorem followEdge_apart {phase : Int} (hl : s.time.lock = 2) (hd : 100 < mag (phase / 1000 - s.time.offsetNs)) :
    followEdge phase s = if 10 ≤ s.time.apart + 1 then tellLock (setLock 1 (edgeApart phase s)) else edgeApart phase s := by
  simp [followEdge, edgeApart, modTime, hl, hd]

/-- At LOCK 2 an offset that differs from that of IEEE 1588 counts, and the tenth in a row leaves LOCK 2 (R456). -/
theorem followEdge_counts {phase : Int} (hl : s.time.lock = 2) (hd : 100 < mag (phase / 1000 - s.time.offsetNs)) :
    let v := followEdge phase s
    v.now = s.now ∧ v.time.chainNs = phase / 1000 ∧ (s.time.apart + 1 < 10 → v.time.lock = 2 ∧ v.time.apart = s.time.apart + 1)
      ∧ (10 ≤ s.time.apart + 1 → v.time.lock = 1) := by
  intro v
  have hv : v = _ := followEdge_apart hl hd
  by_cases ten : 10 ≤ s.time.apart + 1
  · rw [hv, if_pos ten, now_tellLock, time_tellLock]
    exact ⟨rfl, rfl, fun few => absurd ten (Nat.not_le.mpr few), fun _ => rfl⟩
  · rw [hv, if_neg ten]
    exact ⟨rfl, rfl, fun _ => ⟨hl, rfl⟩, fun many => absurd many ten⟩

/-- Settles O54: the frame start by `frameStartRun_begins`, the lock by `mayLock_iff` and the lemmas on its change, an edge by `followEdge_counts`. -/
theorem clusterTimeAndFrames : Obligations.ClusterTimeAndFrames := by
  unfold Obligations.ClusterTimeAndFrames
  refine ⟨fun t s hm he ha => ?_, fun t offset step s hp => ?_, fun t ps s hc hp hh => ?_⟩
  · intro u w ps begun
    refine ⟨fun hn hs => ?_, fun hn hs => ?_, fun hn => ?_⟩
    · rw [← reselect_eq]
      exact congrArg Host.Outcome.next (frameStartRun_begins (s := u) hm he ha hn hs)
    · exact congrArg Host.Outcome.next (frameStartRun_none (s := u) hm he ha hn hs)
    · exact congrArg Host.Outcome.next (frameStartRun_off_tick hn)
  · intro u near far
    have locks : mayLock u offset = true ↔ near := mayLock_iff
    refine ⟨fun hl he hs hn => ?_, fun hl he hs hn => ?_, fun hl he hs hn => ?_, fun hl he hs hf hb => ?_, fun hl he hs hf => ?_,
      fun n hn => ⟨fun hlt => ?_, fun hle hl hs => ?_⟩, fun a hc ha h3 h10 hl => ?_, fun a hc ha h10 hl hh => ?_⟩
    · exact congrArg Host.Outcome.next (lockChangeRun_first (s := u) hp hl he hs (locks.mpr hn))
    · exact congrArg Host.Outcome.next (lockChangeRun_regained (s := u) he hs hp hl (locks.mpr hn))
    · exact congrArg Host.Outcome.next (lockChangeRun_not_gained (s := u) he hs (Bool.eq_false_iff.mpr (mt locks.mp hn)))
    · exact congrArg Host.Outcome.next
        (lockChangeRun_not_lost (s := u) he hs (Bool.eq_false_iff.mpr (mt (mayUnlock_of_heard hb).mp hf)))
    · have lost := lockChangeRun_lost (s := u) (offset := offset) he hs hp (by rw [show u.time.lock = 1 from hl]; decide)
        (mayUnlock_of_far hf.1 hf.2)
      refine ⟨_, congrArg Host.Outcome.next lost, ?_, ?_⟩
      · rw [time_tellLock]
        rfl
      · rw [time_tellLock]
        rfl
    · exact congrArg Host.Outcome.next (holdoverRun_early (s := u) hn hlt)
    · exact congrArg Host.Outcome.next (holdoverRun_ends (s := u) hn hle hl hs)
    · exact congrArg Host.Outcome.next (syncLossRun_leaves (s := u) hc hp ha h3 h10 hl)
    · exact congrArg Host.Outcome.next (syncLossRun_heads (s := u) hc hp ha h10 hl hh)
  · intro u chain
    have edge : exec (.syncInEdge t ps) s = .next (modTime (fun x => { x with edgeAt := some (followEdge chain u).now }) (followEdge chain u)) :=
      congrArg Host.Outcome.next (edgeRun_follows (s := u) hc hp hh)
    refine ⟨fun hl => ?_, fun hl hd => ?_⟩
    · rw [edge, followEdge_unlocked (s := u) hl]
      rfl
    · obtain ⟨hnow, hchain, hkeeps, hleaves⟩ := followEdge_counts (s := u) hl hd
      exact ⟨_, edge, hchain, congrArg some hnow, hkeeps, hleaves⟩

end Sys2Proof.Machine
end


section
/-!
SUPPORT. How the module leaves its reset, and RESET_N (R444, R553, R563 to R569, R572, R577).
-/

namespace Sys2Proof.Machine

set_option Elab.async false

variable {s : State}

/-! ### Release (R553, R559, R564, R577) -/

/-- In POWER_UP the supply and the rails allow the release: VSTBY, VIO and VCORE in regulation, and the PI at 42 V or more (R559, R564). -/
def supplied (s : State) : Prop :=
  s.mod.st = .powerUp ∧ (rail s 0).reg = true ∧ (rail s 1).reg = true ∧ (rail s 2).reg = true ∧ s.power.failed = false ∧ 42000 ≤ s.power.piMv

theorem tryRelease_releases (h : supplied s) (hc : s.mod.crystalOk = true) (hs : s.mod.strapsOk = true) (hr : s.mod.inReset = false) :
    tryRelease s = release s := by
  obtain ⟨hst, h0, h1, h2, hf, hp⟩ := h
  simp [tryRelease, hst, h0, h1, h2, hf, hp, hc, hs, hr]

theorem tryRelease_in_reset (hr : s.mod.inReset = true) : tryRelease s = s := by
  simp [tryRelease, hr]

theorem rail_release (hl : 3 < s.power.rails.length) : rail (release s) 3 = ⟨true, false, 0⟩ := nth_upd_self _ _ _ hl

theorem enableRail_enabled {i : Nat} (he : (rail s i).en = true) : enableRail i s = s := by
  have same : upd s.power.rails i (fun r => if r.en then r else { en := true, reg := false, enAt := s.now }) = s.power.rails :=
    upd_self _ _ _ {} (if_pos he)
  simp [enableRail, modRail, modPower, same]

/-- The crystal starts last, with VIO up already (R577). -/
theorem crystalRun_last (h : supplied s) (hc : s.mod.crystalOk = false) (he : (rail s 1).en = true) :
    crystalRun s = tryRelease (modMod (fun m => { m with crystalOk := true }) s) := by
  obtain ⟨hst, h0, -⟩ := h
  have enabled : enableRail 1 (modMod (fun m => { m with crystalOk := true }) s) = _ := enableRail_enabled (i := 1) he
  simp [crystalRun, hst, h0, hc, enabled]

/-! ### The straps (R444, R568, R569) -/

section
variable {mvA mvB : Nat} (h : supplied s) (hr : s.mod.inReset = false)
include h hr

theorem strapRun_reads {a b : Nat} (ha : strapLevel mvA = some a) (hb : strapLevel mvB = some b) : strapRun mvA mvB s =
    tryRelease (modMod (fun m => { m with strapsOk := true, holdCause := 0 }) { s with moduleId := 8 * a + b }) := by
  obtain ⟨hst, -, h1, -⟩ := h
  simp [strapRun, hst, h1, hr, ha, hb]

theorem strapRun_fault (ha : strapLevel mvA = none) : strapRun mvA mvB s =
    tryRelease (modMod (fun m => { m with strapsOk := true, holdCause := E.strap }) { s with moduleId := 0xFF }) := by
  obtain ⟨hst, -, h1, -⟩ := h
  simp [strapRun, hst, h1, hr, ha]

end

/-- The windows of Table 12-5. -/
def strapWindows : List (Nat × Nat) := [(0, 40), (110, 190), (261, 341), (413, 493), (564, 644), (710, 790), (869, 949), (1010, 1090)]

theorem strapWindows_narrow : ∀ w ∈ strapWindows, w.2 ≤ w.1 + 80 := by decide

theorem strapLevel_window {mv k : Nat} (hk : strapLevel mv = some k) :
    ∃ h : k < strapWindows.length, strapWindows[k].1 ≤ mv ∧ mv ≤ strapWindows[k].2 := by
  obtain ⟨hlt, hin, -⟩ := List.findIdx?_eq_some_iff_getElem.mp (show strapWindows.findIdx? _ = some k from hk)
  exact ⟨hlt, by simpa using hin⟩

theorem strapLevel_near {mv mv2 k : Nat} (hk : strapLevel mv = some k) (h2 : strapLevel mv2 = some k) : mag ((mv : Int) - mv2) ≤ 80 := by
  obtain ⟨hlt, low, high⟩ := strapLevel_window hk
  obtain ⟨_, low2, high2⟩ := strapLevel_window h2
  have narrow := strapWindows_narrow _ (List.getElem_mem hlt)
  unfold mag
  omega

/-! ### RESET_N (R563, R564, R572) -/

@[simp] theorem rail_modMod (f : Mod → Mod) (s : State) (i : Nat) : rail (modMod f s) i = rail s i := rfl

/-- With its rails enabled the module leaves reset as soon as RESET_N ends. -/
theorem leaveReset_enabled (h1 : (rail s 1).en = true) (h2 : (rail s 2).en = true) :
    leaveReset s = tryRelease (modMod (fun m => { m with inReset := false }) s) := by
  simp [leaveReset, h1, h2]

theorem resetNReleasedRun_last (hr : s.mod.inReset = true) (h1 : (rail s 1).en = true) (h2 : (rail s 2).en = true) :
    resetNReleasedRun s = tryRelease (modMod (fun m => { m with inReset := false }) { s with pins := { s.pins with resetN := false } }) :=
  (if_pos hr).trans (leaveReset_enabled h1 h2)

theorem resetNRun_resets (hv : 1500 ≤ s.pins.vauxMv) (hp : s.mod.st ≠ .powerUp) :
    resetNRun s = holdReset (afterReset 3 { s with pins := { s.pins with resetN := true } }) := by
  simp [resetNRun, resetBy, hp, Nat.not_lt.mpr hv]

theorem resetNRun_without_vaux (hv : s.pins.vauxMv < 1500) : resetNRun s = { s with pins := { s.pins with resetN := true } } := if_pos hv

theorem afterReset_cause (hp : s.mod.st ≠ .powerUp) (cause : Nat) : (afterReset cause s).mod.resetCause = cause :=
  if_neg (mt beq_iff_eq.mp hp)

theorem bootCount_raiseFloor (i : Nat) (n : Nvm) : (n.raiseFloor i).bootCount = n.bootCount := by
  unfold Nvm.raiseFloor
  dsimp only
  split
  · rfl
  · rfl

theorem bootCount_nvmAfter (m : Mod) (n : Nvm) : (nvmAfter m n).bootCount = n.bootCount := by
  unfold nvmAfter
  dsimp only
  split
  · rfl
  · exact bootCount_raiseFloor ..

/-- Settles O50: each last condition leads to `tryRelease` with every other met, and RESET_N to a reset that NVM outlasts. -/
theorem releaseFromReset : Obligations.ReleaseFromReset := by
  unfold Obligations.ReleaseFromReset
  refine ⟨fun t mvA mvB s hst h0 h1 h2 hl hf hpi => ?_, fun t s => ⟨fun hv hp => ?_, fun hv => ?_, tryRelease_in_reset⟩,
    fun mv k hk => ⟨(strapLevel_window hk).1, fun mv2 h2 => strapLevel_near hk h2⟩⟩
  · intro released
    have ready : supplied (advance t s) := ⟨hst, h0, h1, h2, hf, hpi⟩
    have freed {v : State} (hp : v.power = s.power) (hn : v.nvm = s.nvm) : released (release v) :=
      ⟨rfl, rfl, congrArg (fun n : Nvm => (n.bootCount + 1) % 2 ^ 32) hn, rail_release (by rw [hp]; exact hl)⟩
    refine ⟨fun hc he hs hr => ?_, fun hc hr => ⟨fun a b ha hb => ?_, fun ha => ?_⟩, fun hc hs hr ht he1 he2 => ?_⟩
    · exact ⟨_, congrArg Host.Outcome.next ((crystalRun_last ready hc he).trans (tryRelease_releases ready rfl hs hr)), freed rfl rfl⟩
    · exact ⟨_, congrArg Host.Outcome.next ((strapRun_reads ready hr ha hb).trans (tryRelease_releases ready hc rfl hr)), freed rfl rfl, rfl, rfl⟩
    · exact ⟨_, congrArg Host.Outcome.next ((strapRun_fault ready hr ha).trans (tryRelease_releases ready hc rfl hr)), freed rfl rfl, rfl, rfl⟩
    · exact ⟨_, congrArg Host.Outcome.next ((resetNReleasedRun_last (s := advance t s) hr he1 he2).trans (tryRelease_releases ready hc hs rfl)),
        freed rfl rfl, rfl⟩
  · obtain ⟨-, sec, floor⟩ := nvmAfter_keeps s.mod (charge { advance t s with pins := { s.pins with resetN := true } }).nvm
    exact ⟨_, congrArg Host.Outcome.next (resetNRun_resets (s := advance t s) hv hp), rfl,
      afterReset_cause (s := { advance t s with pins := { s.pins with resetN := true } }) hp 3, rfl, rfl, sec, floor, bootCount_nvmAfter ..⟩
  · exact congrArg Host.Outcome.next (resetNRun_without_vaux (s := advance t s) hv)

end Sys2Proof.Machine
end


section
/-!
SUPPORT. The slots of the cask store: what an update of the log leaves in each of them, and the state of each cask (R487, R488, R491 to R496, R516).
-/

namespace Sys2Proof.Machine

set_option Elab.async false

variable {s : State} {h : Hdr} {n : Nat}

/-! ### The log (R516, R519) -/

/-- Copying a page to the head of the log changes the pages and the next SEQ alone. -/
theorem copyPage_frame (root : Bytes) (pg : List CaskRec) (rest : List (List CaskRec)) (x : Sec) :
    ∃ ps q, Sec.copyPage root pg rest x = { x with pages := ps, seq := q } := by
  refine List.foldlRecOn (motive := fun y : Sec => ∃ (ps : List (List CaskRec)) (q : Nat), y = { x with pages := ps, seq := q }) _ _
    ⟨rest, x.seq, rfl⟩ ?_
  rintro _ ⟨_, _, rfl⟩ _ _
  exact ⟨_, _, rfl⟩

/-- So does compaction. -/
theorem compact_frame (root : Bytes) (k : Nat) (x : Sec) : ∃ ps q, Sec.compact root k x = { x with pages := ps, seq := q } := by
  induction k generalizing x with
  | zero => exact ⟨_, _, rfl⟩
  | succ k ih =>
    unfold Sec.compact
    split
    · exact ⟨_, _, rfl⟩
    · next pg rest _ =>
      split
      · exact ⟨_, _, rfl⟩
      · obtain ⟨_, _, copied⟩ := copyPage_frame root pg rest x
        obtain ⟨_, _, done⟩ := ih (Sec.copyPage root pg rest x)
        exact ⟨_, _, by rw [done, copied]⟩

/-- The record of a creation or a destruction gives its slot the content, and else changes the log alone. -/
theorem append_frame (root : Bytes) (n : Nat) (c : Cask) (x : Sec) :
    ∃ ps q, Sec.append root n c x = { x.setCask n c with pages := ps, seq := q } := by
  obtain ⟨ps, q, done⟩ := compact_frame root 64 (Sec.log root n c (x.setCask n c))
  exact ⟨ps, q, done⟩

/-! ### The content of a slot -/

theorem caskAt_of_casks {t : State} (hc : t.nvm.sec.casks = s.nvm.sec.casks) (m : Nat) : caskAt t m = caskAt s m := by rw [caskAt, hc, caskAt]

theorem casks_appendRec (n : Nat) (c : Cask) (s : State) : (appendRec n c s).nvm.sec.casks = (s.nvm.sec.setCask n c).casks := by
  obtain ⟨ps, q, appended⟩ := append_frame s.cellar.root n c s.nvm.sec
  have kept := congrArg Sec.casks appended
  exact kept

/-- Dropping entries by their number hides the entries of those numbers and no others. -/
theorem find_filter_number (g : Nat → Bool) (xs : List (Nat × Cask)) (m : Nat) :
    (xs.filter fun e => g e.1).find? (fun e => e.1 == m) = if g m then xs.find? (fun e => e.1 == m) else none := by
  rw [List.find?_filter]
  split
  · next hg =>
    congr 1
    funext e
    by_cases he : e.1 = m <;> simp [he, hg]
  · next hg =>
    rw [List.find?_eq_none]
    intro e _
    by_cases he : e.1 = m <;> simp [he, hg]

theorem find_setCask (n : Nat) (c : Cask) (x : Sec) (m : Nat) :
    (x.setCask n c).casks.find? (fun e => e.1 == m) = if m = n then some (n, c) else x.casks.find? (fun e => e.1 == m) := by
  simp only [Sec.setCask, List.find?_append, find_filter_number (fun k => decide (k < n)), find_filter_number (fun k => decide (k > n)),
    List.find?_singleton]
  rcases Nat.lt_trichotomy m n with hm | rfl | hm
  · simp [hm, Nat.ne_of_lt hm, Nat.ne_of_gt hm, Nat.lt_asymm hm]
  · simp
  · simp [hm, Nat.ne_of_lt hm, Nat.ne_of_gt hm, Nat.lt_asymm hm]

theorem caskAt_appendRec_self (n : Nat) (c : Cask) (s : State) : caskAt (appendRec n c s) n = some c := by
  rw [caskAt, casks_appendRec, find_setCask, if_pos rfl]
  rfl

theorem caskAt_appendRec_ne {m : Nat} (hm : m ≠ n) (c : Cask) (s : State) : caskAt (appendRec n c s) m = caskAt s m := by
  rw [caskAt, casks_appendRec, find_setCask, if_neg hm, caskAt]

theorem emptyCask_filled {c : Cask} (hc : caskAt s n = some c) : emptyCask n s = appendRec n c.emptied s := by rw [emptyCask, hc]

/-! ### The state of a cask (R487, R488) -/

theorem keyOf_filled {c : Cask} (hc : caskAt s n = some c) : keyOf s n = c.key := by rw [keyOf, hc]; rfl

theorem caskStAt_empty_iff {k : Nat} : caskStAt s (k + 1) n = .empty ↔ ∀ c, caskAt s n = some c → c.live = false := by
  unfold caskStAt
  cases hc : caskAt s n with
  | none => simp
  | some c =>
    cases hl : c.live
    · simp [hl]
    · simp only [hl, Bool.not_true, Bool.false_eq_true, if_false, Option.some.injEq, forall_eq', Bool.true_eq_false, iff_false]
      split_ifs <;> simp

theorem caskStAt_live_iff {k : Nat} : caskStAt s (k + 1) n = .live ↔
    ∃ c, caskAt s n = some c ∧ c.live = true ∧ (c.parent = 0xFFFF ∨ incOf s c.parent = c.gen ∧ caskStAt s k c.parent = .live) := by
  rw [caskStAt]
  cases hc : caskAt s n with
  | none => simp
  | some c => cases hl : c.live <;> simp [hl, or_iff_not_imp_left]

theorem caskSt_empty_iff : caskSt s n = .empty ↔ ∀ c, caskAt s n = some c → c.live = false := caskStAt_empty_iff

theorem caskSt_of_imported {c : Cask} (hc : caskAt s n = some c) (hl : c.live = true) (hp : c.parent = 0xFFFF) : caskSt s n = .live :=
  caskStAt_live_iff.mpr ⟨c, hc, hl, .inl hp⟩

/-- A cask is REVOKED where it is neither EMPTY nor LIVE. -/
theorem caskSt_revoked_iff : caskSt s n = .revoked ↔ caskSt s n ≠ .empty ∧ caskSt s n ≠ .live := by cases caskSt s n <;> simp

/-! ### Filling and emptying (R487, R488, R496) -/

section
variable {key : Bytes} {attr parent gen : Nat}

theorem caskAt_fillCask_self : caskAt (fillCask n key attr parent gen s) n =
    some ⟨true, key, attr, parent, gen, s.nvm.sec.debugOpen, (incOf s n + 1) % 65536⟩ := caskAt_appendRec_self ..

theorem caskAt_fillCask_ne {m : Nat} (hm : m ≠ n) : caskAt (fillCask n key attr parent gen s) m = caskAt s m := caskAt_appendRec_ne hm ..

end

/-- Emptying a slot leaves every other slot. -/
theorem caskAt_emptyCask_ne {m : Nat} (hm : m ≠ n) : caskAt (emptyCask n s) m = caskAt s m := by
  unfold emptyCask
  split
  · rfl
  · exact caskAt_appendRec_ne hm ..

theorem caskAt_emptyCask_self : caskAt (emptyCask n s) n = (caskAt s n).map Cask.emptied := by
  cases hc : caskAt s n with
  | none => simp [emptyCask, hc]
  | some c => rw [emptyCask_filled hc, caskAt_appendRec_self]; rfl

theorem caskSt_emptyCask_self : caskSt (emptyCask n s) n = .empty := by
  rw [caskSt_empty_iff, caskAt_emptyCask_self]
  intro c hc
  obtain ⟨c, -, rfl⟩ := Option.map_eq_some_iff.mp hc
  rfl

/-- The incarnation stays (R488). -/
theorem incOf_emptyCask (m : Nat) : incOf (emptyCask n s) m = incOf s m := by
  unfold incOf
  by_cases hm : m = n
  · subst hm
    rw [caskAt_emptyCask_self]
    cases caskAt s m <;> rfl
  · rw [caskAt_emptyCask_ne hm]

theorem keyOf_emptyCask_self : keyOf (emptyCask n s) n = [] := by
  rw [keyOf, caskAt_emptyCask_self]
  cases caskAt s n <;> rfl

/-- A slot that takes a content fills, and empties again; no other slot changes. -/
theorem fillCask_fills (n : Nat) (key : Bytes) (attr : Nat) (s : State) :
    let v := fillCask n key attr 0xFFFF 0 s
    (caskSt v n = .live ∧ keyOf v n = key ∧ caskAt v n = some ⟨true, key, attr, 0xFFFF, 0, s.nvm.sec.debugOpen, (incOf s n + 1) % 65536⟩)
      ∧ (∀ m, m ≠ n → caskAt v m = caskAt s m)
      ∧ (caskSt (emptyCask n v) n = .empty ∧ keyOf (emptyCask n v) n = [] ∧ ∀ m, m ≠ n → caskAt (emptyCask n v) m = caskAt s m) := by
  intro v
  have filled : caskAt v n = some ⟨true, key, attr, 0xFFFF, 0, s.nvm.sec.debugOpen, (incOf s n + 1) % 65536⟩ := caskAt_fillCask_self
  have others : ∀ m, m ≠ n → caskAt v m = caskAt s m := fun m hm => caskAt_fillCask_ne hm
  exact ⟨⟨caskSt_of_imported filled rfl rfl, keyOf_filled filled, filled⟩, others, caskSt_emptyCask_self, keyOf_emptyCask_self,
    fun m hm => (caskAt_emptyCask_ne hm).trans (others m hm)⟩

/-! ### The commands that create casks (R491 to R494) -/

/-- A target that is EMPTY, with a CASK_ATTR that R491 permits, lets a command create its cask. -/
theorem createCheck_passes {op attr : Nat} {go : State → State} (he : caskSt s n = .empty) (ha : attrGood attr = true) :
    createCheck h op n attr s go = go s := by simp [createCheck, he, ha]

section
variable {attr : Nat} (hl : lifeCycle s ≠ 3) (he : caskSt s n = .empty) (ha : attrGood attr = true)
include hl he ha

section
variable {kek : Nat} {x : Bytes} (hk : useCheck s kek (bit · useWrap) (some invAdmin) = none) (hx : x.length = keyBits attr / 8 + 8)
include hk hx

theorem importCask_fills {key : Bytes} (hu : keyUnwrap (keyOf s kek) x = some key) :
    importCask h n kek attr x s = cellarOk h 0xC1 [] (fillCask n key attr 0xFFFF 0 s) := by
  simp only [importCask, beq_false_of_ne hl, hk, createCheck_passes he ha, hx, hu, bne_self_eq_false, Bool.false_eq_true, if_false]

theorem importCask_no_key (hu : keyUnwrap (keyOf s kek) x = none) :
    importCask h n kek attr x s = fail h 0xC1 E.unwrap { arg1 := (kek : Int) } s := by
  simp only [importCask, beq_false_of_ne hl, hk, createCheck_passes he ha, hx, hu, bne_self_eq_false, Bool.false_eq_true, if_false]

end

theorem generateCask_passes : generateCask h n (keyBits attr) attr s =
    (let r := randomBytes (keyBits attr / 8) s; cellarOk h 0xC2 [] (fillCask n r.1 attr 0xFFFF 0 r.2)) := by
  simp only [generateCask, beq_false_of_ne hl, createCheck_passes he ha, bne_self_eq_false, Bool.false_eq_true, if_false]

theorem deriveCask_passes {parent : Nat} {label context : Bytes} (hk : useCheck s parent (bit · useDerive) (some invAdmin) = none)
    (hc : field attr 25 24 &&& field (((caskAt s parent).map (·.attr)).getD 0) 25 24 = field attr 25 24) (hd : depthOf s 8 parent < 4) :
    deriveCask h n parent attr label context s = cellarOk h 0xC3 (le 2 (incOf s parent) ++ [0, 0])
      (fillCask n (kdf s.nvm.sec.debugOpen (keyOf s parent) label context (keyBits attr)) attr parent (incOf s parent) s) := by
  have shallow : ¬ depthOf s 8 parent + 1 > 4 := by omega
  simp only [deriveCask, beq_false_of_ne hl, hk, createCheck_passes he ha, hc, bne_self_eq_false, shallow, Bool.false_eq_true, if_false]

end

/-! ### CASK_DESTROY (R496) -/

theorem destroyCask_empty (he : caskSt s n = .empty) : destroyCask h n s = cellarOk h 0xC4 [0, 0, 0, 0] s := by simp [destroyCask, he]

theorem destroyCask_filled (he : caskSt s n ≠ .empty) : destroyCask h n s =
    (let w := zeroiseRevoked (emptyCask n s)
     cellarOk h 0xC4 (le 2 ((casksIn w .revoked).length - ((casksIn s .revoked).filter (· != n)).length) ++ [0, 0]) w) := by
  simp [destroyCask, he]

/-- Settles O31: each command by its work at its turn, past the checks it shares with the others, and the slots by `fillCask_fills`. -/
theorem casksAreMadeAndFilled : Obligations.CasksAreMadeAndFilled := by
  unfold Obligations.CasksAreMadeAndFilled
  refine ⟨fun t h n s => ⟨fun ht => ?_, ?_, ?_, ?_, fun ht => ?_, fun ht => ?_⟩, fillCask_fills⟩
  · exact next_of_work rfl ht rfl
  · intro kek attr x ht u hl hk he ha hx
    cases hu : keyUnwrap (keyOf u kek) x with
    | none => exact next_of_work rfl ht (importCask_no_key hl he ha hk hx hu)
    | some key => exact next_of_work rfl ht (importCask_fills hl he ha hk hx hu)
  · exact fun attr ht hl he ha => next_of_work rfl ht (generateCask_passes hl he ha)
  · exact fun parent attr label context ht hl hk he ha hc hd => next_of_work rfl ht (deriveCask_passes hl he ha hk hc hd)
  · exact ⟨fun he => next_of_work rfl ht (destroyCask_empty he), fun he => next_of_work rfl ht (destroyCask_filled he)⟩
  · exact next_of_work rfl ht rfl

/-! ### What a destruction revokes (R488, R496) -/

/-- Where a slot is emptied with its incarnation, a cask that is LIVE afterwards was LIVE before. -/
theorem caskStAt_live_before (k m : Nat) (hl : caskStAt (emptyCask n s) k m = .live) : caskStAt s k m = .live := by
  induction k generalizing m with
  | zero => exact hl
  | succ k ih =>
    obtain ⟨c, hc, live, line⟩ := caskStAt_live_iff.mp hl
    have other : m ≠ n := by
      rintro rfl
      rw [caskAt_emptyCask_self] at hc
      obtain ⟨c, -, rfl⟩ := Option.map_eq_some_iff.mp hc
      exact Bool.noConfusion live
    rw [caskAt_emptyCask_ne other] at hc
    rw [incOf_emptyCask] at line
    exact caskStAt_live_iff.mpr ⟨c, hc, live, line.imp_right fun ⟨hg, hp⟩ => ⟨hg, ih _ hp⟩⟩

/-- A destruction leaves a REVOKED cask REVOKED. -/
theorem caskSt_emptyCask_revoked {m : Nat} (hm : m ≠ n) (hr : caskSt s m = .revoked) : caskSt (emptyCask n s) m = .revoked := by
  rw [caskSt_revoked_iff] at hr ⊢
  obtain ⟨filled, dead⟩ := hr
  refine ⟨?_, mt (caskStAt_live_before 8 m) dead⟩
  rwa [ne_eq, caskSt_empty_iff, caskAt_emptyCask_ne hm, ← caskSt_empty_iff]

/-- In a list in order, taking a member out of its place and putting it back there changes nothing. -/
theorem filter_lt_append_filter_gt {xs : List Nat} (ho : xs.Pairwise (· < ·)) (hn : n ∈ xs) :
    xs.filter (fun m => m < n) ++ [n] ++ xs.filter (fun m => m > n) = xs := by
  induction xs with
  | nil => simp at hn
  | cons x xs ih =>
    obtain ⟨first, rest⟩ := List.pairwise_cons.mp ho
    rcases List.mem_cons.mp hn with rfl | hmem
    · have none_below : xs.filter (fun m => m < n) = [] := List.filter_eq_nil_iff.mpr fun m hm => by simpa using (first m hm).le
      have all_above : xs.filter (fun m => m > n) = xs := List.filter_eq_self.mpr fun m hm => by simpa using first m hm
      simp [none_below, all_above]
    · have below : x < n := first n hmem
      simpa [below, Nat.lt_asymm below] using ih rest hmem

/-- The numbers of the slots that have been filled. -/
def slotNumbers (s : State) : List Nat := s.nvm.sec.casks.map (·.1)

theorem casksIn_eq (s : State) (st : CaskSt) : casksIn s st = (slotNumbers s).filter fun m => caskSt s m == st := rfl

theorem mem_slotNumbers {c : Cask} (hc : caskAt s n = some c) : n ∈ slotNumbers s := by
  obtain ⟨e, he, -⟩ := Option.map_eq_some_iff.mp hc
  have number : e.1 = n := by simpa using List.find?_some he
  exact List.mem_map.mpr ⟨e, List.mem_of_find?_eq_some he, number⟩

/-- A destruction leaves the numbers of a store in order as they are. -/
theorem slotNumbers_emptyCask (ho : s.nvm.sec.casks.Pairwise fun a z => a.1 < z.1) : slotNumbers (emptyCask n s) = slotNumbers s := by
  cases hc : caskAt s n with
  | none => simp [emptyCask, hc]
  | some c =>
    have order : (slotNumbers s).Pairwise (· < ·) := List.pairwise_map.mpr ho
    rw [emptyCask_filled hc, slotNumbers, casks_appendRec]
    simpa [Sec.setCask, slotNumbers, List.filter_map, Function.comp_def] using filter_lt_append_filter_gt order (mem_slotNumbers hc)

/-- The casks that a destruction of `n` has newly revoked are those REVOKED afterwards, less those REVOKED before that are not `n`. -/
theorem newly_revoked {w : State} (hs : slotNumbers w = slotNumbers s) (he : caskSt w n = .empty)
    (hk : ∀ m, m ≠ n → caskSt s m = .revoked → caskSt w m = .revoked) :
    ((casksIn w .revoked).filter fun m => caskSt s m != .revoked).length
      = (casksIn w .revoked).length - ((casksIn s .revoked).filter (· != n)).length := by
  have still : (casksIn w .revoked).filter (fun m => caskSt s m == .revoked) = (casksIn s .revoked).filter (· != n) := by
    rw [casksIn_eq, casksIn_eq, hs, List.filter_filter, List.filter_filter]
    refine List.filter_congr fun m _ => ?_
    rw [Bool.eq_iff_iff]
    simp only [Bool.and_eq_true, beq_iff_eq, bne_iff_ne]
    constructor
    · rintro ⟨before, after⟩
      refine ⟨?_, before⟩
      rintro rfl
      exact absurd (he.symm.trans after) (by decide)
    · exact fun ⟨hm, before⟩ => ⟨before, hk m hm before⟩
  have count := List.length_eq_length_filter_add (l := casksIn w .revoked) fun m => caskSt s m == .revoked
  rw [still] at count
  exact (Nat.sub_eq_of_eq_add' count).symm

/-- Settles O32: an EMPTY cask is left as it is; else the number answered is that of `newly_revoked`, as a destruction leaves the REVOKED casks so. -/
theorem destroyingACask : Obligations.DestroyingACask := by
  unfold Obligations.DestroyingACask
  intro t h n s ht u ho
  by_cases he : caskSt u n = .empty
  · have none_new : (casksIn u .revoked).filter (fun m => caskSt u m != .revoked) = [] := by simp [casksIn_eq, List.filter_eq_nil_iff]
    exact ⟨u, (next_of_work rfl ht (destroyCask_empty he)).trans (by rw [none_new]; rfl), he, fun _ _ => rfl, fun _ => by rw [none_new]; rfl⟩
  · have counted := newly_revoked (w := zeroiseRevoked (emptyCask n u)) (slotNumbers_emptyCask ho) caskSt_emptyCask_self
      fun m hm hr => caskSt_emptyCask_revoked hm hr
    refine ⟨zeroiseRevoked (emptyCask n u), ?_, caskSt_emptyCask_self, fun m hm => caskAt_emptyCask_ne hm, fun hc => absurd hc he⟩
    rw [counted]
    exact next_of_work rfl ht (destroyCask_filled he)

end Sys2Proof.Machine
end


section
/-!
SUPPORT. The use of casks: the check of a cask that a command uses, and what each use answers (R490, R495, R497, R504).
-/

namespace Sys2Proof.Machine

set_option Elab.async false

variable {s : State} {h : Hdr} {n : Nat}

/-! ### The check of a cask that a command uses (R490) -/

section
variable {usage : Nat → Bool} {inv : Option Nat}

theorem useCheck_empty (he : caskSt s n = .empty) : useCheck s n usage inv = some E.caskEmpty := by simp only [useCheck, he]

theorem useCheck_revoked (hr : caskSt s n = .revoked) : useCheck s n usage inv = some E.keyRevoked := by simp only [useCheck, hr]

end

section
variable {usage : Nat → Bool} {b : Nat} {c : Cask} (hc : caskAt s n = some c) (hl : caskSt s n = .live)
include hc hl

/-- A LIVE cask is judged by its CASK_ATTR alone: its usage, the invoker, the life-cycle state. -/
theorem useCheck_live : useCheck s n usage (some b) =
    if usage c.attr = false then some E.caskUsage
    else if bit c.attr b = false then some E.caskInvoker
    else if lifeCycle s = 1 ∧ bit c.attr lcFactory = true ∨ lifeCycle s = 2 ∧ bit c.attr lcField = true then none
    else some E.caskLifeCycle := by simp [useCheck, hc, hl]

theorem useCheck_usage (hu : usage c.attr = false) : useCheck s n usage (some b) = some E.caskUsage :=
  (useCheck_live hc hl).trans (if_pos hu)

variable (hu : usage c.attr = true)
include hu

theorem useCheck_invoker (hb : bit c.attr b = false) : useCheck s n usage (some b) = some E.caskInvoker := by
  rw [useCheck_live hc hl, if_neg (by simp [hu]), if_pos hb]

variable (hb : bit c.attr b = true)
include hb

theorem useCheck_retired (hs : lifeCycle s = 3) : useCheck s n usage (some b) = some E.caskLifeCycle := by
  rw [useCheck_live hc hl, if_neg (by simp [hu]), if_neg (by simp [hb]), if_neg (by simp [hs])]

theorem useCheck_field (hs : lifeCycle s = 2) (hf : bit c.attr lcField = true) : useCheck s n usage (some b) = none := by
  rw [useCheck_live hc hl, if_neg (by simp [hu]), if_neg (by simp [hb]), if_pos (.inr ⟨hs, hf⟩)]

end

/-! ### What the uses answer (R495, R497, R504) -/

/-- The data that CASK_ENCRYPT answers: the blocks by CBC or CTR, or the CMAC. -/
def encrypted (key : Bytes) (mode : Nat) (iv data : Bytes) : Bytes :=
  match mode with
  | 1 => cbcEnc key iv (blocks16 (data.length / 16 + 1) data)
  | 2 => ctr key (ofBe iv) (blocks16 (data.length / 16 + 1) data)
  | _ => cmac key data

section
variable {mode : Nat} {iv data : Bytes} (hk : useCheck s n (fun a => bit a useEncrypt && !bit a bitAttest) (some (invOf h)) = none)
include hk

theorem encryptRun_answers (hz : mode = 3 → ∀ z ∈ iv, z = 0) :
    encryptRun h n mode iv data s = cellarOk h 0xC5 (dataBody (encrypted (keyOf s n) mode iv data)) s := by
  have taken : (mode == 3 && iv.any (· != 0)) = false := by simpa using hz
  simp only [encryptRun, hk, taken, Bool.false_eq_true, if_false]
  rfl

/-- A CMAC takes only an IV of zeros. -/
theorem encryptRun_bad_iv (hm : mode = 3) (hz : ∃ z ∈ iv, z ≠ 0) : encryptRun h n mode iv data s = failRange h 0xC5 12 s := by
  have barred : (mode == 3 && iv.any (· != 0)) = true := by simpa [hm] using hz
  simp only [encryptRun, hk, barred, if_true]

end

theorem decryptRun_answers {mode : Nat} {iv data : Bytes} (hk : useCheck s n (bit · useDecrypt) (some (invOf h)) = none) :
    decryptRun h n mode iv data s = cellarOk h 0xC6 (dataBody (if mode == 1
      then cbcDec (keyOf s n) iv (blocks16 (data.length / 16 + 1) data)
      else ctr (keyOf s n) (ofBe iv) (blocks16 (data.length / 16 + 1) data))) s := by simp only [decryptRun, hk]

theorem wrapRun_answers {k : Nat} (hn : useCheck s n (bit · useWrap) (some invAdmin) = none)
    (hk : useCheck s k (bit · bitExportable) none = none) :
    wrapRun h n k s = cellarOk h 0xC7 (dataBody (keyWrap (keyOf s n) (keyOf s k))) s := by simp only [wrapRun, hn, hk]

theorem attestRun_answers {nonce : Bytes} (hk : useCheck s n (fun a => bit a useEncrypt && bit a bitAttest) (some invAdmin) = none) :
    attestRun h n nonce s =
      (let r := le 8 s.nvm.serial ++ [b8 (lifeCycle s), b8 (bnat s.nvm.sec.debugOpen)] ++ le 2 (fwVersion s) ++ le 4 s.nvm.bootCount
       cellarOk h 0xC8 (r ++ hmac (keyOf s n) (ascii "JZ64-ATTEST" ++ fit 16 nonce ++ r)) s) := by simp only [attestRun, hk]

/-- Settles O33: each use by its work at its turn past the check of R490, and the check by the state of the cask and then its CASK_ATTR. -/
theorem casksAreUsed : Obligations.CasksAreUsed := by
  unfold Obligations.CasksAreUsed
  refine ⟨fun t h n s => ⟨?_, ?_, ?_, ?_⟩, fun s n b usage c hc => ⟨useCheck_empty, useCheck_revoked, ?_, ?_, ?_, ?_⟩⟩
  · exact fun mode iv data ht hk => ⟨fun hz => next_of_work rfl ht (encryptRun_answers hk hz),
      fun hm hz => next_of_work rfl ht (encryptRun_bad_iv hk hm hz)⟩
  · exact fun mode iv data ht hk => next_of_work rfl ht (decryptRun_answers hk)
  · exact fun k ht hn hk => next_of_work rfl ht (wrapRun_answers hn hk)
  · exact fun nonce ht hk => next_of_work rfl ht (attestRun_answers hk)
  · exact fun hl hu => useCheck_usage hc hl hu
  · exact fun hl hu hb => useCheck_invoker hc hl hu hb
  · exact fun hl hu hb hs => useCheck_retired hc hl hu hb hs
  · exact fun hl hu hb hs hf => useCheck_field hc hl hu hb hs hf

end Sys2Proof.Machine
end


section
/-!
SUPPORT. The life cycle: what a change programs, what it empties, and how its erasure ends (R506 to R508, R512).
-/

namespace Sys2Proof.Machine

set_option Elab.async false

variable {s : State} {h : Hdr} {op : Nat}

/-! ### The life-cycle state (R506) -/

/-- Before RETIRED the bit of RETIRED is not programmed. -/
theorem retired_of_lifeCycle (hl : lifeCycle s = 1 ∨ lifeCycle s = 2) : s.nvm.sec.retired = false := by
  cases hr : s.nvm.sec.retired with
  | false => rfl
  | true => simp [lifeCycle, hr] at hl

/-! ### A change of the life cycle (R507) -/

/-- What a change makes of a slot: a cask whose key it destroys is emptied. -/
def slotAfter (x : Sec) (e : Nat × Cask) : Nat × Cask := if x.destroys e.2 then (e.1, e.2.emptied) else e

/-- The security core as a change has programmed its bit. -/
def programmed (program : Sec → Sec) (s : State) : Sec := { program s.nvm.sec with erasingFrom := lifeCycle s }

/-- The security core as a change begins: the bit is programmed and the casks that it destroys are emptied. -/
def secAfter (program : Sec → Sec) (s : State) : Sec :=
  { programmed program s with casks := (programmed program s).casks.map (slotAfter (programmed program s)) }

theorem beginChange_sec (program : Sec → Sec) (s : State) : (beginChange h op program s).nvm.sec = secAfter program s := rfl

theorem beginChange_outRings (program : Sec → Sec) (s : State) : (beginChange h op program s).outRings = s.outRings := rfl

theorem beginChange_change (program : Sec → Sec) (s : State) : (beginChange h op program s).cellar.change.isSome = true := rfl

theorem find_slotAfter (x : Sec) (cs : List (Nat × Cask)) (m : Nat) :
    (cs.map (slotAfter x)).find? (fun e => e.1 == m) = (cs.find? fun e => e.1 == m).map (slotAfter x) := by
  rw [List.find?_map]
  congr 2
  funext e
  simp only [Function.comp, slotAfter]
  split <;> rfl

/-- A cask that the programmed bit destroys counts as EMPTY. -/
theorem caskSt_beginChange {program : Sec → Sec} {m : Nat} (hk : (programmed program s).casks = s.nvm.sec.casks)
    (hd : ∀ c, caskAt s m = some c → c.live = true → (programmed program s).destroys c = true) :
    caskSt (beginChange h op program s) m = .empty := by
  rw [caskSt_empty_iff]
  intro c hc
  rw [caskAt, beginChange_sec, secAfter, find_slotAfter, hk, Option.map_map] at hc
  obtain ⟨e, he, rfl⟩ := Option.map_eq_some_iff.mp hc
  have before : caskAt s m = some e.2 := by rw [caskAt, he]; rfl
  cases hl : e.2.live with
  | true => simp [slotAfter, hd e.2 before hl, Cask.emptied]
  | false => simp [slotAfter, Sec.destroys, hl]

section
variable {target confirm : Nat}

theorem lifecycleRun_to_field (hc : confirm = 0x5A4A1C5E) (hl : lifeCycle s = 1) (ht : target = 2) :
    lifecycleRun h target confirm s = beginChange h 0xC9 (fun x => { x with field := true }) s := by simp [lifecycleRun, hc, hl, ht]

theorem lifecycleRun_to_retired (hc : confirm = 0x5A4A1C5E) (hl : lifeCycle s = 1 ∨ lifeCycle s = 2) (ht : target = 3) :
    lifecycleRun h target confirm s = beginChange h 0xC9 (fun x => { x with retired := true }) s := by
  rcases hl with hl | hl <;> simp [lifecycleRun, hc, hl, ht]

/-- A wrong word, or an order that does not go forward, is only answered. -/
theorem onlySent_lifecycleRun (hb : confirm ≠ 0x5A4A1C5E ∨ target ≤ lifeCycle s) : OnlySent s (lifecycleRun h target confirm s) := by
  by_cases hc : confirm = 0x5A4A1C5E
  · have back : target ≤ lifeCycle s := hb.resolve_left fun hn => hn hc
    have no_field : ¬ (lifeCycle s = 1 ∧ target = 2) := by omega
    have no_retired : ¬ ((lifeCycle s = 1 ∨ lifeCycle s = 2) ∧ target = 3) := by omega
    have refused : lifecycleRun h target confirm s = fail h 0xC9 E.lifeCycleOrder {} s := by simp [lifecycleRun, hc, no_field, no_retired]
    exact refused ▸ onlySent_fail ..
  · have refused : lifecycleRun h target confirm s = fail h 0xC9 E.confirm {} s := by simp [lifecycleRun, hc]
    exact refused ▸ onlySent_fail ..

/-- In FIELD the casks without LC_FIELD are gone at once. -/
theorem field_begun (hl : lifeCycle s = 1) :
    let v := beginChange h op (fun x => { x with field := true }) s
    lifeCycle v = 2 ∧ ∀ m c, caskAt s m = some c → bit c.attr lcField = false → caskSt v m = .empty := by
  have forward : s.nvm.sec.retired = false := retired_of_lifeCycle (.inl hl)
  refine ⟨by simp [lifeCycle, beginChange_sec, secAfter, programmed, forward], fun m c hc hf => caskSt_beginChange rfl fun x hx live => ?_⟩
  obtain rfl : c = x := Option.some.inj (hc.symm.trans hx)
  simp [programmed, Sec.destroys, live, hf]

/-- In RETIRED every cask is gone at once. -/
theorem retired_begun :
    let v := beginChange h op (fun x => { x with retired := true }) s
    lifeCycle v = 3 ∧ ∀ m, caskSt v m = .empty :=
  ⟨by simp [lifeCycle, beginChange_sec, secAfter, programmed],
    fun m => caskSt_beginChange rfl fun c _ live => by simp [programmed, Sec.destroys, live]⟩

end

/-! ### DEBUG_OPEN (R508, R510) -/

/-- The security core as DEBUG_OPEN_SET leaves it, before the test delivery KEK is there. -/
def debugOpened (h : Hdr) (s : State) : State :=
  let v := beginChange h 0xCA (fun x => { x with debugOpen := true }) s
  { v with cellar := { v.cellar with root := rootOf true } }

theorem debugOpenRun_opens {confirm : Nat} (hc : confirm = 0x5A4ADB60) (hl : lifeCycle s = 1 ∨ lifeCycle s = 2) (hd : s.nvm.sec.debugOpen = false) :
    debugOpenRun h confirm s
      = fillCask 0 (testKek (beginChange h 0xCA (fun x => { x with debugOpen := true }) s)) 0x03100402 0xFFFF 0 (debugOpened h s) := by
  rcases hl with hl | hl <;> simp [debugOpenRun, hc, hl, hd, debugOpened]

theorem onlySent_debugOpenRun {confirm : Nat} (hb : confirm ≠ 0x5A4ADB60 ∨ lifeCycle s = 3 ∨ s.nvm.sec.debugOpen = true) :
    OnlySent s (debugOpenRun h confirm s) := by
  unfold debugOpenRun
  split
  · exact onlySent_fail ..
  · next word =>
    split
    · exact onlySent_fail ..
    · next stage =>
      have opened : s.nvm.sec.debugOpen = true := by
        have hc : confirm = 0x5A4ADB60 := by simpa using word
        have hl : lifeCycle s ≠ 3 := fun hl => stage (by simp [hl])
        exact (hb.resolve_left fun hn => hn hc).resolve_left hl
      rw [if_pos opened]
      exact onlySent_fail ..

/-- Filling a slot changes neither the life-cycle state nor DEBUG_OPEN. -/
theorem lifeCycle_appendRec (n : Nat) (c : Cask) (s : State) :
    lifeCycle (appendRec n c s) = lifeCycle s ∧ (appendRec n c s).nvm.sec.debugOpen = s.nvm.sec.debugOpen := by
  obtain ⟨ps, q, appended⟩ := append_frame s.cellar.root n c s.nvm.sec
  have sec : (appendRec n c s).nvm.sec = { s.nvm.sec.setCask n c with pages := ps, seq := q } := appended
  exact ⟨by rw [lifeCycle, sec]; rfl, by rw [sec]; rfl⟩

theorem debugOpened_sec (s : State) : (debugOpened h s).nvm.sec = secAfter (fun x => { x with debugOpen := true }) s := by
  rw [debugOpened, beginChange_sec]

theorem lifeCycle_debugOpened (s : State) : lifeCycle (debugOpened h s) = lifeCycle s := by
  rw [lifeCycle, debugOpened_sec, secAfter, programmed, lifeCycle]

theorem debugOpened_outRings (s : State) : (debugOpened h s).outRings = s.outRings := by rw [debugOpened, beginChange_outRings]

theorem appendRec_outRings (n : Nat) (c : Cask) (s : State) : (appendRec n c s).outRings = s.outRings := by rw [appendRec, modSec]

/-- The test delivery KEK fills cask 0; DEBUG_OPEN is programmed, and neither the life-cycle state nor a ring has changed. -/
theorem debugOpen_begun (key : Bytes) :
    let v := fillCask 0 key 0x03100402 0xFFFF 0 (debugOpened h s)
    v.nvm.sec.debugOpen = true ∧ lifeCycle v = lifeCycle s ∧ v.outRings = s.outRings := by
  obtain ⟨stage, opened⟩ := lifeCycle_appendRec 0 _ (debugOpened h s)
  exact ⟨opened.trans (congrArg Sec.debugOpen (debugOpened_sec s)), stage.trans (lifeCycle_debugOpened s),
    (appendRec_outRings ..).trans (debugOpened_outRings s)⟩

/-! ### The erasure ends (R507, R512) -/

/-- A change that has its command's answer to give gives it as its erasure ends, with EV_LIFE_CYCLE. -/
theorem changeDone_answers {n : Nat} (hc : s.cellar.change = some (some h, op, n)) (hd : s.mod.st ≠ .doze) :
    changeDone s =
      (let w : State := { s with nvm := { s.nvm with sec := Sec.erase s.cellar.root s.nvm.sec }, cellar := { s.cellar with change := none } }
       let v := cellarOk h op (le 2 n ++ [0, 0]) w
       raise Ev.lifeCycle 0xFF (lifeArgs v s.nvm.sec.erasingFrom n) v) := by
  unfold changeDone
  split
  · next none_left => simp [hc] at none_left
  · next halted => exact absurd halted hd
  · next hx _ =>
    obtain ⟨rfl, rfl, rfl⟩ : _ ∧ _ ∧ _ := by simpa [hc] using hx
    rfl

theorem erase_retired (root : Bytes) {x : Sec} (hr : x.retired = true) :
    (Sec.erase root x).pages = [] ∧ (Sec.erase root x).helper = [[], []] ∧ (Sec.erase root x).rootCheck = [] := by simp [Sec.erase, hr]

/-- Settles O34: the orders that go forward program their bit by `beginChange`, the others are only answered, and `changeDone` ends the change. -/
theorem lifeCycleOnlyGoesForward : Obligations.LifeCycleOnlyGoesForward := by
  unfold Obligations.LifeCycleOnlyGoesForward
  refine fun t h s => ⟨?_, ?_, ?_⟩
  · intro target confirm ht u
    refine ⟨fun hc hl hg => ?_, fun hc hl hg => ?_, fun hb => ⟨_, next_of_work rfl ht rfl, onlySent_lifecycleRun hb⟩⟩
    · obtain ⟨field, gone⟩ := field_begun (h := h) (op := 0xC9) hl
      exact ⟨_, next_of_work rfl ht (lifecycleRun_to_field hc hl hg), field, beginChange_outRings .., beginChange_change .., gone⟩
    · obtain ⟨retired, gone⟩ := retired_begun (h := h) (op := 0xC9) (s := u)
      exact ⟨_, next_of_work rfl ht (lifecycleRun_to_retired hc hl hg), retired, beginChange_outRings .., gone⟩
  · intro confirm ht u
    refine ⟨fun hc hl hd => ?_, fun hb => ⟨_, next_of_work rfl ht rfl, onlySent_debugOpenRun hb⟩⟩
    exact ⟨_, next_of_work rfl ht (debugOpenRun_opens hc hl hd), debugOpen_begun _⟩
  · intro op n hc hd u w v
    exact ⟨congrArg Host.Outcome.next (changeDone_answers (s := u) hc hd), fun hr => erase_retired u.cellar.root hr⟩

end Sys2Proof.Machine
end


section
/-!
SUPPORT. How CRED_WRITE and CRED_VERIFY begin, and how Cellar places the key page of the running CRED_WRITE (R499 to R503).
-/

namespace Sys2Proof.Machine

set_option Elab.async false

variable {s : State} {h : Hdr} {p n cask slot format : Nat} {x : HyHandle}

/-! ### The commands begin (R500 to R502) -/

/-- CRED_WRITE as it starts, to a tag whose identifier is known or behind an ACK. -/
def credWriteCmd (s : State) (p n cask slot format : Nat) (x : HyHandle) : HyCmd :=
  { stage := if x.ident.isSome then .credGen else .preAck, after := .credGen, handle := n, dl := resolveDl s p 0, ul := resolveUl s p 0,
    page := 0xF0 + slot, ident := x.ident.getD [], cask := cask, slot := slot, format := format, addr := incOf s cask,
    count := incOf s (mAttrN s A.secCredTransportCask), transport := mAttrN s A.secCredTransportCask }

theorem credWriteRun_begins (hx : hyHandle s p n = some x) (hst : x.st = .active) (hm : modesOn s p (resolveDl s p 0) (resolveUl s p 0) = true)
    (hd : ∀ y, x.desc = some y → descAllows y (resolveDl s p 0) (resolveUl s p 0) 0xCB = true ∧ slot < dKeys y)
    (ht : wrappedFormat format = false ∨ mAttrN s A.secCredTransportCask ≠ 0xFFFF) (hk : credCheck s 0xCB cask format = none) :
    credWriteRun h p n cask slot format s = hyBegin p (credWriteCmd s p n cask slot format x) none
      (beginTask h 0xCB p (.hy (credWriteCmd s p n cask slot format x)) s) := by
  have transport : (wrappedFormat format && mAttrN s A.secCredTransportCask == 0xFFFF) = false := by
    rcases ht with ht | ht <;> simp [ht]
  cases hdesc : x.desc with
  | none => simp [credWriteRun, hx, hst, hm, hdesc, transport, hk, credWriteCmd]
  | some y =>
    obtain ⟨declared, key⟩ := hd y hdesc
    simp [credWriteRun, hx, hst, hm, hdesc, declared, Nat.not_le.mpr key, transport, hk, credWriteCmd]

/-- CRED_VERIFY as it starts, to a tag whose identifier is known or behind an ACK. -/
def credVerifyCmd (s : State) (p n cask slot : Nat) (x : HyHandle) : HyCmd :=
  { stage := if x.ident.isSome then .credChallenge else .preAck, after := .credChallenge, handle := n, dl := resolveDl s p 0,
    ul := resolveUl s p 0, ident := x.ident.getD [], cask := cask, slot := slot, addr := incOf s cask }

theorem credVerifyRun_begins (hb : hyBar s p 0xCC n (resolveDl s p 0) (resolveUl s p 0) = none) (hx : hyHandle s p n = some x)
    (hk : credCheck s 0xCC cask 0 = none) :
    credVerifyRun h p n cask slot s =
      (let c := credVerifyCmd s p n cask slot x
       let v := beginTask h 0xCC p (.hy c) s
       if x.ident.isSome then credChallenge p 0xCC c none v else hyBegin p c none v) := by
  simp only [credVerifyRun, hb, hx, hk, credVerifyCmd]

/-! ### The key page (R501, R503) -/

theorem placeRun_places {c : HyCmd} {k : Task} (hk : (port s p).task = some k) (ho : k.op = 0xCB) (hc : k.proc = .hy c) (hg : c.stage = .credGen)
    (hb : (port s p).secBuf = none) (hl : s.cellar.change = none) (hs : s.mod.storeOk = true) (hr : credRevoked s 0xCB c = none) :
    placeRun p s = modPort p (fun x => { x with secBuf := some ⟨c.cask, if wrappedFormat c.format then some c.transport else none, c.handle,
      credPage s c⟩ }) s := by
  have free : pageOf s p c = none := by rw [pageOf, hb]
  obtain ⟨⟩ := k
  obtain rfl := ho
  obtain rfl := hc
  simp [placeRun, hk, hg, free, hl, hs, hr]

/-- Settles O35: each command by its work past its checks, and the page by `placeRun_places`. -/
theorem credentialsAreWrittenAndVerified : Obligations.CredentialsAreWrittenAndVerified := by
  unfold Obligations.CredentialsAreWrittenAndVerified
  refine fun t h s => ⟨?_, ?_, ?_⟩
  · exact fun n cask slot format x ht hx hst hm hd hw hk => next_of_work rfl ht (credWriteRun_begins hx hst hm hd hw hk)
  · exact fun n cask slot x ht hb hx hk => next_of_work rfl ht (credVerifyRun_begins hb hx hk)
  · exact fun p k c hk ho hc hg hb hl hs hr => congrArg Host.Outcome.next (placeRun_places (s := advance t s) hk ho hc hg hb hl hs hr)

end Sys2Proof.Machine
end


section
/-!
SUPPORT. The start of the module: the image that BOOT starts, the root, and the store, after which SERVICE is entered (R482, R483, R518, R523, R548,
R575, R578).
-/

namespace Sys2Proof.Machine

set_option Elab.async false

variable {s : State}

/-! ### The image (R523, R548) -/

/-- Whether the image of a slot runs at this start, by what NVM yields of the two slots. -/
def slotRuns (okA okB : Bool) (s : State) (i : Nat) : Bool := imageRuns s (nth s.nvm.images i {}) (if i == 0 then okA else okB)

theorem bootReady_of (hst : s.mod.st = .boot) (hh : s.mod.holdCause = 0) (hr : s.power.retryAt = none) (hv : (rail s 3).reg = true) :
    bootReady s = true := by simp [bootReady, hst, hh, hr, hv]

section
variable {okA okB : Bool} (hb : bootReady s = true) (hn : s.mod.noImage = false)
include hb hn

/-- The active image goes before the other; where neither runs, BOOT holds. -/
theorem bootImageRun_chooses : bootImageRun okA okB s =
    if slotRuns okA okB s s.nvm.active = true ∧ s.nvm.failedStarts < 2 then startImage s
    else if slotRuns okA okB s (otherSlot s) = true then
      startImage (modMod (fun m => { m with fwNews := [(2, otherSlot s)] })
        (modImage s.nvm.active (fun x => { x with state := 4 })
          (activateImage (otherSlot s) (raise Ev.firmware 0xFF (fwArgs s 3 s.nvm.active) s))))
    else modMod (fun m => { m with noImage := true }) s := by
  have acts : (!bootReady s || s.mod.noImage) = false := by simp [hb, hn]
  rw [bootImageRun, if_neg (by simp [acts])]
  exact if_congr (by rw [Bool.and_eq_true, decide_eq_true_eq, slotRuns]) rfl rfl

theorem bootImageRun_active (ha : slotRuns okA okB s s.nvm.active = true ∧ s.nvm.failedStarts < 2) : bootImageRun okA okB s = startImage s :=
  (bootImageRun_chooses hb hn).trans (if_pos ha)

variable (ha : ¬ (slotRuns okA okB s s.nvm.active = true ∧ s.nvm.failedStarts < 2))
include ha

theorem bootImageRun_other (ho : slotRuns okA okB s (otherSlot s) = true) : bootImageRun okA okB s =
    startImage (modMod (fun m => { m with fwNews := [(2, otherSlot s)] })
      (modImage s.nvm.active (fun x => { x with state := 4 })
        (activateImage (otherSlot s) (raise Ev.firmware 0xFF (fwArgs s 3 s.nvm.active) s)))) :=
  (bootImageRun_chooses hb hn).trans ((if_neg ha).trans (if_pos ho))

theorem bootImageRun_none (ho : slotRuns okA okB s (otherSlot s) = false) :
    bootImageRun okA okB s = modMod (fun m => { m with noImage := true }) s :=
  (bootImageRun_chooses hb hn).trans ((if_neg ha).trans (if_neg (by simp [ho])))

end

/-- BOOT without an image pulls FAULT_N low (R548). -/
theorem faultPin_noImage (hst : s.mod.st = .boot) (hn : s.mod.noImage = true) (hv : 1500 ≤ s.pins.vauxMv) : faultPin s = .low := by
  simp [faultPin, Nat.not_lt.mpr hv, hst, hn]

/-! ### The root (R480 to R483) -/

/-- A reading that does not give the root is counted; the third swaps the core, where one is left. -/
def rootMissed (s : State) : State :=
  let v : State := { s with cellar := { s.cellar with tries := s.cellar.tries + 1 } }
  if s.cellar.tries + 1 < 3 then v
  else match candidates v 4 s.spares.secCore with
    | spare :: _ => finishSwap false 4 s.spares.secCore spare 255 none v
    | [] => uncoveredFault 4 (retire 4 s.spares.secCore 255 v)

theorem rootMissed_counts (ht : s.cellar.tries < 2) : rootMissed s = { s with cellar := { s.cellar with tries := s.cellar.tries + 1 } } :=
  if_pos (by omega)

theorem rootMissed_swaps {spare : Nat} {rest : List Nat} (ht : s.cellar.tries = 2) (hs : candidates s 4 s.spares.secCore = spare :: rest) :
    rootMissed s = finishSwap false 4 s.spares.secCore spare 255 none { s with cellar := { s.cellar with tries := 3 } } := by
  have next : candidates { s with cellar := { s.cellar with tries := 2 + 1 } } 4 s.spares.secCore = spare :: rest := hs
  simp only [rootMissed, ht, next, Nat.lt_irrefl, if_false]

section
variable {reading : Bytes} {margin : Nat} (hr : s.mod.rootOk = false) (hst : s.mod.st = .cal ∨ s.mod.st = .service)
  (hd : s.nvm.sec.debugOpen = false) (hx : s.nvm.sec.retired = false)
include hr hst hd hx

/-- A reading of the PUF in CAL or SERVICE is judged by the root check value. -/
theorem rootRun_judges : rootRun reading margin s =
    if rootCheckOf (rootFrom s s.spares.secCore reading) = s.nvm.sec.rootCheck then takeRoot (rootFrom s s.spares.secCore reading) margin s
    else rootMissed s := by
  have reads : (s.mod.st == .cal || s.mod.st == .service) = true := by simpa using hst
  simp only [rootRun, hr, reads, hd, hx, beq_iff_eq, Bool.not_true, Bool.or_self, Bool.false_eq_true, if_false]
  rfl

theorem rootRun_takes (hc : rootCheckOf (rootFrom s s.spares.secCore reading) = s.nvm.sec.rootCheck) :
    rootRun reading margin s = takeRoot (rootFrom s s.spares.secCore reading) margin s := (rootRun_judges hr hst hd hx).trans (if_pos hc)

theorem rootRun_misses (hc : rootCheckOf (rootFrom s s.spares.secCore reading) ≠ s.nvm.sec.rootCheck) :
    rootRun reading margin s = rootMissed s := (rootRun_judges hr hst hd hx).trans (if_neg hc)

end

/-! ### The store (R486, R518) -/

/-- What the recovery of the store leaves of the module: its own state, its faults and the fault map. -/
def startView (s : State) : Mod × List (Nat × Nat) × List (Nat × Nat × Nat) := (s.mod, s.faults, s.nvm.faultMap)

theorem startView_of_onlySent {t : State} (h : OnlySent s t) : startView t = startView s := by
  simp only [startView, h.mod, h.faults, h.nvm]

theorem startView_modSec (f : Sec → Sec) (s : State) : startView (modSec f s) = startView s := rfl

theorem startView_rollBack (s : State) : startView (rollBack s) = startView s := by
  unfold rollBack
  split
  · rfl
  · split
    · rfl
    · exact (startView_of_onlySent (onlySent_raise ..)).trans (startView_modSec ..)

/-- The store as it is recovered: rolled back, an erasure completed, and scanned (R518). -/
def recovered (s : State) : State :=
  let v := seedDrbg (rollBack s)
  { scanLog (modSec (Sec.erase v.cellar.root) v) with mod := { v.mod with storeOk := true } }

theorem startView_recovered (s : State) : startView (recovered s) = ({ s.mod with storeOk := true }, s.faults, s.nvm.faultMap) := by
  obtain ⟨mod, faults, map⟩ : (rollBack s).mod = s.mod ∧ (rollBack s).faults = s.faults ∧ (rollBack s).nvm.faultMap = s.nvm.faultMap := by
    simpa only [startView, Prod.mk.injEq] using startView_rollBack s
  rw [← mod, ← faults, ← map]
  rfl

/-- What the recovery finds beside is reported. -/
theorem onlySent_recoverRun (hs : s.mod.storeOk = false) (hr : rootReady s = true) (hd : s.mod.st ≠ .doze) :
    OnlySent (recovered s) (recoverRun none s) := by
  have runs : (s.mod.storeOk || !rootReady s || s.mod.st == .doze) = false := by simp [hs, hr, hd]
  simp only [recoverRun, runs, Bool.false_eq_true, if_false]
  split
  · exact .refl _
  · refine .trans ?_ (onlySent_raise ..)
    exact List.foldlRecOn (motive := OnlySent (recovered s)) _ _ (.refl _) fun v hv _ _ => hv.trans (onlySent_raise ..)

/-! ### SERVICE (R571, R575, R578) -/

/-- A port as the module enters SERVICE (R64, R99, R302). -/
def servePort (p : Nat) (s : State) : State :=
  settle p (armCadence p (modRadio p (fun r => { r with qdDamped := pAttr s A.qdMode p == 1 }) s))

theorem mod_servePort (p : Nat) (s : State) : (servePort p s).mod = s.mod := by
  obtain ⟨a, settled⟩ := settle_slices p (armCadence p (modRadio p (fun r => { r with qdDamped := pAttr s A.qdMode p == 1 }) s))
  rw [servePort, settled]
  show (armCadence p _).mod = s.mod
  unfold armCadence
  split
  · rfl
  · split <;> rfl

/-- The firmware events that have waited are sent. -/
theorem mod_tellFw (s : State) : (tellFw s).mod = { s.mod with fwNews := [] } := foldl_keeps State.mod (fun _ _ => raise_mod ..) ..

/-- The module as it enters SERVICE, its ports not yet served. -/
def serving (s : State) : State :=
  let s := modMod (fun m => { m with served := true, bootTimeMs := min 65535 ((m.preRelease + s.now) / 27120) }) s
  tellFw (moveTo .service 0 (modNvm (fun n => { n with failedStarts := 0 }) s))

theorem serving_mod (s : State) : (serving s).mod.st = .service ∧ (serving s).mod.storeOk = s.mod.storeOk ∧ (serving s).mod.served = true := by
  rw [serving, mod_tellFw, (onlySent_moveTo ..).mod]
  exact ⟨rfl, rfl, rfl⟩

theorem tryService_serves (hst : s.mod.st = .cal) (hc : s.mod.calDone = true) (hs : s.mod.storeOk = true) (hu : uncovered s.nvm = false)
    (hf : s.faults = []) : tryService s = (List.range 64).foldl (fun s p => servePort p s) (serving s) := by
  simp only [tryService, hst, hc, hs, hu, hf, bne_self_eq_false, Bool.not_true, List.isEmpty_nil, Bool.or_self, Bool.false_eq_true, if_false]
  rfl

/-- Without the store the module stays in CAL. -/
theorem tryService_waits (hs : s.mod.storeOk = false) : tryService s = s := by simp [tryService, hs]

theorem uncovered_of_faultMap {m n : Nvm} (h : m.faultMap = n.faultMap) : uncovered m = uncovered n := by
  have retired : isRetired m = isRetired n := by
    funext kind inst
    rw [isRetired, isRetired, h]
  have count : retiredOf m = retiredOf n := by
    funext kind
    rw [retiredOf, retiredOf, h]
  rw [uncovered, uncovered, retired, count]

/-- The store is the last that SERVICE waits for. -/
theorem storeRun_serves (hst : s.mod.st = .cal) (hr : s.mod.rootOk = true) (hs : s.mod.storeOk = false) (hc : s.mod.calDone = true)
    (hu : uncovered s.nvm = false) (hf : s.faults = []) :
    (storeRun none s).mod.st = .service ∧ (storeRun none s).mod.storeOk = true ∧ (storeRun none s).mod.served = true := by
  have view : startView (recoverRun none s) = ({ s.mod with storeOk := true }, s.faults, s.nvm.faultMap) :=
    (startView_of_onlySent (onlySent_recoverRun hs (by simp [rootReady, hr]) (by simp [hst]))).trans (startView_recovered s)
  obtain ⟨mod, faults, map⟩ : (recoverRun none s).mod = { s.mod with storeOk := true } ∧ (recoverRun none s).faults = s.faults
      ∧ (recoverRun none s).nvm.faultMap = s.nvm.faultMap := by simpa only [startView, Prod.mk.injEq] using view
  have covered : uncovered (recoverRun none s).nvm = false := (uncovered_of_faultMap map).trans hu
  rw [storeRun, tryService_serves (by rw [mod, hst]) (by rw [mod, hc]) (by rw [mod]) covered (by rw [faults, hf])]
  obtain ⟨st, store, served⟩ := serving_mod (recoverRun none s)
  rw [foldl_keeps State.mod (fun s p => mod_servePort p s)]
  exact ⟨st, store.trans (by rw [mod]), served⟩

end Sys2Proof.Machine
end


section
/-!
SUPPORT. What the steps of CAL leave of the module's own state, and how CAL ends (R574 to R576, Table 12-8).
-/

namespace Sys2Proof.Machine

set_option Elab.async false

variable {s : State}

/-! ### The steps of CAL (Table 12-8) -/

theorem mod_adaptSet (damped : Bool) (p : Nat) (s : State) : (adaptSet damped p s).mod = s.mod := by
  unfold adaptSet
  split
  · rfl
  · exact foldl_keeps State.mod (fun _ _ => by rfl) ..

theorem mod_calSlice (skip : Bool) (p : Nat) (s : State) : (calSlice skip p s).mod = s.mod := by
  unfold calSlice
  dsimp only
  split <;> exact (mod_adaptSet ..).trans (mod_adaptSet ..)

theorem mod_coarse (p k mv : Nat) (s : State) : (coarse p k mv s).2.mod = s.mod := by
  induction k generalizing mv s with
  | zero => rfl
  | succ k ih => exact ih (mv + 500) (drawn s)

theorem mod_fineSearch (p : Nat) (ph : Int) (k lo hi : Nat) (s : State) : (fineSearch p ph k lo hi s).2.2.mod = s.mod := by
  induction k generalizing lo hi s with
  | zero => rfl
  | succ k ih =>
    unfold fineSearch
    dsimp only
    split <;> exact ih _ _ (drawn s)

theorem mod_setTn (p mv : Nat) (ph : Int) (s : State) : (setTn p mv ph s).mod = s.mod := rfl

theorem mod_probe (p mv : Nat) (s : State) : (probe p mv s).2.mod = s.mod := rfl

theorem mod_tuneOne (p : Nat) (s : State) : (tuneOne p s).2.mod = s.mod := by
  unfold tuneOne
  dsimp only
  split
  · exact (mod_setTn ..).trans (mod_coarse ..)
  · exact (mod_setTn ..).trans ((mod_probe ..).trans ((mod_fineSearch ..).trans (mod_coarse ..)))

theorem mod_calTune (skip : Bool) (p : Nat) (s : State) : (calTune skip p s).mod = s.mod := by
  unfold calTune
  split
  · rfl
  · split
    · rfl
    · exact mod_tuneOne ..

theorem mod_calDpd (cal : CalInput) (skip : Bool) (p : Nat) (s : State) : (calDpd cal skip p s).mod = s.mod := by
  unfold calDpd
  split
  · rfl
  · split <;> rfl

theorem mod_tellSwap (planned : Bool) (kind inst spare us ports portNo : Nat) (hdr : Option Hdr) (s : State) :
    (tellSwap planned kind inst spare us ports portNo hdr s).mod = s.mod := by
  cases hdr with
  | none => exact raise_mod ..
  | some h => exact (onlySent_ok ..).mod.trans (raise_mod ..)

theorem mod_tellBack (p : Nat) (s : State) : (tellBack p s).mod = s.mod := by
  unfold tellBack
  split
  · rfl
  · exact foldl_keeps State.mod (fun _ _ => mod_tellSwap ..) ..

theorem mod_prismCal (p : Nat) (s : State) : (prismCal p s).mod = s.mod := by
  unfold prismCal
  dsimp only
  split
  · rfl
  · split
    · rfl
    · rw [mod_tellBack]
      split
      · rw [raise_mod]
        split_ifs <;> rfl
      · split_ifs <;> rfl

theorem mod_calNoise (cal : CalInput) (p : Nat) (s : State) : (calNoise cal p s).mod = s.mod := by
  cases hn : cal.noise[p]? with
  | none => simp only [calNoise, hn]
  | some v => simp only [calNoise, hn, modRx, modPort_mod]

theorem mod_calLens (cal : CalInput) (skip : Bool) (p : Nat) (s : State) : (calLens cal skip p s).mod = s.mod := by
  unfold calLens
  split
  · rfl
  · split <;> rfl

theorem mod_trainFilters (pairs : List (Nat × Nat × Int)) (s : State) : (trainFilters pairs s).mod = s.mod :=
  foldl_keeps State.mod (fun _ _ => by rfl) ..

theorem mod_selectMirror (v : Nat) (s : State) : (selectMirror v s).mod = s.mod := by
  unfold selectMirror
  dsimp only
  split
  · rfl
  · exact raise_mod ..

theorem mod_selectAll (s : State) : (selectAll s).mod = s.mod := by
  unfold selectAll
  dsimp only
  exact foldl_keeps State.mod (fun _ v => mod_selectMirror v _) ..

/-! ### What CAL leaves of the module's own state -/

/-- How far the start has come: the state, the store, and the end of CAL. -/
def progress (s : State) : ModState × Bool × Bool := (s.mod.st, s.mod.storeOk, s.mod.calDone)

theorem progress_of_mod {t : State} (h : t.mod = s.mod) : progress t = progress s := by rw [progress, h, progress]

theorem progress_modMod (f : Mod → Mod) (s : State) : progress (modMod f s) = ((f s.mod).st, (f s.mod).storeOk, (f s.mod).calDone) := rfl

theorem progress_clearSkipped (b : Nat) (c : Bool) (s : State) : progress (clearSkipped b c s) = progress s := by
  unfold clearSkipped
  split <;> rfl

theorem progress_noteSkipped (s : State) : progress (noteSkipped s) = progress s := by
  unfold noteSkipped
  split
  · rfl
  · simp only [progress_clearSkipped]

theorem mod_requestPower (s : State) : (requestPower s).mod = s.mod := by
  unfold requestPower
  split <;> rfl

theorem mod_takeLinkCfg (s : State) : (takeLinkCfg s).mod = s.mod := by
  unfold takeLinkCfg startDhcp
  dsimp only
  split
  · rfl
  · split
    · split <;> rfl
    · rfl

/-- The configuration as step 2 of CAL takes it: the one saved, where it passes its checks (R574). -/
def calSaved (s : State) : State :=
  if s.nvm.savedId == 0 then modMod (fun m => { m with configResult := 0xFFFF }) s
  else match commitError s s.nvm.saved with
    | some (code, _) => modMod (fun m => { m with configResult := code }) s
    | none => modMod (fun m => { m with configResult := 0 })
        { s with cfg := { s.cfg with running := s.nvm.saved, staged := s.nvm.saved, commitId := 0 } }

theorem progress_calSaved (s : State) : progress (calSaved s) = progress s := by
  unfold calSaved
  split
  · rfl
  · split <;> rfl

/-- The supplies as step 2 of CAL sets them: VPA, its rails, and the power that is requested. -/
def calPowered (s : State) : State :=
  requestPower (modPower (fun w => { w with rails := w.rails.take 4 ++ (w.rails.drop 4).map fun r => { r with reg := r.en } }) (setVpa s))

theorem mod_calPowered (s : State) : (calPowered s).mod = s.mod := (mod_requestPower ..).trans rfl

theorem calConfig_eq (s : State) : calConfig s =
    let v := calPowered (calSaved s)
    if v.link.session.isSome then v else takeLinkCfg v := rfl

theorem progress_calConfig (s : State) : progress (calConfig s) = progress s := by
  rw [calConfig_eq, ← progress_calSaved s]
  dsimp only
  split
  · exact progress_of_mod (mod_calPowered _)
  · exact progress_of_mod ((mod_takeLinkCfg _).trans (mod_calPowered _))

/-- Steps 3 to 6 of CAL on every port. -/
def calTuned (skip : Bool) (s : State) : State :=
  (List.range 64).foldl (fun s p => calTune skip p s) ((List.range 64).foldl (fun s p => calSlice skip p s) s)

theorem mod_calTuned (skip : Bool) (s : State) : (calTuned skip s).mod = s.mod :=
  (foldl_keeps State.mod (fun s p => mod_calTune skip p s) _ _).trans (foldl_keeps State.mod (fun s p => mod_calSlice skip p s) _ _)

/-- Step 7 of CAL: Mirror's training. -/
def calTrained (cal : CalInput) (skip : Bool) (s : State) : State :=
  if skip then s else trainFilters cal.coupling { s with coupling := cal.coupling, filters := [] }

theorem mod_calTrained (cal : CalInput) (skip : Bool) (s : State) : (calTrained cal skip s).mod = s.mod := by
  unfold calTrained
  split
  · rfl
  · exact mod_trainFilters ..

/-- CAL before its last step. -/
def calSteps (cal : CalInput) (s : State) : State :=
  let all := fun (f : Nat → State → State) (s : State) => (List.range 64).foldl (fun s p => f p s) s
  let s := calConfig (calClasses cal s)
  let skip := interlocked s || reserveWithheld s
  all (calLens cal skip) (all (calNoise cal) (all prismCal (all (calDpd cal skip) (calTrained cal skip (calTuned skip s)))))

theorem progress_calSteps (cal : CalInput) (s : State) : progress (calSteps cal s) = progress s := by
  have classes : (calClasses cal s).mod = s.mod := foldl_keeps State.mod (fun _ _ => by rfl) ..
  have config : progress (calConfig (calClasses cal s)) = progress s := (progress_calConfig _).trans (progress_of_mod classes)
  rw [← config]
  apply progress_of_mod
  unfold calSteps
  dsimp only
  rw [foldl_keeps State.mod (fun s p => mod_calLens cal _ p s), foldl_keeps State.mod (fun s p => mod_calNoise cal p s),
    foldl_keeps State.mod (fun s p => mod_prismCal p s), foldl_keeps State.mod (fun s p => mod_calDpd cal _ p s), mod_calTrained, mod_calTuned]

/-- CAL has ended: Mirror selects, and the steps that were skipped and have run since are noted (R575, R576). -/
def calEnded (cal : CalInput) (s : State) : State :=
  let v := calConfig (calClasses cal s)
  let skip := interlocked v || reserveWithheld v
  noteSkipped (selectAll (modMod (fun m => { m with calDone := true, calSkipped := if skip then skipMask else 0, trained := 0 }) (calSteps cal s)))

theorem calRun_ends {cal : CalInput} (hst : s.mod.st = .cal) (hc : s.mod.calDone = false) : calRun cal s = tryService (calEnded cal s) := by
  have runs : (s.mod.st != .cal || s.mod.calDone) = false := by simp [hst, hc]
  rw [calRun, if_neg (by simp [runs])]
  rfl

theorem progress_calEnded (cal : CalInput) (s : State) : progress (calEnded cal s) = (s.mod.st, s.mod.storeOk, true) := by
  obtain ⟨st, store, -⟩ : (calSteps cal s).mod.st = s.mod.st ∧ (calSteps cal s).mod.storeOk = s.mod.storeOk
      ∧ (calSteps cal s).mod.calDone = s.mod.calDone := by simpa only [progress, Prod.mk.injEq] using progress_calSteps cal s
  rw [calEnded, progress_noteSkipped, progress_of_mod (mod_selectAll _), progress_modMod, st, store]

/-- While Cellar does not answer, the end of CAL leaves the module in CAL. -/
theorem calRun_waits {cal : CalInput} (hst : s.mod.st = .cal) (hc : s.mod.calDone = false) (hs : s.mod.storeOk = false) :
    (calRun cal s).mod.st = .cal ∧ (calRun cal s).mod.calDone = true := by
  obtain ⟨st, store, done⟩ : (calEnded cal s).mod.st = s.mod.st ∧ (calEnded cal s).mod.storeOk = s.mod.storeOk
      ∧ (calEnded cal s).mod.calDone = true := by simpa only [progress, Prod.mk.injEq] using progress_calEnded cal s
  rw [calRun_ends hst hc, tryService_waits (store.trans hs)]
  exact ⟨st.trans hst, done⟩

/-- Settles O51: the image by `bootImageRun_chooses`, the root by `rootRun_judges`, and SERVICE by what the store and CAL leave of the module. -/
theorem startUpReachesService : Obligations.StartUpReachesService := by
  unfold Obligations.StartUpReachesService
  refine ⟨fun t okA okB s hst hh hr hv hn => ?_, fun t s => ⟨fun reading margin hr hst hd hx => ?_, ?_, ?_⟩⟩
  · intro u good runs
    have ready : bootReady u = true := bootReady_of hst hh hr hv
    refine ⟨fun ha => congrArg Host.Outcome.next (bootImageRun_active (s := u) ready hn ha), fun ha ho => ?_,
      fun ha ho => congrArg Host.Outcome.next (bootImageRun_other (s := u) ready hn ha ho)⟩
    exact ⟨_, congrArg Host.Outcome.next (bootImageRun_none (s := u) ready hn ha ho), rfl,
      faultPin_noImage (s := modMod (fun m => { m with noImage := true }) u) hst rfl⟩
  · exact ⟨fun hc => congrArg Host.Outcome.next (rootRun_takes (s := advance t s) hr hst hd hx hc),
      fun hc ht => congrArg Host.Outcome.next ((rootRun_misses (s := advance t s) hr hst hd hx hc).trans (rootMissed_counts ht)),
      fun spare rest hc ht hs =>
        congrArg Host.Outcome.next ((rootRun_misses (s := advance t s) hr hst hd hx hc).trans (rootMissed_swaps ht hs))⟩
  · exact fun hst hr hs hc hu hf => ⟨_, rfl, storeRun_serves (s := advance t s) hst hr hs hc hu hf⟩
  · exact fun cal hst hc hs => ⟨_, rfl, calRun_waits (s := advance t s) hst hc hs⟩

end Sys2Proof.Machine
end


section
/-!
SUPPORT. Sparing: how swaps are planned, prepared, deferred and take place, the wear monitors that call for them, and the recorder of events
(R526 to R539, R543 to R545).
-/

namespace Sys2Proof.Machine

set_option Elab.async false

variable {s : State} {kind inst : Nat}

/-! ### The swaps in progress (R531) -/

/-- Whether a swap is planned for the given block. -/
def swapFor (kind inst : Nat) (x : Swap) : Bool := x.kind == kind && x.inst == inst

theorem swapOf_eq : swapOf s kind inst = s.spares.swaps.find? (swapFor kind inst) := rfl

theorem swapFor_iff {x : Swap} : swapFor kind inst x = true ↔ x.kind = kind ∧ x.inst = inst := by simp [swapFor]

/-- A change that leaves each swap with its block is a change of the swap planned for that block. -/
theorem swapOf_map {t : State} {f : Swap → Swap} (ht : t.spares.swaps = s.spares.swaps.map f)
    (hf : ∀ x, (f x).kind = x.kind ∧ (f x).inst = x.inst) : swapOf t kind inst = (swapOf s kind inst).map f := by
  have same : swapFor kind inst ∘ f = swapFor kind inst := funext fun x => by simp [swapFor, hf x]
  rw [swapOf_eq, ht, List.find?_map, same, swapOf_eq]

theorem swapFor_of_swapOf {x : Swap} (hx : swapOf s kind inst = some x) : x.kind = kind ∧ x.inst = inst :=
  swapFor_iff.mp (List.find?_some hx)

theorem spares_sleepSpare (i : Nat) (s : State) : (sleepSpare i s).spares = s.spares := by
  unfold sleepSpare
  split <;> rfl

theorem swaps_dropSwap (kind inst : Nat) (s : State) :
    (dropSwap kind inst s).spares.swaps = s.spares.swaps.filter fun x => !swapFor kind inst x := by
  unfold dropSwap
  dsimp only [modSpares]
  split
  · rw [spares_sleepSpare]; rfl
  · rfl

theorem swapOf_dropSwap_self (kind inst : Nat) (s : State) : swapOf (dropSwap kind inst s) kind inst = none := by
  rw [swapOf_eq, swaps_dropSwap, List.find?_eq_none]
  intro x hx
  simpa using (List.mem_filter.mp hx).2

theorem swapOf_dropSwap_ne {other : Nat} (ho : other ≠ inst) (s : State) : swapOf (dropSwap kind inst s) kind other = swapOf s kind other := by
  have kept : ∀ x, swapFor kind other x = true → swapFor kind inst x = false := fun x hx => by
    obtain ⟨-, hi⟩ := swapFor_iff.mp hx
    simp [swapFor, hi, ho]
  rw [swapOf_eq, swaps_dropSwap, List.find?_filter, swapOf_eq]
  congr 1
  funext x
  cases hx : swapFor kind other x
  · simp
  · simp [kept x hx]

/-! ### Planning and preparing (R530, R531, R538) -/

section
variable {h : Hdr} (hn : swapOf s kind inst = none)
include hn

theorem swapRequestRun_plans (hc : canServe s kind inst = true) : swapRequestRun h kind inst s = planSwap kind inst (some h) s := by
  simp only [swapRequestRun, hn]
  exact if_pos hc

theorem swapRequestRun_no_spare (hc : canServe s kind inst = false) : swapRequestRun h kind inst s =
    fail h 0xE4 E.noSpare { arg1 := (kind : Int), arg2 := (inst : Int) } s := by
  simp only [swapRequestRun, hn]
  exact if_neg (by simp [hc])

end

theorem wakeSpare_frame (kind inst : Nat) (s : State) : ∃ xs, wakeSpare kind inst s = { s with slices := xs } := by
  unfold wakeSpare
  split <;> exact ⟨_, rfl⟩

/-- The swap of a block once its spare is prepared: it waits for a boundary until the tick `due`. -/
def preparedBy (kind inst due : Nat) (x : Swap) : Swap := if swapFor kind inst x then { x with prepared := true, deferAt := due } else x

theorem preparedBy_names (kind inst due : Nat) (x : Swap) :
    (preparedBy kind inst due x).kind = x.kind ∧ (preparedBy kind inst due x).inst = x.inst := by
  unfold preparedBy
  split <;> exact ⟨rfl, rfl⟩

/-- The preparation of a swap other than a supervisor's, which holds ports as well. -/
theorem swapPreparedRun_prepares {x : Swap} (hx : swapOf s kind inst = some x) (hp : x.prepared = false) (hk : kind ≠ 3) :
    swapPreparedRun kind inst s = wakeSpare kind inst (modSpares (fun y => { y with
      swaps := y.swaps.map (preparedBy kind inst (s.now + msT (mAttrN s A.svcSwapDeferMs))) }) s) := by
  simp only [swapPreparedRun, hx, hp, Bool.false_eq_true, if_false]
  split
  · exact absurd rfl hk
  · rfl

/-- The swap of a block once its wait for a boundary with the field off has ended. -/
def deferredBy (kind inst now : Nat) (x : Swap) : Swap :=
  if swapFor kind inst x && x.prepared && x.deferAt ≤ now then { x with deferred := true } else x

theorem deferredBy_names (kind inst now : Nat) (x : Swap) :
    (deferredBy kind inst now x).kind = x.kind ∧ (deferredBy kind inst now x).inst = x.inst := by
  unfold deferredBy
  split <;> exact ⟨rfl, rfl⟩

theorem swapDeferRun_eq (kind inst : Nat) (s : State) :
    swapDeferRun kind inst s = modSpares (fun y => { y with swaps := y.swaps.map (deferredBy kind inst s.now) }) s := rfl

theorem swapOf_prepared {x : Swap} {due : Nat} (hx : swapOf s kind inst = some x) :
    (swapOf s kind inst).map (preparedBy kind inst due) = some { x with prepared := true, deferAt := due } := by
  rw [hx, Option.map_some, preparedBy, if_pos (swapFor_iff.mpr (swapFor_of_swapOf hx))]

theorem swapOf_deferred {x : Swap} {now : Nat} (hx : swapOf s kind inst = some x) (hp : x.prepared = true) (hd : x.deferAt ≤ now) :
    (swapOf s kind inst).map (deferredBy kind inst now) = some { x with deferred := true } := by
  rw [hx, Option.map_some, deferredBy, if_pos]
  simp [swapFor_iff.mpr (swapFor_of_swapOf hx), hp, hd]

/-! ### Wear monitors (R528 to R530) -/

section
variable {monitor : Nat} {value : Int}

theorem mod_noteWear (monitor inst : Nat) (value : Int) (s : State) : (noteWear monitor inst value s).mod = s.mod := by
  simp only [noteWear, apply_ite State.mod, modSpares_mod, ite_self]

/-- A trip once its monitor may report it: EV_WEAR with the value, which is kept. -/
def wearTold (monitor inst : Nat) (value : Int) (s : State) : State :=
  raise Ev.wear 0xFF (wearArgs monitor inst value) (noteWear monitor inst value s)

theorem wearRun_below (ht : trips monitor value = false) : wearRun monitor inst value s = s := by simp [wearRun, ht]

theorem wearRun_trips (ht : trips monitor value = true) (hh : wearHeard s monitor inst value = true) (hst : s.mod.st ≠ .halted) :
    wearRun monitor inst value s =
      let w := wearTold monitor inst value s
      if mAttr w A.svcSwapAuto == 1 && (swapOf w (kindOf monitor) inst).isNone && canServe w (kindOf monitor) inst
      then planSwap (kindOf monitor) inst none w else w := by
  have serves : (s.mod.st != .halted) = true := by simpa using hst
  rw [wearRun, if_neg (by simp [ht, hh])]
  dsimp only [wearTold]
  rw [raise_mod, mod_noteWear, serves, Bool.true_and]

theorem wearTripRun_no_fault (hf : wearFaults monitor value = false) : wearTripRun monitor inst value s = wearRun monitor inst value s := by
  simp [wearTripRun, hf]

theorem wearTripRun_faults (hf : wearFaults monitor value = true) (hh : wearHeard s monitor inst value = true) :
    wearTripRun monitor inst value s =
      let v := if trips monitor value then wearRun monitor inst value s else noteWear monitor inst value s
      emergencyRun (kindOf monitor) inst (Config.testPasses v.free inst) (drawn v) := by
  cases ht : trips monitor value
  · simp [wearTripRun, hf, hh, ht, wearRun_below ht]
  · simp [wearTripRun, hf, hh, ht]

end

/-- Settles O37: a request by the spares that are left, preparation and deferral by what they make of its swap, a monitor by `wearTripRun`. -/
theorem swapsArePlanned : Obligations.SwapsArePlanned := by
  unfold Obligations.SwapsArePlanned
  refine ⟨fun t s => ⟨fun h kind inst ht => ?_, fun kind inst x hx hp hk => ?_, fun kind inst x hx hp hd => ?_⟩,
    fun t monitor inst value s => ?_⟩
  · exact fun hn => ⟨fun hc => next_of_work rfl ht (swapRequestRun_plans hn hc), fun hc => next_of_work rfl ht (swapRequestRun_no_spare hn hc)⟩
  · intro u
    obtain ⟨xs, hw⟩ := wakeSpare_frame kind inst
      (modSpares (fun y => { y with swaps := y.swaps.map (preparedBy kind inst (u.now + msT (mAttrN u A.svcSwapDeferMs))) }) u)
    have hx : swapOf u kind inst = some x := hx
    refine ⟨_, congrArg Host.Outcome.next ((swapPreparedRun_prepares (s := u) hx hp hk).trans hw), ?_, rfl⟩
    exact (swapOf_map (s := u) rfl (preparedBy_names kind inst _)).trans (swapOf_prepared hx)
  · have hx : swapOf (advance t s) kind inst = some x := hx
    refine ⟨_, congrArg Host.Outcome.next (swapDeferRun_eq kind inst (advance t s)), ?_, rfl⟩
    exact (swapOf_map (s := advance t s) rfl (deferredBy_names kind inst _)).trans (swapOf_deferred hx hp hd)
  · intro u kind w
    refine ⟨fun ht hf => ?_, fun hf hh => ?_, fun ht hf hst hh => ?_⟩
    · exact congrArg Host.Outcome.next ((wearTripRun_no_fault hf).trans (wearRun_below ht))
    · exact congrArg Host.Outcome.next (wearTripRun_faults hf hh)
    · have runs : u.mod.st ≠ .halted := by simp [u, hst]
      exact congrArg Host.Outcome.next ((wearTripRun_no_fault hf).trans (wearRun_trips ht hh runs))

/-! ### A swap takes place (R526, R531 to R538) -/

theorem plannedSwapRun_takes {x : Swap} {spare : Nat} {rest : List Nat} (hx : swapOf s kind inst = some x) (hr : swapReady s x = true)
    (hc : candidates s kind inst = spare :: rest) : plannedSwapRun kind inst true s =
      (swapPorts s kind inst true ++ portsOf x.held).foldl (fun s p => resumePort p s)
        ((portsOf x.held).foldl (fun s p => unhold p s) (finishSwap true kind inst spare (whyPlanned s kind inst) x.hdr s)) := by
  simp only [plannedSwapRun, hx, hr, hc, if_true]

/-- Only a kind of Table 11-1 has blocks that work. -/
theorem kind_of_works (hw : works s kind inst = true) : 1 ≤ kind ∧ kind ≤ 7 := by
  unfold works at hw
  split at hw
  case h_8 => exact absurd hw Bool.false_ne_true
  all_goals decide

theorem drawSpare_first {spare : Nat} {rest : List Nat} (hc : candidates s kind inst = spare :: rest) :
    drawSpare kind inst true s = (some spare, s) := by simp [drawSpare, hc]

theorem emergencyRun_draws {spare : Nat} {rest : List Nat} (hst : s.mod.st = .service) (hw : works s kind inst = true)
    (hn : swapOf s kind inst = none) (hc : candidates (endFault kind inst s) kind inst = spare :: rest) :
    emergencyRun kind inst true s = (swapPorts s kind inst false).foldl (fun s p => resumePort p (unhold p s))
      (finishSwap false kind inst spare 255 none (endFault kind inst s)) := by
  obtain ⟨hk1, hk7⟩ := kind_of_works hw
  have nothing_held : portsOf 0 = [] := by decide
  unfold emergencyRun
  rw [if_neg (by simp [hst]), if_neg (by simp; omega), if_neg (by simp [hw])]
  simp [hn, drawSpare_first hc, nothing_held]

theorem emergencyRun_no_block {calOk : Bool} (hst : s.mod.st = .service) (hk : 7 < kind) :
    emergencyRun kind inst calOk s = standingFault kind inst s := by
  unfold emergencyRun
  rw [if_neg (by simp [hst]), if_pos (by simp [hk])]

theorem dailyRun_due {failed : List (Nat × Nat)} (hst : s.mod.st = .service) (hd : s.spares.testAt ≤ s.now) :
    dailyRun failed s = failed.foldl spareFails (modSpares (fun x => { x with testAt := s.now + msT 86400000 }) s) := by
  rw [dailyRun, if_neg (by simp [hst, hd])]

/-- Whatever its kind, a swap ends with the entry of the block in the fault map. -/
theorem takeSpare_retires (kind inst spare why : Nat) (s : State) : ∃ t, takeSpare kind inst spare why s = retire kind inst why t := by
  unfold takeSpare
  dsimp only
  split <;> exact ⟨_, rfl⟩

theorem mem_faultMap_retire (kind inst why : Nat) (s : State) : (kind, inst, why) ∈ (retire kind inst why s).nvm.faultMap := by simp [retire]

section
variable {spare why p : Nat}

theorem takeSpare_engine (hp : portServed s 2 inst = some p) : takeSpare 2 inst spare why s = retire 2 inst why (swapEngine p spare s) := by
  simp [takeSpare, hp]

theorem port_takeSpare_engine (hp : portServed s 2 inst = some p) (q : Nat) :
    port (takeSpare 2 inst spare why s) q = port (zeroiseBuf p s) q := by
  rw [takeSpare_engine hp]
  rfl

theorem engine_takeSpare (hp : portServed s 2 inst = some p) (hl : p < s.spares.portEngine.length) :
    nth (takeSpare 2 inst spare why s).spares.portEngine p 0 = spare := by
  rw [takeSpare_engine hp]
  exact nth_upd_self _ _ _ hl

end

/-- Settles O38: each row by its lemma, and what a swap does by `takeSpare` and `dropSwap`. -/
theorem swapsTakePlace : Obligations.SwapsTakePlace := by
  unfold Obligations.SwapsTakePlace
  refine ⟨fun t kind inst s => ⟨fun x spare rest hx hr hc => ?_, fun spare rest hst hw hn hc => ?_, fun ok hst hk => ?_, fun failed hst hd => ?_⟩,
    fun kind inst spare why s => ⟨?_, fun p hp hlp hle => ?_, fun other => ⟨swapOf_dropSwap_self .., fun ho => swapOf_dropSwap_ne ho s⟩⟩⟩
  · exact congrArg Host.Outcome.next (plannedSwapRun_takes hx hr hc)
  · exact congrArg Host.Outcome.next (emergencyRun_draws (s := advance t s) hst hw hn hc)
  · exact congrArg Host.Outcome.next (emergencyRun_no_block (s := advance t s) hst hk)
  · exact congrArg Host.Outcome.next (dailyRun_due (s := advance t s) hst hd)
  · obtain ⟨t, ht⟩ := takeSpare_retires kind inst spare why s
    rw [ht]
    exact mem_faultMap_retire ..
  · intro v
    have served : port v p = { port s p with secBuf := none } := (port_takeSpare_engine hp p).trans (port_modPort_self _ s hlp)
    refine ⟨engine_takeSpare hp hle, ?_, ?_, ?_, ?_, fun q hq => (port_takeSpare_engine hp q).trans (port_modPort_ne _ s hq)⟩ <;> rw [served]

/-! ### The recorder (R439, R543 to R545) -/

section
variable {code p : Nat} {stamp : Int} {args : Bytes}

theorem foldsNow_iff {it : Item} : foldsNow s code it = true ↔
    fitsOut s sq2 it = false ∨ (evKept code = false ∧ (s.ev.folding = true ∨ 240 ≤ (outRing s sq2).level)) := by
  simp [foldsNow, and_comm]

theorem not_foldsNow_iff {it : Item} : foldsNow s code it = false ↔
    fitsOut s sq2 it = true ∧ (evKept code = true ∨ (s.ev.folding = false ∧ (outRing s sq2).level < 240)) := by
  rw [← Bool.not_eq_true, foldsNow_iff]
  simp [not_or, imp_iff_not_or]

/-- An event that is folded is only counted. -/
theorem recordEv_folds (hf : foldsNow s code (evItem code (evBody stamp s.ev.next p args)) = true) :
    recordEv code stamp p args s = foldEv code stamp s := by
  rw [recordEv, if_pos hf]

/-- An event that is not folded joins SQ2 and the log. -/
theorem recordEv_logs (hf : foldsNow s code (evItem code (evBody stamp s.ev.next p args)) = false) :
    recordEv code stamp p args s =
      let t := appendOut sq2 (evItem code (evBody stamp s.ev.next p args)) s
      { t with ev := { s.ev with
        next := (s.ev.next + 1) % 65536, log := (⟨code, s.ev.next, evBody stamp s.ev.next p args⟩ :: s.ev.log).take 1024 } } := by
  rw [recordEv, if_neg (by simp [hf])]
  rfl

theorem foldEv_first (h : s.ev.counts.sum = 0) : (foldEv code stamp s).ev.first = stamp := by simp [foldEv, h]

end

theorem evLostRun_drained (hf : s.ev.folding = true) (hl : (outRing s sq2).level ≤ 192) : evLostRun s =
    raise Ev.lost 0xFF ((s.ev.counts.map (le 2)).flatten ++ leI 8 s.ev.first ++ leI 8 s.ev.last)
      { s with ev := { s.ev with folding := false, counts := List.replicate 7 0 } } := by
  rw [evLostRun, if_neg (by simp [hf, hl])]

theorem evLostRun_waits (hl : 192 < (outRing s sq2).level) : evLostRun s = s := by simp [evLostRun, hl]

/-- Settles O39: an event by whether `foldsNow` holds of it, EV_LOST by the level of SQ2. -/
theorem eventsAreLoggedAndFolded : Obligations.EventsAreLoggedAndFolded := by
  unfold Obligations.EventsAreLoggedAndFolded
  refine ⟨fun code stamp p args s => ⟨fun hfit hkept => ?_, fun hfold => ?_⟩, fun t s hf => ⟨fun hl => ?_, fun hl => ?_⟩⟩
  · rw [recordEv_logs (not_foldsNow_iff.mpr ⟨hfit, hkept⟩)]
    exact ⟨rfl, rfl, rfl, rfl⟩
  · rw [recordEv_folds (foldsNow_iff.mpr hfold)]
    exact ⟨rfl, rfl, rfl, rfl, rfl, foldEv_first, rfl⟩
  · exact congrArg Host.Outcome.next (evLostRun_drained (s := advance t s) hf hl)
  · exact congrArg Host.Outcome.next (evLostRun_waits (s := advance t s) hl)

end Sys2Proof.Machine
end


section
/-!
SUPPORT. How a field of a body reads back: numbers, signed numbers, flags and data, behind whatever stands before them (R15, R411).
-/

namespace Sys2Proof.Machine

set_option Elab.async false

variable {n o k : Nat} {c : Byte} {x y : Bytes}

/-! ### Operands within their fields -/

@[simp] theorem fits1_iff : fits1 n = true ↔ n < 256 := decide_eq_true_iff

@[simp] theorem fits2_iff : fits2 n = true ↔ n < 65536 := decide_eq_true_iff

@[simp] theorem fits4_iff : fits4 n = true ↔ n < 4294967296 := decide_eq_true_iff

@[simp] theorem fits8_iff : fits8 n = true ↔ n < 18446744073709551616 := decide_eq_true_iff

/-! ### Behind another field -/

@[simp] theorem slice_append_right (h : x.length ≤ o) : slice (x ++ y) o k = slice y (o - x.length) k := by
  rw [slice, slice, List.drop_append, List.drop_eq_nil_of_le h, List.nil_append]

@[simp] theorem num_append_right (h : x.length ≤ o) : num (x ++ y) o k = num y (o - x.length) k := congrArg ofLe (slice_append_right h)

@[simp] theorem slice_cons_succ : slice (c :: x) (o + 1) k = slice x o k := rfl

@[simp] theorem num_cons_succ : num (c :: x) (o + 1) k = num x o k := rfl

theorem slice_drop : slice (x.drop n) o k = slice x (n + o) k := by rw [slice, slice, List.drop_drop]

/-! ### A number -/

@[simp] theorem num_none : num x o 0 = 0 := by simp [num, slice, ofLe]

@[simp] theorem num_cons : num (c :: x) 0 (k + 1) = c.toNat + 256 * num x 0 k := rfl

theorem num_whole (h : x.length = k) : num (x ++ y) 0 k = ofLe x := by
  rw [num, slice, List.drop_zero, List.take_left' h]

@[simp] theorem num_le_append (h : n < 2 ^ (8 * k)) : num (le k n ++ y) 0 k = n := by
  rw [num_whole (length_le k n), ofLe_le, Nat.mod_eq_of_lt (by rwa [Nat.pow_mul] at h)]

@[simp] theorem num_le (h : n < 2 ^ (8 * k)) : num (le k n) 0 k = n := by
  rw [← List.append_nil (le k n), num_le_append h]

/-- One byte of a number. -/
theorem num_le_byte (h : o < k) : num (le k n ++ y) o 1 = n >>> (8 * o) % 256 := by
  induction o generalizing k n with
  | zero =>
    obtain ⟨k, rfl⟩ := Nat.exists_eq_add_of_lt h
    simp [le, num_cons, num_none]
  | succ o ih =>
    obtain ⟨k, rfl⟩ : ∃ j, k = j + 1 := ⟨k - 1, by omega⟩
    rw [le, List.cons_append, num_cons_succ, ih (by omega), Nat.mul_succ, Nat.add_comm, Nat.shiftRight_add, Nat.shiftRight_eq_div_pow n]

/-! ### A signed number (two's complement) -/

@[simp] theorem length_leI (k : Nat) (z : Int) : (leI k z).length = k := length_le ..

theorem ofLe_leI (k : Nat) (z : Int) : (ofLe (leI k z) : Int) = z % (2 ^ (8 * k) : Nat) := by
  have pos : (0 : Int) < (2 ^ (8 * k) : Nat) := by positivity
  have low := Int.emod_nonneg z pos.ne'
  have high := Int.emod_lt_of_pos z pos
  rw [leI, ofLe_le, Nat.mod_eq_of_lt (by rw [show 256 = 2 ^ 8 from rfl, ← Nat.pow_mul]; omega)]
  omega

theorem signed_leI {z : Int} (hk : 0 < k) (h : fitsInt k z = true) : signed (8 * k) (ofLe (leI k z)) = z := by
  have read := ofLe_leI k z
  have double : 2 ^ (8 * k) = 2 * 2 ^ (8 * k - 1) := by rw [← Nat.pow_succ']; congr 1; omega
  simp only [fitsInt, Bool.and_eq_true, decide_eq_true_eq] at h
  simp only [signed, double] at read ⊢
  generalize 2 ^ (8 * k - 1) = half at *
  obtain ⟨low, high⟩ := h
  have bound : ofLe (leI k z) < 2 * half := by
    have := Int.emod_lt_of_pos z (b := ((2 * half : Nat) : Int)) (by omega)
    omega
  rw [Nat.mod_eq_of_lt bound]
  by_cases neg : z < 0
  · rw [← Int.add_emod_right, Int.emod_eq_of_lt (by omega) (by omega)] at read
    rw [if_neg (by omega)]
    omega
  · rw [Int.emod_eq_of_lt (by omega) (by omega)] at read
    rw [if_pos (by omega)]
    omega

@[simp] theorem signed_num_leI {z : Int} (h : fitsInt 2 z = true) : signed 16 (num (leI 2 z ++ y) 0 2) = z := by
  rw [num_whole (length_leI 2 z)]
  exact signed_leI Nat.two_pos h

/-! ### Flags -/

theorem bnat_le (c : Bool) : bnat c ≤ 1 := by cases c <;> decide

theorem bnat_odd (n : Nat) : bnat (n % 2 == 1) = n % 2 := by
  rcases Nat.mod_two_eq_zero_or_one n with h | h <;> simp [bnat, h]

theorem natOfBits_lt (cs : List Bool) : natOfBits cs < 2 ^ cs.length := by
  induction cs with
  | nil => simp [natOfBits]
  | cons c cs ih =>
    have := bnat_le c
    rw [natOfBits, List.length_cons, Nat.pow_succ]
    omega

@[simp] theorem toNat_flagByte {cs : List Bool} (h : cs.length ≤ 8) : (flagByte cs).toNat = natOfBits cs := by
  have := natOfBits_lt cs
  have := Nat.pow_le_pow_right Nat.two_pos h
  rw [flagByte, toNat_b8, Nat.mod_eq_of_lt (by omega)]

@[simp] theorem bit_natOfBits (cs : List Bool) (i : Nat) : bit (natOfBits cs) i = cs[i]?.getD false := by
  induction cs generalizing i with
  | nil => simp [natOfBits, bit]
  | cons c cs ih =>
    cases i with
    | zero => cases c <;> simp [natOfBits, bit, bnat]
    | succ i =>
      have := bnat_le c
      rw [bit, natOfBits, Nat.testBit_succ, show (bnat c + 2 * natOfBits cs) / 2 = natOfBits cs by omega, ← bit, ih, List.getElem?_cons_succ]

theorem and_mask {m : Nat} (hm : m + 1 = 2 ^ k) (h : n ≤ m) : n &&& m = n := by
  rw [show m = 2 ^ k - 1 by omega, Nat.and_two_pow_sub_one_eq_mod, Nat.mod_eq_of_lt (by omega)]

/-- A flag byte holds none but its flags. -/
@[simp] theorem natOfBits_masked {cs : List Bool} {m : Nat} (hm : m + 1 = 2 ^ cs.length) : natOfBits cs &&& m = natOfBits cs := by
  have := natOfBits_lt cs
  exact and_mask hm (by omega)

/-- The kind of a raw frame stands in bits 3 and 4 of its flag byte (Table 8-11). -/
theorem kind_of_flags {kind : Nat} (parity check keep : Bool) (h : kind < 4) :
    natOfBits [parity, check, keep, kind % 2 == 1, kind / 2 % 2 == 1] / 8 % 4 = kind := by
  have := bnat_le parity
  have := bnat_le check
  have := bnat_le keep
  simp only [natOfBits, bnat_odd]
  omega

/-! ### Data -/

@[simp] theorem slice_whole (h : x.length = k) : slice x 0 k = x := by rw [slice, List.drop_zero, List.take_of_length_le (by omega)]

@[simp] theorem slice_append_left (h : x.length = k) : slice (x ++ y) 0 k = x := by rw [slice, List.drop_zero, List.take_left' h]

theorem slice_behind (hx : x.length = o) (hy : y.length = k) : slice (x ++ y) o k = y := by
  rw [slice_append_right (Nat.le_of_eq hx), hx, Nat.sub_self, slice_whole hy]

end Sys2Proof.Machine
end


section
/-!
SUPPORT. How the parts of a body read back that stand as a whole: the opening of a Hymond command, a loading map, the records of a list
(Tables 8-4, 8-5, 8-12, 9-6).
-/

namespace Sys2Proof.Machine

set_option Elab.async false

/-! ### The opening fields of a Hymond command (Table 8-12) -/

@[simp] theorem length_preBytes (x : HyPre) : (preBytes x).length = 4 := by simp [preBytes]

@[simp] theorem preOf_preBytes_append {x : HyPre} {y : Bytes} (h : x.wf = true) : preOf (preBytes x ++ y) = x := by
  simp only [HyPre.wf, Bool.and_eq_true, fits1_iff, fits2_iff] at h
  simp [preOf, preBytes, h, Nat.mod_eq_of_lt]

@[simp] theorem preOf_preBytes {x : HyPre} (h : x.wf = true) : preOf (preBytes x) = x := by
  rw [← List.append_nil (preBytes x), preOf_preBytes_append h]

/-! ### Records of one size -/

section
variable {α : Type} {f : α → Bytes} {xs : List α} {n p i : Nat} {pre post : Bytes}

theorem drop_flatten (hf : ∀ a ∈ xs, (f a).length = n) (hi : i < xs.length) :
    (xs.map f).flatten.drop (n * i) = f xs[i] ++ ((xs.drop (i + 1)).map f).flatten := by
  induction xs generalizing i with
  | nil => cases hi
  | cons x xs ih =>
    have hx : (f x).length = n := hf x (List.mem_cons_self ..)
    cases i with
    | zero => rfl
    | succ i =>
      rw [List.map_cons, List.flatten_cons, Nat.mul_succ, Nat.add_comm, ← List.drop_drop, List.drop_left' hx,
        ih (fun a ha => hf a (List.mem_cons_of_mem _ ha)) (Nat.lt_of_succ_lt_succ hi)]
      rfl

theorem length_flatten_map (hf : ∀ a ∈ xs, (f a).length = n) : (xs.map f).flatten.length = n * xs.length := by
  have : (xs.map fun a => (f a).length) = xs.map fun _ => n := List.map_congr_left hf
  rw [List.length_flatten, List.map_map, Function.comp_def, this, List.map_const', List.sum_replicate, smul_eq_mul, Nat.mul_comm]

/-- What follows record `i` of a list. -/
def behind (f : α → Bytes) (xs : List α) (i : Nat) (post : Bytes) : Bytes := ((xs.drop (i + 1)).map f).flatten ++ post

/-- A field of a record reads as it does at the record's own start. -/
theorem slice_record (hp : pre.length = p) (hf : ∀ a ∈ xs, (f a).length = n) (hi : i < xs.length) (o k : Nat) :
    slice (pre ++ (xs.map f).flatten ++ post) (p + n * i + o) k = slice (f xs[i] ++ behind f xs i post) o k := by
  have inside : n * i ≤ (xs.map f).flatten.length := by
    rw [length_flatten_map hf]
    exact Nat.mul_le_mul_left n hi.le
  rw [← slice_drop, ← List.drop_drop, List.append_assoc, List.drop_left' hp, List.drop_append_of_le_length inside, drop_flatten hf hi, behind,
    List.append_assoc]

theorem num_record (hp : pre.length = p) (hf : ∀ a ∈ xs, (f a).length = n) (hi : i < xs.length) (o k : Nat) :
    num (pre ++ (xs.map f).flatten ++ post) (p + n * i + o) k = num (f xs[i] ++ behind f xs i post) o k := congrArg ofLe (slice_record hp hf hi o k)

theorem range_map_getElem {g : Nat → α} (h : ∀ i (hi : i < xs.length), g i = xs[i]) : (List.range xs.length).map g = xs :=
  List.ext_getElem (by simp) (by simp_all)

end

/-! ### Deduplication records (Table 9-6) -/

theorem length_dedupRecBytes {r : DedupRec} (h : r.wf = true) : (dedupRecBytes r).length = 32 := by
  simp only [DedupRec.wf, Bool.and_eq_true, beq_iff_eq] at h
  simp [dedupRecBytes, h]

theorem dedupOf_dedupRecBytes {r : DedupRec} {z : Bytes} (h : r.wf = true) : dedupOf (dedupRecBytes r ++ z) 0 = r := by
  simp [DedupRec.wf] at h
  simp [dedupOf, dedupRecBytes, h, Nat.mod_eq_of_lt]

theorem dedup_reserved {r : DedupRec} {z : Bytes} (h : r.wf = true) :
    num (dedupRecBytes r ++ z) 19 1 = 0 ∧ num (dedupRecBytes r ++ z) 22 2 = 0 := by
  simp [DedupRec.wf] at h
  simp [dedupRecBytes, h]

/-! ### Loading maps (R252) -/

theorem nth_lt {α : Type} (xs : List α) (d : α) {i : Nat} (h : i < xs.length) : nth xs i d = xs[i] := by simp [nth, h]

theorem num_byte {x : Bytes} {o : Nat} (h : o < x.length) : num x o 1 = x[o].toNat := by
  rw [num, slice, List.drop_eq_getElem_cons h, List.take_succ_cons, ofLe]
  rfl

theorem length_mapField (m : List Nat) : (mapField m).length = 8 := by simp [mapField]

theorem mapOf_mapField {m : List Nat} {x : Bytes} {o : Nat} (ho : x.length = o) (hl : m.length = 16) (hm : ∀ v ∈ m, v < 16) :
    mapOf (x ++ mapField m) o = m := by
  rw [mapOf, show List.range 16 = List.range m.length by rw [hl]]
  refine range_map_getElem fun i hi => ?_
  have nibble (j : Nat) : nth m j 0 < 16 := by
    rcases Nat.lt_or_ge j m.length with hj | hj
    · rw [nth_lt m 0 hj]
      exact hm _ (List.getElem_mem hj)
    · simp [nth, hj]
  have half : i / 2 < (mapField m).length := by rw [length_mapField]; omega
  have byte : num (x ++ mapField m) (o + i / 2) 1 = nth m (2 * (i / 2)) 0 + 16 * nth m (2 * (i / 2) + 1) 0 := by
    have := nibble (2 * (i / 2))
    have := nibble (2 * (i / 2) + 1)
    rw [num_append_right (by omega), ho, Nat.add_sub_cancel_left, num_byte half]
    simp [mapField]
    omega
  have low := nibble (2 * (i / 2))
  have own := nibble i
  rw [byte, ← nth_lt m 0 hi]
  rcases Nat.mod_two_eq_zero_or_one i with even | odd
  · rw [show 2 * (i / 2) = i by omega]
    simp only [even, beq_self_eq_true, if_true]
    omega
  · rw [show 2 * (i / 2) + 1 = i by omega]
    simp only [odd, Nat.reduceBEq, Bool.false_eq_true, if_false]
    omega

/-! ### Value records of ATTR_SET (Table 8-5) -/

theorem elemSize_pos {t : Nat} (h1 : 1 ≤ t) (h7 : t ≤ 7) : 0 < elemSize t := by
  interval_cases t <;> decide

theorem typeForm_eq {t : Nat} (h1 : 1 ≤ t) (h7 : t ≤ 7) : typeForm t = (elemSize t, t % 2 == 0) := by
  interval_cases t <;> decide

theorem typeVal_leI {t : Nat} {v : Int} (h1 : 1 ≤ t) (h7 : t ≤ 7) (h : typeFits t v = true) : typeVal t (leI (elemSize t) v) = v := by
  simp only [typeFits, typeForm_eq h1 h7] at h
  unfold typeVal
  cases even : t % 2 == 0 with
  | true =>
    rw [even, if_pos rfl] at h
    exact signed_leI (elemSize_pos h1 h7) h
  | false =>
    simp only [even, Bool.false_eq_true, if_false, Bool.and_eq_true, decide_eq_true_eq] at h
    exact (ofLe_leI ..).trans (Int.emod_eq_of_lt h.1 h.2)

theorem fit_eq {n : Nat} {x : Bytes} (h : x.length ≤ n) : fit n x = x ++ zeros (n - x.length) :=
  List.take_of_length_le (by simp [zeros]; omega)

/-- The bytes of a value record, before the zeros that fill it to four. -/
def recPart (r : AttrRec) : Bytes :=
  le 2 r.id ++ le 2 r.index ++ [b8 r.type, b8 r.vals.length] ++ (r.vals.map (leI (elemSize r.type))).flatten

theorem length_recPart (r : AttrRec) : (recPart r).length = 6 + elemSize r.type * r.vals.length := by
  rw [recPart, List.length_append, length_flatten_map fun v _ => length_leI (elemSize r.type) v]
  simp

theorem length_recPart_le (r : AttrRec) : (recPart r).length ≤ recSize r := by
  rw [length_recPart, recSize, ceilDiv]
  omega

theorem recBytes_eq (r : AttrRec) : recBytes r = recPart r ++ zeros (recSize r - (recPart r).length) := fit_eq (length_recPart_le r)

theorem length_recBytes (r : AttrRec) : (recBytes r).length = recSize r := by
  have := length_recPart_le r
  rw [recBytes_eq, List.length_append, zeros, List.length_replicate]
  omega

theorem vals_read {r : AttrRec} {pre z : Bytes} (h1 : 1 ≤ r.type) (h7 : r.type ≤ 7) (hv : ∀ v ∈ r.vals, typeFits r.type v = true) :
    (List.range r.vals.length).map (fun i =>
      typeVal r.type (slice (pre ++ (recBytes r ++ z)) (pre.length + 6 + elemSize r.type * i) (elemSize r.type))) = r.vals := by
  refine range_map_getElem fun i hi => ?_
  have read := slice_record (pre := pre ++ (le 2 r.id ++ le 2 r.index ++ [b8 r.type, b8 r.vals.length])) (p := pre.length + 6)
    (post := zeros (recSize r - (recPart r).length) ++ z) (by simp) (fun v _ => length_leI (elemSize r.type) v) hi 0 (elemSize r.type)
  rw [slice_append_left (length_leI ..)] at read
  rw [← typeVal_leI h1 h7 (hv _ (List.getElem_mem hi)), ← read, recBytes_eq, recPart]
  simp only [List.append_assoc, Nat.add_zero]

/-- One record of the walk (R411). -/
theorem walkRecs_cons {r : AttrRec} {pre z : Bytes} {k n : Nat} {acc : List AttrRec} (h : r.wf = true) :
    let b := pre ++ (recBytes r ++ z)
    walkRecs b (k + 1) pre.length n acc = walkRecs b k (pre.length + recSize r) (n + 1) (r :: acc) := by
  intro b
  simp [AttrRec.wf] at h
  obtain ⟨⟨⟨⟨⟨⟨hid, hindex⟩, h1⟩, h7⟩, hn1⟩, hn⟩, hv⟩ := h
  have id : num b pre.length 2 = r.id := by simp [b, recBytes_eq, recPart, hid]
  have index : num b (pre.length + 2) 2 = r.index := by simp [b, recBytes_eq, recPart, hindex]
  have type : num b (pre.length + 4) 1 = r.type := by simp [b, recBytes_eq, recPart]; omega
  have count : num b (pre.length + 5) 1 = r.vals.length := by simp [b, recBytes_eq, recPart]; omega
  have type_known : (r.type == 0 || decide (r.type > 7) || r.vals.length == 0 || decide (r.vals.length > 64)) = false := by
    simp only [Bool.or_eq_false_iff, beq_eq_false_iff_ne, decide_eq_false_iff_not]
    omega
  have record_fits : ¬ b.length < pre.length + recSize r := by
    simp only [b, List.length_append, length_recBytes]
    omega
  have head_fits : ¬ b.length < pre.length + 6 := by
    have := length_recPart_le r
    rw [length_recPart] at this
    omega
  rw [walkRecs, if_neg head_fits]
  simp only [type, count, type_known, id, index, b, vals_read h1 h7 hv]
  exact if_neg record_fits

theorem walkRecs_recBytes {rs : List AttrRec} (h : ∀ r ∈ rs, r.wf = true) (pre : Bytes) (n : Nat) (acc : List AttrRec) :
    walkRecs (pre ++ (rs.map recBytes).flatten) rs.length pre.length n acc
      = .records (acc.reverse ++ rs) (pre ++ (rs.map recBytes).flatten).length := by
  induction rs generalizing pre n acc with
  | nil => simp [walkRecs]
  | cons r rs ih =>
    have next := ih (fun x hx => h x (List.mem_cons_of_mem _ hx)) (pre ++ recBytes r) (n + 1) (r :: acc)
    rw [List.append_assoc, List.length_append, length_recBytes] at next
    rw [List.map_cons, List.flatten_cons, List.length_cons, walkRecs_cons (h r (List.mem_cons_self ..)), next, List.reverse_cons,
      List.append_assoc]
    rfl

end Sys2Proof.Machine
end


section
/-!
SUPPORT. The body of a well-formed host command parses to the command: its length is that of its layout, its reserved fields are 0, its flag
bytes hold none but flags, and it spells the command (R411, Tables 8-4 and 8-10 to 8-16).
-/

namespace Sys2Proof.Machine

set_option Elab.async false

variable {op : Nat} {h : Hdr} {i : Instr}

/-! ### Lists of a body -/

/-- The requests of ATTR_GET (Table 8-4). -/
theorem requests_read {pre : Bytes} {rs : List (Nat × Nat)} (hp : pre.length = 4) (hr : ∀ r ∈ rs, r.1 < 65536 ∧ r.2 < 65536) :
    let b := pre ++ (rs.map fun r => le 2 r.1 ++ le 2 r.2).flatten
    (List.range rs.length).map (fun i => (num b (4 + 4 * i) 2, num b (6 + 4 * i) 2)) = rs := by
  intro b
  refine range_map_getElem fun i hi => ?_
  obtain ⟨first, second⟩ := hr _ (List.getElem_mem hi)
  have field (o : Nat) : num b (4 + 4 * i + o) 2 = num (le 2 rs[i].1 ++ le 2 rs[i].2 ++ behind (fun r => le 2 r.1 ++ le 2 r.2) rs i []) o 2 := by
    have read := num_record (post := []) hp (fun (r : Nat × Nat) _ => show (le 2 r.1 ++ le 2 r.2).length = 4 by simp) hi o 2
    rwa [List.append_nil] at read
  have id : num b (4 + 4 * i) 2 = rs[i].1 := (field 0).trans (by simp [first])
  have index : num b (6 + 4 * i) 2 = rs[i].2 := by rw [show 6 + 4 * i = 4 + 4 * i + 2 by omega, field]; simp [second]
  rw [id, index]

/-- The records of DEDUP_IMPORT, each with its reserved fields (Table 9-6). -/
theorem dedup_read {pre : Bytes} {rs : List DedupRec} (hp : pre.length = 4) (hr : ∀ r ∈ rs, r.wf = true) {i : Nat} (hi : i < rs.length) :
    let b := pre ++ (rs.map dedupRecBytes).flatten
    dedupOf b (4 + 32 * i) = rs[i] ∧ num b (4 + 32 * i + 19) 1 = 0 ∧ num b (4 + 32 * i + 22) 2 = 0 := by
  intro b
  have good := hr _ (List.getElem_mem hi)
  have field (o k : Nat) : slice b (4 + 32 * i + o) k = slice (dedupRecBytes rs[i] ++ behind dedupRecBytes rs i []) o k := by
    have read := slice_record (post := []) hp (fun r hm => length_dedupRecBytes (hr r hm)) hi o k
    rwa [List.append_nil] at read
  have same : dedupOf b (4 + 32 * i) = dedupOf (dedupRecBytes rs[i] ++ behind dedupRecBytes rs i []) 0 := by
    simp only [dedupOf, num, field, Nat.zero_add]
    rw [← field 0]
    rfl
  rw [same]
  simp only [num, field]
  exact ⟨dedupOf_dedupRecBytes good, dedup_reserved good⟩

/-! ### What a body spells -/

/-- A body of fixed layout spells its command: an empty one, one of fields, and those with a flag nibble or a loading map. -/
theorem parseBody_fixed (hw : i.wf = true) (hh : cmdHead i = some (op, h)) (hc : counted op = false) :
    ∃ t, parseBody t op h (bodyOf i) = some i := by
  cases i with
  | moduleInfo t | moduleState t | configCommit t | configDiscard t | configSave t | dozeEnter t | timeRead t | fwVerify t | fwStatus t | fwRollback t
  | fieldOn t | fieldOff t | autotune t | harvestStart t | harvestStop t | prismCalibrate t | lensBaseline t | lensMeasure t | clusterStatus t
  | caskList t | spareStatus t =>
    cases hh
    exact ⟨t, rfl⟩
  | queueStatus t | moduleReset t | portFlush t | fwBegin t | fwActivate t | measureNoise t | mirrorTrain t | isoAAnticoll t | isoAActivate t
  | isoAHalt t | isoARats t | isoPps t | isoBRequest t | isoBAnticoll t | isoBAttrib t | isoBHalt t | isoDeselect t | isoForget t | isoVInventory t
  | isoVSelect t | isoVQuiet t | isoVResetReady t | hyActivate t | hyRead t | hySealedWrite t | hyPageStatus t | hyChallenge t | hyHalt t
  | hyRelease t | hyResync t | hyForget t | hyTreeSearch t | harvestClear t | harvestReadTable t | prismVector t | planActivate t | calTone t
  | calListen t | caskInfo t | caskGenerate t | caskDestroy t | caskWrap t | attest t | lifecycleSet t | debugOpenSet t | credWrite t | credVerify t
  | selfTest t | captureArm t | captureRead t | triggerArm t | swapRequest t | wearRead t | eventLogRead t | countersClear t =>
    cases hh
    simp [Instr.wf] at hw
    exact ⟨t, congrArg some (by simp [bodyOf, hw, zeros])⟩
  | calibrateRadio t =>
    cases hh
    simp [Instr.wf] at hw
    exact ⟨t, congrArg some (by simp [bodyOf]; omega)⟩
  | hySetMap t _ n m =>
    cases hh
    simp [Instr.wf] at hw
    obtain ⟨⟨⟨-, hn⟩, hl⟩, hm⟩ := hw
    have map : mapOf (le 2 n ++ [0, 0] ++ mapField m) 4 = m := mapOf_mapField (by simp) hl hm
    exact ⟨t, congrArg some (by rw [bodyOf, map]; simp [hn])⟩
  | _ => cases hh <;> cases hc

/-- So does a body that counts a part of itself, but for ATTR_SET, whose records are walked. -/
theorem parseBody_counted (hw : i.wf = true) (hh : cmdHead i = some (op, h)) (hc : counted op = true) (ha : op ≠ 0x04) :
    ∃ t, parseBody t op h (bodyOf i) = some i := by
  cases i with
  | nop t =>
    cases hh
    exact ⟨t, rfl⟩
  | schedule t | fwData t | isoApdu t | isoVCommand t | hyRawFrame t | hyWrite t | planLoad t | caskImport t | caskEncrypt t | caskDecrypt t =>
    cases hh
    simp [Instr.wf] at hw
    exact ⟨t, congrArg some (by simp [bodyOf, hw])⟩
  | isoRawFrame t =>
    cases hh
    simp [Instr.wf] at hw
    exact ⟨t, congrArg some (by simp [bodyOf, hw, ceilDiv, kind_of_flags])⟩
  | caskDerive t _ n p a l x =>
    cases hh
    simp [Instr.wf] at hw
    have context : slice (bodyOf (.caskDerive t h n p a l x)) (16 + l.length) x.length = x := slice_behind (by simp; omega) rfl
    have short : l.length % 256 = l.length ∧ x.length % 256 = x.length := by omega
    refine ⟨t, congrArg some ?_⟩
    simp [bodyOf, hw, short] at context ⊢
    exact context
  | attrGet t _ st rs =>
    cases hh
    simp [Instr.wf] at hw
    obtain ⟨⟨-, hn⟩, hr⟩ := hw
    have count : num (bodyOf (.attrGet t h st rs)) 0 1 = rs.length := by simp [bodyOf]; omega
    have staged : bit (num (bodyOf (.attrGet t h st rs)) 1 1) 0 = st := by simp [bodyOf]
    refine ⟨t, congrArg some ?_⟩
    dsimp only
    rw [count, staged, bodyOf, requests_read rfl fun r hm => hr r.1 r.2 hm]
  | dedupImport t _ rs =>
    cases hh
    simp [Instr.wf] at hw
    obtain ⟨⟨-, hn⟩, hr⟩ := hw
    have count : num (bodyOf (.dedupImport t h rs)) 0 1 = rs.length := by simp [bodyOf]; omega
    refine ⟨t, congrArg some ?_⟩
    have records := range_map_getElem fun i hi => (dedup_read (pre := [b8 rs.length, 0, 0, 0]) rfl hr hi).1
    dsimp only
    rw [count]
    exact congrArg (Instr.dedupImport t h) records
  | attrSet =>
    cases hh
    exact absurd rfl ha
  | _ => cases hh <;> cases hc

/-! ### Its length -/

/-- The length that the layout gives is the length of the body: by the counts it holds, or by the lengths of its fields. -/
theorem bodyLen_bodyOf (hw : i.wf = true) (hh : cmdHead i = some (op, h)) (ha : op ≠ 0x04) : bodyLen op (bodyOf i) = some (bodyOf i).length := by
  cases i with
  | schedule | fwData | isoRawFrame | isoApdu | isoVCommand | hyRawFrame | hyWrite | planLoad | caskImport | caskDerive | caskEncrypt | caskDecrypt =>
    cases hh
    simp [Instr.wf] at hw
    exact congrArg some (by simp [bodyOf, hw, ceilDiv]; omega)
  | nop =>
    cases hh
    simp [Instr.wf] at hw
    exact congrArg some (by simp [bodyOf, hw])
  | attrGet _ _ st rs =>
    cases hh
    simp [Instr.wf] at hw
    have records := length_flatten_map (f := fun r : Nat × Nat => le 2 r.1 ++ le 2 r.2) (xs := rs) (n := 4) (by simp)
    exact congrArg some (by rw [bodyOf, List.length_append, records]; simp; omega)
  | dedupImport _ _ rs =>
    cases hh
    simp [Instr.wf] at hw
    have records := length_flatten_map fun r hm => length_dedupRecBytes (hw.2 r hm)
    exact congrArg some (by rw [bodyOf, List.length_append, records]; simp; omega)
  | attrSet =>
    cases hh
    exact absurd rfl ha
  | hyActivate | hySealedWrite | hyChallenge | hyTreeSearch | attest =>
    cases hh
    simp [Instr.wf] at hw
    exact congrArg some (by simp [bodyOf, hw])
  | _ => cases hh <;> exact congrArg some (by simp [bodyOf, zeros, length_mapField])

/-! ### Its reserved fields and flags -/

theorem forall_mem_pair {α : Type} {P : α → Prop} {a z : α} : (∀ x ∈ [a, z], P x) ↔ P a ∧ P z := by simp

/-- The reserved fields of a body are 0 (R17). -/
theorem reserved_bodyOf (hw : i.wf = true) (hh : cmdHead i = some (op, h)) : ∀ f ∈ reservedOf op (bodyOf i), num (bodyOf i) f.1 f.2 = 0 := by
  cases i with
  | attrGet | attrSet | queueStatus | schedule | fwBegin | fwData | fwActivate | calibrateRadio | mirrorTrain | isoRawFrame | isoAAnticoll
  | isoAActivate | isoAHalt | isoARats | isoBRequest | isoBHalt | isoDeselect | isoForget | isoVCommand | isoVSelect | isoVQuiet | isoVResetReady
  | hySealedWrite | hyPageStatus | hyChallenge | hyForget | hyTreeSearch | hySetMap | harvestReadTable | prismVector | planLoad | planActivate
  | calTone | calListen | caskInfo | caskImport | caskDerive | caskDestroy | attest | lifecycleSet | credWrite | credVerify | selfTest | captureRead
  | triggerArm | swapRequest | eventLogRead | countersClear =>
    cases hh
    exact List.forall_mem_singleton.mpr (by simp [bodyOf, zeros])
  | hyActivate =>
    cases hh
    simp [Instr.wf] at hw
    exact List.forall_mem_singleton.mpr (by simp [bodyOf, hw])
  | isoBAttrib | hyRawFrame | wearRead =>
    cases hh
    exact forall_mem_pair.mpr (by simp [bodyOf])
  | caskEncrypt | caskDecrypt =>
    cases hh
    simp [Instr.wf] at hw
    exact forall_mem_pair.mpr (by simp [bodyOf, hw])
  | dedupImport _ _ rs =>
    cases hh
    simp [Instr.wf] at hw
    obtain ⟨⟨-, hn⟩, hr⟩ := hw
    have count : num (bodyOf (.dedupImport 0 h rs)) 0 1 = rs.length := by simp [bodyOf]; omega
    refine List.forall_mem_cons.mpr ⟨by simp [bodyOf], fun f hf => ?_⟩
    obtain ⟨i, hi, hf⟩ := List.mem_flatMap.mp hf
    obtain ⟨-, first, second⟩ := dedup_read (pre := [b8 rs.length, 0, 0, 0]) rfl hr (count ▸ List.mem_range.mp hi)
    obtain rfl | rfl := List.mem_pair.mp hf
    · exact first
    · exact second
  | _ => cases hh <;> exact List.forall_mem_nil _

/-- A plain CASK_ATTR shows none of its reserved bits, byte by byte (Table 10-1). -/
theorem attr_masked {a : Nat} {pre post : Bytes} (hp : pre.length = 4) (ha : attrPlain a = true) :
    ∀ f ∈ attrFields, num (pre ++ (le 8 a ++ post)) f.1 1 &&& f.2 = num (pre ++ (le 8 a ++ post)) f.1 1 := by
  have byte {o : Nat} (ho : o < 8) : num (pre ++ (le 8 a ++ post)) (4 + o) 1 = a >>> (8 * o) % 256 := by
    rw [num_append_right (by omega), hp, Nat.add_sub_cancel_left, num_le_byte ho]
  simp only [attrPlain, List.all_cons, List.all_nil, Bool.and_true, Bool.and_eq_true, beq_iff_eq] at ha
  obtain ⟨h0, h1, h2, h3⟩ := ha
  have b0 := byte (o := 0) (by omega)
  have b1 := byte (o := 1) (by omega)
  have b2 := byte (o := 2) (by omega)
  have b3 := byte (o := 3) (by omega)
  simp only [attrFields, List.forall_mem_cons]
  refine ⟨?_, ?_, ?_, ?_, List.forall_mem_nil _⟩ <;> simp only [*]

/-- The flag bytes of a body show none but the bits in use (R411, check 5). -/
theorem flags_bodyOf (hw : i.wf = true) (hh : cmdHead i = some (op, h)) :
    ∀ f ∈ flagsOf op, num (bodyOf i) f.1 1 &&& f.2 = num (bodyOf i) f.1 1 := by
  cases i with
  | attrGet | queueStatus | isoRawFrame | isoAAnticoll | isoBRequest | isoBAnticoll | isoVInventory | isoVCommand | hyTreeSearch | countersClear =>
    cases hh
    exact List.forall_mem_singleton.mpr (by simp [bodyOf, -Nat.and_one_is_mod])
  | hyActivate =>
    cases hh
    simp [Instr.wf] at hw
    exact List.forall_mem_singleton.mpr (by simp [bodyOf, hw, -Nat.and_one_is_mod])
  | calibrateRadio _ _ m =>
    cases hh
    simp [Instr.wf] at hw
    have mask : m &&& 15 = m := and_mask (k := 4) rfl (by omega)
    have byte : m % 256 = m := by omega
    exact List.forall_mem_singleton.mpr (by simp [bodyOf, byte, mask])
  | caskImport _ _ n k a x =>
    cases hh
    simp [Instr.wf] at hw
    change ∀ f ∈ attrFields, _
    simpa [bodyOf] using attr_masked (pre := le 2 n ++ le 2 k) (by simp) hw.1.2
  | caskGenerate _ _ n b a =>
    cases hh
    simp [Instr.wf] at hw
    change ∀ f ∈ attrFields, _
    simpa [bodyOf] using attr_masked (pre := le 2 n ++ le 2 b) (post := []) (by simp) hw.2
  | caskDerive _ _ n p a l x =>
    cases hh
    simp [Instr.wf] at hw
    change ∀ f ∈ attrFields, _
    simpa [bodyOf] using attr_masked (pre := le 2 n ++ le 2 p) (by simp) hw.1.1.2
  | _ => cases hh <;> exact List.forall_mem_nil _

/-! ### The whole body -/

theorem reservedError_none {b : Bytes} (hr : ∀ f ∈ reservedOf op b, num b f.1 f.2 = 0)
    (hf : ∀ f ∈ flagsOf op, num b f.1 1 &&& f.2 = num b f.1 1) : reservedError op 0 0 b = none := by
  simpa [reservedError] using ⟨fun o n hm => hr (o, n) hm, fun o n hm => hf (o, n) hm⟩

theorem attrSet_of_head (hh : cmdHead i = some (op, h)) (ha : op = 0x04) : ∃ t rs, i = .attrSet t h rs := by
  cases i with
  | attrSet t _ rs =>
    cases hh
    exact ⟨t, rs, rfl⟩
  | _ => cases hh <;> cases ha

theorem walkSet_bodyOf {t : Nat} {rs : List AttrRec} (hn : rs.length < 256) (hr : ∀ r ∈ rs, r.wf = true) :
    walkSet (bodyOf (.attrSet t h rs)) = .records rs (bodyOf (.attrSet t h rs)).length := by
  have count : num (bodyOf (.attrSet t h rs)) 0 1 = rs.length := by simp [bodyOf]; omega
  rw [walkSet, count]
  exact walkRecs_recBytes hr [b8 rs.length, 0, 0, 0] 0 []

/-- Every well-formed host command passes checks 4 and 5 of R411 and is read back. -/
theorem parseItem_bodyOf (hw : i.wf = true) (hh : cmdHead i = some (op, h)) : ∃ t, parseItem t op 0 0 h (bodyOf i) = .ok i := by
  have reserved : reservedError op 0 0 (bodyOf i) = none := reservedError_none (reserved_bodyOf hw hh) (flags_bodyOf hw hh)
  by_cases ha : op = 0x04
  · obtain ⟨t, rs, rfl⟩ := attrSet_of_head hh ha
    subst ha
    simp only [Instr.wf, Bool.and_eq_true, fits1_iff, List.all_eq_true] at hw
    exact ⟨t, by simp [parseItem, walkSet_bodyOf hw.1.2 hw.2, reserved]⟩
  · obtain ⟨t, spelled⟩ : ∃ t, parseBody t op h (bodyOf i) = some i := by
      cases hc : counted op with
      | false => exact parseBody_fixed hw hh hc
      | true => exact parseBody_counted hw hh hc ha
    exact ⟨t, by simp [parseItem, ha, bodyLen_bodyOf hw hh ha, reserved, spelled]⟩

/-- Settles O57: the length, the reserved fields and the flags pass, and the body spells the command. -/
theorem fixedBodiesReadBack : Obligations.FixedBodiesReadBack := by
  unfold Obligations.FixedBodiesReadBack
  exact fun _ _ _ hw hh _ => parseItem_bodyOf hw hh

/-- Settles O58: as O57, with the counts of the body, and by the walk of the records for ATTR_SET. -/
theorem countedBodiesReadBack : Obligations.CountedBodiesReadBack := by
  unfold Obligations.CountedBodiesReadBack
  exact fun _ _ _ hw hh _ => parseItem_bodyOf hw hh

end Sys2Proof.Machine
end


section
/-!
SUPPORT. How the frame of an ISO command is put on its way: the port's air side and its timers follow, and nothing else (R30, R80, R192).
-/

namespace Sys2Proof.Machine

set_option Elab.async false

variable {s t : State} {p : Nat}

/-! ### What arming a downlink may change -/

/-- `t` differs from `s` at most in the air side of one port, its downlink excepted, and in the timers. -/
structure Arms (p : Nat) (s t : State) : Prop where
  tx : (port t p).air.tx = (port s p).air.tx
  task : (port t p).task = (port s p).task
  others : ∀ q, q ≠ p → port t q = port s q
  rest : { t with ports := s.ports, timers := s.timers } = s

theorem Arms.refl (p : Nat) (s : State) : Arms p s s := ⟨rfl, rfl, fun _ _ => rfl, rfl⟩

theorem Arms.timer (h : Arms p s t) (n : Nat) (f : Timer → Timer) : Arms p s (modTimer n f t) := ⟨h.tx, h.task, h.others, h.rest⟩

theorem Arms.air {f : Air → Air} (h : Arms p s t) (hf : ∀ a, (f a).tx = a.tx := by exact fun _ => rfl) : Arms p s (modAir p f t) where
  tx := (port_modPort_keeps (fun x => x.air.tx) (fun x => hf x.air) ..).trans h.tx
  task := (task_modAir ..).trans h.task
  others q hq := (port_modPort_ne _ _ hq).trans (h.others q hq)
  rest := h.rest

theorem Arms.qd (h : Arms p s t) : Arms p s (armQd p t) := by
  unfold armQd
  split
  · exact h
  · exact h.air.timer ..

theorem Arms.armed (h : Arms p s t) (tx : Tx) (fire : Nat) : Arms p s (armedAt p tx fire t) := (h.air.timer ..).qd

/-- A downlink that may start is armed on T_B; one that may not waits. -/
theorem arms_kick (p : Nat) (s : State) : Arms p s (kick p s) := by
  unfold kick
  dsimp only
  split
  · exact .refl p s
  · split
    · exact .refl p s
    · exact ((Arms.refl p s).timer ..).armed ..

/-! ### The frame of a stage -/

/-- The stages that send one frame and wake no tag by it. -/
def sendsOnce (st : IsoStage) : Prop := st = .hltA ∨ st = .rats ∨ st = .hltB ∨ st = .vSelect ∨ st = .vQuiet ∨ st = .vReset

/-- The state in which the downlink of a stage is ready to start. -/
def isoReady (p : Nat) (c : IsoCmd) (s : State) : State :=
  modAir p (fun a => { a with
    tx := some (isoFrame s p c).1, notBefore := some (max (max (isoFrame s p c).2 0) (port s p).iso.gapUntil), armed := false, txEnd := none,
    win := none }) (setIso p c s)

theorem isoBegin_kicks {c : IsoCmd} (hc : sendsOnce c.stage) : isoBegin p c s = kick p (isoReady p c s) := by
  unfold isoBegin isoBeginAt
  rcases hc with h | h | h | h | h | h <;> rw [h] <;> rfl

section
variable {c : IsoCmd}

theorem isoReady_tx (hp : p < s.ports.length) : (port (isoReady p c s) p).air.tx = some (isoFrame s p c).1 :=
  congrArg (·.air.tx) (port_modPort_self _ _ ((length_upd ..).symm ▸ hp))

theorem isoReady_task {k : Task} (hp : p < s.ports.length) (hk : (port s p).task = some k) :
    (port (isoReady p c s) p).task = some { k with proc := .iso c } := by
  rw [isoReady, task_modAir, setIso, modTask, port_modPort_self _ _ hp, hk]
  rfl

theorem isoReady_others {q : Nat} (hq : q ≠ p) : port (isoReady p c s) q = port s q :=
  (port_modPort_ne _ _ hq).trans (port_modPort_ne _ _ hq)

end

/-- Settles O23: the port takes the command and its downlink, and arming the downlink changes no more than `Arms` says. -/
theorem isoFrameIsPrepared : Obligations.IsoFrameIsPrepared := by
  unfold Obligations.IsoFrameIsPrepared
  intro p c k s hp hk hc v
  have begun : v = kick p (isoReady p c s) := isoBegin_kicks hc
  obtain ⟨tx, task, others, rest⟩ := arms_kick p (isoReady p c s)
  rw [begun]
  refine ⟨tx.trans (isoReady_tx hp), task.trans (isoReady_task hp hk), fun q hq => (others q hq).trans (isoReady_others hq), ?_⟩
  exact congrArg (fun w : State => { w with ports := s.ports, timers := s.timers }) rest

end Sys2Proof.Machine
end


section
/-!
SUPPORT. The order of the rails, and what their violations do (R553 to R558).
-/

namespace Sys2Proof.Machine

set_option Elab.async false

variable {s : State} {i : Nat}

@[simp] theorem modRail_mod (i : Nat) (f : Rail → Rail) (s : State) : (modRail i f s).mod = s.mod := rfl

@[simp] theorem logRail_mod (i kind : Nat) (s : State) : (logRail i kind s).mod = s.mod := rfl

/-! ### The rails come up (R553) -/

/-- A rail that is enabled and comes into regulation enables the next in POWER_UP: here VIO, which enables VCORE. -/
theorem railUpRun_vio (hst : s.mod.st = .powerUp) (he : (rail s 1).en = true) (hr : (rail s 1).reg = false) :
    railUpRun 1 s = enableRail 2 (modRail 1 (fun r => { r with reg := true }) s) := by
  simp [railUpRun, hst, he, hr]

theorem rail_modRail_self (f : Rail → Rail) (hl : i < s.power.rails.length) : rail (modRail i f s) i = f (rail s i) := nth_upd_self _ _ _ hl

theorem rail_modRail_ne {j : Nat} (f : Rail → Rail) (hj : j ≠ i) : rail (modRail i f s) j = rail s j := nth_upd_ne _ _ _ hj

theorem rail_enableRail_self (hl : i < s.power.rails.length) (he : (rail s i).en = false) : rail (enableRail i s) i = ⟨true, false, s.now⟩ := by
  rw [enableRail, rail_modRail_self _ hl, he]
  rfl

/-! ### Violations (R555 to R558) -/

theorem map_const_drop_upd {α β : Type} (xs : List α) (i n : Nat) (f : α → α) (c : β) :
    ((upd xs i f).drop n).map (fun _ => c) = (xs.drop n).map fun _ => c := by
  simp only [List.map_const', List.length_drop, length_upd]

section
variable (hv : violates s i 3 = true)
include hv

/-- In POWER_UP the rails behind VSTBY go down, and the sequence is tried again. -/
theorem railFailRun_powerUp (hst : s.mod.st = .powerUp) (hi : i ≤ 2) :
    let d := modRail i (fun r => { r with reg := false }) (logRail i 3 s)
    let n := s.power.failedSeqs + 1
    railFailRun i 3 s =
      modPower (fun w => { w with failedSeqs := n, retryAt := some (s.now + msT (if n ≥ 3 then 1000 else 100)) }) (disableFrom 1 d) := by
  simp only [railFailRun, hv, hst, modRail_mod, logRail_mod, gt_iff_lt, Nat.not_lt.mpr hi, decide_false, Bool.not_true, Bool.false_and, Bool.or_false,
    beq_self_eq_true, Bool.false_eq_true, if_true, if_false]
  rfl

/-- In SERVICE a core rail resets the module, and another halts it. -/
theorem railFailRun_service (hst : s.mod.st = .service) : railFailRun i 3 s =
    if i ≤ 2 then resetBy 2 (modRail i (fun r => { r with reg := false }) (logRail i 3 s))
    else enterHalted E.railFault (modRail i (fun r => { r with reg := false }) (logRail i 3 s)) := by
  simp [railFailRun, hv, hst, railHalts]

end

/-! ### The retry (R556) -/

theorem railRetryRun_early {n : Nat} (hr : s.power.retryAt = some n) (hn : s.now < n) : railRetryRun s = s := by
  simp [railRetryRun, hr, hn]

theorem railRetryRun_due {n : Nat} (hr : s.power.retryAt = some n) (hn : n ≤ s.now) (hst : s.mod.st = .powerUp) :
    railRetryRun s = enableRail 1 (modPower (fun w => { w with retryAt := none }) s) := by
  simp [railRetryRun, hr, Nat.not_lt.mpr hn, hst]

/-- Settles O49: the rail that comes up by the next one's enabling, a violation by the state it falls in, the retry by its time. -/
theorem railsComeUpInOrder : Obligations.RailsComeUpInOrder := by
  unfold Obligations.RailsComeUpInOrder
  intro t s u
  refine ⟨fun hst h1 hl h2 => ?_, fun i hst hi hv => ?_, fun i hst hv => ⟨fun hi => ?_, fun hi => ?_⟩,
    fun n hn => ⟨fun hw => ?_, fun hd hst => ?_⟩⟩
  · have en : (rail u 1).en = true := congrArg Rail.en h1
    have reg : (rail u 1).reg = false := congrArg Rail.reg h1
    let w := modRail 1 (fun r => { r with reg := true }) u
    have still_off : (rail w 2).en = false := (congrArg Rail.en (rail_modRail_ne _ (by decide))).trans h2
    have up : (rail w 1).reg = true := congrArg Rail.reg (rail_modRail_self (s := u) _ (Nat.lt_of_succ_lt hl))
    refine ⟨_, congrArg Host.Outcome.next (railUpRun_vio (s := u) hst en reg), ?_, rail_enableRail_self ((length_upd ..).symm ▸ hl) still_off⟩
    exact (congrArg Rail.reg (rail_modRail_ne _ (by decide))).trans up
  · rw [← map_const_drop_upd u.power.rails i 1 (fun r => { r with reg := false })]
    exact congrArg Host.Outcome.next (railFailRun_powerUp (s := u) hv hst hi)
  · exact congrArg Host.Outcome.next ((railFailRun_service (s := u) hv hst).trans (if_pos hi))
  · exact congrArg Host.Outcome.next ((railFailRun_service (s := u) hv hst).trans (if_neg (Nat.not_le.mpr hi)))
  · exact congrArg Host.Outcome.next (railRetryRun_early (s := u) hn hw)
  · exact congrArg Host.Outcome.next (railRetryRun_due (s := u) hn hd hst)

end Sys2Proof.Machine
end


section
/-!
SUPPORT. What a step takes, what the module's reset leaves, and MODULE_RESET (R416, R564 to R569, Table 12-9).
-/

namespace Sys2Proof.Machine

set_option Elab.async false

variable {s : State} {h : Hdr}

/-- Settles O1: by the two cases of `step`. -/
theorem stepRunsTheFrontCommand : Obligations.StepRunsTheFrontCommand := by
  unfold Obligations.StepRunsTheFrontCommand
  refine ⟨fun c s => rfl, fun s hs => ?_⟩
  rw [step, hs]

/-! ### The reset state -/

theorem timer_reset {n : Nat} (hn : n < 256) : timer State.reset n = {} := nth_replicate _ _ hn

theorem port_reset {p : Nat} (hp : p < 64) : port State.reset p = {} := nth_replicate _ _ hp

theorem inRing_reset {q : Nat} (hq : q < 72) : inRing State.reset q = {} := nth_replicate _ _ hq

theorem outRing_reset {q : Nat} (hq : q < 72) : outRing State.reset q = {} := nth_replicate _ _ hq

/-- Settles O2: what is fixed in number is as its elements start, and the rest is the field's start value. -/
theorem resetLeavesTheStatedValues : Obligations.ResetLeavesTheStatedValues := by
  unfold Obligations.ResetLeavesTheStatedValues
  intro s
  have timers : ∀ n < 256, (timer s n).armed = false := fun n hn => congrArg Timer.armed (timer_reset hn)
  have ports : ∀ p < 64, (port s p).radio.phase = .off ∧ (port s p).task = none ∧ (port s p).pass = none := fun p hp => by
    rw [port_reset hp]
    exact ⟨rfl, rfl, rfl⟩
  have rings : ∀ q < 72, (inRing s q).items = [] ∧ (outRing s q).items = [] := fun q hq =>
    ⟨congrArg InRing.items (inRing_reset hq), congrArg OutRing.items (outRing_reset hq)⟩
  exact ⟨rfl, rfl, rfl, rfl, timers, ports, rings, rfl, rfl, rfl, rfl, rfl, rfl, rfl, rfl, rfl, rfl, rfl, rfl, rfl, rfl⟩

/-! ### MODULE_RESET (R416) -/

theorem moduleResetRun_confirmed {confirm : Nat} (hc : confirm = 0x5A4A0B0B) :
    moduleResetRun h confirm s = ok h 0x0B [] (modMod (fun m => { m with resetDue := 4, resetQ := h.q }) s) := by
  simp [moduleResetRun, hc]

theorem moduleResetRun_unconfirmed {confirm : Nat} (hc : confirm ≠ 0x5A4A0B0B) : moduleResetRun h confirm s = fail h 0x0B E.confirm {} s := by
  simp [moduleResetRun, hc]

/-- The reset takes place once its answer has left. -/
theorem resetExecuteRun_answered (hd : s.mod.resetDue ≠ 0) (ha : answerWaits s = false) (hp : s.mod.st ≠ .powerUp) :
    resetExecuteRun s = afterReset s.mod.resetDue s := by
  simp [resetExecuteRun, resetBy, hd, ha, hp]

theorem faultMap_raiseFloor (i : Nat) (n : Nvm) : (n.raiseFloor i).faultMap = n.faultMap := by
  unfold Nvm.raiseFloor
  dsimp only
  split <;> rfl

theorem faultMap_nvmAfter (m : Mod) (n : Nvm) : (nvmAfter m n).faultMap = n.faultMap := by
  unfold nvmAfter
  dsimp only
  split
  · rfl
  · exact faultMap_raiseFloor ..

/-- The image floor rises only for an image that is marked for the next start (R522). -/
theorem sec_nvmAfter_unmarked {m : Mod} {n : Nvm} (hn : n.markNext = none) : (nvmAfter m n).sec = n.sec := by
  simp [nvmAfter, hn]

/-- Settles O8: the command by its confirmation word, the reset by what `afterReset` keeps. -/
theorem moduleResets : Obligations.ModuleResets := by
  unfold Obligations.ModuleResets
  refine ⟨fun t h confirm s => ?_, fun t s hd ha hp => ?_⟩
  · intro u ht
    exact ⟨fun hc => next_of_work rfl ht (moduleResetRun_confirmed hc),
      fun hc => ⟨_, next_of_work rfl ht (moduleResetRun_unconfirmed hc), onlySent_fail ..⟩⟩
  · have run : exec (.moduleResetExecute t) s = .next (afterReset s.mod.resetDue (advance t s)) :=
      congrArg Host.Outcome.next (resetExecuteRun_answered (s := advance t s) hd ha hp)
    obtain ⟨saved, sec, floor⟩ := nvmAfter_keeps s.mod (charge (advance t s)).nvm
    refine ⟨_, run, rfl, afterReset_cause hp _, rfl, rfl, rfl, rfl, rfl, rfl, rfl, sec, floor, ?_, saved,
      faultMap_nvmAfter .., rfl, rfl⟩
    exact fun hn => sec_nvmAfter_unmarked (n := (charge (advance t s)).nvm) hn

end Sys2Proof.Machine
end


section
/-!
SUPPORT. The configuration: staging, saving, and a commit that no port has to wait for (R57, R421 to R428).
-/

namespace Sys2Proof.Machine

set_option Elab.async false

variable {s : State} {h : Hdr}

/-! ### ATTR_SET (R422, R424) -/

theorem attrSetRun_stages {recs : List AttrRec} (hb : attrSetBad 0 recs = none) :
    attrSetRun h recs s = ok h 0x04 [] { s with cfg := { s.cfg with staged := recs.foldl stageRec s.cfg.staged } } := by
  simp only [attrSetRun, hb]

theorem onlySent_attrSetRun {recs : List AttrRec} (hb : attrSetBad 0 recs ≠ none) : OnlySent s (attrSetRun h recs s) := by
  unfold attrSetRun
  split
  · exact onlySent_fail ..
  · contradiction

/-! ### What leaves the configuration store as it is -/

theorem ite_cfg {c : Prop} [Decidable c] {a z : State} (ha : a.cfg = s.cfg) (hz : z.cfg = s.cfg) : (if c then a else z).cfg = s.cfg := by
  split
  · exact ha
  · exact hz

theorem steer_cfg (p v : Nat) (s : State) : (steer p v s).cfg = s.cfg := by
  have frame := congrArg State.cfg (steer_frame p v s)
  exact frame

theorem takeCommit_cfg (p : Nat) (s : State) : (takeCommit p s).cfg = s.cfg := ite_cfg rfl (steer_cfg ..)

theorem takeCommits_cfg (ps : List Nat) (s : State) :
    (ps.foldl (fun s p => takeCommit p (modPort p (fun x => { x with newCommit := true }) s)) s).cfg = s.cfg := by
  refine foldl_keeps State.cfg ?_ ps s
  exact fun s p => takeCommit_cfg p _

theorem selectMirror_cfg (v : Nat) (s : State) : (selectMirror v s).cfg = s.cfg := by
  unfold selectMirror
  dsimp only
  split
  · rfl
  · exact (onlySent_raise ..).cfg

theorem selectAll_cfg (s : State) : (selectAll s).cfg = s.cfg := by
  unfold selectAll
  generalize List.range 64 = ports
  exact foldl_keeps State.cfg (fun s v => selectMirror_cfg v s) ports s

theorem chainAnew_cfg (s : State) : (chainAnew s).cfg = s.cfg := ite_cfg (onlySent_raise ..).cfg rfl

theorem endPlans_cfg (s : State) : (endPlans s).cfg = s.cfg := by
  unfold endPlans
  dsimp only
  split
  · exact (onlySent_fail ..).cfg
  · rfl

theorem applyModule_cfg (old : Cfg) (s : State) : (applyModule old s).cfg = s.cfg := by
  unfold applyModule
  extract_lets _ s1 _ s2 s3 s4 _ _
  have plans : s1.cfg = s.cfg := ite_cfg (endPlans_cfg s) rfl
  have clock : s2.cfg = s.cfg := ite_cfg plans plans
  have power : s3.cfg = s.cfg := ite_cfg (ite_cfg clock clock) clock
  exact ite_cfg ((chainAnew_cfg _).trans power) power

/-! ### CONFIG_COMMIT (R57, R424, R426) -/

theorem commitRun_changes (hk : changedKeys s s.cfg.running (roundCfg s.cfg.staged) ≠ []) : commitRun h s =
    match commitError s (roundCfg s.cfg.staged) with
    | some (code, d) => respond h 0x05 code d s
    | none => acceptCommit h (roundCfg s.cfg.staged) (changedKeys s s.cfg.running (roundCfg s.cfg.staged)) s :=
  if_neg (mt List.isEmpty_iff.mp hk)

/-- A commit that no port waits for ends at once. -/
theorem driveCommit_nobody {c : Commit} (hc : s.cfg.committing = some c) (hw : c.waiting = 0) : driveCommit [] s = finishCommit (selectAll s) := by
  simp [driveCommit, hc, waitingPorts, hw]

/-- A commit that ends puts its configuration in force under its ID. -/
theorem finishCommit_cfg {c : Commit} (hc : s.cfg.committing = some c) (hw : c.waiting = 0) :
    (finishCommit s).cfg = { s.cfg with running := c.cfg, committing := none, commitId := c.id } := by
  simp only [finishCommit, hc, hw, bne_self_eq_false, Bool.false_eq_true, if_false]
  split
  · exact (onlySent_ok ..).cfg
  · rfl

theorem acceptCommit_cfg {new : Cfg} {keys : List (Nat × Nat)} (ha : affected s s.cfg.running new keys = []) :
    (acceptCommit h new keys s).cfg =
      { s.cfg with running := new, staged := new, committing := none, commitId := (s.cfg.commitId + 1) % 2 ^ 32 } := by
  unfold acceptCommit
  extract_lets old ps id commit cfg0 s0 s1 s2 _ s3 _ s4
  have nobody : ps = [] := ha
  have begun : s2.cfg = s0.cfg := (applyModule_cfg old s1).trans (takeCommits_cfg (List.range 64) s0)
  have going : s4.cfg = s0.cfg := congrArg (fun c : ConfigStore => { c with running := takeModule old new }) begun
  have waits : s4.cfg.committing = some commit := congrArg ConfigStore.committing going
  have free : commit.waiting = 0 := congrArg maskOf nobody
  rw [nobody, driveCommit_nobody waits free, finishCommit_cfg ((congrArg ConfigStore.committing (selectAll_cfg s4)).trans waits) free,
    selectAll_cfg, going]

/-- Settles O7: each command by what it does in the state of its turn, a commit by what it leaves of the configuration store. -/
theorem configurationIsStagedAndCommitted : Obligations.ConfigurationIsStagedAndCommitted := by
  unfold Obligations.ConfigurationIsStagedAndCommitted
  refine ⟨fun t h recs s => ?_, fun t h s => ⟨fun ht => next_of_work rfl ht rfl, fun ht => next_of_work rfl ht rfl⟩, fun t h s => ?_⟩
  · intro u ht
    exact ⟨fun hb => next_of_work rfl ht (attrSetRun_stages hb), fun hb => ⟨_, next_of_work rfl ht rfl, onlySent_attrSetRun hb⟩⟩
  · intro u new ht hk
    have run := next_of_work rfl ht (commitRun_changes hk)
    refine ⟨fun he => ?_, fun he ha => ?_⟩
    · obtain ⟨⟨code, d⟩, failed⟩ := Option.ne_none_iff_exists'.mp he
      rw [failed] at run
      exact ⟨_, run, onlySent_respond ..⟩
    · have accepted := acceptCommit_cfg (h := h) ha
      rw [he] at run
      exact ⟨_, run, congrArg ConfigStore.running accepted, congrArg ConfigStore.staged accepted, congrArg ConfigStore.committing accepted,
        congrArg ConfigStore.commitId accepted⟩

end Sys2Proof.Machine
end
